-- ==== Sys2Proof/Word.lean ====
section
/-! DEFINITION. The word type of the register space and the plainest arithmetic of the manual: unsigned fields, two's complement values and rounding. -/

namespace Sys2Proof

/-- A register or window word (R9). -/
abbrev Word := BitVec 32

/-- One byte of a protected memory. -/
abbrev Byte := BitVec 8

/-- The bits of one slot or one RS(544,514) codeword, bit 10q of symbol q lowest (R139). -/
abbrev Cw := BitVec 5440

/-- `⌊log2⌋`-free power of two, so that widths read as in the manual. -/
abbrev pow2 (n : Nat) : Nat := 2 ^ n

/-- The two's complement value of the low `len` bits of `v` (R8). -/
def toSigned (len v : Nat) : Int :=
  let u := v % 2 ^ len
  if 2 ^ (len - 1) ≤ u then (u : Int) - (2 ^ len : Nat) else (u : Int)

/-- The `len`-bit field that holds the two's complement value `i`. -/
def ofSigned (len : Nat) (i : Int) : Nat :=
  (i % ((2 ^ len : Nat) : Int)).toNat

/-- `i` limited to the range `lo` to `hi`. -/
def clampInt (lo hi i : Int) : Int :=
  if i < lo then lo else if hi < i then hi else i

/-- `a ÷ b` rounded to the nearest integer with ties away from zero (R49, R180). -/
def roundDiv (a : Int) (b : Nat) : Int :=
  if a < 0 then -(((2 * a.natAbs + b) / (2 * b) : Nat) : Int)
  else (((2 * a.natAbs + b) / (2 * b) : Nat) : Int)

/-- A count that saturates at `top`. -/
def satAdd (top a b : Nat) : Nat := if top < a + b then top else a + b

end Sys2Proof
end

