-- ==== Sys2Proof/Machine/Types.lean ====
section
/-! DEFINITION. The shapes of what commands carry and what queues hold: requesters, link-control and fabric messages, codewords, estimates. Outcomes of the analogue front end, of standards the manual only cites, and of far devices come in these shapes. -/

namespace Sys2Proof

/-- A line lane L0 to L7. -/
abbrev Lane := Fin 8
/-- A host lane H0 to H31. -/
abbrev HLane := Fin 32
/-- A correction engine S0 to S63. -/
abbrev Eng := Fin 64
/-- A berth B0 to B15, or a host stream. -/
abbrev Berth := Fin 16
/-- A hawser port HW0 to HW7. -/
abbrev Port := Fin 8
/-- A fabric link: L0 to L7 are 0 to 7, HW0 to HW7 are 8 to 15 (R350). -/
abbrev Link := Fin 16

/-- What a pilot lane's chains counted and measured over one EVM period (R240, R266, R268, R271, R272). -/
structure PilotChain where
  txClip : Nat
  sdOvl : Nat
  firSat : Nat
  /-- rms of each block of 64 samples at the AGC's input, in LSB, oldest first -/
  rms : List Nat
  /-- resampler offset in 0.001 ppm, before its limit -/
  resFreq : Int
  /-- timing error of each recognised sync, idle or header symbol group, in 1/4096 sample, oldest first -/
  timing : List Int
  deriving DecidableEq, Repr

/-- The part of the pilot signal that a symbol belongs to, as the EVM measurement sorts them (R279). -/
inductive PilotSym where
  | sync | idle | header
  /-- a payload symbol, and whether its frame's CRC-32 passed -/
  | payload (crcOk : Bool)
  deriving DecidableEq, Repr

/-- What the timing loop sees when it looks for frequency lock: the offset and its change over 64 µs, in 0.001 ppm (R60). -/
structure FreqSeen where
  freq : Int
  change : Int
  deriving DecidableEq, Repr

/-- The mean phase-detector output of a lane over 16 µs, in 1/4096 UI (R60). -/
structure PhaseSeen where
  lane : Lane
  mean : Int
  deriving DecidableEq, Repr

/-- The boundary of a lane, and whether an overrange window starts on its symbol (R79). -/
structure BoundaryAt where
  lane : Lane
  start : Bool
  deriving DecidableEq, Repr

/-- Powers on one carrier over 64 symbol periods (R280). -/
structure CarrierPower where
  /-- received pilot power, and power of the error vectors, after the resampler -/
  pilot : Nat
  noise : Nat
  /-- received power of the carrier's bin, in the same unit -/
  power : Nat
  deriving DecidableEq, Repr

/-- What the receiver measured on one carrier over 64 symbol periods (R279, R280). -/
structure CarrierMeas where
  /-- each symbol on the carrier, with its |Y ÷ Ĥ − X|² in 2^-40 -/
  errs : List (PilotSym × Nat)
  powers : CarrierPower
  deriving DecidableEq, Repr

/-- The measurements of the carriers, from the error powers of their symbols and the powers on them. -/
def carriersOf (errs : List (List (PilotSym × Nat))) (powers : List CarrierPower) : List CarrierMeas :=
  errs.zipWith (fun e p => { errs := e, powers := p }) powers

/-- Who makes a register or window access (Table 19-3). The processor's accesses are 32 bits wide but for `procM8` to `procU16` (R10, R599). -/
inductive Requester where
  | procM | procU | procM8 | procM16 | procU8 | procU16 | spi | twoWire | jtag | manifestLocal | manifestFabric
  deriving DecidableEq, Repr

/-- The banks of R407 and R610. -/
inductive Bank where
  | proc | spi | twoWire | jtag
  deriving DecidableEq, Repr

/-- Why a tracking lane loses lock (R73). -/
inductive LockCause where
  | los | cdr | inner | alignment
  deriving DecidableEq, Repr

/-- One 64-symbol block of an overrange window, as the DC block meets it (R47, R48). -/
structure DcBlock where
  /-- samples of the block flagged by an overrange comparator -/
  clips : Nat
  /-- mean of the block's ADC samples, in 2^-12 of an ADC LSB -/
  mean : Int
  deriving DecidableEq, Repr

/-- What one overrange window measured (R72, R77, R78). -/
structure WindowCount where
  /-- samples flagged by an overrange comparator -/
  clips : Nat
  /-- samples of magnitude 96 or more -/
  big : Nat
  /-- rms of the ADC samples in ADC LSB -/
  rms : Nat
  /-- sub-ADCs that clipped -/
  map : BitVec 64
  /-- FFE sums that saturated (R52) -/
  sat : Nat
  /-- the window's 64-symbol blocks, oldest first (Table 2-1, R47) -/
  blocks : List DcBlock
  /-- the block in which each change that the DC block took during the window fell, oldest first (R47 to R49) -/
  cuts : List Nat
  deriving DecidableEq, Repr

/-- The gradients of one update interval (R61). -/
structure Gradients where
  ffe : List Int
  mlse : List Int
  level : List Int
  deriving DecidableEq, Repr

/-- One codeword whose last syndrome is complete (R88). -/
structure CwIn where
  /-- arrival instant in ns -/
  time : Nat
  /-- the symbols as received -/
  bits : Cw
  /-- its 30 syndromes -/
  syndromes : List (BitVec 10)
  /-- the symbol positions whose reliability is below 15, with it (R67, R68) -/
  weak : List (Nat × Nat)
  /-- an alignment marker group of its stream starts in it (R638) -/
  marker : Bool
  deriving DecidableEq, Repr

/-- All 30 syndromes are zero. -/
def CwIn.zero (c : CwIn) : Bool := c.syndromes.all fun x => x == 0

/-- What a correction pass found (R100). -/
structure PassResult where
  /-- degree of the error-locator polynomial -/
  degree : Nat
  /-- positions of its roots, as found -/
  roots : List Nat
  /-- (position, value) pairs the pass would XOR into the codeword, erased positions included -/
  values : List (Nat × BitVec 10)
  deriving DecidableEq, Repr

/-- Body of a CAP message (Table 4-2). -/
structure CapBody where
  part : Nat
  rev : Nat
  version : Nat
  capable : BitVec 8
  live : BitVec 8
  portMap : BitVec 8
  identity : BitVec 64
  deriving DecidableEq, Repr

/-- Whether a host codeword meets its slot (R147). -/
inductive Slip where
  | inTime | late | early
  deriving DecidableEq, Repr

/-- What a host lane's adaptation session finds (R219, R220): the moves of its twelve DFE taps in LSB, one list for each step that
moves a tap; and for each of the two measurements the distances of samples from each of the three slicer thresholds, in mV, the
nearest among them. -/
structure AdaptMeasure where
  moves : List (List Int)
  nearAdapt : List (List Nat)
  nearTable : List (List Nat)
  deriving DecidableEq, Repr

/-- The control messages of classes 0x01 to 0x03 (Tables 4-2, 5-4, 7-9). -/
inductive CtlBody where
  | loadmap (map preset pq rec : Nat) (codes : List Nat)
  | loadreq (preset : Nat)
  | thermal (level step : Nat) (hottest : Int) (grade : Nat)
  | cap (b : CapBody)
  | propose (mask portMap : BitVec 8)
  | accept (mask portMap : BitVec 8)
  | refuse (reason : Nat)
  | commit (mask : BitVec 8)
  | exit (mask : BitVec 8) (reason : Nat)
  | state (live locked : BitVec 8)
  | report (lane epoch window : Nat) (dev : List Int)
  | applied (lane epoch : Nat)
  deriving DecidableEq, Repr

/-- A control message queued for a lane's pilot (R251, R252). -/
structure CtlMsg where
  cls : Nat
  typ : Nat
  seq : BitVec 16
  body : CtlBody
  deriving DecidableEq, Repr

/-- One route entry of a ROUTE payload (Table 9-3). -/
structure RouteEntry where
  level : Nat
  withdraw : Bool
  number : Nat
  metric : Nat
  ident : BitVec 64
  lac : BitVec 64
  count : Nat
  path : List Nat
  deriving DecidableEq, Repr

/-- One entry of the island record or one delta entry (Table 9-4). -/
structure RecEntry where
  identity : BitVec 64
  cluster : Nat
  device : Nat
  seen : Nat
  deriving DecidableEq, Repr

/-- The eight words of a command descriptor (Table 8-1). -/
structure Desc where
  w0 : Word
  w1 : Word
  w2 : Word
  w3 : Word
  w4 : Word
  w5 : Word
  w6 : Word
  w7 : Word
  deriving DecidableEq, Repr

/-- Payload of a fabric message (Table 9-2). -/
inductive FabBody where
  | beacon (heard qm hm : BitVec 64) (epoch : Nat) (flags : BitVec 8)
  | route (entries : List RouteEntry)
  | hmAnnounce (epoch m r hours : Nat) (lowId : BitVec 64) (island realm : Nat) (auth : Bool)
  | addrReq (who : BitVec 64) (persisted : Option Nat) (kind : Nat)
  | addrGrant (who : BitVec 64) (addr epoch : Nat)
  | record (epoch : Nat) (full : Bool) (realm island : Option Nat) (hours : Option Nat) (deltas : List RecEntry)
  | recordAck (epoch : Nat)
  | recordPull (epoch : Nat)
  | manifest (d : Desc) (inputLen : Nat) (inputCrc : Word)
  | completion (c0 c1 c2 c3 : Word)
  | data (output : Bool) (offset : Nat) (bytes : List Byte)
  | resend (output : Bool) (offset : Nat)
  | nonce (current : Word) (answered : Nat)
  | unreach (dst reason : Nat)
  | ack (bytes : Nat)
  deriving DecidableEq, Repr

/-- A fabric message (Table 9-1). `tagKey` is the 256-bit key under which TAG verifies, if any. -/
structure FabMsg where
  hops : Nat
  link : Bool
  flood : Bool
  noAddr : Bool
  dst : Nat
  src : Nat
  srcId : BitVec 64
  seq : Nat
  dnonce : Word
  rid : Nat
  body : FabBody
  tagKey : Option (BitVec 256)
  deriving DecidableEq, Repr

/-- A frame that a pilot transmitter sends: a control message or a fabric message. -/
inductive PltFrame where
  | ctl (m : CtlMsg)
  | fab (m : FabMsg)
  deriving DecidableEq, Repr

/-- A firmware slot as its checks see it (R574, R575, Table 18-4, Table 18-5). -/
structure FwSlot where
  /-- COMMIT word valid -/
  commit : Bool
  seq : Nat
  svn : Nat
  version : Word
  codeLimit : Nat
  /-- reason code that checks 0x02 to 0x04 and the reading itself (0x07) give the slot's content; 0 when they pass -/
  reason : Nat
  /-- the image is accepted under VK1 -/
  vk1 : Bool
  /-- owner slots under whose key the image's OWNER_SIG verifies; none when it holds none -/
  cosigned : List Nat
  /-- slot offset at which the last write since the erase ended -/
  written : Nat
  deriving DecidableEq, Repr

/-- A command carried by CMIS CDB on page 9Fh (R321). -/
inductive CdbCmd where
  /-- a block of firmware for the inactive slot, and whether the flash took it -/
  | download (offset : Nat) (bytes : List Byte) (ok : Bool)
  /-- activation, with what the checks find in the slot -/
  | activate (slot : FwSlot)
  deriving DecidableEq, Repr

/-- One section of a calibration record (Table 15-4), as register words. -/
structure CalRec where
  seq : Nat
  /-- slot the record lies in -/
  slot : Nat
  /-- every section of Table 15-4 is present -/
  whole : Bool
  /-- words the record loads, by register address -/
  words : List (Nat × Word)
  kEo : Nat
  kEr : Nat
  floor : Nat
  /-- (monitor, slope, offset) of section 0x07 -/
  slopes : List (Nat × Int × Int)
  /-- DPD tables by (lane, rate class) -/
  dpd : List (Nat × Nat × List Int)
  /-- CMIS page 02h, 128 bytes -/
  page02 : List Byte
  deriving DecidableEq, Repr

/-- What the self-tests and checks of one start-up find (Table 10-1). -/
structure BootRun where
  /-- failing logic BIST partitions, in order (R534) -/
  logic : List Nat
  /-- spares each macro needs, in macro order; 9 when its test row fails (R535) -/
  spares : List Nat
  checkerOk : Bool
  deriving DecidableEq, Repr

/-- What a wake finds (R441, R432, R433). -/
structure WakeRun where
  /-- bank b's saved content does not match its CRC -/
  failed : BitVec 8
  checkerOk : Bool
  deriving DecidableEq, Repr

/-- A rail other than VDD_AON and VDD_POOL (Table 20-5). -/
inductive Rail where
  | core | ana | hs | afe | io
  deriving DecidableEq, Repr

/-- The estimates of one estimation window (R495), in 1/64 of a trim step. -/
structure Estimates where
  offset : List Int
  gain : List Int
  skew : List Int
  tia : Int
  deriving DecidableEq, Repr

/-- A trim register named by a TRIM_WRITE (R503). -/
inductive TrimReg where
  | adc (j : Fin 64)
  | tia
  deriving DecidableEq, Repr

/-- A block without redundancy (R538). -/
inductive NrBlock where
  | fft | lookout | switch | hash
  deriving DecidableEq, Repr

/-- How a sub-slice of R538 ended. -/
inductive NrResult where
  | more | abandoned | passed | failed | late
  deriving DecidableEq, Repr

/-- What one sample of a Lookout source holds (Table 17-1). -/
inductive LkoWord where
  /-- source 0x0: an ADC sample -/
  | adc (v : BitVec 8)
  /-- source 0x1: an equaliser output -/
  | equaliser (v : BitVec 20)
  /-- source 0x2: the soft values of the first and second bit -/
  | soft (first second : BitVec 5)
  /-- source 0x3: an AGC output of the pilot -/
  | pilot (v : BitVec 20)
  /-- source 0x4: a monitor result with its channel -/
  | monitor (ovr : Bool) (ch : Fin 24) (v : BitVec 20)
  /-- source 0x5: a codeword outcome: stream, outcome (0 CLEAN, 1 CORR, 2 FAIL, 3 MISS), symbols changed, codeword count -/
  | codeword (k : Fin 2) (outcome : Fin 4) (changed : BitVec 5) (count : BitVec 22)
  /-- source 0x5: a group decision: stream, case of Table 4-5, group count -/
  | group (k : Fin 2) (cas : BitVec 3) (count : BitVec 26)
  deriving DecidableEq, Repr

/-- One sample of the Lookout source. -/
structure LkoSample where
  word : LkoWord
  /-- the MLSE's decision a(n) on the sample -/
  level : Fin 4
  deriving DecidableEq, Repr

/-- What a JTAG TAP access asks for (R589, R590). -/
inductive JtagOp where
  | idcode | bypass
  | readReg (addr : Nat)
  | writeReg (addr : Nat) (w : Word)
  | halt | resume | readMem (addr : Nat) | writeMem (addr : Nat) (w : Word) | scanEnable
  deriving DecidableEq, Repr

/-- What the integrator did during a conversion (R481). -/
inductive Analog where
  | inRange (raw : Int) | ovr | under
  deriving DecidableEq, Repr

/-- An island whose handshake stalls (R419). -/
inductive Stall where
  | pool (n : Lane) (tag : Nat)
  | fabric
  deriving DecidableEq, Repr

/-- An 8b/10b code group as a hawser receiver decodes it: a data group Dx.y, a control group Kx.y or an invalid one (R324). -/
inductive CodeGroup where
  | data (b : BitVec 8) | ctl (b : BitVec 8) | invalid
  deriving DecidableEq, Repr

/-- A core PLL. -/
inductive CorePll where
  | a | b
  deriving DecidableEq, Repr

/-- The keys and signatures an envelope's checks yield (R583 to R587). -/
structure EnvCheck where
  /-- SIG verifies under the active owner key, or under NEW_PK for a self-signed first owner key -/
  sigOk : Bool
  /-- the fabric persistent state was written -/
  stored : Bool
  deriving DecidableEq, Repr

end Sys2Proof
end

