-- ==== Sys2Proof/Syntax.lean ====
section
/-! DEFINITION. The commands of the device: one constructor for each row of spec/opcode_table.json, with what the outside or the analogue world brings to it. -/

namespace Sys2Proof

/-- A command. Each constructor is a row of the table of operations and events; the rule that governs it opens its docstring. -/
inductive Instr where
  /-- R70. A write of RX_STATE_REQ, or a LANE_STATE request, asks the RX half of a line lane for a state; it is queued behind any transition in progress or replaces the queued request. -/
  | rxStateRequest (n : Lane) (v : BitVec 3)
  /-- R69. A transition of the RX half completes, is reported in RX_STATE, and the queued request, if any, starts. -/
  | rxTransitionDone (n : Lane)
  /-- R75. A lane exceeds the time of an acquisition step, restarts at step 3 and counts ACQ_RETRY. -/
  | acquisitionTimeout (n : Lane)
  /-- R77. An overrange window ends; its clip count may request a TIA step down or extend the step-up run. -/
  | overrangeWindowEnd (n : Lane) (w : WindowCount)
  /-- R60. The timing loop declares frequency lock when LRX_CDR_FREQ has changed by less than 2 ppm over 64 µs. -/
  | frequencyLock (n : Lane) (seen : FreqSeen)
  /-- R60. The timing loop declares phase lock when the mean phase-detector output over 16 µs is within ±1/32 UI. -/
  | phaseLock (seen : PhaseSeen)
  /-- R148. The lane finds the inner codeword offset at which enough hard-decision words have zero syndrome and enters tracking. -/
  | innerLock (n : Lane) (tried : List Nat) (zeros : Nat)
  /-- R149. A native lane finds the three-frame period start at which enough reassembled codewords have zero RS syndrome. -/
  | frameLock (n : Lane) (tried : List Nat) (zeros : Nat)
  /-- R150. A native lane declares parity lock at a group phase that gives 4 consecutive good evaluable groups. -/
  | parityLock (n : Lane) (phase : Fin 33)
  /-- R74. A tracking lane loses lock, holds its frequency, resets LRXn by the coordinated reset and restarts acquisition at step 3. -/
  | lockLoss (n : Lane) (cause : LockCause) (mean : Int)
  /-- R76. A write of 1 to REACQ restarts acquisition at step 3 from reset coefficients. -/
  | reacq (n : Lane)
  /-- R63. A write of ADAPT_HOLD stops or resumes the FFE, MLSE-channel and level loops, latched until tracking. -/
  | adaptHold (n : Lane) (hold : Bool)
  /-- R82. A write to GAIN_SET with AUTO at 0 sets the TIA code at the next trim boundary or at once when not tracking. -/
  | gainSetWrite (n : Lane) (g : BitVec 4)
  /-- R500. A trim boundary of a line lane is reached and pending gain steps, trims, staged groups and enforcement steps take effect on its first symbol. -/
  | trimBoundary (at_ : BoundaryAt)
  /-- R61. An adaptation update interval ends and each sign-error LMS loop changes its internal register by its gradient. -/
  | adaptUpdate (n : Lane) (g : Gradients)
  /-- R66. An inner codeword is decoded by the Chase-II decoder and counted as total, corrected or failed. -/
  | innerCodeword (n : Lane) (hard : BitVec 128) (soft : List Int)
  /-- R88. The last syndrome of an RS codeword is complete and the codeword goes to the reorder buffer or into its berth. -/
  | codewordArrival (n : Lane) (k : Fin 2) (cw : CwIn)
  /-- R94. An engine becomes idle and takes an offered item or the oldest head item of its home berths or of all berths. -/
  | engineIdle (e : Eng)
  /-- R100. An engine finishes a correction pass, which succeeds or fails. -/
  | passEnd (e : Eng) (r : PassResult)
  /-- R637. The reorder buffer input takes a waiting engine's correction record by handshake. -/
  | correctionRecordTaken (e : Eng)
  /-- R103. At t_a + W the reorder buffer releases a codeword with its outcome and removes any work still in the pool. -/
  | codewordRelease (n : Lane)
  /-- R114. A 1.024 µs tide gauge window ends and TG_PERIOD, TP_EO and TP_ER are updated. -/
  | tideGaugeWindow (period : Nat)
  /-- R118. A pool supply loop interval ends and the loop raises, keeps or lowers VDD_CODE from the miss count. -/
  | loopInterval
  /-- R122. VGOOD reaches 1 at the new VDD_POOL target and a higher admission cap is applied. -/
  | vgood
  /-- R116. A write of VMIN, VMAX or VLIM_E1 moves VDD_CODE to the nearer limit when it lies outside them. -/
  | poolSupplyCfgWrite (w : Word)
  /-- R118. A change of LOOP_EN to 1 or of LOOP_INT restarts the loop interval grid and the quiet count. -/
  | loopEnWrite (en : Bool) (interval : BitVec 7)
  /-- R129. A write of 1 to START begins native negotiation for the lanes of LANE_MASK. -/
  | negStart
  /-- R135. A write of 1 to EXIT takes the lanes of EXIT_MASK out of native mode and sends EXIT. -/
  | negExit
  /-- R130. A received CAP link-control message is checked against the negotiation conditions. -/
  | capMessage (n : Lane) (b : CapBody)
  /-- R132. A received PROPOSE is answered with ACCEPT or REFUSE, or resolved against a crossing proposal. -/
  | proposeMessage (n : Lane) (mask : BitVec 8) (portMap : BitVec 8)
  /-- R133. A received ACCEPT leads the proposer to send COMMIT. -/
  | acceptMessage (n : Lane) (mask : BitVec 8) (portMap : BitVec 8)
  /-- R130. A received REFUSE ends the negotiation with its reason. -/
  | refuseMessage (n : Lane) (reason : Nat)
  /-- R133. A received COMMIT or its echo completes the negotiation and commits RATE 0b10 on the lanes of the mask. -/
  | commitMessage (n : Lane) (mask : BitVec 8)
  /-- R135. A received EXIT returns the named lanes to their previous standard rate. -/
  | exitMessage (n : Lane) (mask : BitVec 8) (reason : Nat)
  /-- R135. A received STATE message reports the far end's native lanes; two consecutive reports of a lane not native end native mode on it. -/
  | stateMessage (n : Lane) (native : BitVec 8) (locked : BitVec 8)
  /-- R128. Every 100 ms each native lane sends a STATE message. -/
  | stateTimer
  /-- R131. No answer within RESP_TO causes a resend, and after RETRIES resends the negotiation fails with TIMEOUT. -/
  | negResponseTimeout
  /-- R134. A lane without parity lock LIVE_TO after the COMMIT echo makes both ends send EXIT and return to standard rate. -/
  | liveTimeout
  /-- R138. A host RS codeword reaches the egress and is laid into its data slot and the group parity. -/
  | hostCodeword (j : Berth) (bits : Cw) (zero : Bool) (slip : Slip)
  /-- R150. A write of 1 to REHUNT drops parity lock and hunts from phase 0. -/
  | rehunt (n : Lane)
  /-- R161. At t0 + D the first bit of a group's host output leaves the host TX. -/
  | groupRelease (n : Lane)
  /-- R191. A write of STATE_REQ, or a LANE_STATE request, asks the TX half for a state; it is queued or replaces the queued request. -/
  | txStateRequest (n : Lane) (v : BitVec 3)
  /-- R190. A transition of the TX half completes, is reported in STATE, and the queued request starts. -/
  | txTransitionDone (n : Lane)
  /-- R167. A TX boundary is reached and pending TX staged groups, DPD changes, BYPASS and swing steps take effect. -/
  | txBoundary (n : Lane) (sat : Nat)
  /-- R194. A TXON manifest whose output is not live 5 ms after acceptance completes with TIMEOUT. -/
  | txonTimeout (n : Lane)
  /-- R197. TXDISn goes low and the front-end die squelches every lane with PIN_EN set within 2 µs. -/
  | txdisnFall
  /-- R197. TXDISn goes high and the pin's TX disable ends. -/
  | txdisnRise
  /-- R197. A write of TX_DIS starts or ends a lane's TX disable. -/
  | txDisWrite (n : Lane) (v : Bool)
  /-- R185. A write of POWER_IDX selects another TX power table entry, ramped while the lane is live. -/
  | powerIdxWrite (n : Lane) (idx : BitVec 4)
  /-- R175. A write to LTX_DPD_LUTi takes effect at the next TX boundary or at once. -/
  | dpdLutWrite (n : Lane) (i : Fin 64) (v : BitVec 10)
  /-- R173. A change of BYPASS takes effect at the next TX boundary or at once. -/
  | bypassWrite (n : Lane) (v : Bool)
  /-- R177. A 2^24-symbol DPD measurement window completes and the receiver sends a REPORT. -/
  | dpdWindowEnd (n : Lane) (seen : List (Int × Nat))
  /-- R179. A received REPORT updates the DPD table, is held, or is ignored as stale. -/
  | dpdReport (n : Lane) (epoch : BitVec 8) (window : Nat) (dev : List Int)
  /-- R178. A received APPLIED discards the measurement window in progress and starts a new one. -/
  | dpdApplied (n : Lane) (epoch : BitVec 8)
  /-- R179. DPD_PERIOD since the last update passes and a held report is used. -/
  | dpdPeriodExpiry (n : Lane)
  /-- R189. At the next pilot symbol boundary the pilot moves between level modulation and the low-frequency path. -/
  | pilotInjectionMove (n : Lane)
  /-- R217. A host lane PLL locks and calibrates during acquisition. -/
  | hostPllLock (k : HLane)
  /-- R217. A host RX lane detects its input signal. -/
  | signalDetect (k : HLane)
  /-- R217. A host RX lane reaches CDR lock with its entry's settings and starts a due adaptation session. -/
  | cdrLock (k : HLane)
  /-- R220. An adaptation session ends; the lane measures both margins, restores the entry's taps and writes its report. -/
  | adaptSessionEnd (k : HLane) (m : AdaptMeasure)
  /-- R211. A host RX lane or stream reaches alignment-marker lock and enters service. -/
  | markerLock (k : HLane) (inPlace : Bool)
  /-- R221. A host RX lane loses signal and restarts acquisition at step 3. -/
  | hostLos (k : HLane)
  /-- R221. A host RX lane loses CDR lock and restarts acquisition at step 3. -/
  | cdrLoss (k : HLane)
  /-- R221. A host RX lane loses marker lock and restarts acquisition at step 3. -/
  | amLoss (k : HLane)
  /-- R208. A host RX lane differs from the EGR source by more than 20 ppm for 64 µs and is treated as out of CDR lock. -/
  | freqMismatch (k : HLane)
  /-- R221. REC_TO after a loss without return to service makes a recovery session due. -/
  | recoveryDue (k : HLane)
  /-- R222. A write of 1 to ADAPT_RUN requests a test adaptation session, or is refused. -/
  | adaptRun (k : HLane)
  /-- R228. A write of LP_REQ asks a host lane for RUN, QUIET or DEEP, queued or refused under R229. -/
  | lpRequest (k : HLane) (v : BitVec 2)
  /-- R226. Both halves of a host lane complete a low-power transition and LP_STATE changes. -/
  | lpTransitionDone (k : HLane)
  /-- R252. At a frame start the pilot transmitter takes the oldest frame of the lowest-numbered waiting class. -/
  | pilotFrameStart (n : Lane)
  /-- R253. The fabric switch hands a waiting class 0x04 frame to a lane when one of its buffers is free. -/
  | class4Handover (n : Lane)
  /-- R253. A class 0x04 frame that has waited 100 ms for a lane is dropped. -/
  | fabricFrameExpiry (n : Lane)
  /-- R273. The sync correlator detects a preset's sync symbol and starts a reception. -/
  | syncDetection (n : Lane) (metrics : List Nat) (near : Nat)
  /-- R276. The header of a reception is received; its CRC passing commits the reception. -/
  | headerReceived (n : Lane) (header : Word)
  /-- R277. A committed reception ends after its last payload symbol and its frame is delivered or counted in CRC_ERR. -/
  | frameReceived (n : Lane) (bytes : List Byte) (crc : Word) (buffered : Bool)
  /-- R278. 256 symbol periods without a committed reception or recognised idle group drop pilot sync. -/
  | syncLoss (n : Lane)
  /-- R278. A write of 1 to RESYNC ends any reception and drops sync at once. -/
  | resync (n : Lane)
  /-- R279. Every 64 symbol periods the receiver computes each carrier's EVM and the pilot quality PQ. -/
  | evmUpdate (n : Lane) (errs : List (List (PilotSym × Nat))) (powers : List CarrierPower) (chain : PilotChain)
  /-- R261. A received LOADMAP gives the transmitter a new map and preset recommendation. -/
  | loadmap (n : Lane) (ident : Nat) (preset : Nat) (pq : Nat) (rec : Nat) (codes : List Nat)
  /-- R260. A received LOADREQ makes the receiver answer with a LOADMAP at its next EVM update. -/
  | loadreq (n : Lane) (preset : Nat)
  /-- R256. No LOADMAP for 2 s takes the recommendation to Anchor. -/
  | loadmapTimeout (n : Lane)
  /-- R455. A received THERMAL pilot control message sets FAR_THERMAL. -/
  | thermal (n : Lane) (level : Nat) (step : Nat) (hot : Int) (grade : Nat)
  /-- R282. An SPI write transfer writes whole words to registers or the window. -/
  | spiWrite (addr : BitVec 24) (words : List Word)
  /-- R282. An SPI read transfer returns whole words from registers or the window. -/
  | spiRead (addr : BitVec 24) (count : Nat)
  /-- R284. A two-wire access to CMIS pages B0h to B7h reads or writes the shared window. -/
  | cmisWindowAccess (page : Fin 8) (bank : Byte) (index : Fin 128) (write : Option Byte)
  /-- R321. Writing 0x01 to byte 136 of page B8h reads the addressed register into the data bytes. -/
  | registerPortRead (addr : BitVec 20)
  /-- R321. Writing 0x02 to byte 136 of page B8h writes the data bytes to the addressed register. -/
  | registerPortWrite (addr : BitVec 20) (w : Word)
  /-- R287. An accepted change of ENABLE to 1 resets ring indices, phases and the sequence byte and writes held events. -/
  | ringEnable
  /-- R288. A write of 0 to ENABLE stops new manifests and starts draining. -/
  | ringDisable
  /-- R288. Every started manifest has completed, DRAINING clears and the rings stop. -/
  | drainComplete
  /-- R289. A write to MFT_DB covers new command ring slots or is ignored with DB_ERR. -/
  | doorbell (v : Byte)
  /-- R295. The next covered descriptor starts once a completion entry is reserved and fences and pending limits allow. -/
  | manifestStart
  /-- R298. A manifest completes and its entry is written to the completion ring before MFT_CPL_PI advances. -/
  | manifestComplete
  /-- R300. A pending manifest reaches its time limit of Table 8-4 and completes with TIMEOUT. -/
  | manifestTimeout (slot : Nat)
  /-- R296. A write of MFT_CPL_CI frees completion ring entries, letting held manifests start. -/
  | completionConsumed (v : Byte)
  /-- R317. A write of MFT_EVT_CI frees event ring entries. -/
  | eventConsumed (v : BitVec 7)
  /-- R309. The RESET manifest completes with OK and a full reset begins 1 ms later. -/
  | reset
  /-- R308. The STATUS manifest returns the device status of Table 8-5. -/
  | status
  /-- R308. The IDENTIFY manifest returns the device identity of Table 8-5. -/
  | identify
  /-- R598. The REG_READ manifest reads one or two registers. -/
  | regRead
  /-- R299. The REG_WRITE manifest performs a masked read-modify-write of a register. -/
  | regWrite
  /-- R311. The COMMIT manifest checks a staged group and makes it pending to go live at its boundary. -/
  | commit
  /-- R300. The LANE_STATE manifest requests states of a line lane's halves and completes when they are reached. -/
  | laneState
  /-- R228. The HOST_LP manifest requests a host lane low-power state. -/
  | hostLp
  /-- R222. The HOST_ADAPT manifest requests a test adaptation session and returns its report. -/
  | hostAdapt
  /-- R129. The NATIVE manifest starts native negotiation or exit for a lane mask. -/
  | native
  /-- R428. The POWER_STATE manifest requests a device state and completes when it is entered. -/
  | powerState
  /-- R564. The SNAPSHOT manifest requests a counter snapshot, with freeze when asked. -/
  | snapshot
  /-- R554. The LOOKOUT_READ manifest copies capture memory into the window. -/
  | lookoutRead
  /-- R301. The MON_CONVERT manifest queues an injected monitor conversion and returns its result. -/
  | monConvert
  /-- R474. The MON_CAL manifest runs a zero or full-scale calibration step on a monitor channel. -/
  | monCal
  /-- R510. The CAL_SAVE manifest snapshots live calibration values and writes a new record to flash. -/
  | calSave (ok : Bool)
  /-- R578. The FW_WRITE manifest writes data into the inactive firmware slot. -/
  | fwWrite (ok : Bool)
  /-- R579. The FW_ACTIVATE manifest checks the target slot and commits it as the newest slot. -/
  | fwActivate (slot : FwSlot)
  /-- R582. The ATTEST manifest writes a signed attestation report or the device certificate. -/
  | attest (reply : List Byte)
  /-- R583. The KEY_INSTALL manifest checks an owner envelope and installs a realm key or owner key. -/
  | keyInstall (c : EnvCheck)
  /-- R590. The DEBUG_UNLOCK manifest checks an envelope against the challenge and grants JTAG rights. -/
  | debugUnlock (c : EnvCheck)
  /-- R347. The REALM_SET manifest, at the harbour master, proposes a change of the island's realm. -/
  | realmSet
  /-- R313. A write of 1 to GO of MFT_COMMIT commits the named staged group by register. -/
  | mftCommit (group : BitVec 16)
  /-- R311. A pending commit reaches its group's boundary and becomes live whole. -/
  | stagedGroupLive (group : BitVec 16)
  /-- R314. A pending commit not live 50 ms after acceptance is withdrawn with TIMEOUT. -/
  | commitTimeout (group : BitVec 16)
  /-- R307. A remote manifest without completion after its timeout completes with REMOTE_TIMEOUT. -/
  | remoteTimeout (rid : Nat)
  /-- R319. A CMIS LowPwr request by the host requests STANDBY. -/
  | cmisLowpwrRequest
  /-- R319. Release of the CMIS LowPwr request requests ACTIVE. -/
  | cmisLowpwrRelease
  /-- R320. The CMIS Tx disable control of a media lane sets or clears its TX disable. -/
  | cmisTxDisable (n : Lane) (v : Bool)
  /-- R320. DataPathDeinit of a host lane requests DEEP. -/
  | cmisDatapathDeinit (k : HLane)
  /-- R320. DataPathInit of a host lane requests RUN. -/
  | cmisDatapathInit (k : HLane)
  /-- R320. Rx output disable of a host lane requests QUIET. -/
  | cmisRxOutputDisable (k : HLane)
  /-- R320. Release of Rx output disable of a host lane requests RUN. -/
  | cmisRxOutputEnable (k : HLane)
  /-- R325. A hawser frame is received whole and checked for code groups and CRC. -/
  | hawserFrame (p : Port) (first : CodeGroup) (body : List CodeGroup) (last : CodeGroup)
  /-- R324. A hawser receiver acquires code-group synchronisation and its link comes up. -/
  | hawserSyncAcquired (p : Port)
  /-- R324. A hawser receiver loses code-group synchronisation and its link goes down. -/
  | hawserSyncLost (p : Port)
  /-- R330. The fabric switch forwards a message addressed elsewhere, or floods it, incrementing HOPS. -/
  | messageForward (link : Link) (msg : FabMsg)
  /-- R333. A received BEACON brings an adjacency up, keeps it, or takes it down. -/
  | beacon (link : Link) (msg : FabMsg)
  /-- R350. A received ROUTE message updates the route tables. -/
  | route (link : Link) (msg : FabMsg)
  /-- R366. A received HM_ANNOUNCE makes stored record changes live and renews the authority side. -/
  | hmAnnounce (link : Link) (msg : FabMsg)
  /-- R341. A received ADDR_REQ is relayed to the quaymaster or harbour master or served. -/
  | addrReq (link : Link) (msg : FabMsg)
  /-- R342. A received ADDR_GRANT gives the requester its address or is relayed back along the path. -/
  | addrGrant (link : Link) (msg : FabMsg)
  /-- R343. A received RECORD proposal is stored and answered with RECORD_ACK. -/
  | record (link : Link) (msg : FabMsg)
  /-- R343. A received RECORD_ACK counts towards the commit of the harbour master's proposal. -/
  | recordAck (link : Link) (msg : FabMsg)
  /-- R367. A received RECORD_PULL is answered with the committed record. -/
  | recordPull (link : Link) (msg : FabMsg)
  /-- R302. A received MANIFEST message is checked and its manifest queued or executed at the destination. -/
  | manifestMessage (link : Link) (msg : FabMsg)
  /-- R305. A received COMPLETION ends a remote manifest once its output is whole. -/
  | completionMessage (link : Link) (msg : FabMsg)
  /-- R305. A received DATA message carries input or output buffer bytes of a remote manifest. -/
  | dataMessage (link : Link) (msg : FabMsg)
  /-- R363. A received RESEND asks for buffer data from the first missing offset. -/
  | resend (link : Link) (msg : FabMsg)
  /-- R360. A received NONCE stores the destination's nonce and resends, or ends the manifest with REMOTE_TIMEOUT. -/
  | nonce (link : Link) (msg : FabMsg)
  /-- R364. A received UNREACH completes the pending manifest with UNREACHABLE. -/
  | unreach (link : Link) (msg : FabMsg)
  /-- R363. A received ACK frees the destination's held output. -/
  | ack (link : Link) (msg : FabMsg)
  /-- R332. Once per 1 s, with random offset, the device sends a BEACON on every up link. -/
  | beaconTimer
  /-- R333. No valid BEACON for 3.5 s takes the adjacency down and withdraws its routes. -/
  | adjacencyTimeout (link : Link)
  /-- R338. After its identity has been lowest in the cluster for 3 s the device declares itself quaymaster. -/
  | quaymasterDeclare
  /-- R339. After the election condition has held for 5 s the device declares itself harbour master. -/
  | harbourMasterDeclare
  /-- R365. Once per 1 s the harbour master counts reachable members and sends HM_ANNOUNCE with AUTH. -/
  | hmAnnounceTimer
  /-- R341. An unaddressed device repeats its ADDR_REQ every 2 s until granted. -/
  | addrReqRetry
  /-- R343. A record proposal not committed within 5 s is abandoned. -/
  | proposalTimeout
  /-- R345. Once per hour the harbour master commits HOURS, last-seen hours and entry releases. -/
  | hoursAdvance
  /-- R349. Every 30 s the device sends all its routes on each adjacency. -/
  | routeTimer
  /-- R351. A route expires 90 s after its last advertisement. -/
  | routeExpiry (level : Nat) (number : Nat)
  /-- R359. Once per 1 s without completion the originator resends the MANIFEST with a new SEQ. -/
  | manifestResend (rid : Nat)
  /-- R361. A stored pair of source identity and RID expires 60 s after its completion. -/
  | ridExpiry (src : Nat) (rid : Nat)
  /-- R363. The destination frees a manifest's output 10 s after the COMPLETION without ACK. -/
  | outputReleaseTimeout
  /-- R366. No HM_ANNOUNCE with AUTH for 3 s takes the device off the authority side. -/
  | authorityLapse
  /-- R347. A write of 1 to GO of FAB_ISL at the harbour master proposes ISL_SET as the island number. -/
  | islandSet (v : Word)
  /-- R586. 3,600 s after a key switch the old realm key is no longer accepted and is erased. -/
  | oldKeyErase
  /-- R379. VDD_AON below its operating range causes POR, which clears even the survivors of a full reset. -/
  | powerOnReset
  /-- R380. RESETn goes low for long enough and a full reset begins and is held. -/
  | resetnFall (width : Nat)
  /-- R372. RESETn rises and, with every rail good, the start instant begins the start-up sequence. -/
  | resetnRise (run : BootRun)
  /-- R372. The last rail other than VDD_AON is reported good, which can set the start instant. -/
  | railGood (r : Rail) (run : BootRun)
  /-- R379. A rail other than VDD_AON or VDD_POOL out of range for more than 5 µs causes a held full reset. -/
  | railFault (r : Rail)
  /-- R378. REFCLK appears while start-up waits at step 4 and the sequence continues. -/
  | refclkAppear (run : BootRun)
  /-- R400. No REFCLK edge for 10 µs sets REF_LOSS and the core PLLs hold frequency. -/
  | refclkLoss
  /-- R389. VGOOD at 0 for more than 1 ms while the pool serves a lane enters the safe state. -/
  | vddPoolFault
  /-- R383. A write to SYS_WDT_KICK restarts the watchdog period, or counts as expiry for a wrong value. -/
  | wdtKick (w : Word)
  /-- R384. Half a watchdog period without a kick sets WDT_HALF. -/
  | wdtHalf
  /-- R384. A whole period without a kick stops the processor, captures its PC and schedules a full reset. -/
  | watchdogExpiry (pc : Word)
  /-- R386. A write of 1 to LOCK locks SYS_WDT_CTRL until the next full reset. -/
  | wdtLock
  /-- R382. A full reset begins, returns registers to reset values and restarts the start-up sequence. -/
  | fullReset (cause : Byte) (run : BootRun)
  /-- R412. Both sides of a crossing have reported ready and the crossing reopens after a coordinated reset. -/
  | crossingReopen (dom : Fin 18)
  /-- R419. An island handshake not acknowledged within 1 µs sets ISLAND_STALL and is withdrawn. -/
  | islandStall (s : Stall)
  /-- R409. A handshake towards a gated domain raises a wake request and completes when the clock runs. -/
  | clockGateWake (dom : Fin 18)
  /-- R407. A read of a 48-bit counter's low word copies the whole value into the requester's bank. -/
  | counterLowRead (rq : Requester) (addr : BitVec 20)
  /-- R429. A write of STATE_REQ in PWR_CTRL requests a device state, held behind a transition in progress. -/
  | powerStateRequest (v : BitVec 2)
  /-- R426. The processor executes WFI with SLEEP set in STANDBY and the device enters DORMANT or HIBERNATE. -/
  | wfiSleep (mMode : Bool)
  /-- R422. A device state transition completes and the held request starts. -/
  | powerTransitionDone
  /-- R427. A DORMANT or HIBERNATE request without WFI after 100 ms completes with TIMEOUT. -/
  | sleepTimeout
  /-- R431. A falling edge on WAKEn is a wake source. -/
  | wakenFall
  /-- R431. The wake timer of PWR_WAKE_TIMER expires and wakes the device. -/
  | wakeTimer
  /-- R431. A two-wire START or SPI_CSn fall in HIBERNATE wakes the device. -/
  | hostAccessWake
  /-- R434. A register write to a block that DORMANT powers off is held and wakes the device. -/
  | offBlockWrite (addr : BitVec 20) (w : Word)
  /-- R430. A wake starts at the wake source or at the end of entry and runs the wake steps to STANDBY. -/
  | wakeStart (run : WakeRun)
  /-- R443. The reload from flash after a retention failure ends and waiting lanes may leave OFF or PILOT. -/
  | retentionReloadDone
  /-- R440. A write of OP_REQ or FLOOR moves the device towards the operating point of R436. -/
  | opReqWrite (v : BitVec 2) (floor : BitVec 2)
  /-- R438. VGOOD_CORE reaches 1 and the MCU clock is raised and waiting transitions or commits are released. -/
  | vgoodCore
  /-- R447. Each sensor is sampled, cross-checked and the hottest value compared with the thresholds. -/
  | thermalSample (t : List (Option Int))
  /-- R456. The grace time ends with throttle still set and step E1 is ordered. -/
  | graceExpiry
  /-- R457. Throttle still set E2_DELAY after E1 orders step E2. -/
  | e2DelayExpiry
  /-- R459. A release period with throttle clear lifts the highest enforcement step in force. -/
  | releaseExpiry
  /-- R455. Once per 1 s while throttle is set the device sends THERMAL on every synced lane. -/
  | thermalReportTimer
  /-- R460. A write of ENF_MIN holds at least the named enforcement step in force. -/
  | enfMinWrite (v : BitVec 2)
  /-- R470. A write to MON_INJ queues an injected conversion, or sets INJ_FULL when the queue is full. -/
  | monInj (ch : BitVec 5)
  /-- R469. An integration ends and the converter starts the next injected, calibration or regular work. -/
  | integrationBoundary (a : Analog)
  /-- R467. A conversion result is written 5 µs after its integration ends. -/
  | resultWritten
  /-- R474. A write of 1 to GO of MON_CAL_CTRL starts a calibration step, or is refused. -/
  | calGo
  /-- R479. A calibration step ends and writes its coefficient or fails with a reason. -/
  | calStepComplete
  /-- R479. A MON_CAL pending 2 s after acceptance is abandoned with TIMEOUT. -/
  | monCalTimeout
  /-- R487. A write to BDAC_CODEk applies code and gain to the ladder, or is stored while the channel is forced. -/
  | bdacCodeWrite (k : Berth) (w : Word)
  /-- R489. A write to BDAC_CLRk changes the clear code, at once while the channel is forced. -/
  | bdacClrWrite (k : Berth) (w : Word)
  /-- R488. CLRn goes low and every bias DAC channel is forced to its clear code. -/
  | clrnFall
  /-- R488. CLRn goes high and, without latch, the clear forced by CLRn ends. -/
  | clrnRise
  /-- R490. A write of 1 to CLR_REL releases a latched CLRn clear while CLRn is high. -/
  | clrRel
  /-- R496. A calibration estimation window ends and candidate trim sets are judged. -/
  | estimationWindowEnd (n : Lane) (est : Estimates)
  /-- R503. A write to LRX_ADC_TRIMj or LRX_TIA_TRIM takes effect at the next trim boundary and discards pending sets of its kind. -/
  | trimWrite (n : Lane) (t : TrimReg) (w : Word)
  /-- R523. The scrubber reads the next row of a macro and mends or poisons it. -/
  | scrubAccess (m : Fin 49)
  /-- R527. A correction history entry that reaches 24 h without remap is cleared. -/
  | historyExpiry
  /-- R522. A write of 1 to GO of MEM_UNPOISON zero-fills the named block and clears its poison. -/
  | unpoison
  /-- R516. A write of 1 to ARM of MEM_INJECT flips the named stored bit or bits. -/
  | errorInject
  /-- R536. Every ROT_S ÷ 64 seconds the next engine is chosen for an in-field BIST slice, or the slice is deferred. -/
  | bistSliceStart
  /-- R537. An engine's BIST slice ends and the engine returns to rotation or is quarantined. -/
  | bistSliceEnd (e : Eng) (pass : Bool)
  /-- R538. A BIST sub-slice of a non-redundant block runs in its idle time. -/
  | nrSubslice (b : NrBlock) (r : NrResult)
  /-- R543. A write of 1 to ARM zeroes the sample index and histograms and enters ARMED. -/
  | arm
  /-- R545. A write of 1 to FORCE in ARMED triggers the capture on the current sample. -/
  | force
  /-- R545. A write of 1 to STOP ends a capture and cancels any re-arm. -/
  | stop
  /-- R541. A source sample is taken by the enabled reductions and the trigger units. -/
  | lookoutSample (s : LkoSample)
  /-- R553. The MODE 1 hold-off ends. -/
  | holdoffEnd
  /-- R553. With the capture stopped, hold-off ended, no read running and no E2, Lookout re-arms from HOLDOFF. -/
  | lookoutRearm
  /-- R562. A write of FREEZE requests counters to stop or resume at instant T. -/
  | freeze (v : Bool)
  /-- R563. A write of 1 to SNAP requests a snapshot of every counter at instant T. -/
  | snap
  /-- R562. Instant T is reached and counters freeze, resume or are copied to their shadows. -/
  | freezeInstant
  /-- R560. A write of 1 to CLR_ALL zeroes all general counters and their overflow bits. -/
  | clrAll
  /-- R559. A write of PMU_EVSELi changes the counted event at the next tick. -/
  | evselWrite (i : Fin 64) (w : Word)
  /-- R580. A write of 1 to SVN_ADV blows anti-rollback fuses up to the running image's SVN. -/
  | svnAdv
  /-- R589. A JTAG TAP access is served within the rights locked or granted. -/
  | jtagAccess (op : JtagOp)
  /-- R591. The first JTAG halt, memory access or scan enable zeroises the key set and sets ZEROISED. -/
  | jtagZeroise
  /-- R610. A write of SYS_LIVE_ADDR sets the live-value port address of the requester's bank. -/
  | sysLiveAddrWrite (rq : Requester) (w : Word)
  /-- R611. A read of SYS_LIVE_DATA returns the addressed register with ST fields from their live copies. -/
  | liveDataRead (rq : Requester)
  /-- R600. A write to a register without behaviour of its own changes its fields as Table 0-4 states. -/
  | registerWrite (rq : Requester) (addr : BitVec 20) (w : Word)
  /-- R372. VDD_AON enters its range and POR is released within 50 µs, starting the AON domain on the RC oscillator and the watchdog. -/
  | porRelease
  /-- R573. A TRNG health test fails, TRNG_FAIL sets and every draw waits. -/
  | trngFail
  /-- R573. After a failure 1,024 consecutive raw samples pass and waiting draws go ahead. -/
  | trngOk
  /-- R580. The anti-rollback fuse writing started by SVN_ADV ends, SVN_BUSY clears and SVN_DONE sets. -/
  | svnDone
  /-- R531. The reload of a poisoned code page from flash ends, with the page rewritten or left poisoned with RELOAD_FAIL, and stalled fetches resume. -/
  | codeReloadDone (ok : Bool)
  /-- R321. A CMIS CDB command on page 9Fh performs a firmware download or an image activation. -/
  | cdbCommand (c : CdbCmd)
  /-- R409. 64 cycles after the last handshake a gated domain's clock is stopped again. -/
  | clockGateStop (dom : Fin 18)
  /-- R230. The TX half of a host lane completes its exit to RUN, which lets the feeding line lane declare inner lock. -/
  | hostTxHalfRun (k : HLane)
  /-- R257. With no frame waiting, a new effective pilot preset or map takes effect at the next idle-group boundary. -/
  | idleGroupBoundary (n : Lane)
  /-- R420. A core PLL loses lock and PLL_UNLOCK sets in CLK_INT_STATUS. -/
  | corePllUnlock (pll : CorePll)
  /-- R483. A read of MON_RESk latches MON_INFOk of the same conversion for the following MON_INFOk read. -/
  | monResRead (rq : Requester) (k : Fin 24)
  deriving DecidableEq, Repr

end Sys2Proof
end

