-- ==== Sys2Proof/Config.lean ====
section
/-! DEFINITION. What the manual leaves to an implementation or to standards it only cites, as constants without a body: nothing can be proved of their values. -/

namespace Sys2Proof

/-- The 30 parity symbols of the RS(544,514) codeword of IEEE 802.3 with given message symbols (R109, R158). Free: the manual cites the standard. -/
opaque Config.rsParity : BitVec 5140 → BitVec 300
/-- Bits of a codeword's message that belong to the synchronisation headers of its 257-bit transcoded blocks, by port type (R110). Free: how
blocks lie in codewords is the standard's. -/
opaque Config.headerBits : Nat → BitVec 5140
/-- The error marking of the synchronisation headers of a message, by port type; only its bits in `headerBits` matter (R110). Free: the
standard's. -/
opaque Config.headerMarks : Nat → BitVec 5140 → BitVec 5140
/-- Codewords of a stream that an alignment marker group reaches, by port type (R112). Free: the standard's. -/
opaque Config.markerSpan : Nat → Nat
/-- Bits of a codeword's message that belong to alignment markers, by port type and by its place from the codeword in which the group starts
(R110, R112). Free: the standard's. -/
opaque Config.markerBits : Nat → Nat → BitVec 5140
/-- Whether a codeword's item (by tag) has bytes in a block of the reorder buffer or of the delay store; their layout by item is not stated (R108, Table 16-3). -/
opaque Config.reorderHolds : Nat → Nat → Bool
/-- Whether a waiting frame (by lane and position) has bytes in a block of the pilot and fabric buffers; their layout is not stated (Table 16-3). -/
opaque Config.bufferHolds : Nat → Nat → Nat → Bool
/-- Whether a sub-ADC converted a line symbol that carries a bit of a codeword's symbol (by tag, position, sub-ADC; Table 17-3). Free: the interleave is the standard's. -/
opaque Config.subAdcCarries : Nat → Nat → Nat → Bool
/-- Class 0x04 frames that the switch's part of the pilot and fabric buffers holds (R253). Free: the division is not stated. -/
opaque Config.switchFrames : Nat
/-- By how many thousandths, less 50, the DC block's corner lies off its nominal value, by CORNER and RATE: within ±5 % (R46). -/
opaque Config.dcTolerance : Nat → Nat → Fin 101
/-- The 8 parity bits of the (128,120) inner code of IEEE 802.3dj for a message, bit i of the message sent i-th (R144). Free: the code is
the standard's. -/
opaque Config.innerParity : BitVec 120 → BitVec 8
/-- Taps of the pilot resampler's 64 phases, in 2^-15, by phase and tap (R271). Free: only their flatness is stated. -/
opaque Config.resampleTap : Nat → Nat → Int
/-- Effect in DC estimate LSB of a change of TIA offset trim at a range and gain code (R494). Free: no formula is stated. -/
opaque Config.tiaOffsetEffect : Nat → Nat → Int → Int
/-- The device's identity digest (R572): a value of its fuses. -/
opaque Config.identity : BitVec 64
/-- The VCO band that a lane PLL's calibration finds (R504). Free: analogue. -/
opaque Config.pllBand : Nat → BitVec 6
/-- How the values of a section of the calibration record lie in its data, for the sections whose layout the manual does not give, by ID
(R507). -/
opaque Config.calLayout : Nat → List (BitVec 8) → List (BitVec 8)
/-- A word of the true random generator, or any value the manual leaves open, by draw number. -/
opaque Config.freeWord : Nat → BitVec 32
/-- A truth value the manual leaves open, by draw number. -/
opaque Config.freeBool : Nat → Bool

end Sys2Proof
end

