-- ==== Sys2Proof/Machine/Fields.lean ====
section
/-! DEFINITION. The names of the manual's registers and fields: each field as its address and bit range, each register as its address. -/

namespace Sys2Proof.Machine

/-- A register field: the address of its register and its bits. -/
structure Fld where
  addr : Nat
  hi : Nat
  lo : Nat
  deriving DecidableEq, Repr

namespace F

def SYS_ID : Fld := ⟨0x0, 31, 0⟩
def SYS_ID_PART : Fld := ⟨0x0, 31, 16⟩
def SYS_ID_REV : Fld := ⟨0x0, 15, 8⟩
def SYS_ID_GRADE : Fld := ⟨0x0, 7, 0⟩
def SYS_RST_CAUSE : Fld := ⟨0x4, 31, 0⟩
def SYS_RST_CAUSE_HOURS_LAST : Fld := ⟨0x4, 31, 24⟩
def SYS_RST_CAUSE_COUNT : Fld := ⟨0x4, 23, 16⟩
def SYS_RST_CAUSE_PREV : Fld := ⟨0x4, 15, 8⟩
def SYS_RST_CAUSE_CAUSE : Fld := ⟨0x4, 7, 0⟩
def SYS_BOOT_STATUS : Fld := ⟨0x8, 31, 0⟩
def SYS_BOOT_STATUS_FAIL_CODE : Fld := ⟨0x8, 31, 24⟩
def SYS_BOOT_STATUS_STEP : Fld := ⟨0x8, 19, 16⟩
def SYS_BOOT_STATUS_SLOT : Fld := ⟨0x8, 8, 8⟩
def SYS_BOOT_STATUS_RECOVERY : Fld := ⟨0x8, 1, 1⟩
def SYS_BOOT_STATUS_READY : Fld := ⟨0x8, 0, 0⟩
def SYS_WDT_CTRL : Fld := ⟨0xC, 31, 0⟩
def SYS_WDT_CTRL_LOCK : Fld := ⟨0xC, 31, 31⟩
def SYS_WDT_CTRL_EN : Fld := ⟨0xC, 16, 16⟩
def SYS_WDT_CTRL_PERIOD : Fld := ⟨0xC, 15, 0⟩
def SYS_WDT_KICK : Fld := ⟨0x10, 31, 0⟩
def SYS_WDT_CAPTURE : Fld := ⟨0x14, 31, 0⟩
def SYS_INT_STATUS : Fld := ⟨0x18, 31, 0⟩
def SYS_INT_STATUS_SAFE : Fld := ⟨0x18, 3, 3⟩
def SYS_INT_STATUS_CAL_DEFAULT : Fld := ⟨0x18, 2, 2⟩
def SYS_INT_STATUS_SLOT_FALLBACK : Fld := ⟨0x18, 1, 1⟩
def SYS_INT_STATUS_WDT_HALF : Fld := ⟨0x18, 0, 0⟩
def SYS_INT_EN : Fld := ⟨0x1C, 3, 0⟩
def SYS_SAFE : Fld := ⟨0x20, 31, 0⟩
def SYS_SAFE_SAFE_CAUSE : Fld := ⟨0x20, 15, 8⟩
def SYS_SAFE_SAFE : Fld := ⟨0x20, 0, 0⟩
def SYS_BUS_ERR_INFO : Fld := ⟨0x40, 31, 0⟩
def SYS_BUS_ERR_INFO_VALID : Fld := ⟨0x40, 31, 31⟩
def SYS_BUS_ERR_INFO_COUNT : Fld := ⟨0x40, 23, 8⟩
def SYS_BUS_ERR_INFO_REQ : Fld := ⟨0x40, 7, 4⟩
def SYS_BUS_ERR_INFO_WRITE : Fld := ⟨0x40, 3, 3⟩
def SYS_BUS_ERR_INFO_CAUSE : Fld := ⟨0x40, 2, 0⟩
def SYS_BUS_ERR_ADDR : Fld := ⟨0x44, 19, 0⟩
def SYS_LIVE_ADDR : Fld := ⟨0x48, 31, 0⟩
def SYS_LIVE_DATA : Fld := ⟨0x4C, 31, 0⟩
def SYS_SCRATCH (i : Nat) : Fld := ⟨0x50 + 0x4 * i, 31, 0⟩
def CLK_STATUS : Fld := ⟨0x1000, 31, 0⟩
def CLK_STATUS_HOLDOVER : Fld := ⟨0x1000, 4, 4⟩
def CLK_STATUS_CPLLB_LOCK : Fld := ⟨0x1000, 3, 3⟩
def CLK_STATUS_CPLLA_LOCK : Fld := ⟨0x1000, 2, 2⟩
def CLK_STATUS_REF_LOSS : Fld := ⟨0x1000, 1, 1⟩
def CLK_STATUS_REF_PRESENT : Fld := ⟨0x1000, 0, 0⟩
def CLK_DOM_RUN : Fld := ⟨0x1004, 17, 0⟩
def CLK_DOM_CLOSED : Fld := ⟨0x1008, 17, 0⟩
def CLK_INT_STATUS : Fld := ⟨0x100C, 31, 0⟩
def CLK_INT_STATUS_ISLAND_STALL : Fld := ⟨0x100C, 3, 3⟩
def CLK_INT_STATUS_FLUSH : Fld := ⟨0x100C, 2, 2⟩
def CLK_INT_STATUS_PLL_UNLOCK : Fld := ⟨0x100C, 1, 1⟩
def CLK_INT_STATUS_REF_LOSS : Fld := ⟨0x100C, 0, 0⟩
def CLK_INT_EN : Fld := ⟨0x1010, 3, 0⟩
def CLK_CDC_FLUSH (d : Nat) : Fld := ⟨0x1100 + 0x4 * d, 31, 0⟩
def CLK_CDC_FLUSH_CW (d : Nat) : Fld := ⟨0x1100 + 0x4 * d, 31, 16⟩
def CLK_CDC_FLUSH_EV (d : Nat) : Fld := ⟨0x1100 + 0x4 * d, 15, 0⟩
def PWR_CTRL : Fld := ⟨0x2000, 31, 0⟩
def PWR_CTRL_FLOOR : Fld := ⟨0x2000, 13, 12⟩
def PWR_CTRL_OP_REQ : Fld := ⟨0x2000, 11, 10⟩
def PWR_CTRL_SLEEP : Fld := ⟨0x2000, 5, 4⟩
def PWR_CTRL_STATE_REQ : Fld := ⟨0x2000, 1, 0⟩
def PWR_STATUS : Fld := ⟨0x2004, 31, 0⟩
def PWR_STATUS_VGOOD_CORE : Fld := ⟨0x2004, 18, 18⟩
def PWR_STATUS_OP_BUSY : Fld := ⟨0x2004, 17, 17⟩
def PWR_STATUS_OP_MIN : Fld := ⟨0x2004, 15, 14⟩
def PWR_STATUS_OP_LIVE : Fld := ⟨0x2004, 13, 12⟩
def PWR_STATUS_LAST_SLEEP : Fld := ⟨0x2004, 9, 8⟩
def PWR_STATUS_PENDING : Fld := ⟨0x2004, 7, 5⟩
def PWR_STATUS_TRANS : Fld := ⟨0x2004, 4, 2⟩
def PWR_STATUS_STATE : Fld := ⟨0x2004, 1, 0⟩
def PWR_WAKE_EN : Fld := ⟨0x2008, 31, 0⟩
def PWR_WAKE_EN_OFF_WRITE : Fld := ⟨0x2008, 6, 6⟩
def PWR_WAKE_EN_THERMAL : Fld := ⟨0x2008, 5, 5⟩
def PWR_WAKE_EN_FABRIC : Fld := ⟨0x2008, 4, 4⟩
def PWR_WAKE_EN_TIMER : Fld := ⟨0x2008, 3, 3⟩
def PWR_WAKE_EN_HOST_ACCESS : Fld := ⟨0x2008, 2, 2⟩
def PWR_WAKE_EN_DOORBELL : Fld := ⟨0x2008, 1, 1⟩
def PWR_WAKE_EN_WAKEN : Fld := ⟨0x2008, 0, 0⟩
def PWR_WAKE_SRC : Fld := ⟨0x200C, 31, 0⟩
def PWR_WAKE_SRC_OFF_WRITE : Fld := ⟨0x200C, 6, 6⟩
def PWR_WAKE_SRC_THERMAL : Fld := ⟨0x200C, 5, 5⟩
def PWR_WAKE_SRC_FABRIC : Fld := ⟨0x200C, 4, 4⟩
def PWR_WAKE_SRC_TIMER : Fld := ⟨0x200C, 3, 3⟩
def PWR_WAKE_SRC_HOST_ACCESS : Fld := ⟨0x200C, 2, 2⟩
def PWR_WAKE_SRC_DOORBELL : Fld := ⟨0x200C, 1, 1⟩
def PWR_WAKE_SRC_WAKEN : Fld := ⟨0x200C, 0, 0⟩
def PWR_WAKE_TIMER : Fld := ⟨0x2010, 23, 0⟩
def PWR_RETAIN : Fld := ⟨0x2014, 31, 0⟩
def PWR_RETAIN_RETAIN_FAIL : Fld := ⟨0x2014, 7, 0⟩
def PWR_RET_CRC (b : Nat) : Fld := ⟨0x2020 + 0x4 * b, 31, 0⟩
def PWR_INT_STATUS : Fld := ⟨0x2040, 31, 0⟩
def PWR_INT_STATUS_OP_DONE : Fld := ⟨0x2040, 4, 4⟩
def PWR_INT_STATUS_SLEEP_REFUSED : Fld := ⟨0x2040, 3, 3⟩
def PWR_INT_STATUS_RETAIN_FAIL : Fld := ⟨0x2040, 2, 2⟩
def PWR_INT_STATUS_WAKE : Fld := ⟨0x2040, 1, 1⟩
def PWR_INT_STATUS_STATE_DONE : Fld := ⟨0x2040, 0, 0⟩
def PWR_INT_EN : Fld := ⟨0x2044, 4, 0⟩
def THM_CTRL : Fld := ⟨0x3000, 31, 0⟩
def THM_CTRL_ENF_MIN : Fld := ⟨0x3000, 1, 0⟩
def THM_STATUS : Fld := ⟨0x3004, 31, 0⟩
def THM_STATUS_HOT_IDX : Fld := ⟨0x3004, 31, 27⟩
def THM_STATUS_ENF : Fld := ⟨0x3004, 26, 25⟩
def THM_STATUS_GRACE_RUN : Fld := ⟨0x3004, 24, 24⟩
def THM_STATUS_SHUTDOWN : Fld := ⟨0x3004, 23, 23⟩
def THM_STATUS_THROTTLE : Fld := ⟨0x3004, 22, 22⟩
def THM_STATUS_WARNING : Fld := ⟨0x3004, 21, 21⟩
def THM_STATUS_HOTTEST : Fld := ⟨0x3004, 19, 0⟩
def THM_LIMITS : Fld := ⟨0x3008, 31, 0⟩
def THM_LIMITS_SHUT : Fld := ⟨0x3008, 23, 16⟩
def THM_LIMITS_THROT : Fld := ⟨0x3008, 15, 8⟩
def THM_LIMITS_WARN : Fld := ⟨0x3008, 7, 0⟩
def THM_TIMING : Fld := ⟨0x300C, 31, 0⟩
def THM_TIMING_RELEASE : Fld := ⟨0x300C, 23, 16⟩
def THM_TIMING_E2_DELAY : Fld := ⟨0x300C, 15, 8⟩
def THM_TIMING_GRACE : Fld := ⟨0x300C, 7, 0⟩
def THM_SUSPECT : Fld := ⟨0x3010, 23, 0⟩
def THM_INT_STATUS : Fld := ⟨0x3014, 31, 0⟩
def THM_INT_STATUS_FAR_THERMAL : Fld := ⟨0x3014, 6, 6⟩
def THM_INT_STATUS_SUSPECT : Fld := ⟨0x3014, 5, 5⟩
def THM_INT_STATUS_ENF_CHG : Fld := ⟨0x3014, 4, 4⟩
def THM_INT_STATUS_THROT_CLR : Fld := ⟨0x3014, 3, 3⟩
def THM_INT_STATUS_THROT_SET : Fld := ⟨0x3014, 2, 2⟩
def THM_INT_STATUS_WARN_CLR : Fld := ⟨0x3014, 1, 1⟩
def THM_INT_STATUS_WARN_SET : Fld := ⟨0x3014, 0, 0⟩
def THM_INT_EN : Fld := ⟨0x3018, 6, 0⟩
def THM_T (k : Nat) : Fld := ⟨0x3100 + 0x4 * k, 19, 0⟩
def SEC_CTRL : Fld := ⟨0x4000, 31, 0⟩
def SEC_CTRL_SVN_ADV : Fld := ⟨0x4000, 0, 0⟩
def SEC_STATUS : Fld := ⟨0x4004, 31, 0⟩
def SEC_STATUS_UNLOCK_FAILS : Fld := ⟨0x4004, 31, 24⟩
def SEC_STATUS_SVN_FUSES : Fld := ⟨0x4004, 23, 16⟩
def SEC_STATUS_PERMS : Fld := ⟨0x4004, 15, 13⟩
def SEC_STATUS_VK_REVOKE : Fld := ⟨0x4004, 12, 12⟩
def SEC_STATUS_COSIGN_REQ : Fld := ⟨0x4004, 11, 11⟩
def SEC_STATUS_OWNER_SLOT : Fld := ⟨0x4004, 10, 8⟩
def SEC_STATUS_TRNG_OK : Fld := ⟨0x4004, 6, 6⟩
def SEC_STATUS_HASH_BUSY : Fld := ⟨0x4004, 5, 5⟩
def SEC_STATUS_SVN_BUSY : Fld := ⟨0x4004, 4, 4⟩
def SEC_STATUS_ZEROISED : Fld := ⟨0x4004, 3, 3⟩
def SEC_STATUS_KEY_PENDING : Fld := ⟨0x4004, 2, 2⟩
def SEC_STATUS_OLD_KEY : Fld := ⟨0x4004, 1, 1⟩
def SEC_STATUS_KEYED : Fld := ⟨0x4004, 0, 0⟩
def SEC_BOOT_STATUS : Fld := ⟨0x4008, 31, 0⟩
def SEC_BOOT_STATUS_SVN_RUN : Fld := ⟨0x4008, 23, 16⟩
def SEC_BOOT_STATUS_REASON_B : Fld := ⟨0x4008, 15, 8⟩
def SEC_BOOT_STATUS_REASON_A : Fld := ⟨0x4008, 7, 0⟩
def SEC_KEY_EPOCH : Fld := ⟨0x400C, 31, 0⟩
def SEC_KEY_SWITCH : Fld := ⟨0x4010, 31, 0⟩
def SEC_FW_VERSION : Fld := ⟨0x4014, 31, 0⟩
def SEC_INT_STATUS : Fld := ⟨0x4018, 31, 0⟩
def SEC_INT_STATUS_TRNG_FAIL : Fld := ⟨0x4018, 5, 5⟩
def SEC_INT_STATUS_UNLOCK_FAIL : Fld := ⟨0x4018, 4, 4⟩
def SEC_INT_STATUS_ZEROISE : Fld := ⟨0x4018, 3, 3⟩
def SEC_INT_STATUS_KEY_SWITCH : Fld := ⟨0x4018, 2, 2⟩
def SEC_INT_STATUS_KEY_INSTALLED : Fld := ⟨0x4018, 1, 1⟩
def SEC_INT_STATUS_SVN_DONE : Fld := ⟨0x4018, 0, 0⟩
def SEC_INT_EN : Fld := ⟨0x401C, 5, 0⟩
def SEC_CHALLENGE (c : Nat) : Fld := ⟨0x4020 + 0x4 * c, 31, 0⟩
def MFT_CTRL : Fld := ⟨0x5000, 31, 0⟩
def MFT_CTRL_EVT_SIZE : Fld := ⟨0x5000, 18, 16⟩
def MFT_CTRL_CPL_SIZE : Fld := ⟨0x5000, 14, 12⟩
def MFT_CTRL_CMD_SIZE : Fld := ⟨0x5000, 10, 8⟩
def MFT_CTRL_ENABLE : Fld := ⟨0x5000, 0, 0⟩
def MFT_STATUS : Fld := ⟨0x5004, 31, 0⟩
def MFT_STATUS_CFG_ERR : Fld := ⟨0x5004, 2, 2⟩
def MFT_STATUS_DRAINING : Fld := ⟨0x5004, 1, 1⟩
def MFT_STATUS_RUNNING : Fld := ⟨0x5004, 0, 0⟩
def MFT_CMD_BASE : Fld := ⟨0x5008, 17, 0⟩
def MFT_CPL_BASE : Fld := ⟨0x500C, 17, 0⟩
def MFT_EVT_BASE : Fld := ⟨0x5010, 17, 0⟩
def MFT_DB : Fld := ⟨0x5014, 7, 0⟩
def MFT_CMD_CI : Fld := ⟨0x5018, 7, 0⟩
def MFT_CPL_PI : Fld := ⟨0x501C, 31, 0⟩
def MFT_CPL_PI_PHASE : Fld := ⟨0x501C, 8, 8⟩
def MFT_CPL_PI_IDX : Fld := ⟨0x501C, 7, 0⟩
def MFT_CPL_CI : Fld := ⟨0x5020, 7, 0⟩
def MFT_EVT_PI : Fld := ⟨0x5024, 31, 0⟩
def MFT_EVT_PI_PHASE : Fld := ⟨0x5024, 8, 8⟩
def MFT_EVT_PI_IDX : Fld := ⟨0x5024, 6, 0⟩
def MFT_EVT_CI : Fld := ⟨0x5028, 6, 0⟩
def MFT_COMMIT : Fld := ⟨0x502C, 31, 0⟩
def MFT_COMMIT_GO : Fld := ⟨0x502C, 31, 31⟩
def MFT_COMMIT_GROUP : Fld := ⟨0x502C, 15, 0⟩
def MFT_COMMIT_STATUS : Fld := ⟨0x5030, 31, 0⟩
def MFT_COMMIT_STATUS_STATUS : Fld := ⟨0x5030, 31, 24⟩
def MFT_COMMIT_STATUS_FAIL_ADDR : Fld := ⟨0x5030, 19, 0⟩
def MFT_REMOTE_TO : Fld := ⟨0x5034, 7, 0⟩
def MFT_INT_STATUS : Fld := ⟨0x5038, 31, 0⟩
def MFT_INT_STATUS_EVT_OVERFLOW : Fld := ⟨0x5038, 5, 5⟩
def MFT_INT_STATUS_EVT : Fld := ⟨0x5038, 4, 4⟩
def MFT_INT_STATUS_DB_ERR : Fld := ⟨0x5038, 3, 3⟩
def MFT_INT_STATUS_CPL_ERR : Fld := ⟨0x5038, 2, 2⟩
def MFT_INT_STATUS_CPL : Fld := ⟨0x5038, 1, 1⟩
def MFT_INT_STATUS_COMMIT_DONE : Fld := ⟨0x5038, 0, 0⟩
def MFT_INT_EN : Fld := ⟨0x503C, 5, 0⟩
def MFT_INT_SRC : Fld := ⟨0x5040, 31, 0⟩
def MFT_INT_SRC_B : Fld := ⟨0x5044, 31, 0⟩
def MFT_EVT_LOST : Fld := ⟨0x5048, 15, 0⟩
def MFT_REMOTE_LATE : Fld := ⟨0x504C, 15, 0⟩
def MEM_CTRL : Fld := ⟨0x6000, 31, 0⟩
def MEM_CTRL_SCRUB_S : Fld := ⟨0x6000, 15, 8⟩
def MEM_CTRL_REMAP_EN : Fld := ⟨0x6000, 1, 1⟩
def MEM_CTRL_SCRUB_EN : Fld := ⟨0x6000, 0, 0⟩
def MEM_CODE_LIMIT : Fld := ⟨0x6004, 31, 0⟩
def MEM_CODE_LIMIT_LOCK : Fld := ⟨0x6004, 31, 31⟩
def MEM_CODE_LIMIT_CODE_LIMIT : Fld := ⟨0x6004, 18, 0⟩
def MEM_INT_STATUS : Fld := ⟨0x6008, 31, 0⟩
def MEM_INT_STATUS_BIST_LATE : Fld := ⟨0x6008, 8, 8⟩
def MEM_INT_STATUS_BIST_FAIL : Fld := ⟨0x6008, 7, 7⟩
def MEM_INT_STATUS_SCRUB_LATE : Fld := ⟨0x6008, 6, 6⟩
def MEM_INT_STATUS_RELOAD_FAIL : Fld := ⟨0x6008, 5, 5⟩
def MEM_INT_STATUS_SPARES_OUT : Fld := ⟨0x6008, 4, 4⟩
def MEM_INT_STATUS_REMAP : Fld := ⟨0x6008, 3, 3⟩
def MEM_INT_STATUS_HOST_ERR : Fld := ⟨0x6008, 2, 2⟩
def MEM_INT_STATUS_UNCORR : Fld := ⟨0x6008, 1, 1⟩
def MEM_INT_STATUS_CORR : Fld := ⟨0x6008, 0, 0⟩
def MEM_INT_EN : Fld := ⟨0x600C, 8, 0⟩
def MEM_CORR : Fld := ⟨0x6010, 31, 0⟩
def MEM_CORR_HI : Fld := ⟨0x6014, 31, 0⟩
def MEM_UNCORR : Fld := ⟨0x6018, 31, 0⟩
def MEM_UNCORR_HI : Fld := ⟨0x601C, 31, 0⟩
def MEM_LAST_CORR : Fld := ⟨0x6020, 31, 0⟩
def MEM_LAST_UNCORR : Fld := ⟨0x6024, 31, 0⟩
def MEM_INJECT : Fld := ⟨0x6028, 31, 0⟩
def MEM_INJECT_ARM : Fld := ⟨0x6028, 31, 31⟩
def MEM_INJECT_DOUBLE : Fld := ⟨0x6028, 30, 30⟩
def MEM_INJECT_MACRO : Fld := ⟨0x6028, 25, 18⟩
def MEM_INJECT_ROW : Fld := ⟨0x6028, 17, 9⟩
def MEM_INJECT_WORD : Fld := ⟨0x6028, 8, 6⟩
def MEM_INJECT_BIT : Fld := ⟨0x6028, 5, 0⟩
def MEM_UNPOISON : Fld := ⟨0x602C, 31, 0⟩
def MEM_UNPOISON_GO : Fld := ⟨0x602C, 31, 31⟩
def MEM_UNPOISON_MACRO : Fld := ⟨0x602C, 25, 18⟩
def MEM_UNPOISON_ROW : Fld := ⟨0x602C, 17, 9⟩
def MEM_SCRUB_PASS : Fld := ⟨0x6030, 15, 0⟩
def MEM_SPARE (m : Nat) : Fld := ⟨0x6100 + 0x4 * m, 3, 0⟩
def BIST_CTRL : Fld := ⟨0x6200, 31, 0⟩
def BIST_CTRL_ROT_S : Fld := ⟨0x6200, 15, 8⟩
def BIST_CTRL_NR_EN : Fld := ⟨0x6200, 1, 1⟩
def BIST_CTRL_ENG_EN : Fld := ⟨0x6200, 0, 0⟩
def BIST_STATUS : Fld := ⟨0x6204, 31, 0⟩
def BIST_STATUS_START_PART : Fld := ⟨0x6204, 31, 24⟩
def BIST_STATUS_START_MACRO : Fld := ⟨0x6204, 23, 16⟩
def BIST_STATUS_NEXT_ENG : Fld := ⟨0x6204, 15, 10⟩
def BIST_STATUS_NR_FAIL : Fld := ⟨0x6204, 9, 6⟩
def BIST_STATUS_DEFERRED : Fld := ⟨0x6204, 1, 1⟩
def BIST_STATUS_SLICE_RUN : Fld := ⟨0x6204, 0, 0⟩
def BIST_EVENTS : Fld := ⟨0x6208, 31, 0⟩
def BIST_EVENTS_DEFERRED : Fld := ⟨0x6208, 31, 16⟩
def BIST_EVENTS_RUN : Fld := ⟨0x6208, 15, 0⟩
def PMU_CTRL : Fld := ⟨0x7000, 31, 0⟩
def PMU_CTRL_CLR_ALL : Fld := ⟨0x7000, 3, 3⟩
def PMU_CTRL_SNAP_VIEW : Fld := ⟨0x7000, 2, 2⟩
def PMU_CTRL_SNAP : Fld := ⟨0x7000, 1, 1⟩
def PMU_CTRL_FREEZE : Fld := ⟨0x7000, 0, 0⟩
def PMU_STATUS : Fld := ⟨0x7004, 31, 0⟩
def PMU_STATUS_SNAP_VALID : Fld := ⟨0x7004, 2, 2⟩
def PMU_STATUS_SNAP_BUSY : Fld := ⟨0x7004, 1, 1⟩
def PMU_STATUS_FROZEN : Fld := ⟨0x7004, 0, 0⟩
def PMU_USER_EN : Fld := ⟨0x7008, 31, 0⟩
def PMU_USER_EN_SNAP : Fld := ⟨0x7008, 2, 2⟩
def PMU_USER_EN_FIXED : Fld := ⟨0x7008, 1, 1⟩
def PMU_USER_EN_GEN : Fld := ⟨0x7008, 0, 0⟩
def PMU_OVF (i : Nat) : Fld := ⟨0x700C + 0x4 * i, 31, 0⟩
def PMU_INT_STATUS : Fld := ⟨0x7014, 31, 0⟩
def PMU_INT_STATUS_SNAP_DONE : Fld := ⟨0x7014, 1, 1⟩
def PMU_INT_STATUS_OVF : Fld := ⟨0x7014, 0, 0⟩
def PMU_INT_EN : Fld := ⟨0x7018, 1, 0⟩
def PMU_SNAP_TIME : Fld := ⟨0x7020, 31, 0⟩
def PMU_SNAP_TIME_HI : Fld := ⟨0x7024, 31, 0⟩
def PMU_EVSEL (i : Nat) : Fld := ⟨0x7100 + 0x4 * i, 31, 0⟩
def PMU_EVSEL_EN (i : Nat) : Fld := ⟨0x7100 + 0x4 * i, 31, 31⟩
def PMU_EVSEL_EDGE (i : Nat) : Fld := ⟨0x7100 + 0x4 * i, 30, 30⟩
def PMU_EVSEL_OVF_INT (i : Nat) : Fld := ⟨0x7100 + 0x4 * i, 29, 29⟩
def PMU_EVSEL_UNIT (i : Nat) : Fld := ⟨0x7100 + 0x4 * i, 23, 16⟩
def PMU_EVSEL_EVENT (i : Nat) : Fld := ⟨0x7100 + 0x4 * i, 15, 0⟩
def PMU_CNT (i : Nat) : Fld := ⟨0x7200 + 0x8 * i, 31, 0⟩
def PMU_CNT_HI (i : Nat) : Fld := ⟨0x7204 + 0x8 * i, 31, 0⟩
def MON_CTRL : Fld := ⟨0x8000, 31, 0⟩
def MON_CTRL_RUN : Fld := ⟨0x8000, 0, 0⟩
def MON_STATUS : Fld := ⟨0x8004, 31, 0⟩
def MON_STATUS_INJ_Q : Fld := ⟨0x8004, 26, 24⟩
def MON_STATUS_CHAN : Fld := ⟨0x8004, 20, 16⟩
def MON_STATUS_WORK : Fld := ⟨0x8004, 11, 10⟩
def MON_STATUS_RECOVER : Fld := ⟨0x8004, 9, 9⟩
def MON_STATUS_CAL_BUSY : Fld := ⟨0x8004, 8, 8⟩
def MON_SEQ : Fld := ⟨0x8008, 23, 0⟩
def MON_INJ : Fld := ⟨0x800C, 31, 0⟩
def MON_CAL_CTRL : Fld := ⟨0x8010, 31, 0⟩
def MON_CAL_CTRL_GO : Fld := ⟨0x8010, 31, 31⟩
def MON_CAL_CTRL_REASON : Fld := ⟨0x8010, 27, 24⟩
def MON_CAL_CTRL_CAL_AVG : Fld := ⟨0x8010, 17, 16⟩
def MON_CAL_CTRL_STEP : Fld := ⟨0x8010, 8, 8⟩
def MON_CAL_CTRL_CHANNEL : Fld := ⟨0x8010, 4, 0⟩
def MON_OVR : Fld := ⟨0x8014, 23, 0⟩
def MON_INT_STATUS : Fld := ⟨0x8018, 31, 0⟩
def MON_INT_STATUS_CAL_REFUSED : Fld := ⟨0x8018, 4, 4⟩
def MON_INT_STATUS_CAL_DONE : Fld := ⟨0x8018, 3, 3⟩
def MON_INT_STATUS_INJ_FULL : Fld := ⟨0x8018, 2, 2⟩
def MON_INT_STATUS_STALE : Fld := ⟨0x8018, 1, 1⟩
def MON_INT_STATUS_OVR : Fld := ⟨0x8018, 0, 0⟩
def MON_INT_EN : Fld := ⟨0x801C, 4, 0⟩
def MON_STALE_CNT : Fld := ⟨0x8020, 15, 0⟩
def MON_INJ_RES : Fld := ⟨0x8024, 31, 0⟩
def MON_CHCFG (k : Nat) : Fld := ⟨0x8100 + 0x4 * k, 31, 0⟩
def MON_CHCFG_ALIGN (k : Nat) : Fld := ⟨0x8100 + 0x4 * k, 8, 8⟩
def MON_CHCFG_SIGNED (k : Nat) : Fld := ⟨0x8100 + 0x4 * k, 4, 4⟩
def MON_CHCFG_INT (k : Nat) : Fld := ⟨0x8100 + 0x4 * k, 1, 0⟩
def MON_RES (k : Nat) : Fld := ⟨0x8200 + 0x8 * k, 31, 0⟩
def MON_INFO (k : Nat) : Fld := ⟨0x8204 + 0x8 * k, 31, 0⟩
def MON_INFO_COUNT (k : Nat) : Fld := ⟨0x8204 + 0x8 * k, 31, 16⟩
def MON_INFO_INJ (k : Nat) : Fld := ⟨0x8204 + 0x8 * k, 2, 2⟩
def MON_INFO_CAL (k : Nat) : Fld := ⟨0x8204 + 0x8 * k, 1, 1⟩
def MON_INFO_OVR (k : Nat) : Fld := ⟨0x8204 + 0x8 * k, 0, 0⟩
def MON_OFS (k : Nat) : Fld := ⟨0x8400 + 0x8 * k, 19, 0⟩
def MON_GAIN (k : Nat) : Fld := ⟨0x8404 + 0x8 * k, 19, 0⟩
def BDAC_CTRL : Fld := ⟨0x9000, 31, 0⟩
def BDAC_CTRL_CLR_REL : Fld := ⟨0x9000, 8, 8⟩
def BDAC_CTRL_CLR_LATCH : Fld := ⟨0x9000, 0, 0⟩
def BDAC_STATUS : Fld := ⟨0x9004, 31, 0⟩
def BDAC_STATUS_LATCHED : Fld := ⟨0x9004, 17, 17⟩
def BDAC_STATUS_CLRN_LOW : Fld := ⟨0x9004, 16, 16⟩
def BDAC_STATUS_FORCED : Fld := ⟨0x9004, 15, 0⟩
def BDAC_INT_STATUS : Fld := ⟨0x9008, 31, 0⟩
def BDAC_INT_STATUS_CLR_RELEASED : Fld := ⟨0x9008, 1, 1⟩
def BDAC_INT_STATUS_CLR_PIN : Fld := ⟨0x9008, 0, 0⟩
def BDAC_INT_EN : Fld := ⟨0x900C, 1, 0⟩
def BDAC_CODE (k : Nat) : Fld := ⟨0x9100 + 0x4 * k, 31, 0⟩
def BDAC_CODE_GAIN (k : Nat) : Fld := ⟨0x9100 + 0x4 * k, 16, 16⟩
def BDAC_CODE_CODE (k : Nat) : Fld := ⟨0x9100 + 0x4 * k, 15, 0⟩
def BDAC_CLR (k : Nat) : Fld := ⟨0x9180 + 0x4 * k, 31, 0⟩
def BDAC_CLR_CLR_GAIN (k : Nat) : Fld := ⟨0x9180 + 0x4 * k, 16, 16⟩
def BDAC_CLR_CLR_CODE (k : Nat) : Fld := ⟨0x9180 + 0x4 * k, 15, 0⟩
def BDAC_OUT (k : Nat) : Fld := ⟨0x9200 + 0x4 * k, 31, 0⟩
def BDAC_OUT_GAIN (k : Nat) : Fld := ⟨0x9200 + 0x4 * k, 16, 16⟩
def BDAC_OUT_CODE (k : Nat) : Fld := ⟨0x9200 + 0x4 * k, 15, 0⟩
def CAL_CTRL : Fld := ⟨0xA000, 31, 0⟩
def CAL_CTRL_MODE : Fld := ⟨0xA000, 0, 0⟩
def CAL_STATUS : Fld := ⟨0xA004, 31, 0⟩
def CAL_STATUS_SAVING : Fld := ⟨0xA004, 3, 3⟩
def CAL_STATUS_CAL_PARTIAL : Fld := ⟨0xA004, 2, 2⟩
def CAL_STATUS_SLOT : Fld := ⟨0xA004, 1, 1⟩
def CAL_STATUS_LOADED : Fld := ⟨0xA004, 0, 0⟩
def CAL_SEQ : Fld := ⟨0xA008, 31, 0⟩
def CAL_COMPAT_LIM : Fld := ⟨0xA00C, 31, 0⟩
def CAL_COMPAT_LIM_SKEW : Fld := ⟨0xA00C, 25, 16⟩
def CAL_COMPAT_LIM_GAIN : Fld := ⟨0xA00C, 15, 8⟩
def CAL_COMPAT_LIM_OFFSET : Fld := ⟨0xA00C, 7, 0⟩
def CAL_INT_STATUS : Fld := ⟨0xA010, 31, 0⟩
def CAL_INT_STATUS_SAVE_FAIL : Fld := ⟨0xA010, 2, 2⟩
def CAL_INT_STATUS_SAVE_DONE : Fld := ⟨0xA010, 1, 1⟩
def CAL_INT_STATUS_PARTIAL : Fld := ⟨0xA010, 0, 0⟩
def CAL_INT_EN : Fld := ⟨0xA014, 2, 0⟩
def FAB_CFG : Fld := ⟨0xB000, 31, 0⟩
def FAB_CFG_ISL_BND : Fld := ⟨0xB000, 31, 24⟩
def FAB_CFG_REALM_BND : Fld := ⟨0xB000, 23, 16⟩
def FAB_CFG_PLT_EN : Fld := ⟨0xB000, 15, 8⟩
def FAB_CFG_HM_CAP : Fld := ⟨0xB000, 2, 2⟩
def FAB_CFG_FAB_EN : Fld := ⟨0xB000, 0, 0⟩
def FAB_STATUS : Fld := ⟨0xB004, 31, 0⟩
def FAB_STATUS_ADDR_VALID : Fld := ⟨0xB004, 7, 7⟩
def FAB_STATUS_QM : Fld := ⟨0xB004, 6, 6⟩
def FAB_STATUS_HM : Fld := ⟨0xB004, 5, 5⟩
def FAB_STATUS_AUTH : Fld := ⟨0xB004, 4, 4⟩
def FAB_STATUS_KEYED : Fld := ⟨0xB004, 3, 3⟩
def FAB_STATUS_HM_KNOWN : Fld := ⟨0xB004, 2, 2⟩
def FAB_STATUS_PULLING : Fld := ⟨0xB004, 1, 1⟩
def FAB_STATUS_RUN : Fld := ⟨0xB004, 0, 0⟩
def FAB_ADDR : Fld := ⟨0xB008, 31, 0⟩
def FAB_ADDR_VALID : Fld := ⟨0xB008, 31, 31⟩
def FAB_ADDR_ADDR : Fld := ⟨0xB008, 24, 0⟩
def FAB_ID : Fld := ⟨0xB00C, 31, 0⟩
def FAB_ID_HI : Fld := ⟨0xB010, 31, 0⟩
def FAB_HM_ID : Fld := ⟨0xB014, 31, 0⟩
def FAB_HM_ID_HI : Fld := ⟨0xB018, 31, 0⟩
def FAB_QM_ID : Fld := ⟨0xB01C, 31, 0⟩
def FAB_QM_ID_HI : Fld := ⟨0xB020, 31, 0⟩
def FAB_EPOCH : Fld := ⟨0xB024, 31, 0⟩
def FAB_MEMBERS : Fld := ⟨0xB028, 31, 0⟩
def FAB_MEMBERS_R : Fld := ⟨0xB028, 31, 16⟩
def FAB_MEMBERS_M : Fld := ⟨0xB028, 15, 0⟩
def FAB_ISL : Fld := ⟨0xB02C, 31, 0⟩
def FAB_ISL_GO : Fld := ⟨0xB02C, 16, 16⟩
def FAB_ISL_ISL_DEFAULT : Fld := ⟨0xB02C, 15, 8⟩
def FAB_ISL_ISL_SET : Fld := ⟨0xB02C, 7, 0⟩
def FAB_ADJ : Fld := ⟨0xB030, 15, 0⟩
def FAB_RT_USE : Fld := ⟨0xB034, 31, 0⟩
def FAB_RT_USE_REALM : Fld := ⟨0xB034, 28, 25⟩
def FAB_RT_USE_ISLAND : Fld := ⟨0xB034, 24, 16⟩
def FAB_RT_USE_CLUSTER : Fld := ⟨0xB034, 15, 7⟩
def FAB_RT_USE_DEVICE : Fld := ⟨0xB034, 6, 0⟩
def FAB_INT_STATUS : Fld := ⟨0xB038, 31, 0⟩
def FAB_INT_STATUS_TABLE_ROLL : Fld := ⟨0xB038, 11, 11⟩
def FAB_INT_STATUS_NOT_AUTH : Fld := ⟨0xB038, 10, 10⟩
def FAB_INT_STATUS_CLUSTER_FULL : Fld := ⟨0xB038, 9, 9⟩
def FAB_INT_STATUS_TABLE_FULL : Fld := ⟨0xB038, 8, 8⟩
def FAB_INT_STATUS_CLASH : Fld := ⟨0xB038, 7, 7⟩
def FAB_INT_STATUS_TAG_FAIL : Fld := ⟨0xB038, 6, 6⟩
def FAB_INT_STATUS_RECORD_COMMIT : Fld := ⟨0xB038, 5, 5⟩
def FAB_INT_STATUS_AUTH_CHG : Fld := ⟨0xB038, 4, 4⟩
def FAB_INT_STATUS_HM_CHG : Fld := ⟨0xB038, 3, 3⟩
def FAB_INT_STATUS_QM_CHG : Fld := ⟨0xB038, 2, 2⟩
def FAB_INT_STATUS_ADDR_CHG : Fld := ⟨0xB038, 1, 1⟩
def FAB_INT_STATUS_ADJ_CHG : Fld := ⟨0xB038, 0, 0⟩
def FAB_INT_EN : Fld := ⟨0xB03C, 11, 0⟩
def FAB_ACL_DEF : Fld := ⟨0xB040, 2, 0⟩
def FAB_ACL_CFG (k : Nat) : Fld := ⟨0xB100 + 0x10 * k, 31, 0⟩
def FAB_ACL_CFG_KIND (k : Nat) : Fld := ⟨0xB100 + 0x10 * k, 31, 30⟩
def FAB_ACL_CFG_PLEN (k : Nat) : Fld := ⟨0xB100 + 0x10 * k, 12, 8⟩
def FAB_ACL_CFG_CLASSES (k : Nat) : Fld := ⟨0xB100 + 0x10 * k, 2, 0⟩
def FAB_ACL_LO (k : Nat) : Fld := ⟨0xB104 + 0x10 * k, 31, 0⟩
def FAB_ACL_HI (k : Nat) : Fld := ⟨0xB108 + 0x10 * k, 31, 0⟩
def FAB_TX : Fld := ⟨0xB200, 31, 0⟩
def FAB_TX_HI : Fld := ⟨0xB204, 31, 0⟩
def FAB_FWD : Fld := ⟨0xB208, 31, 0⟩
def FAB_FWD_HI : Fld := ⟨0xB20C, 31, 0⟩
def FAB_ERR_A : Fld := ⟨0xB210, 31, 0⟩
def FAB_ERR_A_TAG_FAIL : Fld := ⟨0xB210, 31, 16⟩
def FAB_ERR_A_REPLAY : Fld := ⟨0xB210, 15, 0⟩
def FAB_ERR_B : Fld := ⟨0xB214, 31, 0⟩
def FAB_ERR_B_HOP_LIMIT : Fld := ⟨0xB214, 31, 16⟩
def FAB_ERR_B_NO_ROUTE : Fld := ⟨0xB214, 15, 0⟩
def FAB_ERR_C : Fld := ⟨0xB218, 31, 0⟩
def FAB_ERR_C_NONCE_SENT : Fld := ⟨0xB218, 31, 16⟩
def FAB_ERR_C_TABLE_ROLL : Fld := ⟨0xB218, 15, 0⟩
def FAB_ERR_D : Fld := ⟨0xB21C, 31, 0⟩
def FAB_ERR_D_NOT_AUTH : Fld := ⟨0xB21C, 31, 16⟩
def FAB_ERR_D_BUF_DROP : Fld := ⟨0xB21C, 15, 0⟩
def HWS_CTRL (p : Nat) : Fld := ⟨0xC000 + 0x200 * p, 31, 0⟩
def HWS_CTRL_LOOP (p : Nat) : Fld := ⟨0xC000 + 0x200 * p, 1, 1⟩
def HWS_CTRL_HWS_EN (p : Nat) : Fld := ⟨0xC000 + 0x200 * p, 0, 0⟩
def HWS_STATUS (p : Nat) : Fld := ⟨0xC004 + 0x200 * p, 31, 0⟩
def HWS_STATUS_ADJ (p : Nat) : Fld := ⟨0xC004 + 0x200 * p, 2, 2⟩
def HWS_STATUS_SYNC (p : Nat) : Fld := ⟨0xC004 + 0x200 * p, 1, 1⟩
def HWS_STATUS_SIGNAL (p : Nat) : Fld := ⟨0xC004 + 0x200 * p, 0, 0⟩
def HWS_INT_STATUS (p : Nat) : Fld := ⟨0xC008 + 0x200 * p, 31, 0⟩
def HWS_INT_STATUS_CRC_ERR (p : Nat) : Fld := ⟨0xC008 + 0x200 * p, 2, 2⟩
def HWS_INT_STATUS_LINK_DOWN (p : Nat) : Fld := ⟨0xC008 + 0x200 * p, 1, 1⟩
def HWS_INT_STATUS_LINK_UP (p : Nat) : Fld := ⟨0xC008 + 0x200 * p, 0, 0⟩
def HWS_INT_EN (p : Nat) : Fld := ⟨0xC00C + 0x200 * p, 2, 0⟩
def HWS_ERR (p : Nat) : Fld := ⟨0xC010 + 0x200 * p, 31, 0⟩
def HWS_ERR_CODE (p : Nat) : Fld := ⟨0xC010 + 0x200 * p, 31, 16⟩
def HWS_ERR_CRC_ERR (p : Nat) : Fld := ⟨0xC010 + 0x200 * p, 15, 0⟩
def HWS_FRM_RX (p : Nat) : Fld := ⟨0xC020 + 0x200 * p, 31, 0⟩
def HWS_FRM_RX_HI (p : Nat) : Fld := ⟨0xC024 + 0x200 * p, 31, 0⟩
def LRX_CTRL (n : Nat) : Fld := ⟨0x10000 + 0x2000 * n, 31, 0⟩
def LRX_CTRL_RATE (n : Nat) : Fld := ⟨0x10000 + 0x2000 * n, 4, 3⟩
def LRX_CTRL_PRECODE (n : Nat) : Fld := ⟨0x10000 + 0x2000 * n, 2, 2⟩
def LRX_CTRL_ADAPT_HOLD (n : Nat) : Fld := ⟨0x10000 + 0x2000 * n, 1, 1⟩
def LRX_CTRL_REACQ (n : Nat) : Fld := ⟨0x10000 + 0x2000 * n, 0, 0⟩
def LRX_STATUS (n : Nat) : Fld := ⟨0x10004 + 0x2000 * n, 31, 0⟩
def LRX_STATUS_RANGE_CUR (n : Nat) : Fld := ⟨0x10004 + 0x2000 * n, 16, 16⟩
def LRX_STATUS_GAIN_CUR (n : Nat) : Fld := ⟨0x10004 + 0x2000 * n, 15, 12⟩
def LRX_STATUS_ACQ_STEP (n : Nat) : Fld := ⟨0x10004 + 0x2000 * n, 11, 8⟩
def LRX_STATUS_TIA_CEIL (n : Nat) : Fld := ⟨0x10004 + 0x2000 * n, 7, 7⟩
def LRX_STATUS_TIA_FLOOR (n : Nat) : Fld := ⟨0x10004 + 0x2000 * n, 6, 6⟩
def LRX_STATUS_DCB_FROZEN (n : Nat) : Fld := ⟨0x10004 + 0x2000 * n, 5, 5⟩
def LRX_STATUS_TAPS24 (n : Nat) : Fld := ⟨0x10004 + 0x2000 * n, 4, 4⟩
def LRX_STATUS_INNER_LOCK (n : Nat) : Fld := ⟨0x10004 + 0x2000 * n, 3, 3⟩
def LRX_STATUS_PHASE_LOCK (n : Nat) : Fld := ⟨0x10004 + 0x2000 * n, 2, 2⟩
def LRX_STATUS_FREQ_LOCK (n : Nat) : Fld := ⟨0x10004 + 0x2000 * n, 1, 1⟩
def LRX_STATUS_LOS (n : Nat) : Fld := ⟨0x10004 + 0x2000 * n, 0, 0⟩
def LRX_TIA (n : Nat) : Fld := ⟨0x10008 + 0x2000 * n, 31, 0⟩
def LRX_TIA_UP_EN (n : Nat) : Fld := ⟨0x10008 + 0x2000 * n, 6, 6⟩
def LRX_TIA_AUTO (n : Nat) : Fld := ⟨0x10008 + 0x2000 * n, 5, 5⟩
def LRX_TIA_RANGE (n : Nat) : Fld := ⟨0x10008 + 0x2000 * n, 4, 4⟩
def LRX_TIA_GAIN_SET (n : Nat) : Fld := ⟨0x10008 + 0x2000 * n, 3, 0⟩
def LRX_DCB (n : Nat) : Fld := ⟨0x1000C + 0x2000 * n, 31, 0⟩
def LRX_DCB_AUTO_FREEZE (n : Nat) : Fld := ⟨0x1000C + 0x2000 * n, 3, 3⟩
def LRX_DCB_FREEZE (n : Nat) : Fld := ⟨0x1000C + 0x2000 * n, 2, 2⟩
def LRX_DCB_CORNER (n : Nat) : Fld := ⟨0x1000C + 0x2000 * n, 1, 0⟩
def LRX_DCB_EST (n : Nat) : Fld := ⟨0x10010 + 0x2000 * n, 19, 0⟩
def LRX_FFE_CFG (n : Nat) : Fld := ⟨0x10014 + 0x2000 * n, 31, 0⟩
def LRX_FFE_CFG_TAPS24 (n : Nat) : Fld := ⟨0x10014 + 0x2000 * n, 16, 16⟩
def LRX_FFE_CFG_MAIN (n : Nat) : Fld := ⟨0x10014 + 0x2000 * n, 15, 6⟩
def LRX_FFE_CFG_CURSOR (n : Nat) : Fld := ⟨0x10014 + 0x2000 * n, 5, 0⟩
def LRX_MLSE_CFG (n : Nat) : Fld := ⟨0x10018 + 0x2000 * n, 31, 0⟩
def LRX_MLSE_CFG_MLSE_EN (n : Nat) : Fld := ⟨0x10018 + 0x2000 * n, 5, 5⟩
def LRX_MLSE_CFG_DFE_EN (n : Nat) : Fld := ⟨0x10018 + 0x2000 * n, 4, 4⟩
def LRX_MLSE_CFG_SOFT_SCALE (n : Nat) : Fld := ⟨0x10018 + 0x2000 * n, 3, 0⟩
def LRX_ADAPT (n : Nat) : Fld := ⟨0x1001C + 0x2000 * n, 31, 0⟩
def LRX_ADAPT_LVL_MU_TRK (n : Nat) : Fld := ⟨0x1001C + 0x2000 * n, 29, 25⟩
def LRX_ADAPT_LVL_MU_ACQ (n : Nat) : Fld := ⟨0x1001C + 0x2000 * n, 24, 20⟩
def LRX_ADAPT_MLSE_MU_TRK (n : Nat) : Fld := ⟨0x1001C + 0x2000 * n, 19, 15⟩
def LRX_ADAPT_MLSE_MU_ACQ (n : Nat) : Fld := ⟨0x1001C + 0x2000 * n, 14, 10⟩
def LRX_ADAPT_FFE_MU_TRK (n : Nat) : Fld := ⟨0x1001C + 0x2000 * n, 9, 5⟩
def LRX_ADAPT_FFE_MU_ACQ (n : Nat) : Fld := ⟨0x1001C + 0x2000 * n, 4, 0⟩
def LRX_CDR_CFG (n : Nat) : Fld := ⟨0x10020 + 0x2000 * n, 31, 0⟩
def LRX_CDR_CFG_KI_TRK (n : Nat) : Fld := ⟨0x10020 + 0x2000 * n, 17, 13⟩
def LRX_CDR_CFG_KI_ACQ (n : Nat) : Fld := ⟨0x10020 + 0x2000 * n, 12, 8⟩
def LRX_CDR_CFG_KP_TRK (n : Nat) : Fld := ⟨0x10020 + 0x2000 * n, 7, 4⟩
def LRX_CDR_CFG_KP_ACQ (n : Nat) : Fld := ⟨0x10020 + 0x2000 * n, 3, 0⟩
def LRX_CDR_FREQ (n : Nat) : Fld := ⟨0x10024 + 0x2000 * n, 19, 0⟩
def LRX_LOS_CFG (n : Nat) : Fld := ⟨0x10028 + 0x2000 * n, 31, 0⟩
def LRX_LOS_CFG_LOS_HYS (n : Nat) : Fld := ⟨0x10028 + 0x2000 * n, 11, 8⟩
def LRX_LOS_CFG_LOS_TH (n : Nat) : Fld := ⟨0x10028 + 0x2000 * n, 6, 0⟩
def LRX_AGC_CFG (n : Nat) : Fld := ⟨0x1002C + 0x2000 * n, 31, 0⟩
def LRX_AGC_CFG_UP_WIN (n : Nat) : Fld := ⟨0x1002C + 0x2000 * n, 23, 16⟩
def LRX_AGC_CFG_UP_TH (n : Nat) : Fld := ⟨0x1002C + 0x2000 * n, 15, 0⟩
def LRX_CLIP_MAP_LO (n : Nat) : Fld := ⟨0x10030 + 0x2000 * n, 31, 0⟩
def LRX_CLIP_MAP_HI (n : Nat) : Fld := ⟨0x10034 + 0x2000 * n, 31, 0⟩
def LRX_INT_STATUS (n : Nat) : Fld := ⟨0x10038 + 0x2000 * n, 31, 0⟩
def LRX_INT_STATUS_ACQ_FAIL (n : Nat) : Fld := ⟨0x10038 + 0x2000 * n, 7, 7⟩
def LRX_INT_STATUS_GAIN_STEP (n : Nat) : Fld := ⟨0x10038 + 0x2000 * n, 6, 6⟩
def LRX_INT_STATUS_FFE_SAT (n : Nat) : Fld := ⟨0x10038 + 0x2000 * n, 5, 5⟩
def LRX_INT_STATUS_TIA_LIMIT (n : Nat) : Fld := ⟨0x10038 + 0x2000 * n, 4, 4⟩
def LRX_INT_STATUS_INNER_LOCK (n : Nat) : Fld := ⟨0x10038 + 0x2000 * n, 3, 3⟩
def LRX_INT_STATUS_LOCK_LOSS (n : Nat) : Fld := ⟨0x10038 + 0x2000 * n, 2, 2⟩
def LRX_INT_STATUS_LOS_CLR (n : Nat) : Fld := ⟨0x10038 + 0x2000 * n, 1, 1⟩
def LRX_INT_STATUS_LOS_SET (n : Nat) : Fld := ⟨0x10038 + 0x2000 * n, 0, 0⟩
def LRX_INT_EN (n : Nat) : Fld := ⟨0x1003C + 0x2000 * n, 7, 0⟩
def LRX_STATE (n : Nat) : Fld := ⟨0x10040 + 0x2000 * n, 31, 0⟩
def LRX_STATE_RX_PENDING (n : Nat) : Fld := ⟨0x10040 + 0x2000 * n, 12, 10⟩
def LRX_STATE_RX_TRANS (n : Nat) : Fld := ⟨0x10040 + 0x2000 * n, 9, 7⟩
def LRX_STATE_RX_STATE (n : Nat) : Fld := ⟨0x10040 + 0x2000 * n, 6, 4⟩
def LRX_STATE_RX_STATE_REQ (n : Nat) : Fld := ⟨0x10040 + 0x2000 * n, 2, 0⟩
def LRX_FFE_TAP (n k : Nat) : Fld := ⟨0x10100 + 0x2000 * n + 0x4 * k, 9, 0⟩
def LRX_MLSE_G (n g : Nat) : Fld := ⟨0x101A0 + 0x2000 * n + 0x4 * g, 9, 0⟩
def LRX_LEVEL (n a : Nat) : Fld := ⟨0x101B0 + 0x2000 * n + 0x4 * a, 19, 0⟩
def LRX_OVR_CNT (n : Nat) : Fld := ⟨0x10200 + 0x2000 * n, 31, 0⟩
def LRX_OVR_CNT_HI (n : Nat) : Fld := ⟨0x10204 + 0x2000 * n, 31, 0⟩
def LRX_ICW_TOTAL (n : Nat) : Fld := ⟨0x10208 + 0x2000 * n, 31, 0⟩
def LRX_ICW_TOTAL_HI (n : Nat) : Fld := ⟨0x1020C + 0x2000 * n, 31, 0⟩
def LRX_ICW_CORR (n : Nat) : Fld := ⟨0x10210 + 0x2000 * n, 31, 0⟩
def LRX_ICW_CORR_HI (n : Nat) : Fld := ⟨0x10214 + 0x2000 * n, 31, 0⟩
def LRX_ICW_FAIL (n : Nat) : Fld := ⟨0x10218 + 0x2000 * n, 31, 0⟩
def LRX_ICW_FAIL_HI (n : Nat) : Fld := ⟨0x1021C + 0x2000 * n, 31, 0⟩
def LRX_FFE_SAT (n : Nat) : Fld := ⟨0x10220 + 0x2000 * n, 31, 0⟩
def LRX_FFE_SAT_HI (n : Nat) : Fld := ⟨0x10224 + 0x2000 * n, 31, 0⟩
def LRX_GAIN_STEPS (n : Nat) : Fld := ⟨0x10228 + 0x2000 * n, 31, 0⟩
def LRX_GAIN_STEPS_UP (n : Nat) : Fld := ⟨0x10228 + 0x2000 * n, 31, 16⟩
def LRX_GAIN_STEPS_DOWN (n : Nat) : Fld := ⟨0x10228 + 0x2000 * n, 15, 0⟩
def LRX_LOCK_EVENTS (n : Nat) : Fld := ⟨0x1022C + 0x2000 * n, 31, 0⟩
def LRX_LOCK_EVENTS_ACQ_RETRY (n : Nat) : Fld := ⟨0x1022C + 0x2000 * n, 31, 16⟩
def LRX_LOCK_EVENTS_LOCK_LOSS (n : Nat) : Fld := ⟨0x1022C + 0x2000 * n, 15, 0⟩
def LRX_CW_TOTAL (n k : Nat) : Fld := ⟨0x10400 + 0x2000 * n + 0x40 * k, 31, 0⟩
def LRX_CW_TOTAL_HI (n k : Nat) : Fld := ⟨0x10404 + 0x2000 * n + 0x40 * k, 31, 0⟩
def LRX_CW_NZ (n k : Nat) : Fld := ⟨0x10408 + 0x2000 * n + 0x40 * k, 31, 0⟩
def LRX_CW_NZ_HI (n k : Nat) : Fld := ⟨0x1040C + 0x2000 * n + 0x40 * k, 31, 0⟩
def LRX_CW_CORR (n k : Nat) : Fld := ⟨0x10410 + 0x2000 * n + 0x40 * k, 31, 0⟩
def LRX_CW_CORR_HI (n k : Nat) : Fld := ⟨0x10414 + 0x2000 * n + 0x40 * k, 31, 0⟩
def LRX_CW_FAIL (n k : Nat) : Fld := ⟨0x10418 + 0x2000 * n + 0x40 * k, 31, 0⟩
def LRX_CW_FAIL_HI (n k : Nat) : Fld := ⟨0x1041C + 0x2000 * n + 0x40 * k, 31, 0⟩
def LRX_CW_MISS (n k : Nat) : Fld := ⟨0x10420 + 0x2000 * n + 0x40 * k, 31, 0⟩
def LRX_CW_MISS_HI (n k : Nat) : Fld := ⟨0x10424 + 0x2000 * n + 0x40 * k, 31, 0⟩
def LRX_SYM_CORR (n k : Nat) : Fld := ⟨0x10428 + 0x2000 * n + 0x40 * k, 31, 0⟩
def LRX_SYM_CORR_HI (n k : Nat) : Fld := ⟨0x1042C + 0x2000 * n + 0x40 * k, 31, 0⟩
def LRX_SYN_CTRL (n : Nat) : Fld := ⟨0x10480 + 0x2000 * n, 31, 0⟩
def LRX_SYN_CTRL_TERM (n : Nat) : Fld := ⟨0x10480 + 0x2000 * n, 0, 0⟩
def LRX_SYN_STATUS (n : Nat) : Fld := ⟨0x10484 + 0x2000 * n, 31, 0⟩
def LRX_SYN_STATUS_AM_PERIOD_VALID (n : Nat) : Fld := ⟨0x10484 + 0x2000 * n, 1, 1⟩
def LRX_SYN_STATUS_POOL_USE (n : Nat) : Fld := ⟨0x10484 + 0x2000 * n, 0, 0⟩
def LRX_CORR_HIST (n j : Nat) : Fld := ⟨0x10500 + 0x2000 * n + 0x4 * j, 31, 0⟩
def LRX_BW_CTRL (n : Nat) : Fld := ⟨0x10800 + 0x2000 * n, 31, 0⟩
def LRX_BW_CTRL_MM_MARK (n : Nat) : Fld := ⟨0x10800 + 0x2000 * n, 1, 1⟩
def LRX_BW_CTRL_REHUNT (n : Nat) : Fld := ⟨0x10800 + 0x2000 * n, 0, 0⟩
def LRX_BW_STATUS (n : Nat) : Fld := ⟨0x10804 + 0x2000 * n, 31, 0⟩
def LRX_BW_STATUS_PHASE (n : Nat) : Fld := ⟨0x10804 + 0x2000 * n, 13, 8⟩
def LRX_BW_STATUS_SUBST (n : Nat) : Fld := ⟨0x10804 + 0x2000 * n, 5, 5⟩
def LRX_BW_STATUS_E2_HOLD (n : Nat) : Fld := ⟨0x10804 + 0x2000 * n, 4, 4⟩
def LRX_BW_STATUS_PARITY_HUNT (n : Nat) : Fld := ⟨0x10804 + 0x2000 * n, 3, 3⟩
def LRX_BW_STATUS_PARITY_LOCK (n : Nat) : Fld := ⟨0x10804 + 0x2000 * n, 2, 2⟩
def LRX_BW_STATUS_FRAME_LOCK (n : Nat) : Fld := ⟨0x10804 + 0x2000 * n, 1, 1⟩
def LRX_BW_STATUS_NATIVE (n : Nat) : Fld := ⟨0x10804 + 0x2000 * n, 0, 0⟩
def LRX_BW_INT_STATUS (n : Nat) : Fld := ⟨0x10808 + 0x2000 * n, 31, 0⟩
def LRX_BW_INT_STATUS_UNRECOV (n : Nat) : Fld := ⟨0x10808 + 0x2000 * n, 4, 4⟩
def LRX_BW_INT_STATUS_MISMATCH (n : Nat) : Fld := ⟨0x10808 + 0x2000 * n, 3, 3⟩
def LRX_BW_INT_STATUS_FRAME_REHUNT (n : Nat) : Fld := ⟨0x10808 + 0x2000 * n, 2, 2⟩
def LRX_BW_INT_STATUS_PARITY_LOSS (n : Nat) : Fld := ⟨0x10808 + 0x2000 * n, 1, 1⟩
def LRX_BW_INT_STATUS_PARITY_LOCK (n : Nat) : Fld := ⟨0x10808 + 0x2000 * n, 0, 0⟩
def LRX_BW_INT_EN (n : Nat) : Fld := ⟨0x1080C + 0x2000 * n, 4, 0⟩
def LRX_BW_EVENTS (n : Nat) : Fld := ⟨0x10810 + 0x2000 * n, 31, 0⟩
def LRX_BW_EVENTS_FRAME_REHUNT (n : Nat) : Fld := ⟨0x10810 + 0x2000 * n, 31, 16⟩
def LRX_BW_EVENTS_PARITY_LOSS (n : Nat) : Fld := ⟨0x10810 + 0x2000 * n, 15, 0⟩
def LRX_BW_GROUPS (n k : Nat) : Fld := ⟨0x10840 + 0x2000 * n + 0x40 * k, 31, 0⟩
def LRX_BW_GROUPS_HI (n k : Nat) : Fld := ⟨0x10844 + 0x2000 * n + 0x40 * k, 31, 0⟩
def LRX_BW_REBUILT (n k : Nat) : Fld := ⟨0x10848 + 0x2000 * n + 0x40 * k, 31, 0⟩
def LRX_BW_REBUILT_HI (n k : Nat) : Fld := ⟨0x1084C + 0x2000 * n + 0x40 * k, 31, 0⟩
def LRX_BW_UNRECOV (n k : Nat) : Fld := ⟨0x10850 + 0x2000 * n + 0x40 * k, 31, 0⟩
def LRX_BW_UNRECOV_HI (n k : Nat) : Fld := ⟨0x10854 + 0x2000 * n + 0x40 * k, 31, 0⟩
def LRX_BW_MISMATCH (n k : Nat) : Fld := ⟨0x10858 + 0x2000 * n + 0x40 * k, 31, 0⟩
def LRX_BW_MISMATCH_HI (n k : Nat) : Fld := ⟨0x1085C + 0x2000 * n + 0x40 * k, 31, 0⟩
def LRX_BW_PAR_ERASED (n k : Nat) : Fld := ⟨0x10860 + 0x2000 * n + 0x40 * k, 31, 0⟩
def LRX_BW_PAR_ERASED_HI (n k : Nat) : Fld := ⟨0x10864 + 0x2000 * n + 0x40 * k, 31, 0⟩
def LRX_BW_E2_SKIP (n k : Nat) : Fld := ⟨0x10868 + 0x2000 * n + 0x40 * k, 31, 0⟩
def LRX_BW_E2_SKIP_HI (n k : Nat) : Fld := ⟨0x1086C + 0x2000 * n + 0x40 * k, 31, 0⟩
def LRX_CAL_CTRL (n : Nat) : Fld := ⟨0x11000 + 0x2000 * n, 31, 0⟩
def LRX_CAL_CTRL_EST_WIN (n : Nat) : Fld := ⟨0x11000 + 0x2000 * n, 12, 8⟩
def LRX_CAL_CTRL_TRIM_K (n : Nat) : Fld := ⟨0x11000 + 0x2000 * n, 7, 4⟩
def LRX_CAL_CTRL_APPLY_EN (n : Nat) : Fld := ⟨0x11000 + 0x2000 * n, 1, 1⟩
def LRX_CAL_CTRL_EST_EN (n : Nat) : Fld := ⟨0x11000 + 0x2000 * n, 0, 0⟩
def LRX_CAL_STATUS (n : Nat) : Fld := ⟨0x11004 + 0x2000 * n, 31, 0⟩
def LRX_CAL_STATUS_PLL_BAND_LIMIT (n : Nat) : Fld := ⟨0x11004 + 0x2000 * n, 3, 3⟩
def LRX_CAL_STATUS_SET_PENDING (n : Nat) : Fld := ⟨0x11004 + 0x2000 * n, 2, 2⟩
def LRX_CAL_STATUS_SECOND (n : Nat) : Fld := ⟨0x11004 + 0x2000 * n, 1, 1⟩
def LRX_CAL_STATUS_RUNNING (n : Nat) : Fld := ⟨0x11004 + 0x2000 * n, 0, 0⟩
def LRX_CAL_EVENTS (n : Nat) : Fld := ⟨0x11008 + 0x2000 * n, 31, 0⟩
def LRX_CAL_EVENTS_ACCEPT (n : Nat) : Fld := ⟨0x11008 + 0x2000 * n, 31, 16⟩
def LRX_CAL_EVENTS_REJECT (n : Nat) : Fld := ⟨0x11008 + 0x2000 * n, 15, 0⟩
def LRX_TIA_TRIM (n : Nat) : Fld := ⟨0x1100C + 0x2000 * n, 7, 0⟩
def LRX_PLL_CAL (n : Nat) : Fld := ⟨0x11010 + 0x2000 * n, 31, 0⟩
def LRX_PLL_CAL_BAND (n : Nat) : Fld := ⟨0x11010 + 0x2000 * n, 13, 8⟩
def LRX_PLL_CAL_FINE (n : Nat) : Fld := ⟨0x11010 + 0x2000 * n, 6, 0⟩
def LRX_CAL_INT_STATUS (n : Nat) : Fld := ⟨0x11014 + 0x2000 * n, 31, 0⟩
def LRX_CAL_INT_STATUS_PLL_BAND_LIMIT (n : Nat) : Fld := ⟨0x11014 + 0x2000 * n, 2, 2⟩
def LRX_CAL_INT_STATUS_REJECT (n : Nat) : Fld := ⟨0x11014 + 0x2000 * n, 1, 1⟩
def LRX_CAL_INT_STATUS_ACCEPT (n : Nat) : Fld := ⟨0x11014 + 0x2000 * n, 0, 0⟩
def LRX_CAL_INT_EN (n : Nat) : Fld := ⟨0x11018 + 0x2000 * n, 2, 0⟩
def LRX_ADC_TRIM (n j : Nat) : Fld := ⟨0x11100 + 0x2000 * n + 0x4 * j, 31, 0⟩
def LRX_ADC_TRIM_SKEW (n j : Nat) : Fld := ⟨0x11100 + 0x2000 * n + 0x4 * j, 25, 16⟩
def LRX_ADC_TRIM_GAIN (n j : Nat) : Fld := ⟨0x11100 + 0x2000 * n + 0x4 * j, 15, 8⟩
def LRX_ADC_TRIM_OFFSET (n j : Nat) : Fld := ⟨0x11100 + 0x2000 * n + 0x4 * j, 7, 0⟩
def LTX_CTRL (n : Nat) : Fld := ⟨0x20000 + 0x1000 * n, 31, 0⟩
def LTX_CTRL_DIS_BIAS (n : Nat) : Fld := ⟨0x20000 + 0x1000 * n, 11, 11⟩
def LTX_CTRL_PILOT_KEEP (n : Nat) : Fld := ⟨0x20000 + 0x1000 * n, 10, 10⟩
def LTX_CTRL_PIN_EN (n : Nat) : Fld := ⟨0x20000 + 0x1000 * n, 9, 9⟩
def LTX_CTRL_TX_DIS (n : Nat) : Fld := ⟨0x20000 + 0x1000 * n, 8, 8⟩
def LTX_CTRL_STATE_REQ (n : Nat) : Fld := ⟨0x20000 + 0x1000 * n, 2, 0⟩
def LTX_STATUS (n : Nat) : Fld := ⟨0x20004 + 0x1000 * n, 31, 0⟩
def LTX_STATUS_PLL_BAND_LIMIT (n : Nat) : Fld := ⟨0x20004 + 0x1000 * n, 20, 20⟩
def LTX_STATUS_SQ_SHUTDOWN (n : Nat) : Fld := ⟨0x20004 + 0x1000 * n, 19, 19⟩
def LTX_STATUS_SQ_SAFE (n : Nat) : Fld := ⟨0x20004 + 0x1000 * n, 18, 18⟩
def LTX_STATUS_SQ_DIS (n : Nat) : Fld := ⟨0x20004 + 0x1000 * n, 17, 17⟩
def LTX_STATUS_LIVE (n : Nat) : Fld := ⟨0x20004 + 0x1000 * n, 16, 16⟩
def LTX_STATUS_DPD_FROZEN (n : Nat) : Fld := ⟨0x20004 + 0x1000 * n, 15, 15⟩
def LTX_STATUS_RAMP (n : Nat) : Fld := ⟨0x20004 + 0x1000 * n, 14, 14⟩
def LTX_STATUS_PILOT_LF (n : Nat) : Fld := ⟨0x20004 + 0x1000 * n, 13, 13⟩
def LTX_STATUS_PILOT_LVL (n : Nat) : Fld := ⟨0x20004 + 0x1000 * n, 12, 12⟩
def LTX_STATUS_PLL_CAL (n : Nat) : Fld := ⟨0x20004 + 0x1000 * n, 11, 11⟩
def LTX_STATUS_PLL_LOCK (n : Nat) : Fld := ⟨0x20004 + 0x1000 * n, 10, 10⟩
def LTX_STATUS_PENDING (n : Nat) : Fld := ⟨0x20004 + 0x1000 * n, 9, 7⟩
def LTX_STATUS_TRANS (n : Nat) : Fld := ⟨0x20004 + 0x1000 * n, 6, 4⟩
def LTX_STATUS_STATE (n : Nat) : Fld := ⟨0x20004 + 0x1000 * n, 2, 0⟩
def LTX_CFG (n : Nat) : Fld := ⟨0x20008 + 0x1000 * n, 31, 0⟩
def LTX_CFG_TX_PRECODE (n : Nat) : Fld := ⟨0x20008 + 0x1000 * n, 4, 4⟩
def LTX_CFG_POWER_IDX (n : Nat) : Fld := ⟨0x20008 + 0x1000 * n, 3, 0⟩
def LTX_DPD_CTRL (n : Nat) : Fld := ⟨0x2000C + 0x1000 * n, 31, 0⟩
def LTX_DPD_CTRL_DPD_MU (n : Nat) : Fld := ⟨0x2000C + 0x1000 * n, 19, 16⟩
def LTX_DPD_CTRL_DPD_PERIOD (n : Nat) : Fld := ⟨0x2000C + 0x1000 * n, 15, 8⟩
def LTX_DPD_CTRL_FREEZE (n : Nat) : Fld := ⟨0x2000C + 0x1000 * n, 3, 3⟩
def LTX_DPD_CTRL_BYPASS (n : Nat) : Fld := ⟨0x2000C + 0x1000 * n, 2, 2⟩
def LTX_DPD_CTRL_SRC (n : Nat) : Fld := ⟨0x2000C + 0x1000 * n, 1, 0⟩
def LTX_DPD_STATUS (n : Nat) : Fld := ⟨0x20010 + 0x1000 * n, 31, 0⟩
def LTX_DPD_STATUS_EPOCH (n : Nat) : Fld := ⟨0x20010 + 0x1000 * n, 23, 16⟩
def LTX_DPD_STATUS_LAST_RPT_EPOCH (n : Nat) : Fld := ⟨0x20010 + 0x1000 * n, 15, 8⟩
def LTX_DPD_STATUS_TRAINING (n : Nat) : Fld := ⟨0x20010 + 0x1000 * n, 7, 7⟩
def LTX_DPD_STATUS_NODATA (n : Nat) : Fld := ⟨0x20010 + 0x1000 * n, 6, 0⟩
def LTX_PILOT (n : Nat) : Fld := ⟨0x20014 + 0x1000 * n, 31, 0⟩
def LTX_PILOT_LF_AMP (n : Nat) : Fld := ⟨0x20014 + 0x1000 * n, 15, 8⟩
def LTX_PILOT_DEPTH (n : Nat) : Fld := ⟨0x20014 + 0x1000 * n, 4, 0⟩
def LTX_INT_STATUS (n : Nat) : Fld := ⟨0x20018 + 0x1000 * n, 31, 0⟩
def LTX_INT_STATUS_PLL_BAND_LIMIT (n : Nat) : Fld := ⟨0x20018 + 0x1000 * n, 6, 6⟩
def LTX_INT_STATUS_DPD_SAT (n : Nat) : Fld := ⟨0x20018 + 0x1000 * n, 5, 5⟩
def LTX_INT_STATUS_TX_SAT (n : Nat) : Fld := ⟨0x20018 + 0x1000 * n, 4, 4⟩
def LTX_INT_STATUS_LIVE (n : Nat) : Fld := ⟨0x20018 + 0x1000 * n, 3, 3⟩
def LTX_INT_STATUS_TIMEOUT (n : Nat) : Fld := ⟨0x20018 + 0x1000 * n, 2, 2⟩
def LTX_INT_STATUS_STATE_DONE (n : Nat) : Fld := ⟨0x20018 + 0x1000 * n, 1, 1⟩
def LTX_INT_STATUS_SQUELCH (n : Nat) : Fld := ⟨0x20018 + 0x1000 * n, 0, 0⟩
def LTX_INT_EN (n : Nat) : Fld := ⟨0x2001C + 0x1000 * n, 6, 0⟩
def LTX_FFE_TAP (n j : Nat) : Fld := ⟨0x20100 + 0x1000 * n + 0x4 * j, 8, 0⟩
def LTX_PWR_TBL (n e : Nat) : Fld := ⟨0x20200 + 0x1000 * n + 0x4 * e, 31, 0⟩
def LTX_PWR_TBL_OMA_NOM (n e : Nat) : Fld := ⟨0x20200 + 0x1000 * n + 0x4 * e, 23, 16⟩
def LTX_PWR_TBL_PEAK (n e : Nat) : Fld := ⟨0x20200 + 0x1000 * n + 0x4 * e, 10, 8⟩
def LTX_PWR_TBL_SWING (n e : Nat) : Fld := ⟨0x20200 + 0x1000 * n + 0x4 * e, 5, 0⟩
def LTX_DPD_LUT (n i : Nat) : Fld := ⟨0x20300 + 0x1000 * n + 0x4 * i, 9, 0⟩
def LTX_TX_SAT (n : Nat) : Fld := ⟨0x20400 + 0x1000 * n, 31, 0⟩
def LTX_TX_SAT_HI (n : Nat) : Fld := ⟨0x20404 + 0x1000 * n, 31, 0⟩
def LTX_DPD_EVENTS (n : Nat) : Fld := ⟨0x20408 + 0x1000 * n, 31, 0⟩
def LTX_DPD_EVENTS_DPD_STALE (n : Nat) : Fld := ⟨0x20408 + 0x1000 * n, 31, 16⟩
def LTX_DPD_EVENTS_UPDATES (n : Nat) : Fld := ⟨0x20408 + 0x1000 * n, 15, 0⟩
def LTX_DRV_TRIM (n : Nat) : Fld := ⟨0x20500 + 0x1000 * n, 5, 0⟩
def LTX_PLL_CAL (n : Nat) : Fld := ⟨0x20504 + 0x1000 * n, 31, 0⟩
def LTX_PLL_CAL_BAND (n : Nat) : Fld := ⟨0x20504 + 0x1000 * n, 13, 8⟩
def LTX_PLL_CAL_FINE (n : Nat) : Fld := ⟨0x20504 + 0x1000 * n, 6, 0⟩
def PLT_CTRL (n : Nat) : Fld := ⟨0x28000 + 0x800 * n, 31, 0⟩
def PLT_CTRL_RESYNC (n : Nat) : Fld := ⟨0x28000 + 0x800 * n, 8, 8⟩
def PLT_CTRL_LOAD_EN (n : Nat) : Fld := ⟨0x28000 + 0x800 * n, 7, 7⟩
def PLT_CTRL_PRESET_MAX (n : Nat) : Fld := ⟨0x28000 + 0x800 * n, 5, 4⟩
def PLT_CTRL_PRESET_AUTO (n : Nat) : Fld := ⟨0x28000 + 0x800 * n, 3, 3⟩
def PLT_CTRL_PRESET (n : Nat) : Fld := ⟨0x28000 + 0x800 * n, 1, 0⟩
def PLT_STATUS (n : Nat) : Fld := ⟨0x28004 + 0x800 * n, 31, 0⟩
def PLT_STATUS_E2_ANCHOR (n : Nat) : Fld := ⟨0x28004 + 0x800 * n, 19, 19⟩
def PLT_STATUS_COMMITTED (n : Nat) : Fld := ⟨0x28004 + 0x800 * n, 18, 18⟩
def PLT_STATUS_RX_BUSY (n : Nat) : Fld := ⟨0x28004 + 0x800 * n, 17, 17⟩
def PLT_STATUS_DCB_FROZEN (n : Nat) : Fld := ⟨0x28004 + 0x800 * n, 16, 16⟩
def PLT_STATUS_AGC_FROZEN (n : Nat) : Fld := ⟨0x28004 + 0x800 * n, 15, 15⟩
def PLT_STATUS_RES_LIMIT (n : Nat) : Fld := ⟨0x28004 + 0x800 * n, 14, 14⟩
def PLT_STATUS_RES_LOCK (n : Nat) : Fld := ⟨0x28004 + 0x800 * n, 13, 13⟩
def PLT_STATUS_SYNC (n : Nat) : Fld := ⟨0x28004 + 0x800 * n, 12, 12⟩
def PLT_STATUS_RX_MAP (n : Nat) : Fld := ⟨0x28004 + 0x800 * n, 11, 8⟩
def PLT_STATUS_TX_MAP (n : Nat) : Fld := ⟨0x28004 + 0x800 * n, 7, 4⟩
def PLT_STATUS_RX_PRESET (n : Nat) : Fld := ⟨0x28004 + 0x800 * n, 3, 2⟩
def PLT_STATUS_TX_PRESET (n : Nat) : Fld := ⟨0x28004 + 0x800 * n, 1, 0⟩
def PLT_RX_CFG (n : Nat) : Fld := ⟨0x28008 + 0x800 * n, 31, 0⟩
def PLT_RX_CFG_FIR_LEN (n : Nat) : Fld := ⟨0x28008 + 0x800 * n, 31, 24⟩
def PLT_RX_CFG_FIR_SEL (n : Nat) : Fld := ⟨0x28008 + 0x800 * n, 23, 23⟩
def PLT_RX_CFG_MA_LEN (n : Nat) : Fld := ⟨0x28008 + 0x800 * n, 19, 16⟩
def PLT_RX_CFG_DCB_K (n : Nat) : Fld := ⟨0x28008 + 0x800 * n, 13, 12⟩
def PLT_RX_CFG_DCB_RX_FRZ (n : Nat) : Fld := ⟨0x28008 + 0x800 * n, 9, 9⟩
def PLT_RX_CFG_DCB_FREEZE (n : Nat) : Fld := ⟨0x28008 + 0x800 * n, 8, 8⟩
def PLT_RX_CFG_SYNC_TH (n : Nat) : Fld := ⟨0x28008 + 0x800 * n, 7, 0⟩
def PLT_LOAD_CFG (n : Nat) : Fld := ⟨0x2800C + 0x800 * n, 31, 0⟩
def PLT_LOAD_CFG_LOAD_MIN (n : Nat) : Fld := ⟨0x2800C + 0x800 * n, 15, 8⟩
def PLT_LOAD_CFG_LOAD_MARGIN (n : Nat) : Fld := ⟨0x2800C + 0x800 * n, 3, 0⟩
def PLT_AGC (n : Nat) : Fld := ⟨0x28010 + 0x800 * n, 31, 0⟩
def PLT_AGC_AGC_GAIN (n : Nat) : Fld := ⟨0x28010 + 0x800 * n, 23, 16⟩
def PLT_AGC_AGC_TGT (n : Nat) : Fld := ⟨0x28010 + 0x800 * n, 15, 0⟩
def PLT_RES_FREQ (n : Nat) : Fld := ⟨0x28014 + 0x800 * n, 19, 0⟩
def PLT_QUAL (n : Nat) : Fld := ⟨0x28018 + 0x800 * n, 31, 0⟩
def PLT_QUAL_LAST_MAP (n : Nat) : Fld := ⟨0x28018 + 0x800 * n, 15, 12⟩
def PLT_QUAL_REC_PRESET (n : Nat) : Fld := ⟨0x28018 + 0x800 * n, 9, 8⟩
def PLT_QUAL_PQ (n : Nat) : Fld := ⟨0x28018 + 0x800 * n, 7, 0⟩
def PLT_INT_STATUS (n : Nat) : Fld := ⟨0x2801C + 0x800 * n, 31, 0⟩
def PLT_INT_STATUS_SD_OVL (n : Nat) : Fld := ⟨0x2801C + 0x800 * n, 8, 8⟩
def PLT_INT_STATUS_DROP (n : Nat) : Fld := ⟨0x2801C + 0x800 * n, 7, 7⟩
def PLT_INT_STATUS_MAP_UNKNOWN (n : Nat) : Fld := ⟨0x2801C + 0x800 * n, 6, 6⟩
def PLT_INT_STATUS_RES_LIMIT (n : Nat) : Fld := ⟨0x2801C + 0x800 * n, 5, 5⟩
def PLT_INT_STATUS_PRESET_CHG (n : Nat) : Fld := ⟨0x2801C + 0x800 * n, 4, 4⟩
def PLT_INT_STATUS_CRC_ERR (n : Nat) : Fld := ⟨0x2801C + 0x800 * n, 3, 3⟩
def PLT_INT_STATUS_HDR_ERR (n : Nat) : Fld := ⟨0x2801C + 0x800 * n, 2, 2⟩
def PLT_INT_STATUS_SYNC_LOSS (n : Nat) : Fld := ⟨0x2801C + 0x800 * n, 1, 1⟩
def PLT_INT_STATUS_SYNC_UP (n : Nat) : Fld := ⟨0x2801C + 0x800 * n, 0, 0⟩
def PLT_INT_EN (n : Nat) : Fld := ⟨0x28020 + 0x800 * n, 8, 0⟩
def PLT_EVM (n i : Nat) : Fld := ⟨0x28040 + 0x800 * n + 0x4 * i, 31, 0⟩
def PLT_FRM_RX (n : Nat) : Fld := ⟨0x28100 + 0x800 * n, 31, 0⟩
def PLT_FRM_RX_HI (n : Nat) : Fld := ⟨0x28104 + 0x800 * n, 31, 0⟩
def PLT_FRM_TX (n : Nat) : Fld := ⟨0x28108 + 0x800 * n, 31, 0⟩
def PLT_FRM_TX_HI (n : Nat) : Fld := ⟨0x2810C + 0x800 * n, 31, 0⟩
def PLT_ERR_A (n : Nat) : Fld := ⟨0x28110 + 0x800 * n, 31, 0⟩
def PLT_ERR_A_CRC_ERR (n : Nat) : Fld := ⟨0x28110 + 0x800 * n, 31, 16⟩
def PLT_ERR_A_HDR_ERR (n : Nat) : Fld := ⟨0x28110 + 0x800 * n, 15, 0⟩
def PLT_ERR_B (n : Nat) : Fld := ⟨0x28114 + 0x800 * n, 31, 0⟩
def PLT_ERR_B_MAP_UNKNOWN (n : Nat) : Fld := ⟨0x28114 + 0x800 * n, 31, 16⟩
def PLT_ERR_B_FALSE_SYNC (n : Nat) : Fld := ⟨0x28114 + 0x800 * n, 15, 0⟩
def PLT_ERR_C (n : Nat) : Fld := ⟨0x28118 + 0x800 * n, 31, 0⟩
def PLT_ERR_C_RX_DROP (n : Nat) : Fld := ⟨0x28118 + 0x800 * n, 31, 16⟩
def PLT_ERR_C_TXQ_DROP (n : Nat) : Fld := ⟨0x28118 + 0x800 * n, 15, 0⟩
def PLT_ERR_D (n : Nat) : Fld := ⟨0x2811C + 0x800 * n, 31, 0⟩
def PLT_ERR_D_CLASS_UNK (n : Nat) : Fld := ⟨0x2811C + 0x800 * n, 31, 16⟩
def PLT_ERR_D_SYNC_LOSS (n : Nat) : Fld := ⟨0x2811C + 0x800 * n, 15, 0⟩
def PLT_SAT (n : Nat) : Fld := ⟨0x28120 + 0x800 * n, 31, 0⟩
def PLT_SAT_SD_OVL (n : Nat) : Fld := ⟨0x28120 + 0x800 * n, 31, 16⟩
def PLT_SAT_TX_CLIP (n : Nat) : Fld := ⟨0x28120 + 0x800 * n, 15, 0⟩
def PLT_FIR_SAT (n : Nat) : Fld := ⟨0x28124 + 0x800 * n, 15, 0⟩
def PLT_FIR_COEF (n i : Nat) : Fld := ⟨0x28400 + 0x800 * n + 0x4 * i, 15, 0⟩
def POOL_CTRL : Fld := ⟨0x30000, 31, 0⟩
def POOL_CTRL_LOOP_EN : Fld := ⟨0x30000, 8, 8⟩
def POOL_CTRL_MAX_PASS : Fld := ⟨0x30000, 6, 4⟩
def POOL_CTRL_WINDOW : Fld := ⟨0x30000, 2, 0⟩
def POOL_STATUS : Fld := ⟨0x30004, 31, 0⟩
def POOL_STATUS_QUAR : Fld := ⟨0x30004, 30, 24⟩
def POOL_STATUS_AVAIL : Fld := ⟨0x30004, 22, 16⟩
def POOL_STATUS_ENF : Fld := ⟨0x30004, 12, 11⟩
def POOL_STATUS_LOOP_AT_MAX : Fld := ⟨0x30004, 10, 10⟩
def POOL_STATUS_BELOW_TGT : Fld := ⟨0x30004, 9, 9⟩
def POOL_STATUS_VGOOD : Fld := ⟨0x30004, 8, 8⟩
def POOL_STATUS_BAND : Fld := ⟨0x30004, 7, 6⟩
def POOL_STATUS_VDD_CODE : Fld := ⟨0x30004, 5, 0⟩
def POOL_SUPPLY_CFG : Fld := ⟨0x30008, 31, 0⟩
def POOL_SUPPLY_CFG_LOOP_INT : Fld := ⟨0x30008, 30, 24⟩
def POOL_SUPPLY_CFG_VLIM_E1 : Fld := ⟨0x30008, 21, 16⟩
def POOL_SUPPLY_CFG_VMAX : Fld := ⟨0x30008, 13, 8⟩
def POOL_SUPPLY_CFG_VMIN : Fld := ⟨0x30008, 5, 0⟩
def POOL_LOOP_CFG : Fld := ⟨0x3000C, 31, 0⟩
def POOL_LOOP_CFG_DOWN_MARGIN : Fld := ⟨0x3000C, 31, 24⟩
def POOL_LOOP_CFG_DOWN_CNT : Fld := ⟨0x3000C, 23, 16⟩
def POOL_LOOP_CFG_MISS_TGT : Fld := ⟨0x3000C, 15, 0⟩
def POOL_CAP_A : Fld := ⟨0x30010, 31, 0⟩
def POOL_CAP_A_BAND2 : Fld := ⟨0x30010, 29, 20⟩
def POOL_CAP_A_BAND1 : Fld := ⟨0x30010, 19, 10⟩
def POOL_CAP_A_BAND0 : Fld := ⟨0x30010, 9, 0⟩
def POOL_CAP_B : Fld := ⟨0x30014, 9, 0⟩
def POOL_TIDE : Fld := ⟨0x30018, 19, 0⟩
def POOL_TIDE_PRED : Fld := ⟨0x3001C, 31, 0⟩
def POOL_TIDE_PRED_TP_ER : Fld := ⟨0x3001C, 31, 16⟩
def POOL_TIDE_PRED_TP_EO : Fld := ⟨0x3001C, 15, 0⟩
def POOL_INT_STATUS : Fld := ⟨0x30020, 31, 0⟩
def POOL_INT_STATUS_FAST_GUARD : Fld := ⟨0x30020, 4, 4⟩
def POOL_INT_STATUS_REFUSED : Fld := ⟨0x30020, 3, 3⟩
def POOL_INT_STATUS_QUARANTINE : Fld := ⟨0x30020, 2, 2⟩
def POOL_INT_STATUS_LOOP_AT_MAX : Fld := ⟨0x30020, 1, 1⟩
def POOL_INT_STATUS_MISS : Fld := ⟨0x30020, 0, 0⟩
def POOL_INT_EN : Fld := ⟨0x30024, 4, 0⟩
def POOL_QUAR (i : Nat) : Fld := ⟨0x30028 + 0x4 * i, 31, 0⟩
def POOL_AVAIL (i : Nat) : Fld := ⟨0x30030 + 0x4 * i, 31, 0⟩
def POOL_SLOT_RET : Fld := ⟨0x30100, 31, 0⟩
def POOL_SLOT_RET_HI : Fld := ⟨0x30104, 31, 0⟩
def POOL_SLOT_WASTE : Fld := ⟨0x30108, 31, 0⟩
def POOL_SLOT_WASTE_HI : Fld := ⟨0x3010C, 31, 0⟩
def POOL_SLOT_FRONT : Fld := ⟨0x30110, 31, 0⟩
def POOL_SLOT_FRONT_HI : Fld := ⟨0x30114, 31, 0⟩
def POOL_SLOT_BACK : Fld := ⟨0x30118, 31, 0⟩
def POOL_SLOT_BACK_HI : Fld := ⟨0x3011C, 31, 0⟩
def POOL_ADMIT : Fld := ⟨0x30120, 31, 0⟩
def POOL_ADMIT_HI : Fld := ⟨0x30124, 31, 0⟩
def POOL_REFUSED : Fld := ⟨0x30128, 31, 0⟩
def POOL_REFUSED_HI : Fld := ⟨0x3012C, 31, 0⟩
def POOL_STOLEN : Fld := ⟨0x30130, 31, 0⟩
def POOL_STOLEN_HI : Fld := ⟨0x30134, 31, 0⟩
def POOL_REQUEUE : Fld := ⟨0x30138, 31, 0⟩
def POOL_REQUEUE_HI : Fld := ⟨0x3013C, 31, 0⟩
def POOL_BERTH (b : Nat) : Fld := ⟨0x30200 + 0x4 * b, 31, 0⟩
def POOL_BERTH_REQ (b : Nat) : Fld := ⟨0x30200 + 0x4 * b, 8, 8⟩
def POOL_BERTH_OCC (b : Nat) : Fld := ⟨0x30200 + 0x4 * b, 2, 0⟩
def ENG_STATUS (k : Nat) : Fld := ⟨0x31000 + 0x40 * k, 31, 0⟩
def ENG_STATUS_STOLEN (k : Nat) : Fld := ⟨0x31000 + 0x40 * k, 10, 10⟩
def ENG_STATUS_ERASE (k : Nat) : Fld := ⟨0x31000 + 0x40 * k, 9, 8⟩
def ENG_STATUS_BERTH (k : Nat) : Fld := ⟨0x31000 + 0x40 * k, 7, 4⟩
def ENG_STATUS_STATE (k : Nat) : Fld := ⟨0x31000 + 0x40 * k, 2, 0⟩
def ENG_CW (k : Nat) : Fld := ⟨0x31004 + 0x40 * k, 31, 0⟩
def ENG_STOLEN (k : Nat) : Fld := ⟨0x31008 + 0x40 * k, 31, 0⟩
def ENG_BUSY (k : Nat) : Fld := ⟨0x3100C + 0x40 * k, 31, 0⟩
def ENG_BIST (k : Nat) : Fld := ⟨0x31010 + 0x40 * k, 31, 0⟩
def ENG_BIST_PASSES (k : Nat) : Fld := ⟨0x31010 + 0x40 * k, 31, 16⟩
def ENG_BIST_START_FAIL (k : Nat) : Fld := ⟨0x31010 + 0x40 * k, 2, 2⟩
def ENG_BIST_FIELD_FAIL (k : Nat) : Fld := ⟨0x31010 + 0x40 * k, 1, 1⟩
def ENG_BIST_TESTED (k : Nat) : Fld := ⟨0x31010 + 0x40 * k, 0, 0⟩
def BWK_NEG_CTRL : Fld := ⟨0x34000, 31, 0⟩
def BWK_NEG_CTRL_NEG_AUTO : Fld := ⟨0x34000, 18, 18⟩
def BWK_NEG_CTRL_EXIT : Fld := ⟨0x34000, 17, 17⟩
def BWK_NEG_CTRL_START : Fld := ⟨0x34000, 16, 16⟩
def BWK_NEG_CTRL_EXIT_MASK : Fld := ⟨0x34000, 15, 8⟩
def BWK_NEG_CTRL_LANE_MASK : Fld := ⟨0x34000, 7, 0⟩
def BWK_NEG_STATUS : Fld := ⟨0x34004, 31, 0⟩
def BWK_NEG_STATUS_REASON : Fld := ⟨0x34004, 27, 24⟩
def BWK_NEG_STATUS_LIVE_MASK : Fld := ⟨0x34004, 23, 16⟩
def BWK_NEG_STATUS_AGREED_MASK : Fld := ⟨0x34004, 15, 8⟩
def BWK_NEG_STATUS_STATE : Fld := ⟨0x34004, 2, 0⟩
def BWK_PORT_MAP : Fld := ⟨0x34008, 7, 0⟩
def BWK_NEG_TIMING : Fld := ⟨0x3400C, 31, 0⟩
def BWK_NEG_TIMING_LIVE_TO : Fld := ⟨0x3400C, 23, 16⟩
def BWK_NEG_TIMING_RETRIES : Fld := ⟨0x3400C, 15, 8⟩
def BWK_NEG_TIMING_RESP_TO : Fld := ⟨0x3400C, 7, 0⟩
def BWK_TX_STATUS : Fld := ⟨0x34010, 15, 0⟩
def BWK_INT_STATUS : Fld := ⟨0x34014, 31, 0⟩
def BWK_INT_STATUS_REFUSED : Fld := ⟨0x34014, 4, 4⟩
def BWK_INT_STATUS_EGR_SLIP : Fld := ⟨0x34014, 3, 3⟩
def BWK_INT_STATUS_NATIVE_EXIT : Fld := ⟨0x34014, 2, 2⟩
def BWK_INT_STATUS_NEG_FAIL : Fld := ⟨0x34014, 1, 1⟩
def BWK_INT_STATUS_NEG_DONE : Fld := ⟨0x34014, 0, 0⟩
def BWK_INT_EN : Fld := ⟨0x34018, 4, 0⟩
def BWK_FAR_ID : Fld := ⟨0x34020, 31, 0⟩
def BWK_FAR_ID_HI : Fld := ⟨0x34024, 31, 0⟩
def BWK_HOST_CW_ERR (j : Nat) : Fld := ⟨0x34100 + 0x10 * j, 31, 0⟩
def BWK_HOST_CW_ERR_HI (j : Nat) : Fld := ⟨0x34104 + 0x10 * j, 31, 0⟩
def BWK_EGR_SLIP (j : Nat) : Fld := ⟨0x34108 + 0x10 * j, 15, 0⟩
def LKO_CTRL : Fld := ⟨0x38000, 31, 0⟩
def LKO_CTRL_MODE : Fld := ⟨0x38000, 4, 4⟩
def LKO_CTRL_STOP : Fld := ⟨0x38000, 2, 2⟩
def LKO_CTRL_FORCE : Fld := ⟨0x38000, 1, 1⟩
def LKO_CTRL_ARM : Fld := ⟨0x38000, 0, 0⟩
def LKO_STATUS : Fld := ⟨0x38004, 31, 0⟩
def LKO_STATUS_CAPTURES : Fld := ⟨0x38004, 31, 16⟩
def LKO_STATUS_HITS : Fld := ⟨0x38004, 15, 12⟩
def LKO_STATUS_CAUSE : Fld := ⟨0x38004, 10, 8⟩
def LKO_STATUS_STOP_CAUSE : Fld := ⟨0x38004, 6, 4⟩
def LKO_STATUS_STATE : Fld := ⟨0x38004, 2, 0⟩
def LKO_SRC : Fld := ⟨0x38008, 31, 0⟩
def LKO_SRC_PHASE : Fld := ⟨0x38008, 21, 16⟩
def LKO_SRC_DEC : Fld := ⟨0x38008, 12, 8⟩
def LKO_SRC_LANE : Fld := ⟨0x38008, 6, 4⟩
def LKO_SRC_SOURCE : Fld := ⟨0x38008, 3, 0⟩
def LKO_RED : Fld := ⟨0x3800C, 31, 0⟩
def LKO_RED_HIST_SHIFT : Fld := ⟨0x3800C, 15, 12⟩
def LKO_RED_BIN_LOG2 : Fld := ⟨0x3800C, 11, 8⟩
def LKO_RED_EMAP : Fld := ⟨0x3800C, 4, 4⟩
def LKO_RED_HIST : Fld := ⟨0x3800C, 3, 3⟩
def LKO_RED_MEAN : Fld := ⟨0x3800C, 2, 2⟩
def LKO_RED_MINMAX : Fld := ⟨0x3800C, 1, 1⟩
def LKO_RED_RAW : Fld := ⟨0x3800C, 0, 0⟩
def LKO_POST : Fld := ⟨0x38010, 31, 0⟩
def LKO_HOLD : Fld := ⟨0x38014, 31, 0⟩
def LKO_HOLD_KIND : Fld := ⟨0x38014, 31, 31⟩
def LKO_HOLD_VAL : Fld := ⟨0x38014, 29, 0⟩
def LKO_TRIG_IDX : Fld := ⟨0x38018, 31, 0⟩
def LKO_TRIG_IDX_HI : Fld := ⟨0x3801C, 31, 0⟩
def LKO_REGION (r : Nat) : Fld := ⟨0x38020 + 0x4 * r, 31, 0⟩
def LKO_REGION_SIZE (r : Nat) : Fld := ⟨0x38020 + 0x4 * r, 24, 16⟩
def LKO_REGION_BASE (r : Nat) : Fld := ⟨0x38020 + 0x4 * r, 7, 0⟩
def LKO_WRAP (r : Nat) : Fld := ⟨0x38040 + 0x4 * r, 31, 0⟩
def LKO_WRAP_WRAPPED (r : Nat) : Fld := ⟨0x38040 + 0x4 * r, 31, 31⟩
def LKO_WRAP_OFF (r : Nat) : Fld := ⟨0x38040 + 0x4 * r, 17, 0⟩
def LKO_INT_STATUS : Fld := ⟨0x38060, 31, 0⟩
def LKO_INT_STATUS_SRC_RESET : Fld := ⟨0x38060, 4, 4⟩
def LKO_INT_STATUS_E2_STOP : Fld := ⟨0x38060, 3, 3⟩
def LKO_INT_STATUS_ARM_REFUSED : Fld := ⟨0x38060, 2, 2⟩
def LKO_INT_STATUS_STOPPED : Fld := ⟨0x38060, 1, 1⟩
def LKO_INT_STATUS_TRIGGER : Fld := ⟨0x38060, 0, 0⟩
def LKO_INT_EN : Fld := ⟨0x38064, 4, 0⟩
def LKO_TU_CFG (k : Nat) : Fld := ⟨0x38100 + 0x20 * k, 31, 0⟩
def LKO_TU_CFG_EN (k : Nat) : Fld := ⟨0x38100 + 0x20 * k, 31, 31⟩
def LKO_TU_CFG_KIND (k : Nat) : Fld := ⟨0x38100 + 0x20 * k, 30, 28⟩
def LKO_TU_CFG_POL (k : Nat) : Fld := ⟨0x38100 + 0x20 * k, 27, 27⟩
def LKO_TU_CFG_COND (k : Nat) : Fld := ⟨0x38100 + 0x20 * k, 26, 25⟩
def LKO_TU_CFG_EVSEL (k : Nat) : Fld := ⟨0x38100 + 0x20 * k, 19, 16⟩
def LKO_TU_THA (k : Nat) : Fld := ⟨0x38104 + 0x20 * k, 19, 0⟩
def LKO_TU_THB (k : Nat) : Fld := ⟨0x38108 + 0x20 * k, 19, 0⟩
def LKO_TU_WMIN (k : Nat) : Fld := ⟨0x3810C + 0x20 * k, 23, 0⟩
def LKO_TU_WMAX (k : Nat) : Fld := ⟨0x38110 + 0x20 * k, 23, 0⟩
def LKO_TU_HIT (k : Nat) : Fld := ⟨0x38114 + 0x20 * k, 31, 0⟩
def LKO_TU_HIT_HI (k : Nat) : Fld := ⟨0x38118 + 0x20 * k, 31, 0⟩
def LKO_TU_CNT (k : Nat) : Fld := ⟨0x3811C + 0x20 * k, 15, 0⟩
def HLN_MODE : Fld := ⟨0x48000, 31, 0⟩
def HLN_MODE_EGR_AUTO : Fld := ⟨0x48000, 13, 13⟩
def HLN_MODE_EGR_SRC : Fld := ⟨0x48000, 12, 8⟩
def HLN_MODE_HOST_MODE : Fld := ⟨0x48000, 0, 0⟩
def HLN_EGR_STATUS : Fld := ⟨0x48004, 31, 0⟩
def HLN_EGR_STATUS_SRC : Fld := ⟨0x48004, 12, 8⟩
def HLN_EGR_STATUS_HOLD : Fld := ⟨0x48004, 1, 1⟩
def HLN_EGR_STATUS_NONE : Fld := ⟨0x48004, 0, 0⟩
def CHT_RX (e : Nat) : Fld := ⟨0x48100 + 0x20 * e, 31, 0⟩
def CHT_RX_VALID (e : Nat) : Fld := ⟨0x48100 + 0x20 * e, 31, 31⟩
def CHT_RX_PRESET (e : Nat) : Fld := ⟨0x48100 + 0x20 * e, 10, 8⟩
def CHT_RX_CTLE (e : Nat) : Fld := ⟨0x48100 + 0x20 * e, 4, 0⟩
def CHT_DFE (e i : Nat) : Fld := ⟨0x48104 + 0x20 * e + 0x4 * i, 31, 0⟩
def CHT_TX (e : Nat) : Fld := ⟨0x48110 + 0x20 * e, 31, 0⟩
def CHT_TX_CM2 (e : Nat) : Fld := ⟨0x48110 + 0x20 * e, 29, 24⟩
def CHT_TX_CM1 (e : Nat) : Fld := ⟨0x48110 + 0x20 * e, 21, 16⟩
def CHT_TX_C0 (e : Nat) : Fld := ⟨0x48110 + 0x20 * e, 13, 8⟩
def CHT_TX_C1 (e : Nat) : Fld := ⟨0x48110 + 0x20 * e, 5, 0⟩
def HLN_CTRL (k : Nat) : Fld := ⟨0x40000 + 0x400 * k, 31, 0⟩
def HLN_CTRL_RX_INV (k : Nat) : Fld := ⟨0x40000 + 0x400 * k, 17, 17⟩
def HLN_CTRL_TX_INV (k : Nat) : Fld := ⟨0x40000 + 0x400 * k, 16, 16⟩
def HLN_CTRL_ENTRY (k : Nat) : Fld := ⟨0x40000 + 0x400 * k, 11, 8⟩
def HLN_CTRL_ADAPT_RUN (k : Nat) : Fld := ⟨0x40000 + 0x400 * k, 2, 2⟩
def HLN_CTRL_RX_EN (k : Nat) : Fld := ⟨0x40000 + 0x400 * k, 1, 1⟩
def HLN_CTRL_TX_EN (k : Nat) : Fld := ⟨0x40000 + 0x400 * k, 0, 0⟩
def HLN_STATUS (k : Nat) : Fld := ⟨0x40004 + 0x400 * k, 31, 0⟩
def HLN_STATUS_ENTRY_LIVE (k : Nat) : Fld := ⟨0x40004 + 0x400 * k, 19, 16⟩
def HLN_STATUS_UNUSED (k : Nat) : Fld := ⟨0x40004 + 0x400 * k, 15, 15⟩
def HLN_STATUS_HIZ (k : Nat) : Fld := ⟨0x40004 + 0x400 * k, 14, 14⟩
def HLN_STATUS_SUBST (k : Nat) : Fld := ⟨0x40004 + 0x400 * k, 13, 13⟩
def HLN_STATUS_FREQ_MISMATCH (k : Nat) : Fld := ⟨0x40004 + 0x400 * k, 12, 12⟩
def HLN_STATUS_ACQ_STEP (k : Nat) : Fld := ⟨0x40004 + 0x400 * k, 9, 6⟩
def HLN_STATUS_ADAPTING (k : Nat) : Fld := ⟨0x40004 + 0x400 * k, 5, 5⟩
def HLN_STATUS_AM_LOCK (k : Nat) : Fld := ⟨0x40004 + 0x400 * k, 4, 4⟩
def HLN_STATUS_CDR_LOCK (k : Nat) : Fld := ⟨0x40004 + 0x400 * k, 3, 3⟩
def HLN_STATUS_SD (k : Nat) : Fld := ⟨0x40004 + 0x400 * k, 2, 2⟩
def HLN_STATUS_PLL_LOCK (k : Nat) : Fld := ⟨0x40004 + 0x400 * k, 1, 1⟩
def HLN_LP (k : Nat) : Fld := ⟨0x40008 + 0x400 * k, 31, 0⟩
def HLN_LP_PENDING (k : Nat) : Fld := ⟨0x40008 + 0x400 * k, 7, 6⟩
def HLN_LP_TRANS (k : Nat) : Fld := ⟨0x40008 + 0x400 * k, 5, 4⟩
def HLN_LP_LP_STATE (k : Nat) : Fld := ⟨0x40008 + 0x400 * k, 3, 2⟩
def HLN_LP_LP_REQ (k : Nat) : Fld := ⟨0x40008 + 0x400 * k, 1, 0⟩
def HLN_ADAPT_CFG (k : Nat) : Fld := ⟨0x4000C + 0x400 * k, 31, 0⟩
def HLN_ADAPT_CFG_REC_TO (k : Nat) : Fld := ⟨0x4000C + 0x400 * k, 12, 8⟩
def HLN_ADAPT_CFG_REC_ADAPT (k : Nat) : Fld := ⟨0x4000C + 0x400 * k, 5, 5⟩
def HLN_ADAPT_CFG_START_ADAPT (k : Nat) : Fld := ⟨0x4000C + 0x400 * k, 4, 4⟩
def HLN_ADAPT_CFG_ADAPT_TIME (k : Nat) : Fld := ⟨0x4000C + 0x400 * k, 3, 0⟩
def HLN_ADAPT_RPT (k : Nat) : Fld := ⟨0x40010 + 0x400 * k, 31, 0⟩
def HLN_ADAPT_RPT_VALID (k : Nat) : Fld := ⟨0x40010 + 0x400 * k, 31, 31⟩
def HLN_ADAPT_RPT_CAUSE (k : Nat) : Fld := ⟨0x40010 + 0x400 * k, 30, 28⟩
def HLN_ADAPT_RPT_SAT (k : Nat) : Fld := ⟨0x40010 + 0x400 * k, 27, 27⟩
def HLN_ADAPT_RPT_MARGIN_DIFF (k : Nat) : Fld := ⟨0x40010 + 0x400 * k, 25, 17⟩
def HLN_ADAPT_RPT_MARGIN_ADAPT (k : Nat) : Fld := ⟨0x40010 + 0x400 * k, 15, 8⟩
def HLN_ADAPT_RPT_MARGIN_TABLE (k : Nat) : Fld := ⟨0x40010 + 0x400 * k, 7, 0⟩
def HLN_ADAPT_DFE (k i : Nat) : Fld := ⟨0x40014 + 0x400 * k + 0x4 * i, 31, 0⟩
def HLN_INT_STATUS (k : Nat) : Fld := ⟨0x40020 + 0x400 * k, 31, 0⟩
def HLN_INT_STATUS_FREQ_MISMATCH (k : Nat) : Fld := ⟨0x40020 + 0x400 * k, 8, 8⟩
def HLN_INT_STATUS_LP_REFUSED (k : Nat) : Fld := ⟨0x40020 + 0x400 * k, 7, 7⟩
def HLN_INT_STATUS_LP_DONE (k : Nat) : Fld := ⟨0x40020 + 0x400 * k, 6, 6⟩
def HLN_INT_STATUS_ADAPT_REFUSED (k : Nat) : Fld := ⟨0x40020 + 0x400 * k, 5, 5⟩
def HLN_INT_STATUS_ADAPT_DONE (k : Nat) : Fld := ⟨0x40020 + 0x400 * k, 4, 4⟩
def HLN_INT_STATUS_RX_FAIL (k : Nat) : Fld := ⟨0x40020 + 0x400 * k, 3, 3⟩
def HLN_INT_STATUS_AM_LOSS (k : Nat) : Fld := ⟨0x40020 + 0x400 * k, 2, 2⟩
def HLN_INT_STATUS_CDR_LOSS (k : Nat) : Fld := ⟨0x40020 + 0x400 * k, 1, 1⟩
def HLN_INT_STATUS_LOS_SET (k : Nat) : Fld := ⟨0x40020 + 0x400 * k, 0, 0⟩
def HLN_INT_EN (k : Nat) : Fld := ⟨0x40024 + 0x400 * k, 8, 0⟩
def HLN_LOCK_EVENTS (k : Nat) : Fld := ⟨0x40100 + 0x400 * k, 31, 0⟩
def HLN_LOCK_EVENTS_AM (k : Nat) : Fld := ⟨0x40100 + 0x400 * k, 31, 16⟩
def HLN_LOCK_EVENTS_CDR (k : Nat) : Fld := ⟨0x40100 + 0x400 * k, 15, 0⟩
def HLN_LOS_EVENTS (k : Nat) : Fld := ⟨0x40104 + 0x400 * k, 15, 0⟩

end F

end Sys2Proof.Machine
end

