-- ==== Sys2Proof/Machine/RegMap.lean ====
section
/-! DEFINITION. The register map of chapter 19 and of every chapter's register tables, as data: one row a register (or a register repeated over lanes, streams, engines, entries), with its fields, its access kinds, its reset value and the bank of Table 12-6 that retains it. -/

namespace Sys2Proof.Machine

/-- The access kinds of a field (R6, Table 19-2). -/
inductive Acc where
  | ro | rw | w1c | w1s | rwsc | st
  deriving DecidableEq, Repr

/-- One field: bits hi down to lo, and how it may be accessed. -/
structure RegField where
  hi : Nat
  lo : Nat
  acc : Acc
  deriving DecidableEq, Repr

/-- One register, or one register repeated at the strides of `dims` (outermost first: count, stride). -/
structure RegRow where
  base : Nat
  dims : List (Nat × Nat)
  fields : List RegField
  /-- the word the register holds at reset -/
  reset : Nat
  /-- retention bank of Table 12-6; 8 when no bank holds it -/
  bank : Nat
  /-- the block keeps its supply in DORMANT and HIBERNATE -/
  on : Bool
  /-- a performance counter that snapshots and freezes reach -/
  ctr : Bool
  /-- low word of a counter or identifier pair -/
  pair : Bool
  /-- its 20-bit signed value reads sign-extended -/
  sext : Bool
  /-- block code of Table 8-11 -/
  code : Nat
  deriving DecidableEq, Repr

/-- The indices at which offset `off` meets strides `dims`, if it does. -/
def dimIndex : List (Nat × Nat) → Nat → Option (List Nat)
  | [], off => if off = 0 then some [] else none
  | (n, stride) :: rest, off =>
    if off / stride < n then (dimIndex rest (off % stride)).map (off / stride :: ·) else none

/-- The indices of the copy of `r` that lies at `addr`. -/
def RegRow.at? (r : RegRow) (addr : Nat) : Option (List Nat) :=
  if r.base ≤ addr then dimIndex r.dims (addr - r.base) else none

/-- The first row of a list with a copy at `addr`, with its indices. -/
def findIn (addr : Nat) : List RegRow → Option (RegRow × List Nat)
  | [] => none
  | r :: rest => match r.at? addr with
    | some ix => some (r, ix)
    | none => findIn addr rest

/-- SYS_ID, SYS_RST_CAUSE, SYS_BOOT_STATUS, SYS_WDT_CTRL, SYS_WDT_KICK, SYS_WDT_CAPTURE, SYS_INT_STATUS, SYS_INT_EN, SYS_SAFE, SYS_BUS_ERR_INFO, SYS_BUS_ERR_ADDR, SYS_LIVE_ADDR, SYS_LIVE_DATA, SYS_SCRATCH. -/
def rowsSys : List RegRow :=
  [⟨0x0, [], [⟨31, 16, .ro⟩, ⟨15, 8, .ro⟩, ⟨7, 0, .ro⟩], 0x3208B043, 8, true, false, false, false, 0x01⟩,
   ⟨0x4, [], [⟨31, 24, .ro⟩, ⟨23, 16, .ro⟩, ⟨15, 8, .ro⟩, ⟨7, 0, .ro⟩], 0x1, 8, true, false, false, false, 0x01⟩,
   ⟨0x8, [], [⟨31, 24, .ro⟩, ⟨19, 16, .ro⟩, ⟨8, 8, .ro⟩, ⟨1, 1, .ro⟩, ⟨0, 0, .ro⟩], 0x30000, 8, true, false, false, false, 0x01⟩,
   ⟨0xC, [], [⟨31, 31, .w1s⟩, ⟨16, 16, .rw⟩, ⟨15, 0, .rw⟩], 0x101F4, 0, true, false, false, false, 0x01⟩,
   ⟨0x10, [], [], 0x0, 8, true, false, false, false, 0x01⟩,
   ⟨0x14, [], [⟨31, 0, .ro⟩], 0x0, 8, true, false, false, false, 0x01⟩,
   ⟨0x18, [], [⟨3, 3, .w1c⟩, ⟨2, 2, .w1c⟩, ⟨1, 1, .w1c⟩, ⟨0, 0, .w1c⟩], 0x0, 8, true, false, false, false, 0x01⟩,
   ⟨0x1C, [], [⟨3, 0, .rw⟩], 0x0, 8, true, false, false, false, 0x01⟩,
   ⟨0x20, [], [⟨15, 8, .ro⟩, ⟨0, 0, .ro⟩], 0x0, 8, true, false, false, false, 0x01⟩,
   ⟨0x40, [], [⟨31, 31, .w1c⟩, ⟨23, 8, .ro⟩, ⟨7, 4, .ro⟩, ⟨3, 3, .ro⟩, ⟨2, 0, .ro⟩], 0x0, 8, true, false, false, false, 0x01⟩,
   ⟨0x44, [], [⟨19, 0, .ro⟩], 0x0, 8, true, false, false, false, 0x01⟩,
   ⟨0x48, [], [], 0x0, 8, true, false, false, false, 0x01⟩,
   ⟨0x4C, [], [], 0x0, 8, true, false, false, false, 0x01⟩,
   ⟨0x50, [(4, 4)], [⟨31, 0, .rw⟩], 0x0, 8, true, false, false, false, 0x01⟩]

/-- CLK_STATUS, CLK_DOM_RUN, CLK_DOM_CLOSED, CLK_INT_STATUS, CLK_INT_EN, CLK_CDC_FLUSH. -/
def rowsClk : List RegRow :=
  [⟨0x1000, [], [⟨4, 4, .ro⟩, ⟨3, 3, .ro⟩, ⟨2, 2, .ro⟩, ⟨1, 1, .ro⟩, ⟨0, 0, .ro⟩], 0x0, 8, true, false, false, false, 0x02⟩,
   ⟨0x1004, [], [⟨17, 0, .ro⟩], 0x0, 8, true, false, false, false, 0x02⟩,
   ⟨0x1008, [], [⟨17, 0, .ro⟩], 0x0, 8, true, false, false, false, 0x02⟩,
   ⟨0x100C, [], [⟨3, 3, .w1c⟩, ⟨2, 2, .w1c⟩, ⟨1, 1, .w1c⟩, ⟨0, 0, .w1c⟩], 0x0, 8, true, false, false, false, 0x02⟩,
   ⟨0x1010, [], [⟨3, 0, .rw⟩], 0x0, 0, true, false, false, false, 0x02⟩,
   ⟨0x1100, [(18, 4)], [⟨31, 16, .ro⟩, ⟨15, 0, .ro⟩], 0x0, 8, true, false, false, false, 0x02⟩]

/-- PWR_CTRL, PWR_STATUS, PWR_WAKE_EN, PWR_WAKE_SRC, PWR_WAKE_TIMER, PWR_RETAIN, PWR_RET_CRC, PWR_INT_STATUS, PWR_INT_EN. -/
def rowsPwr : List RegRow :=
  [⟨0x2000, [], [⟨13, 12, .rw⟩, ⟨11, 10, .rw⟩, ⟨5, 4, .rw⟩, ⟨1, 0, .rw⟩], 0x801, 0, true, false, false, false, 0x03⟩,
   ⟨0x2004, [], [⟨18, 18, .ro⟩, ⟨17, 17, .ro⟩, ⟨15, 14, .ro⟩, ⟨13, 12, .ro⟩, ⟨9, 8, .ro⟩, ⟨7, 5, .ro⟩, ⟨4, 2, .ro⟩, ⟨1, 0, .ro⟩], 0x420FD, 8, true, false, false, false, 0x03⟩,
   ⟨0x2008, [], [⟨6, 6, .rw⟩, ⟨5, 5, .rw⟩, ⟨4, 4, .rw⟩, ⟨3, 3, .rw⟩, ⟨2, 2, .rw⟩, ⟨1, 1, .rw⟩, ⟨0, 0, .rw⟩], 0x7F, 0, true, false, false, false, 0x03⟩,
   ⟨0x200C, [], [⟨6, 6, .w1c⟩, ⟨5, 5, .w1c⟩, ⟨4, 4, .w1c⟩, ⟨3, 3, .w1c⟩, ⟨2, 2, .w1c⟩, ⟨1, 1, .w1c⟩, ⟨0, 0, .w1c⟩], 0x0, 8, true, false, false, false, 0x03⟩,
   ⟨0x2010, [], [⟨23, 0, .rw⟩], 0x0, 8, true, false, false, false, 0x03⟩,
   ⟨0x2014, [], [⟨7, 0, .w1c⟩], 0x0, 8, true, false, false, false, 0x03⟩,
   ⟨0x2020, [(8, 4)], [⟨31, 0, .ro⟩], 0x0, 8, true, false, false, false, 0x03⟩,
   ⟨0x2040, [], [⟨4, 4, .w1c⟩, ⟨3, 3, .w1c⟩, ⟨2, 2, .w1c⟩, ⟨1, 1, .w1c⟩, ⟨0, 0, .w1c⟩], 0x0, 8, true, false, false, false, 0x03⟩,
   ⟨0x2044, [], [⟨4, 0, .rw⟩], 0x0, 0, true, false, false, false, 0x03⟩]

/-- THM_CTRL, THM_STATUS, THM_LIMITS, THM_TIMING, THM_SUSPECT, THM_INT_STATUS, THM_INT_EN, THM_T. -/
def rowsThm : List RegRow :=
  [⟨0x3000, [], [⟨1, 0, .rw⟩], 0x0, 8, true, false, false, false, 0x04⟩,
   ⟨0x3004, [], [⟨31, 27, .ro⟩, ⟨26, 25, .ro⟩, ⟨24, 24, .ro⟩, ⟨23, 23, .ro⟩, ⟨22, 22, .ro⟩, ⟨21, 21, .ro⟩, ⟨19, 0, .ro⟩], 0x0, 8, true, false, false, false, 0x04⟩,
   ⟨0x3008, [], [⟨23, 16, .ro⟩, ⟨15, 8, .rw⟩, ⟨7, 0, .rw⟩], 0x786C64, 0, true, false, false, false, 0x04⟩,
   ⟨0x300C, [], [⟨23, 16, .rw⟩, ⟨15, 8, .rw⟩, ⟨7, 0, .rw⟩], 0x321414, 0, true, false, false, false, 0x04⟩,
   ⟨0x3010, [], [⟨23, 0, .ro⟩], 0x0, 8, true, false, false, false, 0x04⟩,
   ⟨0x3014, [], [⟨6, 6, .w1c⟩, ⟨5, 5, .w1c⟩, ⟨4, 4, .w1c⟩, ⟨3, 3, .w1c⟩, ⟨2, 2, .w1c⟩, ⟨1, 1, .w1c⟩, ⟨0, 0, .w1c⟩], 0x0, 8, true, false, false, false, 0x04⟩,
   ⟨0x3018, [], [⟨6, 0, .rw⟩], 0x0, 8, true, false, false, false, 0x04⟩,
   ⟨0x3100, [(24, 4)], [⟨19, 0, .ro⟩], 0x0, 8, true, false, false, true, 0x04⟩]

/-- SEC_CTRL, SEC_STATUS, SEC_BOOT_STATUS, SEC_KEY_EPOCH, SEC_KEY_SWITCH, SEC_FW_VERSION, SEC_INT_STATUS, SEC_INT_EN, SEC_CHALLENGE. -/
def rowsSec : List RegRow :=
  [⟨0x4000, [], [⟨0, 0, .rwsc⟩], 0x0, 8, true, false, false, false, 0x05⟩,
   ⟨0x4004, [], [⟨31, 24, .ro⟩, ⟨23, 16, .ro⟩, ⟨15, 13, .ro⟩, ⟨12, 12, .ro⟩, ⟨11, 11, .ro⟩, ⟨10, 8, .ro⟩, ⟨6, 6, .ro⟩, ⟨5, 5, .ro⟩, ⟨4, 4, .ro⟩, ⟨3, 3, .ro⟩, ⟨2, 2, .ro⟩, ⟨1, 1, .ro⟩, ⟨0, 0, .ro⟩], 0x700, 8, true, false, false, false, 0x05⟩,
   ⟨0x4008, [], [⟨23, 16, .ro⟩, ⟨15, 8, .ro⟩, ⟨7, 0, .ro⟩], 0x101, 8, true, false, false, false, 0x05⟩,
   ⟨0x400C, [], [⟨31, 0, .ro⟩], 0x0, 8, true, false, false, false, 0x05⟩,
   ⟨0x4010, [], [⟨31, 0, .ro⟩], 0x0, 8, true, false, false, false, 0x05⟩,
   ⟨0x4014, [], [⟨31, 0, .ro⟩], 0x0, 8, true, false, false, false, 0x05⟩,
   ⟨0x4018, [], [⟨5, 5, .w1c⟩, ⟨4, 4, .w1c⟩, ⟨3, 3, .w1c⟩, ⟨2, 2, .w1c⟩, ⟨1, 1, .w1c⟩, ⟨0, 0, .w1c⟩], 0x0, 8, true, false, false, false, 0x05⟩,
   ⟨0x401C, [], [⟨5, 0, .rw⟩], 0x0, 0, true, false, false, false, 0x05⟩,
   ⟨0x4020, [(8, 4)], [⟨31, 0, .ro⟩], 0x0, 8, true, false, false, false, 0x05⟩]

/-- MFT_CTRL, MFT_STATUS, MFT_CMD_BASE, MFT_CPL_BASE, MFT_EVT_BASE, MFT_DB, MFT_CMD_CI, MFT_CPL_PI, MFT_CPL_CI, MFT_EVT_PI, MFT_EVT_CI, MFT_COMMIT, MFT_COMMIT_STATUS, MFT_REMOTE_TO, MFT_INT_STATUS, MFT_INT_EN, MFT_INT_SRC, MFT_INT_SRC_B, MFT_EVT_LOST, MFT_REMOTE_LATE. -/
def rowsMft : List RegRow :=
  [⟨0x5000, [], [⟨18, 16, .rw⟩, ⟨14, 12, .rw⟩, ⟨10, 8, .rw⟩, ⟨0, 0, .rw⟩], 0x34400, 0, true, false, false, false, 0x06⟩,
   ⟨0x5004, [], [⟨2, 2, .ro⟩, ⟨1, 1, .ro⟩, ⟨0, 0, .ro⟩], 0x0, 8, true, false, false, false, 0x06⟩,
   ⟨0x5008, [], [⟨17, 0, .rw⟩], 0x0, 0, true, false, false, false, 0x06⟩,
   ⟨0x500C, [], [⟨17, 0, .rw⟩], 0x2000, 0, true, false, false, false, 0x06⟩,
   ⟨0x5010, [], [⟨17, 0, .rw⟩], 0x3000, 0, true, false, false, false, 0x06⟩,
   ⟨0x5014, [], [⟨7, 0, .rw⟩], 0x0, 8, true, false, false, false, 0x06⟩,
   ⟨0x5018, [], [⟨7, 0, .ro⟩], 0x0, 8, true, false, false, false, 0x06⟩,
   ⟨0x501C, [], [⟨8, 8, .ro⟩, ⟨7, 0, .ro⟩], 0x0, 8, true, false, false, false, 0x06⟩,
   ⟨0x5020, [], [⟨7, 0, .rw⟩], 0x0, 8, true, false, false, false, 0x06⟩,
   ⟨0x5024, [], [⟨8, 8, .ro⟩, ⟨6, 0, .ro⟩], 0x0, 8, true, false, false, false, 0x06⟩,
   ⟨0x5028, [], [⟨6, 0, .rw⟩], 0x0, 8, true, false, false, false, 0x06⟩,
   ⟨0x502C, [], [⟨31, 31, .rwsc⟩, ⟨15, 0, .rw⟩], 0x0, 8, true, false, false, false, 0x06⟩,
   ⟨0x5030, [], [⟨31, 24, .ro⟩, ⟨19, 0, .ro⟩], 0x0, 8, true, false, false, false, 0x06⟩,
   ⟨0x5034, [], [⟨7, 0, .rw⟩], 0x14, 8, true, false, false, false, 0x06⟩,
   ⟨0x5038, [], [⟨5, 5, .w1c⟩, ⟨4, 4, .w1c⟩, ⟨3, 3, .w1c⟩, ⟨2, 2, .w1c⟩, ⟨1, 1, .w1c⟩, ⟨0, 0, .w1c⟩], 0x0, 8, true, false, false, false, 0x06⟩,
   ⟨0x503C, [], [⟨5, 0, .rw⟩], 0x0, 8, true, false, false, false, 0x06⟩,
   ⟨0x5040, [], [], 0x0, 8, true, false, false, false, 0x06⟩,
   ⟨0x5044, [], [], 0x0, 8, true, false, false, false, 0x06⟩,
   ⟨0x5048, [], [⟨15, 0, .ro⟩], 0x0, 8, true, false, false, false, 0x06⟩,
   ⟨0x504C, [], [⟨15, 0, .ro⟩], 0x0, 8, true, false, false, false, 0x06⟩]

/-- MEM_CTRL, MEM_CODE_LIMIT, MEM_INT_STATUS, MEM_INT_EN, MEM_CORR, MEM_CORR_HI, MEM_UNCORR, MEM_UNCORR_HI, MEM_LAST_CORR, MEM_LAST_UNCORR, MEM_INJECT, MEM_UNPOISON, MEM_SCRUB_PASS, MEM_SPARE, BIST_CTRL, BIST_STATUS, BIST_EVENTS. -/
def rowsMem : List RegRow :=
  [⟨0x6000, [], [⟨15, 8, .rw⟩, ⟨1, 1, .rw⟩, ⟨0, 0, .rw⟩], 0xA03, 8, false, false, false, false, 0x07⟩,
   ⟨0x6004, [], [⟨31, 31, .w1s⟩, ⟨18, 0, .rw⟩], 0x0, 8, false, false, false, false, 0x07⟩,
   ⟨0x6008, [], [⟨8, 8, .w1c⟩, ⟨7, 7, .w1c⟩, ⟨6, 6, .w1c⟩, ⟨5, 5, .w1c⟩, ⟨4, 4, .w1c⟩, ⟨3, 3, .w1c⟩, ⟨2, 2, .w1c⟩, ⟨1, 1, .w1c⟩, ⟨0, 0, .w1c⟩], 0x0, 8, false, false, false, false, 0x07⟩,
   ⟨0x600C, [], [⟨8, 0, .rw⟩], 0x0, 8, false, false, false, false, 0x07⟩,
   ⟨0x6010, [], [⟨31, 0, .ro⟩], 0x0, 8, false, true, true, false, 0x07⟩,
   ⟨0x6014, [], [⟨15, 0, .ro⟩], 0x0, 8, false, true, false, false, 0x07⟩,
   ⟨0x6018, [], [⟨31, 0, .ro⟩], 0x0, 8, false, true, true, false, 0x07⟩,
   ⟨0x601C, [], [⟨15, 0, .ro⟩], 0x0, 8, false, true, false, false, 0x07⟩,
   ⟨0x6020, [], [⟨31, 0, .ro⟩], 0x0, 8, false, false, false, false, 0x07⟩,
   ⟨0x6024, [], [⟨31, 0, .ro⟩], 0x0, 8, false, false, false, false, 0x07⟩,
   ⟨0x6028, [], [⟨31, 31, .rwsc⟩, ⟨30, 30, .rw⟩, ⟨25, 18, .rw⟩, ⟨17, 9, .rw⟩, ⟨8, 6, .rw⟩, ⟨5, 0, .rw⟩], 0x0, 8, false, false, false, false, 0x07⟩,
   ⟨0x602C, [], [⟨31, 31, .rwsc⟩, ⟨25, 18, .rw⟩, ⟨17, 9, .rw⟩], 0x0, 8, false, false, false, false, 0x07⟩,
   ⟨0x6030, [], [⟨15, 0, .ro⟩], 0x0, 8, false, false, false, false, 0x07⟩,
   ⟨0x6100, [(49, 4)], [⟨3, 0, .ro⟩], 0x0, 8, false, false, false, false, 0x07⟩,
   ⟨0x6200, [], [⟨15, 8, .rw⟩, ⟨1, 1, .rw⟩, ⟨0, 0, .rw⟩], 0x3C03, 8, false, false, false, false, 0x07⟩,
   ⟨0x6204, [], [⟨31, 24, .ro⟩, ⟨23, 16, .ro⟩, ⟨15, 10, .ro⟩, ⟨9, 6, .ro⟩, ⟨1, 1, .ro⟩, ⟨0, 0, .ro⟩], 0xFFFF0000, 8, false, false, false, false, 0x07⟩,
   ⟨0x6208, [], [⟨31, 16, .ro⟩, ⟨15, 0, .ro⟩], 0x0, 8, false, false, false, false, 0x07⟩]

/-- PMU_CTRL, PMU_STATUS, PMU_USER_EN, PMU_OVF, PMU_INT_STATUS, PMU_INT_EN, PMU_SNAP_TIME, PMU_SNAP_TIME_HI, PMU_EVSEL, PMU_CNT, PMU_CNT_HI. -/
def rowsPmu : List RegRow :=
  [⟨0x7000, [], [⟨3, 3, .rwsc⟩, ⟨2, 2, .rw⟩, ⟨1, 1, .rwsc⟩, ⟨0, 0, .rw⟩], 0x0, 7, false, false, false, false, 0x08⟩,
   ⟨0x7004, [], [⟨2, 2, .ro⟩, ⟨1, 1, .ro⟩, ⟨0, 0, .ro⟩], 0x0, 8, false, false, false, false, 0x08⟩,
   ⟨0x7008, [], [⟨2, 2, .rw⟩, ⟨1, 1, .rw⟩, ⟨0, 0, .rw⟩], 0x0, 7, false, false, false, false, 0x08⟩,
   ⟨0x700C, [(2, 4)], [⟨31, 0, .w1c⟩], 0x0, 8, false, false, false, false, 0x08⟩,
   ⟨0x7014, [], [⟨1, 1, .w1c⟩, ⟨0, 0, .w1c⟩], 0x0, 8, false, false, false, false, 0x08⟩,
   ⟨0x7018, [], [⟨1, 0, .rw⟩], 0x0, 7, false, false, false, false, 0x08⟩,
   ⟨0x7020, [], [⟨31, 0, .ro⟩], 0x0, 8, false, false, true, false, 0x08⟩,
   ⟨0x7024, [], [⟨15, 0, .ro⟩], 0x0, 8, false, false, false, false, 0x08⟩,
   ⟨0x7100, [(64, 4)], [⟨31, 31, .rw⟩, ⟨30, 30, .rw⟩, ⟨29, 29, .rw⟩, ⟨23, 16, .rw⟩, ⟨15, 0, .rw⟩], 0x0, 7, false, false, false, false, 0x08⟩,
   ⟨0x7200, [(64, 8)], [⟨31, 0, .ro⟩], 0x0, 8, false, true, true, false, 0x08⟩,
   ⟨0x7204, [(64, 8)], [⟨15, 0, .ro⟩], 0x0, 8, false, true, false, false, 0x08⟩]

/-- MON_CTRL, MON_STATUS, MON_SEQ, MON_INJ, MON_CAL_CTRL, MON_OVR, MON_INT_STATUS, MON_INT_EN, MON_STALE_CNT, MON_INJ_RES, MON_CHCFG, MON_CHCFG22, MON_RES, MON_INFO, MON_OFS, MON_GAIN. -/
def rowsMon : List RegRow :=
  [⟨0x8000, [], [⟨0, 0, .rw⟩], 0x1, 8, false, false, false, false, 0x09⟩,
   ⟨0x8004, [], [⟨26, 24, .ro⟩, ⟨20, 16, .ro⟩, ⟨11, 10, .ro⟩, ⟨9, 9, .ro⟩, ⟨8, 8, .ro⟩], 0x0, 8, false, false, false, false, 0x09⟩,
   ⟨0x8008, [], [⟨23, 0, .rw⟩], 0xFFFFFF, 7, false, false, false, false, 0x09⟩,
   ⟨0x800C, [], [], 0x0, 8, false, false, false, false, 0x09⟩,
   ⟨0x8010, [], [⟨31, 31, .rwsc⟩, ⟨27, 24, .ro⟩, ⟨17, 16, .rw⟩, ⟨8, 8, .rw⟩, ⟨4, 0, .rw⟩], 0x20000, 8, false, false, false, false, 0x09⟩,
   ⟨0x8014, [], [⟨23, 0, .w1c⟩], 0x0, 8, false, false, false, false, 0x09⟩,
   ⟨0x8018, [], [⟨4, 4, .w1c⟩, ⟨3, 3, .w1c⟩, ⟨2, 2, .w1c⟩, ⟨1, 1, .w1c⟩, ⟨0, 0, .w1c⟩], 0x0, 8, false, false, false, false, 0x09⟩,
   ⟨0x801C, [], [⟨4, 0, .rw⟩], 0x0, 8, false, false, false, false, 0x09⟩,
   ⟨0x8020, [], [⟨15, 0, .ro⟩], 0x0, 8, false, false, false, false, 0x09⟩,
   ⟨0x8024, [], [⟨31, 0, .ro⟩], 0x0, 8, false, false, false, false, 0x09⟩,
   ⟨0x8100, [(22, 4)], [⟨8, 8, .rw⟩, ⟨4, 4, .ro⟩, ⟨1, 0, .rw⟩], 0x0, 7, false, false, false, false, 0x09⟩,
   ⟨0x8158, [(2, 4)], [⟨8, 8, .rw⟩, ⟨4, 4, .ro⟩, ⟨1, 0, .rw⟩], 0x10, 7, false, false, false, false, 0x09⟩,
   ⟨0x8200, [(24, 8)], [⟨31, 0, .ro⟩], 0x0, 8, false, false, false, false, 0x09⟩,
   ⟨0x8204, [(24, 8)], [⟨31, 16, .ro⟩, ⟨2, 2, .ro⟩, ⟨1, 1, .ro⟩, ⟨0, 0, .ro⟩], 0x0, 8, false, false, false, false, 0x09⟩,
   ⟨0x8400, [(24, 8)], [⟨19, 0, .rw⟩], 0x0, 7, false, false, false, true, 0x09⟩,
   ⟨0x8404, [(24, 8)], [⟨19, 0, .rw⟩], 0x40000, 7, false, false, false, false, 0x09⟩]

/-- BDAC_CTRL, BDAC_STATUS, BDAC_INT_STATUS, BDAC_INT_EN, BDAC_CODE, BDAC_CLR, BDAC_OUT. -/
def rowsBdac : List RegRow :=
  [⟨0x9000, [], [⟨8, 8, .rwsc⟩, ⟨0, 0, .rw⟩], 0x1, 8, true, false, false, false, 0x0A⟩,
   ⟨0x9004, [], [⟨17, 17, .ro⟩, ⟨16, 16, .ro⟩, ⟨15, 0, .ro⟩], 0xFFFF, 8, true, false, false, false, 0x0A⟩,
   ⟨0x9008, [], [⟨1, 1, .w1c⟩, ⟨0, 0, .w1c⟩], 0x0, 8, true, false, false, false, 0x0A⟩,
   ⟨0x900C, [], [⟨1, 0, .rw⟩], 0x0, 8, true, false, false, false, 0x0A⟩,
   ⟨0x9100, [(16, 4)], [⟨16, 16, .rw⟩, ⟨15, 0, .rw⟩], 0x0, 2, true, false, false, false, 0x0A⟩,
   ⟨0x9180, [(16, 4)], [⟨16, 16, .rw⟩, ⟨15, 0, .rw⟩], 0x0, 2, true, false, false, false, 0x0A⟩,
   ⟨0x9200, [(16, 4)], [⟨16, 16, .ro⟩, ⟨15, 0, .ro⟩], 0x0, 8, true, false, false, false, 0x0A⟩]

/-- CAL_CTRL, CAL_STATUS, CAL_SEQ, CAL_COMPAT_LIM, CAL_INT_STATUS, CAL_INT_EN. -/
def rowsCal : List RegRow :=
  [⟨0xA000, [], [⟨0, 0, .rw⟩], 0x0, 7, false, false, false, false, 0x0B⟩,
   ⟨0xA004, [], [⟨3, 3, .ro⟩, ⟨2, 2, .ro⟩, ⟨1, 1, .ro⟩, ⟨0, 0, .ro⟩], 0x0, 8, false, false, false, false, 0x0B⟩,
   ⟨0xA008, [], [⟨31, 0, .ro⟩], 0x0, 8, false, false, false, false, 0x0B⟩,
   ⟨0xA00C, [], [⟨25, 16, .rw⟩, ⟨15, 8, .rw⟩, ⟨7, 0, .rw⟩], 0x14D6460, 7, false, false, false, false, 0x0B⟩,
   ⟨0xA010, [], [⟨2, 2, .w1c⟩, ⟨1, 1, .w1c⟩, ⟨0, 0, .w1c⟩], 0x0, 8, false, false, false, false, 0x0B⟩,
   ⟨0xA014, [], [⟨2, 0, .rw⟩], 0x0, 8, false, false, false, false, 0x0B⟩]

/-- FAB_CFG, FAB_STATUS, FAB_ADDR, FAB_ID, FAB_ID_HI, FAB_HM_ID, FAB_HM_ID_HI, FAB_QM_ID, FAB_QM_ID_HI, FAB_EPOCH, FAB_MEMBERS, FAB_ISL, FAB_ADJ, FAB_RT_USE, FAB_INT_STATUS, FAB_INT_EN, FAB_ACL_DEF, FAB_ACL_CFG, FAB_ACL_LO, FAB_ACL_HI, FAB_TX, FAB_TX_HI, FAB_FWD, FAB_FWD_HI. -/
def rowsFaba : List RegRow :=
  [⟨0xB000, [], [⟨31, 24, .rw⟩, ⟨23, 16, .rw⟩, ⟨15, 8, .rw⟩, ⟨2, 2, .rw⟩, ⟨0, 0, .rw⟩], 0xFF05, 1, true, false, false, false, 0x0C⟩,
   ⟨0xB004, [], [⟨7, 7, .ro⟩, ⟨6, 6, .ro⟩, ⟨5, 5, .ro⟩, ⟨4, 4, .ro⟩, ⟨3, 3, .ro⟩, ⟨2, 2, .ro⟩, ⟨1, 1, .ro⟩, ⟨0, 0, .ro⟩], 0x0, 8, true, false, false, false, 0x0C⟩,
   ⟨0xB008, [], [⟨31, 31, .ro⟩, ⟨24, 0, .ro⟩], 0x0, 8, true, false, false, false, 0x0C⟩,
   ⟨0xB00C, [], [⟨31, 0, .ro⟩], 0x0, 8, true, false, true, false, 0x0C⟩,
   ⟨0xB010, [], [⟨31, 0, .ro⟩], 0x0, 8, true, false, false, false, 0x0C⟩,
   ⟨0xB014, [], [⟨31, 0, .ro⟩], 0x0, 8, true, false, true, false, 0x0C⟩,
   ⟨0xB018, [], [⟨31, 0, .ro⟩], 0x0, 8, true, false, false, false, 0x0C⟩,
   ⟨0xB01C, [], [⟨31, 0, .ro⟩], 0x0, 8, true, false, true, false, 0x0C⟩,
   ⟨0xB020, [], [⟨31, 0, .ro⟩], 0x0, 8, true, false, false, false, 0x0C⟩,
   ⟨0xB024, [], [⟨31, 0, .ro⟩], 0x0, 8, true, false, false, false, 0x0C⟩,
   ⟨0xB028, [], [⟨31, 16, .ro⟩, ⟨15, 0, .ro⟩], 0x0, 8, true, false, false, false, 0x0C⟩,
   ⟨0xB02C, [], [⟨16, 16, .rwsc⟩, ⟨15, 8, .rw⟩, ⟨7, 0, .rw⟩], 0x0, 1, true, false, false, false, 0x0C⟩,
   ⟨0xB030, [], [⟨15, 0, .ro⟩], 0x0, 8, true, false, false, false, 0x0C⟩,
   ⟨0xB034, [], [⟨28, 25, .ro⟩, ⟨24, 16, .ro⟩, ⟨15, 7, .ro⟩, ⟨6, 0, .ro⟩], 0x0, 8, true, false, false, false, 0x0C⟩,
   ⟨0xB038, [], [⟨11, 11, .w1c⟩, ⟨10, 10, .w1c⟩, ⟨9, 9, .w1c⟩, ⟨8, 8, .w1c⟩, ⟨7, 7, .w1c⟩, ⟨6, 6, .w1c⟩, ⟨5, 5, .w1c⟩, ⟨4, 4, .w1c⟩, ⟨3, 3, .w1c⟩, ⟨2, 2, .w1c⟩, ⟨1, 1, .w1c⟩, ⟨0, 0, .w1c⟩], 0x0, 8, true, false, false, false, 0x0C⟩,
   ⟨0xB03C, [], [⟨11, 0, .rw⟩], 0x0, 8, true, false, false, false, 0x0C⟩,
   ⟨0xB040, [], [⟨2, 0, .st⟩], 0x1, 1, true, false, false, false, 0x0C⟩,
   ⟨0xB100, [(16, 16)], [⟨31, 30, .st⟩, ⟨12, 8, .st⟩, ⟨2, 0, .st⟩], 0x0, 1, true, false, false, false, 0x0C⟩,
   ⟨0xB104, [(16, 16)], [⟨31, 0, .st⟩], 0x0, 1, true, false, false, false, 0x0C⟩,
   ⟨0xB108, [(16, 16)], [⟨31, 0, .st⟩], 0x0, 1, true, false, false, false, 0x0C⟩,
   ⟨0xB200, [], [⟨31, 0, .ro⟩], 0x0, 8, true, true, true, false, 0x0C⟩,
   ⟨0xB204, [], [⟨15, 0, .ro⟩], 0x0, 8, true, true, false, false, 0x0C⟩,
   ⟨0xB208, [], [⟨31, 0, .ro⟩], 0x0, 8, true, true, true, false, 0x0C⟩,
   ⟨0xB20C, [], [⟨15, 0, .ro⟩], 0x0, 8, true, true, false, false, 0x0C⟩]

/-- FAB_ERR_A, FAB_ERR_B, FAB_ERR_C, FAB_ERR_D. -/
def rowsFabb : List RegRow :=
  [⟨0xB210, [], [⟨31, 16, .ro⟩, ⟨15, 0, .ro⟩], 0x0, 8, true, false, false, false, 0x0C⟩,
   ⟨0xB214, [], [⟨31, 16, .ro⟩, ⟨15, 0, .ro⟩], 0x0, 8, true, false, false, false, 0x0C⟩,
   ⟨0xB218, [], [⟨31, 16, .ro⟩, ⟨15, 0, .ro⟩], 0x0, 8, true, false, false, false, 0x0C⟩,
   ⟨0xB21C, [], [⟨31, 16, .ro⟩, ⟨15, 0, .ro⟩], 0x0, 8, true, false, false, false, 0x0C⟩]

/-- All rows of block 0x0C. -/
def rowsFab : List RegRow := rowsFaba ++ rowsFabb

/-- HWS_CTRL, HWS_STATUS, HWS_INT_STATUS, HWS_INT_EN, HWS_ERR, HWS_FRM_RX, HWS_FRM_RX_HI. -/
def rowsHws : List RegRow :=
  [⟨0xC000, [(8, 512)], [⟨1, 1, .rw⟩, ⟨0, 0, .rw⟩], 0x1, 1, true, false, false, false, 0x0D⟩,
   ⟨0xC004, [(8, 512)], [⟨2, 2, .ro⟩, ⟨1, 1, .ro⟩, ⟨0, 0, .ro⟩], 0x0, 8, true, false, false, false, 0x0D⟩,
   ⟨0xC008, [(8, 512)], [⟨2, 2, .w1c⟩, ⟨1, 1, .w1c⟩, ⟨0, 0, .w1c⟩], 0x0, 8, true, false, false, false, 0x0D⟩,
   ⟨0xC00C, [(8, 512)], [⟨2, 0, .rw⟩], 0x0, 8, true, false, false, false, 0x0D⟩,
   ⟨0xC010, [(8, 512)], [⟨31, 16, .ro⟩, ⟨15, 0, .ro⟩], 0x0, 8, true, false, false, false, 0x0D⟩,
   ⟨0xC020, [(8, 512)], [⟨31, 0, .ro⟩], 0x0, 8, true, true, true, false, 0x0D⟩,
   ⟨0xC024, [(8, 512)], [⟨15, 0, .ro⟩], 0x0, 8, true, true, false, false, 0x0D⟩]

/-- LRX_CTRL, LRX_STATUS, LRX_TIA, LRX_DCB, LRX_DCB_EST, LRX_FFE_CFG, LRX_MLSE_CFG, LRX_ADAPT, LRX_CDR_CFG, LRX_CDR_FREQ, LRX_LOS_CFG, LRX_AGC_CFG, LRX_CLIP_MAP_LO, LRX_CLIP_MAP_HI, LRX_INT_STATUS, LRX_INT_EN, LRX_STATE, LRX_FFE_TAP, LRX_MLSE_G, LRX_LEVEL, LRX_OVR_CNT, LRX_OVR_CNT_HI, LRX_ICW_TOTAL, LRX_ICW_TOTAL_HI. -/
def rowsLrxa : List RegRow :=
  [⟨0x10000, [(8, 8192)], [⟨4, 3, .st⟩, ⟨2, 2, .st⟩, ⟨1, 1, .rw⟩, ⟨0, 0, .rwsc⟩], 0x8, 4, false, false, false, false, 0x10⟩,
   ⟨0x10004, [(8, 8192)], [⟨16, 16, .ro⟩, ⟨15, 12, .ro⟩, ⟨11, 8, .ro⟩, ⟨7, 7, .ro⟩, ⟨6, 6, .ro⟩, ⟨5, 5, .ro⟩, ⟨4, 4, .ro⟩, ⟨3, 3, .ro⟩, ⟨2, 2, .ro⟩, ⟨1, 1, .ro⟩, ⟨0, 0, .ro⟩], 0x18001, 8, false, false, false, false, 0x10⟩,
   ⟨0x10008, [(8, 8192)], [⟨6, 6, .rw⟩, ⟨5, 5, .rw⟩, ⟨4, 4, .st⟩, ⟨3, 0, .rw⟩], 0x78, 4, false, false, false, false, 0x10⟩,
   ⟨0x1000C, [(8, 8192)], [⟨3, 3, .rw⟩, ⟨2, 2, .rw⟩, ⟨1, 0, .st⟩], 0xA, 4, false, false, false, false, 0x10⟩,
   ⟨0x10010, [(8, 8192)], [⟨19, 0, .ro⟩], 0x0, 8, false, false, false, true, 0x10⟩,
   ⟨0x10014, [(8, 8192)], [⟨16, 16, .ro⟩, ⟨15, 6, .st⟩, ⟨5, 0, .st⟩], 0x400C, 4, false, false, false, false, 0x10⟩,
   ⟨0x10018, [(8, 8192)], [⟨5, 5, .rw⟩, ⟨4, 4, .rw⟩, ⟨3, 0, .rw⟩], 0x36, 4, false, false, false, false, 0x10⟩,
   ⟨0x1001C, [(8, 8192)], [⟨29, 25, .rw⟩, ⟨24, 20, .rw⟩, ⟨19, 15, .rw⟩, ⟨14, 10, .rw⟩, ⟨9, 5, .rw⟩, ⟨4, 0, .rw⟩], 0x1886A5CA, 4, false, false, false, false, 0x10⟩,
   ⟨0x10020, [(8, 8192)], [⟨17, 13, .rw⟩, ⟨12, 8, .rw⟩, ⟨7, 4, .rw⟩, ⟨3, 0, .rw⟩], 0x1CA64, 4, false, false, false, false, 0x10⟩,
   ⟨0x10024, [(8, 8192)], [⟨19, 0, .ro⟩], 0x0, 8, false, false, false, true, 0x10⟩,
   ⟨0x10028, [(8, 8192)], [⟨11, 8, .rw⟩, ⟨6, 0, .rw⟩], 0x410, 4, false, false, false, false, 0x10⟩,
   ⟨0x1002C, [(8, 8192)], [⟨23, 16, .rw⟩, ⟨15, 0, .rw⟩], 0x400010, 4, false, false, false, false, 0x10⟩,
   ⟨0x10030, [(8, 8192)], [⟨31, 0, .w1c⟩], 0x0, 8, false, false, false, false, 0x10⟩,
   ⟨0x10034, [(8, 8192)], [⟨31, 0, .w1c⟩], 0x0, 8, false, false, false, false, 0x10⟩,
   ⟨0x10038, [(8, 8192)], [⟨7, 7, .w1c⟩, ⟨6, 6, .w1c⟩, ⟨5, 5, .w1c⟩, ⟨4, 4, .w1c⟩, ⟨3, 3, .w1c⟩, ⟨2, 2, .w1c⟩, ⟨1, 1, .w1c⟩, ⟨0, 0, .w1c⟩], 0x0, 8, false, false, false, false, 0x10⟩,
   ⟨0x1003C, [(8, 8192)], [⟨7, 0, .rw⟩], 0x0, 8, false, false, false, false, 0x10⟩,
   ⟨0x10040, [(8, 8192)], [⟨12, 10, .ro⟩, ⟨9, 7, .ro⟩, ⟨6, 4, .ro⟩, ⟨2, 0, .rw⟩], 0x1F80, 1, true, false, false, false, 0x10⟩,
   ⟨0x10100, [(8, 8192), (40, 4)], [⟨9, 0, .rw⟩], 0x0, 8, false, false, false, false, 0x10⟩,
   ⟨0x101A0, [(8, 8192), (3, 4)], [⟨9, 0, .rw⟩], 0x0, 8, false, false, false, false, 0x10⟩,
   ⟨0x101B0, [(8, 8192), (4, 4)], [⟨19, 0, .rw⟩], 0x0, 8, false, false, false, true, 0x10⟩,
   ⟨0x10200, [(8, 8192)], [⟨31, 0, .ro⟩], 0x0, 8, false, true, true, false, 0x10⟩,
   ⟨0x10204, [(8, 8192)], [⟨15, 0, .ro⟩], 0x0, 8, false, true, false, false, 0x10⟩,
   ⟨0x10208, [(8, 8192)], [⟨31, 0, .ro⟩], 0x0, 8, false, true, true, false, 0x10⟩,
   ⟨0x1020C, [(8, 8192)], [⟨15, 0, .ro⟩], 0x0, 8, false, true, false, false, 0x10⟩]

/-- LRX_ICW_CORR, LRX_ICW_CORR_HI, LRX_ICW_FAIL, LRX_ICW_FAIL_HI, LRX_FFE_SAT, LRX_FFE_SAT_HI, LRX_GAIN_STEPS, LRX_LOCK_EVENTS, LRX_CW_TOTAL, LRX_CW_TOTAL_HI, LRX_CW_NZ, LRX_CW_NZ_HI, LRX_CW_CORR, LRX_CW_CORR_HI, LRX_CW_FAIL, LRX_CW_FAIL_HI, LRX_CW_MISS, LRX_CW_MISS_HI, LRX_SYM_CORR, LRX_SYM_CORR_HI, LRX_SYN_CTRL, LRX_SYN_STATUS, LRX_CORR_HIST. -/
def rowsLrxb : List RegRow :=
  [⟨0x10210, [(8, 8192)], [⟨31, 0, .ro⟩], 0x0, 8, false, true, true, false, 0x10⟩,
   ⟨0x10214, [(8, 8192)], [⟨15, 0, .ro⟩], 0x0, 8, false, true, false, false, 0x10⟩,
   ⟨0x10218, [(8, 8192)], [⟨31, 0, .ro⟩], 0x0, 8, false, true, true, false, 0x10⟩,
   ⟨0x1021C, [(8, 8192)], [⟨15, 0, .ro⟩], 0x0, 8, false, true, false, false, 0x10⟩,
   ⟨0x10220, [(8, 8192)], [⟨31, 0, .ro⟩], 0x0, 8, false, true, true, false, 0x10⟩,
   ⟨0x10224, [(8, 8192)], [⟨15, 0, .ro⟩], 0x0, 8, false, true, false, false, 0x10⟩,
   ⟨0x10228, [(8, 8192)], [⟨31, 16, .ro⟩, ⟨15, 0, .ro⟩], 0x0, 8, false, false, false, false, 0x10⟩,
   ⟨0x1022C, [(8, 8192)], [⟨31, 16, .ro⟩, ⟨15, 0, .ro⟩], 0x0, 8, false, false, false, false, 0x10⟩,
   ⟨0x10400, [(8, 8192), (2, 64)], [⟨31, 0, .ro⟩], 0x0, 8, false, true, true, false, 0x10⟩,
   ⟨0x10404, [(8, 8192), (2, 64)], [⟨15, 0, .ro⟩], 0x0, 8, false, true, false, false, 0x10⟩,
   ⟨0x10408, [(8, 8192), (2, 64)], [⟨31, 0, .ro⟩], 0x0, 8, false, true, true, false, 0x10⟩,
   ⟨0x1040C, [(8, 8192), (2, 64)], [⟨15, 0, .ro⟩], 0x0, 8, false, true, false, false, 0x10⟩,
   ⟨0x10410, [(8, 8192), (2, 64)], [⟨31, 0, .ro⟩], 0x0, 8, false, true, true, false, 0x10⟩,
   ⟨0x10414, [(8, 8192), (2, 64)], [⟨15, 0, .ro⟩], 0x0, 8, false, true, false, false, 0x10⟩,
   ⟨0x10418, [(8, 8192), (2, 64)], [⟨31, 0, .ro⟩], 0x0, 8, false, true, true, false, 0x10⟩,
   ⟨0x1041C, [(8, 8192), (2, 64)], [⟨15, 0, .ro⟩], 0x0, 8, false, true, false, false, 0x10⟩,
   ⟨0x10420, [(8, 8192), (2, 64)], [⟨31, 0, .ro⟩], 0x0, 8, false, true, true, false, 0x10⟩,
   ⟨0x10424, [(8, 8192), (2, 64)], [⟨15, 0, .ro⟩], 0x0, 8, false, true, false, false, 0x10⟩,
   ⟨0x10428, [(8, 8192), (2, 64)], [⟨31, 0, .ro⟩], 0x0, 8, false, true, true, false, 0x10⟩,
   ⟨0x1042C, [(8, 8192), (2, 64)], [⟨15, 0, .ro⟩], 0x0, 8, false, true, false, false, 0x10⟩,
   ⟨0x10480, [(8, 8192)], [⟨0, 0, .st⟩], 0x0, 4, false, false, false, false, 0x10⟩,
   ⟨0x10484, [(8, 8192)], [⟨1, 1, .ro⟩, ⟨0, 0, .ro⟩], 0x0, 8, false, false, false, false, 0x10⟩,
   ⟨0x10500, [(8, 8192), (19, 4)], [⟨31, 0, .ro⟩], 0x0, 8, false, false, false, false, 0x10⟩]

/-- All rows of block 0x10. -/
def rowsLrx : List RegRow := rowsLrxa ++ rowsLrxb

/-- LRX_BW_CTRL, LRX_BW_STATUS, LRX_BW_INT_STATUS, LRX_BW_INT_EN, LRX_BW_EVENTS, LRX_BW_GROUPS, LRX_BW_GROUPS_HI, LRX_BW_REBUILT, LRX_BW_REBUILT_HI, LRX_BW_UNRECOV, LRX_BW_UNRECOV_HI, LRX_BW_MISMATCH, LRX_BW_MISMATCH_HI, LRX_BW_PAR_ERASED, LRX_BW_PAR_ERASED_HI, LRX_BW_E2_SKIP, LRX_BW_E2_SKIP_HI. -/
def rowsLbw : List RegRow :=
  [⟨0x10800, [(8, 8192)], [⟨1, 1, .rw⟩, ⟨0, 0, .rwsc⟩], 0x2, 8, false, false, false, false, 0x11⟩,
   ⟨0x10804, [(8, 8192)], [⟨13, 8, .ro⟩, ⟨5, 5, .ro⟩, ⟨4, 4, .ro⟩, ⟨3, 3, .ro⟩, ⟨2, 2, .ro⟩, ⟨1, 1, .ro⟩, ⟨0, 0, .ro⟩], 0x0, 8, false, false, false, false, 0x11⟩,
   ⟨0x10808, [(8, 8192)], [⟨4, 4, .w1c⟩, ⟨3, 3, .w1c⟩, ⟨2, 2, .w1c⟩, ⟨1, 1, .w1c⟩, ⟨0, 0, .w1c⟩], 0x0, 8, false, false, false, false, 0x11⟩,
   ⟨0x1080C, [(8, 8192)], [⟨4, 0, .rw⟩], 0x0, 8, false, false, false, false, 0x11⟩,
   ⟨0x10810, [(8, 8192)], [⟨31, 16, .ro⟩, ⟨15, 0, .ro⟩], 0x0, 8, false, false, false, false, 0x11⟩,
   ⟨0x10840, [(8, 8192), (2, 64)], [⟨31, 0, .ro⟩], 0x0, 8, false, true, true, false, 0x11⟩,
   ⟨0x10844, [(8, 8192), (2, 64)], [⟨15, 0, .ro⟩], 0x0, 8, false, true, false, false, 0x11⟩,
   ⟨0x10848, [(8, 8192), (2, 64)], [⟨31, 0, .ro⟩], 0x0, 8, false, true, true, false, 0x11⟩,
   ⟨0x1084C, [(8, 8192), (2, 64)], [⟨15, 0, .ro⟩], 0x0, 8, false, true, false, false, 0x11⟩,
   ⟨0x10850, [(8, 8192), (2, 64)], [⟨31, 0, .ro⟩], 0x0, 8, false, true, true, false, 0x11⟩,
   ⟨0x10854, [(8, 8192), (2, 64)], [⟨15, 0, .ro⟩], 0x0, 8, false, true, false, false, 0x11⟩,
   ⟨0x10858, [(8, 8192), (2, 64)], [⟨31, 0, .ro⟩], 0x0, 8, false, true, true, false, 0x11⟩,
   ⟨0x1085C, [(8, 8192), (2, 64)], [⟨15, 0, .ro⟩], 0x0, 8, false, true, false, false, 0x11⟩,
   ⟨0x10860, [(8, 8192), (2, 64)], [⟨31, 0, .ro⟩], 0x0, 8, false, true, true, false, 0x11⟩,
   ⟨0x10864, [(8, 8192), (2, 64)], [⟨15, 0, .ro⟩], 0x0, 8, false, true, false, false, 0x11⟩,
   ⟨0x10868, [(8, 8192), (2, 64)], [⟨31, 0, .ro⟩], 0x0, 8, false, true, true, false, 0x11⟩,
   ⟨0x1086C, [(8, 8192), (2, 64)], [⟨15, 0, .ro⟩], 0x0, 8, false, true, false, false, 0x11⟩]

/-- LRX_CAL_CTRL, LRX_CAL_STATUS, LRX_CAL_EVENTS, LRX_TIA_TRIM, LRX_PLL_CAL, LRX_CAL_INT_STATUS, LRX_CAL_INT_EN, LRX_ADC_TRIM. -/
def rowsLcal : List RegRow :=
  [⟨0x11000, [(8, 8192)], [⟨12, 8, .rw⟩, ⟨7, 4, .rw⟩, ⟨1, 1, .rw⟩, ⟨0, 0, .rw⟩], 0x1483, 8, false, false, false, false, 0x10⟩,
   ⟨0x11004, [(8, 8192)], [⟨3, 3, .ro⟩, ⟨2, 2, .ro⟩, ⟨1, 1, .ro⟩, ⟨0, 0, .ro⟩], 0x0, 8, false, false, false, false, 0x10⟩,
   ⟨0x11008, [(8, 8192)], [⟨31, 16, .ro⟩, ⟨15, 0, .ro⟩], 0x0, 8, false, false, false, false, 0x10⟩,
   ⟨0x1100C, [(8, 8192)], [⟨7, 0, .rw⟩], 0x0, 5, false, false, false, false, 0x10⟩,
   ⟨0x11010, [(8, 8192)], [⟨13, 8, .ro⟩, ⟨6, 0, .ro⟩], 0x0, 5, false, false, false, false, 0x10⟩,
   ⟨0x11014, [(8, 8192)], [⟨2, 2, .w1c⟩, ⟨1, 1, .w1c⟩, ⟨0, 0, .w1c⟩], 0x0, 8, false, false, false, false, 0x10⟩,
   ⟨0x11018, [(8, 8192)], [⟨2, 0, .rw⟩], 0x0, 8, false, false, false, false, 0x10⟩,
   ⟨0x11100, [(8, 8192), (64, 4)], [⟨25, 16, .rw⟩, ⟨15, 8, .rw⟩, ⟨7, 0, .rw⟩], 0x0, 5, false, false, false, false, 0x10⟩]

/-- LTX_CTRL, LTX_STATUS, LTX_CFG, LTX_DPD_CTRL, LTX_DPD_STATUS, LTX_PILOT, LTX_INT_STATUS, LTX_INT_EN, LTX_FFE_TAP, LTX_FFE_TAP3, LTX_FFE_TAP4, LTX_PWR_TBL, LTX_DPD_LUT, LTX_TX_SAT, LTX_TX_SAT_HI, LTX_DPD_EVENTS, LTX_DRV_TRIM, LTX_PLL_CAL. -/
def rowsLtx : List RegRow :=
  [⟨0x20000, [(8, 4096)], [⟨11, 11, .rw⟩, ⟨10, 10, .rw⟩, ⟨9, 9, .rw⟩, ⟨8, 8, .rw⟩, ⟨2, 0, .rw⟩], 0xA00, 1, true, false, false, false, 0x20⟩,
   ⟨0x20004, [(8, 4096)], [⟨20, 20, .ro⟩, ⟨19, 19, .ro⟩, ⟨18, 18, .ro⟩, ⟨17, 17, .ro⟩, ⟨16, 16, .ro⟩, ⟨15, 15, .ro⟩, ⟨14, 14, .ro⟩, ⟨13, 13, .ro⟩, ⟨12, 12, .ro⟩, ⟨11, 11, .ro⟩, ⟨10, 10, .ro⟩, ⟨9, 7, .ro⟩, ⟨6, 4, .ro⟩, ⟨2, 0, .ro⟩], 0x3F0, 8, true, false, false, false, 0x20⟩,
   ⟨0x20008, [(8, 4096)], [⟨4, 4, .st⟩, ⟨3, 0, .rw⟩], 0x0, 1, true, false, false, false, 0x20⟩,
   ⟨0x2000C, [(8, 4096)], [⟨19, 16, .rw⟩, ⟨15, 8, .rw⟩, ⟨3, 3, .rw⟩, ⟨2, 2, .rw⟩, ⟨1, 0, .rw⟩], 0x10A00, 6, false, false, false, false, 0x20⟩,
   ⟨0x20010, [(8, 4096)], [⟨23, 16, .ro⟩, ⟨15, 8, .ro⟩, ⟨7, 7, .ro⟩, ⟨6, 0, .ro⟩], 0x0, 6, false, false, false, false, 0x20⟩,
   ⟨0x20014, [(8, 4096)], [⟨15, 8, .rw⟩, ⟨4, 0, .rw⟩], 0x2808, 1, true, false, false, false, 0x20⟩,
   ⟨0x20018, [(8, 4096)], [⟨6, 6, .w1c⟩, ⟨5, 5, .w1c⟩, ⟨4, 4, .w1c⟩, ⟨3, 3, .w1c⟩, ⟨2, 2, .w1c⟩, ⟨1, 1, .w1c⟩, ⟨0, 0, .w1c⟩], 0x0, 8, false, false, false, false, 0x20⟩,
   ⟨0x2001C, [(8, 4096)], [⟨6, 0, .rw⟩], 0x0, 8, false, false, false, false, 0x20⟩,
   ⟨0x20100, [(8, 4096), (3, 4)], [⟨8, 0, .st⟩], 0x0, 6, false, false, false, false, 0x20⟩,
   ⟨0x2010C, [(8, 4096)], [⟨8, 0, .st⟩], 0x80, 6, false, false, false, false, 0x20⟩,
   ⟨0x20110, [(8, 4096), (3, 4)], [⟨8, 0, .st⟩], 0x0, 6, false, false, false, false, 0x20⟩,
   ⟨0x20200, [(8, 4096), (16, 4)], [⟨23, 16, .rw⟩, ⟨10, 8, .rw⟩, ⟨5, 0, .rw⟩], 0x20, 6, false, false, false, false, 0x20⟩,
   ⟨0x20300, [(8, 4096), (64, 4)], [⟨9, 0, .rw⟩], 0x0, 6, false, false, false, false, 0x20⟩,
   ⟨0x20400, [(8, 4096)], [⟨31, 0, .ro⟩], 0x0, 8, false, true, true, false, 0x20⟩,
   ⟨0x20404, [(8, 4096)], [⟨15, 0, .ro⟩], 0x0, 8, false, true, false, false, 0x20⟩,
   ⟨0x20408, [(8, 4096)], [⟨31, 16, .ro⟩, ⟨15, 0, .ro⟩], 0x0, 8, false, false, false, false, 0x20⟩,
   ⟨0x20500, [(8, 4096)], [⟨5, 0, .rw⟩], 0x0, 5, false, false, false, false, 0x20⟩,
   ⟨0x20504, [(8, 4096)], [⟨13, 8, .ro⟩, ⟨6, 0, .ro⟩], 0x0, 5, false, false, false, false, 0x20⟩]

/-- PLT_CTRL, PLT_STATUS, PLT_RX_CFG, PLT_LOAD_CFG, PLT_AGC, PLT_RES_FREQ, PLT_QUAL, PLT_INT_STATUS, PLT_INT_EN, PLT_EVM, PLT_FRM_RX, PLT_FRM_RX_HI, PLT_FRM_TX, PLT_FRM_TX_HI, PLT_ERR_A, PLT_ERR_B, PLT_ERR_C, PLT_ERR_D, PLT_SAT, PLT_FIR_SAT, PLT_FIR_COEF. -/
def rowsPlt : List RegRow :=
  [⟨0x28000, [(8, 2048)], [⟨8, 8, .rwsc⟩, ⟨7, 7, .rw⟩, ⟨5, 4, .rw⟩, ⟨3, 3, .rw⟩, ⟨1, 0, .rw⟩], 0xB8, 1, true, false, false, false, 0x28⟩,
   ⟨0x28004, [(8, 2048)], [⟨19, 19, .ro⟩, ⟨18, 18, .ro⟩, ⟨17, 17, .ro⟩, ⟨16, 16, .ro⟩, ⟨15, 15, .ro⟩, ⟨14, 14, .ro⟩, ⟨13, 13, .ro⟩, ⟨12, 12, .ro⟩, ⟨11, 8, .ro⟩, ⟨7, 4, .ro⟩, ⟨3, 2, .ro⟩, ⟨1, 0, .ro⟩], 0x0, 8, true, false, false, false, 0x28⟩,
   ⟨0x28008, [(8, 2048)], [⟨31, 24, .st⟩, ⟨23, 23, .st⟩, ⟨19, 16, .st⟩, ⟨13, 12, .st⟩, ⟨9, 9, .rw⟩, ⟨8, 8, .rw⟩, ⟨7, 0, .rw⟩], 0x41240, 1, true, false, false, false, 0x28⟩,
   ⟨0x2800C, [(8, 2048)], [⟨15, 8, .rw⟩, ⟨3, 0, .rw⟩], 0xA06, 1, true, false, false, false, 0x28⟩,
   ⟨0x28010, [(8, 2048)], [⟨23, 16, .ro⟩, ⟨15, 0, .rw⟩], 0x608000, 1, true, false, false, false, 0x28⟩,
   ⟨0x28014, [(8, 2048)], [⟨19, 0, .ro⟩], 0x0, 8, true, false, false, true, 0x28⟩,
   ⟨0x28018, [(8, 2048)], [⟨15, 12, .ro⟩, ⟨9, 8, .ro⟩, ⟨7, 0, .ro⟩], 0x0, 8, true, false, false, false, 0x28⟩,
   ⟨0x2801C, [(8, 2048)], [⟨8, 8, .w1c⟩, ⟨7, 7, .w1c⟩, ⟨6, 6, .w1c⟩, ⟨5, 5, .w1c⟩, ⟨4, 4, .w1c⟩, ⟨3, 3, .w1c⟩, ⟨2, 2, .w1c⟩, ⟨1, 1, .w1c⟩, ⟨0, 0, .w1c⟩], 0x0, 8, true, false, false, false, 0x28⟩,
   ⟨0x28020, [(8, 2048)], [⟨8, 0, .rw⟩], 0x0, 1, true, false, false, false, 0x28⟩,
   ⟨0x28040, [(8, 2048), (16, 4)], [⟨31, 0, .ro⟩], 0x0, 8, true, false, false, false, 0x28⟩,
   ⟨0x28100, [(8, 2048)], [⟨31, 0, .ro⟩], 0x0, 8, true, true, true, false, 0x28⟩,
   ⟨0x28104, [(8, 2048)], [⟨15, 0, .ro⟩], 0x0, 8, true, true, false, false, 0x28⟩,
   ⟨0x28108, [(8, 2048)], [⟨31, 0, .ro⟩], 0x0, 8, true, true, true, false, 0x28⟩,
   ⟨0x2810C, [(8, 2048)], [⟨15, 0, .ro⟩], 0x0, 8, true, true, false, false, 0x28⟩,
   ⟨0x28110, [(8, 2048)], [⟨31, 16, .ro⟩, ⟨15, 0, .ro⟩], 0x0, 8, true, false, false, false, 0x28⟩,
   ⟨0x28114, [(8, 2048)], [⟨31, 16, .ro⟩, ⟨15, 0, .ro⟩], 0x0, 8, true, false, false, false, 0x28⟩,
   ⟨0x28118, [(8, 2048)], [⟨31, 16, .ro⟩, ⟨15, 0, .ro⟩], 0x0, 8, true, false, false, false, 0x28⟩,
   ⟨0x2811C, [(8, 2048)], [⟨31, 16, .ro⟩, ⟨15, 0, .ro⟩], 0x0, 8, true, false, false, false, 0x28⟩,
   ⟨0x28120, [(8, 2048)], [⟨31, 16, .ro⟩, ⟨15, 0, .ro⟩], 0x0, 8, true, false, false, false, 0x28⟩,
   ⟨0x28124, [(8, 2048)], [⟨15, 0, .ro⟩], 0x0, 8, true, false, false, false, 0x28⟩,
   ⟨0x28400, [(8, 2048), (255, 4)], [⟨15, 0, .st⟩], 0x0, 8, true, false, false, false, 0x28⟩]

/-- POOL_CTRL, POOL_STATUS, POOL_SUPPLY_CFG, POOL_LOOP_CFG, POOL_CAP_A, POOL_CAP_B, POOL_TIDE, POOL_TIDE_PRED, POOL_INT_STATUS, POOL_INT_EN, POOL_QUAR, POOL_AVAIL, POOL_SLOT_RET, POOL_SLOT_RET_HI, POOL_SLOT_WASTE, POOL_SLOT_WASTE_HI, POOL_SLOT_FRONT, POOL_SLOT_FRONT_HI, POOL_SLOT_BACK, POOL_SLOT_BACK_HI, POOL_ADMIT, POOL_ADMIT_HI, POOL_REFUSED, POOL_REFUSED_HI. -/
def rowsPoola : List RegRow :=
  [⟨0x30000, [], [⟨8, 8, .rw⟩, ⟨6, 4, .st⟩, ⟨2, 0, .st⟩], 0x141, 7, false, false, false, false, 0x30⟩,
   ⟨0x30004, [], [⟨30, 24, .ro⟩, ⟨22, 16, .ro⟩, ⟨12, 11, .ro⟩, ⟨10, 10, .ro⟩, ⟨9, 9, .ro⟩, ⟨8, 8, .ro⟩, ⟨7, 6, .ro⟩, ⟨5, 0, .ro⟩], 0x400294, 8, false, false, false, false, 0x30⟩,
   ⟨0x30008, [], [⟨30, 24, .rw⟩, ⟨21, 16, .rw⟩, ⟨13, 8, .rw⟩, ⟨5, 0, .rw⟩], 0xA102800, 7, false, false, false, false, 0x30⟩,
   ⟨0x3000C, [], [⟨31, 24, .rw⟩, ⟨23, 16, .rw⟩, ⟨15, 0, .rw⟩], 0x10100001, 7, false, false, false, false, 0x30⟩,
   ⟨0x30010, [], [⟨29, 20, .rw⟩, ⟨19, 10, .rw⟩, ⟨9, 0, .rw⟩], 0x3FFFFFFF, 7, false, false, false, false, 0x30⟩,
   ⟨0x30014, [], [⟨9, 0, .rw⟩], 0x3FF, 7, false, false, false, false, 0x30⟩,
   ⟨0x30018, [], [⟨19, 0, .ro⟩], 0x0, 8, false, false, false, false, 0x30⟩,
   ⟨0x3001C, [], [⟨31, 16, .ro⟩, ⟨15, 0, .ro⟩], 0x0, 8, false, false, false, false, 0x30⟩,
   ⟨0x30020, [], [⟨4, 4, .w1c⟩, ⟨3, 3, .w1c⟩, ⟨2, 2, .w1c⟩, ⟨1, 1, .w1c⟩, ⟨0, 0, .w1c⟩], 0x0, 8, false, false, false, false, 0x30⟩,
   ⟨0x30024, [], [⟨4, 0, .rw⟩], 0x0, 8, false, false, false, false, 0x30⟩,
   ⟨0x30028, [(2, 4)], [⟨31, 0, .ro⟩], 0x0, 8, false, false, false, false, 0x30⟩,
   ⟨0x30030, [(2, 4)], [⟨31, 0, .ro⟩], 0xFFFFFFFF, 8, false, false, false, false, 0x30⟩,
   ⟨0x30100, [], [⟨31, 0, .ro⟩], 0x0, 8, false, true, true, false, 0x30⟩,
   ⟨0x30104, [], [⟨15, 0, .ro⟩], 0x0, 8, false, true, false, false, 0x30⟩,
   ⟨0x30108, [], [⟨31, 0, .ro⟩], 0x0, 8, false, true, true, false, 0x30⟩,
   ⟨0x3010C, [], [⟨15, 0, .ro⟩], 0x0, 8, false, true, false, false, 0x30⟩,
   ⟨0x30110, [], [⟨31, 0, .ro⟩], 0x0, 8, false, true, true, false, 0x30⟩,
   ⟨0x30114, [], [⟨15, 0, .ro⟩], 0x0, 8, false, true, false, false, 0x30⟩,
   ⟨0x30118, [], [⟨31, 0, .ro⟩], 0x0, 8, false, true, true, false, 0x30⟩,
   ⟨0x3011C, [], [⟨15, 0, .ro⟩], 0x0, 8, false, true, false, false, 0x30⟩,
   ⟨0x30120, [], [⟨31, 0, .ro⟩], 0x0, 8, false, true, true, false, 0x30⟩,
   ⟨0x30124, [], [⟨15, 0, .ro⟩], 0x0, 8, false, true, false, false, 0x30⟩,
   ⟨0x30128, [], [⟨31, 0, .ro⟩], 0x0, 8, false, true, true, false, 0x30⟩,
   ⟨0x3012C, [], [⟨15, 0, .ro⟩], 0x0, 8, false, true, false, false, 0x30⟩]

/-- POOL_STOLEN, POOL_STOLEN_HI, POOL_REQUEUE, POOL_REQUEUE_HI, POOL_BERTH, ENG_STATUS, ENG_CW, ENG_STOLEN, ENG_BUSY, ENG_BIST. -/
def rowsPoolb : List RegRow :=
  [⟨0x30130, [], [⟨31, 0, .ro⟩], 0x0, 8, false, true, true, false, 0x30⟩,
   ⟨0x30134, [], [⟨15, 0, .ro⟩], 0x0, 8, false, true, false, false, 0x30⟩,
   ⟨0x30138, [], [⟨31, 0, .ro⟩], 0x0, 8, false, true, true, false, 0x30⟩,
   ⟨0x3013C, [], [⟨15, 0, .ro⟩], 0x0, 8, false, true, false, false, 0x30⟩,
   ⟨0x30200, [(16, 4)], [⟨8, 8, .ro⟩, ⟨2, 0, .ro⟩], 0x0, 8, false, false, false, false, 0x30⟩,
   ⟨0x31000, [(64, 64)], [⟨10, 10, .ro⟩, ⟨9, 8, .ro⟩, ⟨7, 4, .ro⟩, ⟨2, 0, .ro⟩], 0x0, 8, false, false, false, false, 0x30⟩,
   ⟨0x31004, [(64, 64)], [⟨31, 0, .ro⟩], 0x0, 8, false, false, false, false, 0x30⟩,
   ⟨0x31008, [(64, 64)], [⟨31, 0, .ro⟩], 0x0, 8, false, false, false, false, 0x30⟩,
   ⟨0x3100C, [(64, 64)], [⟨31, 0, .ro⟩], 0x0, 8, false, false, false, false, 0x30⟩,
   ⟨0x31010, [(64, 64)], [⟨31, 16, .ro⟩, ⟨2, 2, .ro⟩, ⟨1, 1, .ro⟩, ⟨0, 0, .ro⟩], 0x0, 8, false, false, false, false, 0x30⟩]

/-- All rows of block 0x30. -/
def rowsPool : List RegRow := rowsPoola ++ rowsPoolb

/-- BWK_NEG_CTRL, BWK_NEG_STATUS, BWK_PORT_MAP, BWK_NEG_TIMING, BWK_TX_STATUS, BWK_INT_STATUS, BWK_INT_EN, BWK_FAR_ID, BWK_FAR_ID_HI, BWK_HOST_CW_ERR, BWK_HOST_CW_ERR_HI, BWK_EGR_SLIP. -/
def rowsBwk : List RegRow :=
  [⟨0x34000, [], [⟨18, 18, .rw⟩, ⟨17, 17, .rwsc⟩, ⟨16, 16, .rwsc⟩, ⟨15, 8, .rw⟩, ⟨7, 0, .rw⟩], 0xFF, 7, false, false, false, false, 0x34⟩,
   ⟨0x34004, [], [⟨27, 24, .ro⟩, ⟨23, 16, .ro⟩, ⟨15, 8, .ro⟩, ⟨2, 0, .ro⟩], 0x0, 8, false, false, false, false, 0x34⟩,
   ⟨0x34008, [], [⟨7, 0, .st⟩], 0x0, 7, false, false, false, false, 0x34⟩,
   ⟨0x3400C, [], [⟨23, 16, .rw⟩, ⟨15, 8, .rw⟩, ⟨7, 0, .rw⟩], 0x320332, 7, false, false, false, false, 0x34⟩,
   ⟨0x34010, [], [⟨15, 0, .ro⟩], 0x0, 8, false, false, false, false, 0x34⟩,
   ⟨0x34014, [], [⟨4, 4, .w1c⟩, ⟨3, 3, .w1c⟩, ⟨2, 2, .w1c⟩, ⟨1, 1, .w1c⟩, ⟨0, 0, .w1c⟩], 0x0, 8, false, false, false, false, 0x34⟩,
   ⟨0x34018, [], [⟨4, 0, .rw⟩], 0x0, 8, false, false, false, false, 0x34⟩,
   ⟨0x34020, [], [⟨31, 0, .ro⟩], 0x0, 8, false, false, true, false, 0x34⟩,
   ⟨0x34024, [], [⟨31, 0, .ro⟩], 0x0, 8, false, false, false, false, 0x34⟩,
   ⟨0x34100, [(16, 16)], [⟨31, 0, .ro⟩], 0x0, 8, false, true, true, false, 0x34⟩,
   ⟨0x34104, [(16, 16)], [⟨15, 0, .ro⟩], 0x0, 8, false, true, false, false, 0x34⟩,
   ⟨0x34108, [(16, 16)], [⟨15, 0, .ro⟩], 0x0, 8, false, false, false, false, 0x34⟩]

/-- LKO_CTRL, LKO_STATUS, LKO_SRC, LKO_RED, LKO_POST, LKO_HOLD, LKO_TRIG_IDX, LKO_TRIG_IDX_HI, LKO_REGION, LKO_REGION1, LKO_REGION2, LKO_REGION3, LKO_REGION4, LKO_WRAP, LKO_INT_STATUS, LKO_INT_EN, LKO_TU_CFG, LKO_TU_THA, LKO_TU_THB, LKO_TU_WMIN, LKO_TU_WMAX, LKO_TU_HIT, LKO_TU_HIT_HI, LKO_TU_CNT. -/
def rowsLko : List RegRow :=
  [⟨0x38000, [], [⟨4, 4, .rw⟩, ⟨2, 2, .rwsc⟩, ⟨1, 1, .rwsc⟩, ⟨0, 0, .rwsc⟩], 0x0, 7, false, false, false, false, 0x38⟩,
   ⟨0x38004, [], [⟨31, 16, .ro⟩, ⟨15, 12, .ro⟩, ⟨10, 8, .ro⟩, ⟨6, 4, .ro⟩, ⟨2, 0, .ro⟩], 0x0, 8, false, false, false, false, 0x38⟩,
   ⟨0x38008, [], [⟨21, 16, .st⟩, ⟨12, 8, .st⟩, ⟨6, 4, .st⟩, ⟨3, 0, .st⟩], 0x0, 7, false, false, false, false, 0x38⟩,
   ⟨0x3800C, [], [⟨15, 12, .st⟩, ⟨11, 8, .st⟩, ⟨4, 4, .st⟩, ⟨3, 3, .st⟩, ⟨2, 2, .st⟩, ⟨1, 1, .st⟩, ⟨0, 0, .st⟩], 0x4801, 7, false, false, false, false, 0x38⟩,
   ⟨0x38010, [], [⟨31, 0, .st⟩], 0x8000, 7, false, false, false, false, 0x38⟩,
   ⟨0x38014, [], [⟨31, 31, .rw⟩, ⟨29, 0, .rw⟩], 0x64, 7, false, false, false, false, 0x38⟩,
   ⟨0x38018, [], [⟨31, 0, .ro⟩], 0x0, 8, false, false, true, false, 0x38⟩,
   ⟨0x3801C, [], [⟨15, 0, .ro⟩], 0x0, 8, false, false, false, false, 0x38⟩,
   ⟨0x38020, [(1, 4)], [⟨24, 16, .st⟩, ⟨7, 0, .st⟩], 0x800000, 7, false, false, false, false, 0x38⟩,
   ⟨0x38024, [], [⟨24, 16, .st⟩, ⟨7, 0, .st⟩], 0x200080, 7, false, false, false, false, 0x38⟩,
   ⟨0x38028, [], [⟨24, 16, .st⟩, ⟨7, 0, .st⟩], 0x1000A0, 7, false, false, false, false, 0x38⟩,
   ⟨0x3802C, [], [⟨24, 16, .st⟩, ⟨7, 0, .st⟩], 0x400B0, 7, false, false, false, false, 0x38⟩,
   ⟨0x38030, [], [⟨24, 16, .st⟩, ⟨7, 0, .st⟩], 0x500B4, 7, false, false, false, false, 0x38⟩,
   ⟨0x38040, [(5, 4)], [⟨31, 31, .ro⟩, ⟨17, 0, .ro⟩], 0x0, 8, false, false, false, false, 0x38⟩,
   ⟨0x38060, [], [⟨4, 4, .w1c⟩, ⟨3, 3, .w1c⟩, ⟨2, 2, .w1c⟩, ⟨1, 1, .w1c⟩, ⟨0, 0, .w1c⟩], 0x0, 8, false, false, false, false, 0x38⟩,
   ⟨0x38064, [], [⟨4, 0, .rw⟩], 0x0, 7, false, false, false, false, 0x38⟩,
   ⟨0x38100, [(4, 32)], [⟨31, 31, .st⟩, ⟨30, 28, .st⟩, ⟨27, 27, .st⟩, ⟨26, 25, .st⟩, ⟨19, 16, .st⟩], 0x0, 7, false, false, false, false, 0x38⟩,
   ⟨0x38104, [(4, 32)], [⟨19, 0, .st⟩], 0x0, 7, false, false, false, true, 0x38⟩,
   ⟨0x38108, [(4, 32)], [⟨19, 0, .st⟩], 0x0, 7, false, false, false, true, 0x38⟩,
   ⟨0x3810C, [(4, 32)], [⟨23, 0, .st⟩], 0x0, 7, false, false, false, false, 0x38⟩,
   ⟨0x38110, [(4, 32)], [⟨23, 0, .st⟩], 0x0, 7, false, false, false, false, 0x38⟩,
   ⟨0x38114, [(4, 32)], [⟨31, 0, .ro⟩], 0x0, 8, false, false, true, false, 0x38⟩,
   ⟨0x38118, [(4, 32)], [⟨15, 0, .ro⟩], 0x0, 8, false, false, false, false, 0x38⟩,
   ⟨0x3811C, [(4, 32)], [⟨15, 0, .ro⟩], 0x0, 8, false, false, false, false, 0x38⟩]

/-- HLN_MODE, HLN_EGR_STATUS, CHT_RX, CHT_DFE, CHT_TX, HLN_CTRL, HLN_STATUS, HLN_LP, HLN_ADAPT_CFG, HLN_ADAPT_RPT, HLN_ADAPT_DFE, HLN_INT_STATUS, HLN_INT_EN, HLN_LOCK_EVENTS, HLN_LOS_EVENTS. -/
def rowsHln : List RegRow :=
  [⟨0x48000, [], [⟨13, 13, .rw⟩, ⟨12, 8, .rw⟩, ⟨0, 0, .st⟩], 0x2001, 3, false, false, false, false, 0x40⟩,
   ⟨0x48004, [], [⟨12, 8, .ro⟩, ⟨1, 1, .ro⟩, ⟨0, 0, .ro⟩], 0x0, 8, false, false, false, false, 0x40⟩,
   ⟨0x48100, [(16, 32)], [⟨31, 31, .st⟩, ⟨10, 8, .st⟩, ⟨4, 0, .st⟩], 0x0, 3, false, false, false, false, 0x40⟩,
   ⟨0x48104, [(16, 32), (3, 4)], [⟨31, 0, .st⟩], 0x0, 3, false, false, false, false, 0x40⟩,
   ⟨0x48110, [(16, 32)], [⟨29, 24, .st⟩, ⟨21, 16, .st⟩, ⟨13, 8, .st⟩, ⟨5, 0, .st⟩], 0x3000, 3, false, false, false, false, 0x40⟩,
   ⟨0x40000, [(32, 1024)], [⟨17, 17, .rw⟩, ⟨16, 16, .rw⟩, ⟨11, 8, .st⟩, ⟨2, 2, .rwsc⟩, ⟨1, 1, .st⟩, ⟨0, 0, .st⟩], 0x0, 3, false, false, false, false, 0x40⟩,
   ⟨0x40004, [(32, 1024)], [⟨19, 16, .ro⟩, ⟨15, 15, .ro⟩, ⟨14, 14, .ro⟩, ⟨13, 13, .ro⟩, ⟨12, 12, .ro⟩, ⟨9, 6, .ro⟩, ⟨5, 5, .ro⟩, ⟨4, 4, .ro⟩, ⟨3, 3, .ro⟩, ⟨2, 2, .ro⟩, ⟨1, 1, .ro⟩], 0xC000, 8, false, false, false, false, 0x40⟩,
   ⟨0x40008, [(32, 1024)], [⟨7, 6, .ro⟩, ⟨5, 4, .ro⟩, ⟨3, 2, .ro⟩, ⟨1, 0, .rw⟩], 0xF0, 3, false, false, false, false, 0x40⟩,
   ⟨0x4000C, [(32, 1024)], [⟨12, 8, .rw⟩, ⟨5, 5, .rw⟩, ⟨4, 4, .rw⟩, ⟨3, 0, .rw⟩], 0xA33, 3, false, false, false, false, 0x40⟩,
   ⟨0x40010, [(32, 1024)], [⟨31, 31, .ro⟩, ⟨30, 28, .ro⟩, ⟨27, 27, .ro⟩, ⟨25, 17, .ro⟩, ⟨15, 8, .ro⟩, ⟨7, 0, .ro⟩], 0x0, 8, false, false, false, false, 0x40⟩,
   ⟨0x40014, [(32, 1024), (3, 4)], [⟨31, 0, .ro⟩], 0x0, 8, false, false, false, false, 0x40⟩,
   ⟨0x40020, [(32, 1024)], [⟨8, 8, .w1c⟩, ⟨7, 7, .w1c⟩, ⟨6, 6, .w1c⟩, ⟨5, 5, .w1c⟩, ⟨4, 4, .w1c⟩, ⟨3, 3, .w1c⟩, ⟨2, 2, .w1c⟩, ⟨1, 1, .w1c⟩, ⟨0, 0, .w1c⟩], 0x0, 8, false, false, false, false, 0x40⟩,
   ⟨0x40024, [(32, 1024)], [⟨8, 0, .rw⟩], 0x0, 8, false, false, false, false, 0x40⟩,
   ⟨0x40100, [(32, 1024)], [⟨31, 16, .ro⟩, ⟨15, 0, .ro⟩], 0x0, 8, false, false, false, false, 0x40⟩,
   ⟨0x40104, [(32, 1024)], [⟨15, 0, .ro⟩], 0x0, 8, false, false, false, false, 0x40⟩]

/-- The rows of the block whose registers lie at `addr` (R594, Table 19-1). -/
def rowsAt (addr : Nat) : List RegRow :=
  if addr < 0x1000 then rowsSys
  else if addr < 0x2000 then rowsClk
  else if addr < 0x3000 then rowsPwr
  else if addr < 0x4000 then rowsThm
  else if addr < 0x5000 then rowsSec
  else if addr < 0x6000 then rowsMft
  else if addr < 0x7000 then rowsMem
  else if addr < 0x8000 then rowsPmu
  else if addr < 0x9000 then rowsMon
  else if addr < 0xA000 then rowsBdac
  else if addr < 0xB000 then rowsCal
  else if addr < 0xC000 then rowsFab
  else if addr < 0x10000 then rowsHws
  else if addr < 0x20000 then (if addr % 0x2000 < 0x800 then rowsLrx else if addr % 0x2000 < 0x1000 then rowsLbw else rowsLcal)
  else if addr < 0x28000 then rowsLtx
  else if addr < 0x30000 then rowsPlt
  else if addr < 0x34000 then rowsPool
  else if addr < 0x38000 then rowsBwk
  else if addr < 0x40000 then rowsLko
  else rowsHln

/-- The register at a register-space address, with the indices of its copy. -/
def findRow (addr : Nat) : Option (RegRow × List Nat) := findIn addr (rowsAt addr)

/-- What a register holds when nothing has been written to it: its reset value. -/
def regReset (addr : Nat) : Word :=
  match findRow addr with
  | some (r, _) => BitVec.ofNat 32 r.reset
  | none => 0

/-- Every row of the map. -/
def allRows : List RegRow :=
  rowsSys ++ rowsClk ++ rowsPwr ++ rowsThm ++ rowsSec ++ rowsMft ++ rowsMem ++ rowsPmu ++ rowsMon ++ rowsBdac ++ rowsCal ++ rowsFab ++ rowsHws ++ rowsLrx ++ rowsLtx ++ rowsPlt ++ rowsPool ++ rowsBwk ++ rowsLko ++ rowsHln

end Sys2Proof.Machine
end

