-- ==== Sys2Proof/Machine/Regs.lean ====
section
/-! DEFINITION. A register file as plain data: the words that differ from their reset values, in rising order of address. -/

namespace Sys2Proof.Machine

/-- The words of a register space that differ from `dflt`, at strictly rising addresses. -/
abbrev Sparse := List (Nat × Word)

/-- The word at `a`: the listed one, or `dflt a`. -/
def Sparse.get (dflt : Nat → Word) (l : Sparse) (a : Nat) : Word :=
  match l with
  | [] => dflt a
  | (b, w) :: rest => if a = b then w else Sparse.get dflt rest a

/-- Enter `(a, w)` in its place, replacing an entry at `a`. -/
def Sparse.insert (a : Nat) (w : Word) : Sparse → Sparse
  | [] => [(a, w)]
  | (b, v) :: rest =>
    if a = b then (a, w) :: rest
    else if a < b then (a, w) :: (b, v) :: rest
    else (b, v) :: Sparse.insert a w rest

/-- Remove every entry at `a`. -/
def Sparse.erase (a : Nat) (l : Sparse) : Sparse := l.filter fun p => p.1 != a

/-- The space with the word `w` at `a`, kept free of entries that equal `dflt`. -/
def Sparse.put (dflt : Nat → Word) (l : Sparse) (a : Nat) (w : Word) : Sparse :=
  if w = dflt a then Sparse.erase a l else Sparse.insert a w l

/-- The canonical form: addresses strictly rising, and no entry equal to what an unlisted address holds. -/
def Sparse.wf (dflt : Nat → Word) : Sparse → Bool
  | [] => true
  | [(a, w)] => w != dflt a
  | (a, w) :: (b, v) :: rest => decide (a < b) && w != dflt a && Sparse.wf dflt ((b, v) :: rest)

/-- The value of bits `hi` to `lo` of `w`. -/
def bitsOf (w : Word) (hi lo : Nat) : Nat := (w.toNat / 2 ^ lo) % 2 ^ (hi - lo + 1)

/-- The word whose bits `hi` to `lo` are one and all others zero. -/
def fieldMask (hi lo : Nat) : Word := BitVec.ofNat 32 ((2 ^ (hi - lo + 1) - 1) * 2 ^ lo)

/-- `w` with bits `hi` to `lo` replaced by `v`. -/
def putBits (w : Word) (hi lo v : Nat) : Word :=
  (w &&& ~~~ fieldMask hi lo) ||| BitVec.ofNat 32 ((v % 2 ^ (hi - lo + 1)) * 2 ^ lo)

/-- The mask of a row's fields of one access kind. -/
def RegRow.maskOf (r : RegRow) (acc : Acc) : Word :=
  (r.fields.filter fun f => f.acc = acc).foldl (fun m f => m ||| fieldMask f.hi f.lo) 0

/-- The mask of all defined fields of a row. -/
def RegRow.fullMask (r : RegRow) : Word :=
  r.fields.foldl (fun m f => m ||| fieldMask f.hi f.lo) 0

end Sys2Proof.Machine
end

