-- ==== Sys2Proof/Machine/State.lean ====
section
/-! DEFINITION. The state of the device as plain data: its register space, its protected memories, everything each block holds beside its registers, and the queue of commands that wait. -/

namespace Sys2Proof.Machine

/-! ### Line receive (chapter 2) -/

/-- One set of adapted coefficients: internal registers of 24 bits (R61), oldest tap first. -/
structure Coefs where
  ffe : List Int
  mlse : List Int
  level : List Int
  deriving DecidableEq, Repr

/-- What sets how the DC block treats a 64-symbol block (R46 to R48): FREEZE, AUTO_FREEZE and the live CORNER. -/
structure DcCond where
  freeze : Bool
  auto : Bool
  corner : Nat
  deriving DecidableEq, Repr

/-- A change that the DC block takes during an overrange window. -/
inductive DcChange where
  /-- other conditions from here -/
  | cond (c : DcCond)
  /-- both estimates scaled by a gain ratio, numerator and denominator (R49) -/
  | scale (num : Int) (den : Nat)
  /-- both estimates moved by the effect of a TIA offset trim (R494) -/
  | shift (by_ : Int)
  deriving DecidableEq, Repr

/-- What the syndrome pipeline knows of one stream's alignment markers (R112, R638). -/
structure MarkerSt where
  /-- codewords of the stream since the one in which its last marker group started -/
  since : Option Nat
  /-- the period, in codewords -/
  period : Option Nat
  /-- arrival in ns of the last codeword counted -/
  last : Nat
  /-- the codewords come after an alignment: the count has run on through the outage -/
  gap : Bool
  /-- marker bits of the most recent group, codeword by codeword -/
  group : List (BitVec 5140)
  deriving DecidableEq, Repr

/-- No marker group has been found. -/
def MarkerSt.unknown : MarkerSt := { since := none, period := none, last := 0, gap := false, group := [] }

/-- What a line lane's receive half holds beside its registers. -/
structure RxLane where
  /-- coefficients in force, 24-bit internal values -/
  coef : Coefs
  /-- the set saved at the last trim boundary before a failing block (R74) -/
  saved : Coefs
  /-- set at the last trim boundary inside the running block of 256 inner codewords -/
  savedNext : Option Coefs
  /-- consecutive failed acquisition attempts (R75) -/
  attempts : Nat
  /-- a pending automatic gain step: true is up (R77, R78) -/
  step : Option Bool
  /-- a GAIN_SET write that waits for its boundary (R82) -/
  gainSet : Option Nat
  /-- consecutive windows counted towards a step up (R78) -/
  upRun : Nat
  /-- the running overrange window contains the boundary of a step (R79) -/
  stepInWindow : Bool
  /-- the running overrange window began before step 4 (R81) -/
  beforeStep4 : Bool
  /-- consecutive windows with rms below LOS_TH, and at or above LOS_TH + LOS_HYS (R72) -/
  losRun : Nat
  clrRun : Nat
  /-- second-section DC estimate (the first is LRX_DCB_EST) -/
  dcb2 : Int
  /-- both estimates and the conditions at the start of the running overrange window, and what the DC block took since (R47 to R49) -/
  dcFrom : Int × Int
  dcCond : DcCond
  dcLog : List DcChange
  /-- inner codewords and failures in the running block of 256, and consecutive bad blocks (R73) -/
  icw : Nat
  icwFail : Nat
  badBlocks : Nat
  /-- offset of inner alignment found (R148) and period start found (R149) -/
  innerOffset : Nat
  frameStart : Nat
  /-- register writes to coefficients that wait for the next update interval: (kind, index, value) (R64) -/
  coefWrites : List (Nat × Nat × Nat)
  /-- the pilot receiver runs (R237) -/
  pilotRx : Bool
  /-- gate of the lane's LRX clock: codewords in flight keep it running (R636) -/
  draining : Bool
  /-- passed trim sets that wait for a boundary, offset, gain, skew (R501) -/
  trimSets : List (Nat × List Int)
  /-- TIA trim value that waits for a boundary -/
  tiaDue : Option Int
  /-- trim register writes that wait for a boundary: (sub-ADC, or 64 for the TIA; value) (R503) -/
  trimWrites : List (Nat × Word)
  /-- first estimates of the running window pair (R495), without their means, in 1/4096 of a trim step -/
  firstEst : Option (List Int × List Int × List Int × Int)
  /-- an event of R495 fell in the running estimation window -/
  estSpoiled : Bool
  /-- acceptance rule of the running window: MODE and CAL_COMPAT_LIM when it started (R513) -/
  estRule : Nat × Word
  /-- trims in force, by sub-ADC: (offset, gain, skew) as register fields -/
  trimLive : Vector Word 64
  tiaLive : Nat
  /-- codewords since RS codeword alignment, which Table 3-1 counts in standard mode -/
  cwCount : Nat
  /-- alignment markers of the lane's two streams (R638) -/
  markers : Vector MarkerSt 2
  /-- rate to take once the half is out of RXON, for a native negotiation (R133, R134) -/
  newRate : Option Nat
  deriving DecidableEq, Repr

/-! ### Correction pool (chapter 3) -/

/-- The outcome of a codeword that uses the pool (Table 3-3). -/
inductive CwOutcome where
  | clean | corr (pass : Nat) | fail | miss
  deriving DecidableEq, Repr

/-- A codeword from its arrival to its release, with its delay store and its correction record. -/
structure Flight where
  tag : Nat
  time : Nat
  deadline : Nat
  k : Fin 2
  bits : Cw
  /-- codewords of its stream since the one in which a marker group started, when the marker period was known at its arrival (R112) -/
  place : Option Nat
  permitted : Nat
  outcome : Option CwOutcome
  record : List (Nat × BitVec 10)
  /-- its delay store or its record was found poisoned (R108) -/
  poisoned : Bool
  /-- it lost its content at a coordinated reset (R415) -/
  lost : Bool
  /-- transparent operation: no pool, no window (R89) -/
  through : Bool
  /-- busy ticks by gang (R125) -/
  busy : List Nat
  deriving DecidableEq, Repr

/-- A work item of a berth (R90). -/
structure WorkItem where
  lane : Lane
  tag : Nat
  time : Nat
  /-- its 30 syndromes and its shortlist (R90, R91) -/
  syndromes : List (BitVec 10)
  short : List Nat
  requeued : Bool
  deriving DecidableEq, Repr

/-- What an engine does (Table 3-13). -/
inductive EngJob where
  | idle
  /-- a pass on an item, taken from a berth -/
  | pass (item : WorkItem) (berth : Nat) (stolen : Bool) (num : Nat)
  /-- a result that waits for the reorder buffer's input (R637) -/
  | waiting (item : WorkItem) (berth : Nat) (stolen : Bool) (num : Nat) (record : List (Nat × BitVec 10))
  | slice
  deriving DecidableEq, Repr

structure Engine where
  job : EngJob
  /-- chosen for an in-field BIST slice (R536) -/
  chosen : Bool
  deriving DecidableEq, Repr

/-- The pool beside its registers. -/
structure Pool where
  berths : Vector (List WorkItem) 16
  engines : Vector Engine 64
  /-- codewords in flight of each lane, oldest first -/
  flights : Vector (List Flight) 8
  nextTag : Nat
  /-- codewords admitted in the running tide gauge window (R121) -/
  windowAdmits : Nat
  /-- admitted codewords and deadline misses of the running loop interval (R118) -/
  admits : Nat
  misses : Nat
  quiet : Nat
  /-- band whose admission cap is in force (R122) -/
  capBand : Nat
  /-- K_EO and K_ER of the calibration record, where it holds them (R114) -/
  coefs : Option (Nat × Nat)
  /-- codes of the targets between which VDD_POOL lies while it moves; both the same once VGOOD has found it there (R120) -/
  railLow : Nat
  railHigh : Nat
  /-- VDD_POOL is enabled (R640) -/
  enabled : Bool
  /-- enforcement step in force on each lane's new codewords (R101) -/
  laneEnf : Vector Nat 8
  deriving DecidableEq, Repr

/-! ### Native framing and Breakwater (chapter 4) -/

/-- One codeword of a frame in a group buffer. -/
structure Member where
  bits : Cw
  /-- it ended as FAIL or MISS -/
  bad : Bool
  /-- its place in its stream's marker schedule (R112) -/
  place : Option Nat
  deriving DecidableEq, Repr

/-- One frame of a group: stream index 0 and 1. -/
structure Frame where
  a : Member
  b : Member
  /-- the slot of each of the lane's two streams was found poisoned (R154) -/
  poison0 : Bool
  poison1 : Bool
  deriving DecidableEq, Repr

/-- How a codeword leaves towards the host. -/
inductive Leaving where
  | asReceived | corrected | rebuilt | marked | substitute
  deriving DecidableEq, Repr

/-- A codeword on its way to the host, and how it leaves. -/
structure Delivered where
  bits : Cw
  how : Leaving
  /-- stream index, and place in its marker schedule, which a substitute in its place keeps (R112) -/
  k : Nat
  place : Option Nat
  deriving DecidableEq, Repr

/-- A decided group that waits for its release time (R161): what leaves on the lane's first and second stream. -/
structure ReadyGroup where
  a : List Delivered
  b : List Delivered
  /-- first slot of the group buffers it lies in -/
  base : Nat
  deriving DecidableEq, Repr

/-- Breakwater receive of one line lane. -/
structure BwRx where
  /-- codeword of index 0 of the frame that is arriving -/
  half : Option Member
  frames : List Frame
  ready : List ReadyGroup
  /-- consecutive good evaluable groups of the hunt (R150) -/
  goodRun : Nat
  /-- consecutive evaluable groups that were not good (R151) -/
  lossRun : Nat
  /-- consecutive FAIL or MISS codewords (R152) -/
  badRun : Nat
  /-- frames still to skip before the phase under test starts -/
  skip : Nat
  /-- next slot of the 37 of each stream's buffer (Table 4-6) -/
  slot : Nat
  /-- step E2 in force on each of the lane's streams, at its group boundary (R31) -/
  e2 : Bool
  deriving DecidableEq, Repr

/-- What one end keeps of a native negotiation (R128 to R135). -/
structure Neg where
  proposer : Bool
  mask : BitVec 8
  portMap : BitVec 8
  /-- the far CAP of each lane -/
  farCap : Vector (Option CapBody) 8
  /-- lanes on which a CAP was sent and no CAP has come back since -/
  capSent : BitVec 8
  /-- messages that wait for an answer: lane, type, body (R131), and the resends made -/
  awaiting : List (Lane × Nat × CtlBody)
  resends : Nat
  /-- standard rate live before negotiation, by lane -/
  oldRate : Vector Nat 8
  /-- consecutive STATE reports of each lane as not native (R135) -/
  notNative : Vector Nat 8
  /-- lanes that the running negotiation switches to native mode (R133) -/
  switched : BitVec 8
  deriving DecidableEq, Repr

/-- The egress of one host stream pair into a line lane (R138 to R147). -/
structure Egress where
  /-- slot number within the group, 0 to 32 -/
  slot : Nat
  /-- the slot's codewords by member, as the host delivered them -/
  have0 : Option Cw
  have1 : Option Cw
  /-- a substitute fills the slot of the stream (R140, R147) -/
  sub0 : Bool
  sub1 : Bool
  acc0 : Cw
  acc1 : Cw
  /-- frames sent to the inner encoder by the last completed slot, scrambled (R142, R143) -/
  sent : List (BitVec 10880)
  /-- in standard mode, the codeword last placed on the inner encoder's own grid (R212) -/
  grid : Option Cw
  deriving DecidableEq, Repr

/-! ### Line transmit (chapter 5) -/

/-- What a line lane's transmit half holds beside its registers. -/
structure TxLane where
  /-- DPD table in force, 64 entries in 1/8 DAC LSB (R171) -/
  dpd : List Int
  /-- register writes to the table that wait for a boundary: (index, value) (R175) -/
  dpdWrites : List (Nat × Int)
  /-- an update of R180 that waits for a boundary -/
  dpdUpdate : Option (List Int)
  /-- the calibration record's tables of the lane, by rate class (R174) -/
  dpdRecord : List (Nat × List Int)
  /-- a REPORT held under R179: (epoch, deviations) -/
  held : Option (Nat × List Int)
  /-- DPD_PERIOD has passed since the last update (R179) -/
  periodOver : Bool
  bypass : Bool
  bypassDue : Option Bool
  /-- driver codes in force (R185, R186) -/
  swing : Nat
  peak : Nat
  peakDue : Bool
  /-- the CMIS Tx disable control of the lane (R197) -/
  cmisDis : Bool
  /-- earliest ns at which the swing resumes after a disable that cleared the bias channel (R198) -/
  biasWait : Nat
  /-- the half entered REF or SYNTH from PILOT (R188) -/
  viaPilot : Bool
  /-- TXON is reached and the lane waits for a boundary to go live (R193) -/
  heading : Bool
  /-- a data swing that ends at the next boundary (Table 5-5, R197) -/
  ending : Bool
  /-- pilot injection point to take at the next pilot symbol boundary: 0 none, 1 low-frequency path, 2 levels (R189) -/
  pilotDue : Option Nat
  /-- DPD measurement of the receive half: a window runs, and the epoch of the last APPLIED (R178) -/
  measuring : Bool
  farEpoch : Nat
  /-- TXON is requested again on reaching SYNTH, for a native negotiation (R133) -/
  reTxon : Bool
  /-- training has been paused by a loss of pilot sync, until the first REPORT of the current epoch (R182) -/
  resumeDue : Bool
  /-- the front-end die's copy of PIN_EN (R197) -/
  pinCopy : Bool
  /-- sequence number of class 0x03 messages (R251) -/
  seq3 : BitVec 16
  deriving DecidableEq, Repr

/-! ### Host lanes (chapter 6) -/

/-- What a host lane holds beside its registers. -/
structure HostLane where
  /-- causes of the sessions that are due, in the order in which they became due (R218) -/
  due : List Nat
  /-- cause of the running session, or 0 -/
  session : Nat
  /-- recovery sessions in a row without service (R221) -/
  recFails : Nat
  /-- a loss from service, or the end of a recovery session, has started REC_TO -/
  recovering : Bool
  /-- the recovery session that has ended still awaits service (R221) -/
  recRan : Bool
  /-- RX_EN became live outside RUN: the RX half starts when the lane next reaches RUN (R217) -/
  lateRx : Bool
  /-- a low-power request held until step 6 (R223) -/
  heldLp : Option Nat
  /-- the TX half, and the RX half, have completed the transition in progress (R226) -/
  txDone : Bool
  rxDone : Bool
  /-- the TX half is in RUN -/
  txRun : Bool
  /-- the next marker is checked against the position held by count (R231) -/
  checkMarker : Bool
  deriving DecidableEq, Repr

/-! ### Pilot channel (chapter 7) -/

/-- A bit-loading map: identifier and carrier codes. -/
structure LoadMap where
  ident : Nat
  preset : Nat
  codes : List Nat
  deriving DecidableEq, Repr

/-- A reception in progress (R274). -/
structure Reception where
  preset : Nat
  metric : Nat
  committed : Bool
  map : Nat
  len : Nat
  /-- ratio of the applied gain to that of the reception it pre-empted, in 0.25 dB: the channel estimate is scaled by it (R275) -/
  gainStep : Int
  deriving DecidableEq, Repr

/-- What a pilot lane holds beside its registers. -/
structure PltLane where
  /-- control queue of classes 0x01 to 0x03 (R252) -/
  ctl : List CtlMsg
  /-- class 0x04 buffers, oldest first -/
  fab : List FabMsg
  /-- class 0x04 frames that wait in the switch for this lane (R253) -/
  wait : List FabMsg
  /-- the pilot transmitter runs -/
  txOn : Bool
  /-- at least one idle group sent since the last frame (R250) -/
  idled : Bool
  /-- the frame being sent: header word and payload bytes, empty for class 0x04 -/
  sending : Option (Word × PltFrame)
  /-- recommendation of the last LOADMAP received, and whether one has arrived (R255, R256) -/
  recPreset : Nat
  recValid : Bool
  /-- maps received for the transmitter, newest first (R261) -/
  maps : List LoadMap
  /-- maps this receiver issued, newest first, and the next identifier (R260, R262) -/
  issued : List LoadMap
  nextMap : Nat
  /-- a LOADREQ to answer, the last loading seen different and how often (R260) -/
  loadreq : Bool
  diffRun : Nat
  lastLoad : List Nat
  /-- earliest ns of the next LOADMAP -/
  nextLoadmap : Nat
  /-- recommendation last issued -/
  sentRec : Nat
  reception : Option Reception
  /-- sequence numbers of classes 0x01 and 0x02 (R251) -/
  seq1 : BitVec 16
  seq2 : BitVec 16
  /-- of each carrier, the usable symbols of its last measured period and the sum of their |Y ÷ Ĥ − X|² in 2^-40 (R279) -/
  evm : Vector (Nat × Nat) 64
  /-- tracking gain of the AGC, coded as AGC_GAIN (R272) -/
  agcTrack : Nat
  /-- recognised groups in a row with a timing error within ±1/16 sample (R271) -/
  inBound : Nat
  deriving DecidableEq, Repr

/-! ### Manifests (chapter 8) -/

/-- Where a manifest came from. -/
inductive Origin where
  /-- the command ring, by slot -/
  | ring (slot : Nat)
  /-- a MANIFEST message: source address and identity, request number, link it came on -/
  | fabric (src : Nat) (srcId : BitVec 64) (rid : Nat) (link : Nat)
  /-- the register MFT_COMMIT -/
  | register
  deriving DecidableEq, Repr

/-- A manifest that has started. -/
structure Manifest where
  desc : Desc
  origin : Origin
  /-- window offset of its buffer on this device: the operand's for the ring, an allocation of R362 for the fabric -/
  buf : Nat
  deriving DecidableEq, Repr

/-- One line lane's part of a LANE_STATE manifest that is still to be reached (R300). -/
structure LaneGoal where
  lane : Lane
  tx : Option Nat
  rx : Option Nat
  waitLock : Bool
  deriving DecidableEq, Repr

/-- What a pending manifest waits for (R295). -/
inductive Goal where
  | lane (parts : List LaneGoal)
  | commit (group : Nat)
  | hostLp (ks : List HLane) (v : Nat)
  | hostAdapt (k : HLane)
  | native (mask : BitVec 8) (exit : Bool)
  | power (v : Nat)
  | snapshot
  | monConvert (ch : Nat)
  | monCal (ch : Nat) (full : Bool)
  | remote (rid : Nat)
  | realm (v : Nat)
  deriving DecidableEq, Repr

structure Waiting where
  man : Manifest
  goal : Goal
  deriving DecidableEq, Repr

/-- A completed manifest whose completion entry is still to be written. -/
structure DoneMan where
  man : Manifest
  status : Nat
  r0 : Word
  r1 : Word
  /-- it was executed at a far device -/
  far : Bool := false
  deriving DecidableEq, Repr

/-- An event held while the rings are off (R318). -/
structure HeldEvent where
  w0 : Word
  unit : Word
  data : Word
  time : Nat
  deriving DecidableEq, Repr

/-- A commit that waits for its boundary (R311): group, words of its registers, and who asked. -/
structure PendCommit where
  group : Nat
  words : List (Nat × Word)
  origin : Origin
  deriving DecidableEq, Repr

/-- The manifest machinery beside its registers. -/
structure Mft where
  /-- started manifests that have not run yet -/
  begun : List Manifest
  /-- pending manifests -/
  waiting : List Waiting
  /-- completed manifests, oldest first -/
  done : List DoneMan
  /-- expected sequence byte (R292) -/
  seq : Nat
  cplPhase : Bool
  evtPhase : Bool
  /-- events held while ENABLE is 0, and events lost (R317, R318) -/
  held : List HeldEvent
  lost : Nat
  commits : List PendCommit
  /-- manifests received from the fabric that wait to start, oldest first (R303) -/
  fabricQueue : List Manifest
  /-- the queue served last, for the alternation of R303 -/
  lastFabric : Bool
  /-- bytes 136 and 132 to 135 of CMIS page B8h (R321) -/
  b8Status : Nat
  b8Data : Word
  /-- CMIS controls of the 32 host lanes: Tx disable and data-path de-init as set -/
  cmisDeinit : BitVec 32
  cmisRxOff : BitVec 32
  /-- CMIS LowPwr request -/
  cmisLowPwr : Bool
  /-- status and result of the last CDB command of page 9Fh, once it has ended (R321) -/
  cdb : Option (Nat × Word)
  /-- page and bank selected in CMIS lower memory (R284, Table 8-8) -/
  cmisPage : Byte
  cmisBank : Byte
  deriving DecidableEq, Repr

/-! ### Fabric (chapter 9) -/

/-- What a hawser port holds beside its registers. -/
structure HwsPort where
  /-- code-group synchronisation -/
  sync : Bool
  /-- frames that wait to be sent, oldest first -/
  txq : List FabMsg
  deriving DecidableEq, Repr

/-- What the fabric holds of one link. -/
structure LinkSt where
  /-- identity last heard, 0 before any (R332) -/
  heard : BitVec 64
  /-- the adjacency is up, with this identity (R333) -/
  adj : Option (BitVec 64)
  /-- last SEQ accepted in a LINK message, by identity (R334) -/
  seqs : List (BitVec 64 × Nat)
  /-- far fields of the last BEACON: flags, quaymaster, harbour master, epoch -/
  flags : BitVec 8
  farQm : BitVec 64
  farHm : BitVec 64
  farEpoch : Nat
  /-- fabric address the neighbour showed in SRC, when addressed -/
  farAddr : Nat
  /-- FAB_CFG as the link's last beacon put it into effect (Table 9-7) -/
  cfg : Word
  /-- last BEACON sent, and when (R332) -/
  sent : Option FabBody
  sentAt : Nat
  /-- destinations whose routes are to be sent, by level and number, and when a ROUTE was last sent (R349) -/
  dirty : List (Nat × Nat)
  routeAt : Option Nat
  deriving DecidableEq, Repr

/-- A valid route entry, the link it came over and when (R350, R351). -/
structure RouteIn where
  entry : RouteEntry
  link : Nat
  at_ : Nat
  deriving DecidableEq, Repr

/-- The island record (Table 9-4). -/
structure IslandRec where
  epoch : Nat
  realm : Nat
  island : Nat
  hours : Nat
  entries : List RecEntry
  deriving DecidableEq, Repr

/-- A change that waits at the harbour master, or a request that the quaymaster relays (R341, R342, R345, R347). -/
structure HeldReq where
  /-- identity of the requester; the new number for kinds 3 and 4 -/
  who : BitVec 64
  persisted : Option Nat
  /-- 0 device number, 1 cluster number, 2 hours, 3 realm, 4 island -/
  kind : Nat
  /-- cluster number of a requester that wants a device number -/
  cluster : Nat
  /-- where the request came from: a link, or 16 plus a fabric address -/
  back : Nat
  deriving DecidableEq, Repr

/-- A change the harbour master has proposed: the record as it would be, who acknowledged, and what asked for it (R342, R343). -/
structure Proposal where
  next : IslandRec
  acks : List (BitVec 64)
  req : HeldReq
  deriving DecidableEq, Repr

/-- A remote manifest of this device's (R359, R360). -/
structure Remote where
  rid : Nat
  man : Manifest
  /-- it was last sent with a held nonce -/
  held : Bool
  /-- SEQ of its last MANIFEST message -/
  seq : Nat
  /-- completion words received while output was missing -/
  entry : Option (Word × Word × Word × Word)
  /-- output bytes received so far, from offset 0 -/
  out : List Byte
  deriving DecidableEq, Repr

/-- A pair of source identity and RID at the destination (R361). -/
structure Served where
  srcId : BitVec 64
  src : Nat
  rid : Nat
  link : Nat
  /-- input bytes received so far, from offset 0 -/
  input : List Byte
  /-- the manifest has been accepted -/
  taken : Bool
  /-- completion words, once complete -/
  entry : Option (Word × Word × Word × Word)
  /-- output bytes, while held -/
  out : Option (List Byte)
  /-- its part of the fabric buffer area: offset and length -/
  area : Nat × Nat
  /-- SEQ of its last COMPLETION, and whether that was sent with a held nonce -/
  seq : Nat
  held : Bool
  deriving DecidableEq, Repr

/-- The fabric agent and the firmware's fabric tables. -/
structure Fab where
  links : Vector LinkSt 16
  routes : List RouteIn
  /-- a change stored but not live yet (R343) -/
  stored : Option IslandRec
  proposal : Option Proposal
  requests : List HeldReq
  /-- requests passed on, with where they came from: the relay path back (R341, R342) -/
  relays : List (BitVec 64 × Nat)
  /-- CLUSTER_FULL was posted (R344); the quaymaster asks for a new cluster number (R346) -/
  fullPosted : Bool
  newCluster : Bool
  /-- the last 64 floods: SRC_ID and SEQ (R330) -/
  floods : List (BitVec 64 × Nat)
  /-- low 32 bits of the own SEQ (R355) -/
  seq : Nat
  /-- the nonce of this boot (R354) -/
  nonce : Word
  /-- highest SEQ accepted and its window, by identity (R353) -/
  replay : List (BitVec 64 × Nat × BitVec 64)
  /-- nonces learned, by destination (R360) -/
  nonces : List (Nat × Word)
  nextRid : Nat
  remotes : List Remote
  served : List Served
  /-- ns of the last HM_ANNOUNCE received (Table 9-8), and the address it came from -/
  hmAt : Nat
  hmAddr : Option Nat
  /-- adjacency changes and routes that DORMANT holds for after the wake: link, and the message, or none when the link fell (R368) -/
  deferred : List (Nat × Option FabMsg)
  deriving DecidableEq, Repr

/-! ### Start-up, power, thermal, monitor, security -/

/-- Where start-up stands (Table 10-1, R375, R376, R378). -/
inductive Boot where
  /-- RESETn low, or a rail not good, or the shutdown latch set -/
  | held
  /-- step 4 without REFCLK -/
  | waitRef
  /-- held under R376 -/
  | failed
  /-- boot recovery (R375) -/
  | recovery
  | running
  deriving DecidableEq, Repr

/-- What the bonded store has saved (R441). -/
structure Saved where
  /-- what was saved was HIBERNATE's set: banks 0 to 7 -/
  deep : Bool
  regs : Sparse
  live : Sparse
  coefs : List Coefs
  /-- trims and DPD tables in force, by lane -/
  trims : List (Vector Word 64)
  dpd : List (List Int)
  deriving DecidableEq, Repr

/-- Supervision: start-up, watchdog and power states. -/
structure Sup where
  boot : Boot
  resetnLow : Bool
  /-- REFCLK edges are present -/
  refOk : Bool
  railsBad : List Rail
  aonGood : Bool
  /-- a full reset that is due, by cause (R379) -/
  due : Option Byte
  /-- the processor runs (R310) -/
  procRun : Bool
  /-- ns the device ran before the last full reset since POR (R382) -/
  ranBefore : Nat
  /-- a sleep state whose WFI is awaited (R427) -/
  sleepFor : Option Nat
  /-- a wake is due: entry is complete, or will be (R430) -/
  wakeDue : Bool
  /-- writes held in DORMANT (R434) -/
  heldWrites : List (Nat × Word)
  saved : Option Saved
  /-- banks whose blocks are reloaded from flash (R443) -/
  reload : BitVec 8
  /-- operating point that a rise in progress goes to (R438, R440) -/
  opGoal : Option Nat
  /-- bias DAC channels at their clear codes until the first write of a code (Table 14-5) -/
  unwritten : BitVec 16
  /-- poisoned code blocks whose 4 KiB pages wait for their reload (R531) -/
  pages : List Nat
  deriving DecidableEq, Repr

/-- The thermal block beside its registers. -/
structure Thermal where
  /-- last non-deviating reading of each sensor -/
  last : Vector Int 24
  /-- consecutive deviating samples and consecutive missing readings -/
  devRun : Vector Nat 24
  missRun : Vector Nat 24
  /-- step ordered by temperature -/
  ordered : Nat
  /-- E2_DELAY runs -/
  e2Run : Bool
  deriving DecidableEq, Repr

/-- What the monitor converter does. -/
inductive MonWork where
  | idle
  | regular (ch : Nat)
  /-- an injected conversion, and whether a MON_CONVERT asked for it -/
  | injected (ch : Nat) (man : Bool)
  | phase (ch : Nat)
  | recovery (ch : Nat)
  /-- a calibration phase whose step was abandoned (R479) -/
  | dropped (ch : Nat)
  deriving DecidableEq, Repr

/-- A conversion whose result is still to be written (R467). -/
structure Readout where
  ch : Nat
  analog : Analog
  /-- coefficients when its settling started (R479) -/
  ofs : Int
  gain : Nat
  inj : Bool
  man : Bool
  deriving DecidableEq, Repr

/-- A calibration step (R474). -/
structure CalStep where
  ch : Nat
  full : Bool
  /-- phases still to run, phases done, sum of their raw results -/
  left : Nat
  done : Nat
  sum : Int
  ovr : Bool
  /-- started by a MON_CAL -/
  man : Bool
  deriving DecidableEq, Repr

/-- The monitor ADC beside its registers. -/
structure Mon where
  work : MonWork
  /-- coefficients in force for the conversion that runs -/
  ofs : Int
  gain : Nat
  /-- injected queue: channel, and whether a MON_CONVERT asked -/
  queue : List (Nat × Bool)
  readouts : List Readout
  cal : Option CalStep
  /-- last regular channel converted, if any since the sequence began -/
  last : Option Nat
  /-- a recovery conversion is due (R482) -/
  recover : Bool
  /-- the 19 CMIS monitors of Table 14-3 that M0 to M15 and M19 to M21 feed -/
  cmis : List Int
  /-- CMIS page 02h thresholds (Table 8-8, Table 15-4) -/
  page02 : List Byte
  deriving DecidableEq, Repr

/-- Realm keys as the fabric persistent state holds them (R585). -/
structure KeyStore where
  key : Option (BitVec 256 × Nat)
  /-- key, epoch and switch hour of a pending key -/
  pending : Option (BitVec 256 × Nat × Nat)
  /-- the key replaced, while it is still accepted (R586) -/
  old : Option (BitVec 256)
  deriving DecidableEq, Repr

/-- What flash and fuses hold: no reset changes it (R382). -/
structure Flash where
  fw : Vector FwSlot 2
  cal : Vector (Option CalRec) 2
  /-- fabric persistent state: record, own address, authorisation group, SEQ boot block, keys -/
  record : Option IslandRec
  addr : Option Nat
  acl : List (Nat × Word)
  bootBlock : Nat
  keys : KeyStore
  /-- key digests that the owner slots hold, from OWN0 up, then the fuses VK_REVOKE, COSIGN_REQ and SVN (R569, R571, R587) -/
  ownerKeys : List (List Byte)
  vkRevoked : Bool
  cosign : Bool
  svn : Nat
  deriving DecidableEq, Repr

/-- Owner slots programmed (R571). -/
def Flash.owners (f : Flash) : Nat := f.ownerKeys.length

/-- The security block beside its registers: the keys it tags under and the firmware that runs. -/
structure Sec where
  keys : KeyStore
  /-- image that runs -/
  svnRun : Nat
  vk1 : Bool
  slot : Nat
  /-- slot that step 8 tried first, if any -/
  tried : Option Nat
  /-- a FW_ACTIVATE has completed with OK since the full reset (R578) -/
  activated : Bool
  /-- nonce and challenge draws that wait for the TRNG (R573) -/
  wantNonce : Bool
  wantChallenge : Bool
  /-- calibration record loaded at start-up -/
  cal : Option CalRec
  deriving DecidableEq, Repr

/-- What the device keeps for one of the four banks of requesters (R407, R483, R610). -/
structure BankSt where
  /-- low-word address and 48-bit copy of the pair read last -/
  copy : Option (Nat × Nat)
  /-- SYS_LIVE_ADDR -/
  live : Word
  /-- channel and MON_INFO word latched by a read of MON_RES -/
  info : Option (Nat × Word)
  /-- words that the requester's last read returned -/
  out : List Word
  deriving DecidableEq, Repr

/-! ### Memory protection (chapter 16) -/

/-- One entry of the history of corrections (R526): location, first correction in ns, recurrences, and whether the block
has been written back since. -/
structure MemHist where
  key : Nat
  first : Nat
  count : Nat
  back : Bool
  deriving DecidableEq, Repr

/-! ### Lookout and performance counters (chapter 17) -/

/-- What a trigger unit remembers of the samples before (Table 17-4). -/
structure TrigUnit where
  /-- length of the running run, or samples since the start threshold -/
  run : Nat
  /-- 0: not started, 1: started, 2: cancelled until the start threshold is met again -/
  phase : Nat
  /-- the FEC count has reached TH_A and not fallen since -/
  met : Bool
  /-- FEC events by sample index, newest first -/
  events : List (Nat × Nat)
  deriving DecidableEq, Repr

/-- Lookout beside its registers. -/
structure Lko where
  /-- index of the next sample since ARM -/
  idx : Nat
  /-- kept samples stored so far -/
  kept : Nat
  /-- entries written by MINMAX and MEAN -/
  minmaxN : Nat
  meanN : Nat
  /-- the running bin -/
  binN : Nat
  binMin : Int
  binMax : Int
  binSum : Int
  units : Vector TrigUnit 4
  /-- FEC events of LANE that fall on the next sample, by EVSEL code (R551) -/
  events : List Nat
  /-- samples still to store in POST -/
  postLeft : Nat
  /-- FORCE waits for the current sample -/
  force : Bool
  holdEnded : Bool
  holdCount : Nat
  deriving DecidableEq, Repr

/-- Freeze and snapshot requests that wait for instant T (R562). -/
structure PmuReq where
  freeze : Option Bool
  snap : Bool
  deriving DecidableEq, Repr

/-! ### The device -/

/-- Everything the spec gives the device. -/
structure Device where
  /-- register shells: the words that differ from their reset values (R13) -/
  regs : Sparse
  /-- live copies of staged registers (R311) -/
  live : Sparse
  /-- shadow copies of the counters of the last snapshot (R563) -/
  snap : Sparse
  /-- the protected memories, by macro (Table 16-1) -/
  mem : List Host.Cell
  /-- flipped bits of blocks, by block (R516) -/
  errs : List (Nat × List Nat)
  /-- poisoned blocks (R519) -/
  poisoned : List Nat
  /-- corrections remembered, oldest first; blocks queued for write-back; macros that ran out of spares; next sweep row of
  each macro (R523 to R528) -/
  memHist : List MemHist
  writeBack : List Nat
  sparesOut : List Nat
  scrubRow : Vector Nat 49
  /-- ns at which the running pass of each macro started (R523) -/
  scrubFrom : Vector Nat 49
  /-- time in ns since the last full reset -/
  now : Nat
  /-- how many open values have been drawn (the model's own field) -/
  draws : Nat
  rx : Vector RxLane 8
  tx : Vector TxLane 8
  bw : Vector BwRx 8
  egr : Vector Egress 8
  neg : Neg
  pool : Pool
  host : Vector HostLane 32
  /-- host output: the codewords that the last release delivered on each stream -/
  out : Vector (List Delivered) 16
  plt : Vector PltLane 8
  hws : Vector HwsPort 8
  fab : Fab
  sup : Sup
  thm : Thermal
  mon : Mon
  sec : Sec
  flash : Flash
  /-- banks of the processor, SPI, two-wire and JTAG -/
  banks : Vector BankSt 4
  mft : Mft
  lko : Lko
  pmuReq : PmuReq
  /-- TXDISn is low -/
  txdisLow : Bool
  /-- general counters whose level event was asserted at the last tick (R559) -/
  pmuPrev : List Nat
  /-- requests that need ACTIVE are held back (R424) -/
  laneHold : Bool
  /-- domains whose gated clock a handshake has started (R409) -/
  clkWake : BitVec 18
  deriving DecidableEq, Repr

/-- The machine: the device, and the commands that wait, first in, first out. -/
structure State where
  dev : Device
  pending : List Instr
  deriving DecidableEq, Repr

/-- Why the machine stops with a fault. No command of this block stops with one: the single constructor stands for a
machine check that no meaning raises (safe). -/
inductive Fault where
  | none
  deriving DecidableEq, Repr

/-- Why a command has no meaning. -/
inductive Refusal where
  /-- an arm of exec that has no meaning yet raises it (safe: nothing can be proved through it) -/
  | notModelled (mnemonic : String)
  deriving DecidableEq, Repr

/-! ### Reset -/

/-- Coefficients at reset: every adapted tap 0. -/
def Coefs.reset : Coefs := { ffe := List.replicate 40 0, mlse := [0, 0, 0], level := [0, 0, 0, 0] }

/-- A receive half before anything has run. -/
def RxLane.fresh : RxLane :=
  { coef := Coefs.reset, saved := Coefs.reset, savedNext := none, attempts := 0, step := none, gainSet := none, upRun := 0,
    stepInWindow := false, beforeStep4 := false, losRun := 0, clrRun := 0, dcb2 := 0, dcFrom := (0, 0),
    dcCond := { freeze := false, auto := true, corner := 2 }, dcLog := [], icw := 0, icwFail := 0, badBlocks := 0,
    innerOffset := 0, frameStart := 0, coefWrites := [], pilotRx := false, draining := false, trimSets := [], tiaDue := none,
    trimWrites := [], firstEst := none, estSpoiled := false, estRule := (0, 0x014D6460), trimLive := Vector.replicate 64 0, tiaLive := 0,
    cwCount := 0, markers := Vector.replicate 2 MarkerSt.unknown, newRate := none }

/-- A transmit half before anything has run. -/
def TxLane.fresh : TxLane :=
  { dpd := List.replicate 64 0, dpdWrites := [], dpdUpdate := none, dpdRecord := [], held := none, periodOver := false,
    bypass := false, bypassDue := none, swing := 0x20, peak := 0, peakDue := false, cmisDis := false, biasWait := 0,
    viaPilot := false, heading := false, ending := false, pilotDue := none, measuring := false, farEpoch := 0,
    reTxon := false, resumeDue := false, pinCopy := true, seq3 := 0 }

/-- Breakwater receive before anything has run. -/
def BwRx.fresh : BwRx :=
  { half := none, frames := [], ready := [], goodRun := 0, lossRun := 0, badRun := 0, skip := 0, slot := 0, e2 := false }

/-- The egress of a lane starts a group afresh (R141, R147). -/
def Egress.fresh : Egress := { slot := 0, have0 := none, have1 := none, sub0 := false, sub1 := false, acc0 := 0, acc1 := 0, sent := [], grid := none }

/-- No negotiation has run. RATE is 0b01 at reset (Table 2-8). -/
def Neg.fresh : Neg :=
  { proposer := false, mask := 0, portMap := 0, farCap := Vector.replicate 8 none, capSent := 0, awaiting := [], resends := 0,
    oldRate := Vector.replicate 8 1, notNative := Vector.replicate 8 0, switched := 0 }

/-- The pool, off and empty. -/
def Pool.fresh : Pool :=
  { berths := Vector.replicate 16 [], engines := Vector.replicate 64 { job := .idle, chosen := false },
    flights := Vector.replicate 8 [], nextTag := 0, windowAdmits := 0, admits := 0, misses := 0, quiet := 0, capBand := 0,
    coefs := none, railLow := 0, railHigh := 0, enabled := false, laneEnf := Vector.replicate 8 0 }

/-- A host lane before anything has run. -/
def HostLane.fresh : HostLane :=
  { due := [], session := 0, recFails := 0, recovering := false, recRan := false, lateRx := false, heldLp := none, txDone := true,
    rxDone := true, txRun := false, checkMarker := false }

/-- A pilot lane before anything has run. -/
def PltLane.fresh : PltLane :=
  { ctl := [], fab := [], wait := [], txOn := false, idled := true, sending := none, recPreset := 0, recValid := false,
    maps := [], issued := [], nextMap := 1, loadreq := false, diffRun := 0, lastLoad := [], nextLoadmap := 0, sentRec := 0,
    reception := none, seq1 := 0, seq2 := 0, evm := Vector.replicate 64 (1, 2 ^ 40), agcTrack := 0x60, inBound := 0 }

/-- A link on which nothing has been heard. -/
def LinkSt.fresh : LinkSt :=
  { heard := 0, adj := none, seqs := [], flags := 0, farQm := 0, farHm := 0, farEpoch := 0, farAddr := 0, cfg := 0x0000FF05,
    sent := none, sentAt := 0, dirty := [], routeAt := none }

/-- The fabric before step 12; `nonce` is drawn from the TRNG at the reset (R354). -/
def Fab.fresh (nonce : Word) : Fab :=
  { links := Vector.replicate 16 LinkSt.fresh, routes := [], stored := none, proposal := none, requests := [], relays := [],
    fullPosted := false, newCluster := false, floods := [], seq := 0, nonce := nonce, replay := [], nonces := [], nextRid := 1,
    remotes := [], served := [], hmAt := 0, hmAddr := none, deferred := [] }

/-- Thermal history before the first sample: every reading 0, as THM_Tk reads. -/
def Thermal.fresh : Thermal :=
  { last := Vector.replicate 24 0, devRun := Vector.replicate 24 0, missRun := Vector.replicate 24 0, ordered := 0, e2Run := false }

/-- The monitor converter, idle. -/
def Mon.fresh : Mon :=
  { work := .idle, ofs := 0, gain := 0x40000, queue := [], readouts := [], cal := none, last := none, recover := false,
    cmis := List.replicate 19 0, page02 := List.replicate 128 0 }

/-- No realm key. -/
def KeyStore.none : KeyStore := { key := .none, pending := .none, old := .none }

/-- An erased firmware slot. -/
def FwSlot.erased : FwSlot :=
  { commit := false, seq := 0, svn := 0, version := 0, codeLimit := 0, reason := 0x02, vk1 := false, cosigned := [], written := 0 }

/-- Flash and fuses of a device to which nothing has been written (DESIGN CHOICE: the spec gives them no content). -/
def Flash.blank : Flash :=
  { fw := Vector.replicate 2 FwSlot.erased, cal := Vector.replicate 2 .none, record := .none, addr := .none, acl := [],
    bootBlock := 0, keys := KeyStore.none, ownerKeys := [], vkRevoked := false, cosign := false, svn := 0 }

/-- The security block with no image running. -/
def Sec.fresh : Sec :=
  { keys := KeyStore.none, svnRun := 0, vk1 := false, slot := 0, tried := none, activated := false, wantNonce := false,
    wantChallenge := false, cal := none }

/-- A requester's bank that has held nothing. -/
def BankSt.fresh : BankSt := { copy := none, live := 0, info := none, out := [] }

/-- The manifest machinery with its rings off. -/
def Mft.fresh : Mft :=
  { begun := [], waiting := [], done := [], seq := 0, cplPhase := true, evtPhase := true, held := [], lost := 0, commits := [],
    fabricQueue := [], lastFabric := false, b8Status := 0, b8Data := 0, cmisDeinit := 0, cmisRxOff := 0, cmisLowPwr := false,
    cdb := none, cmisPage := 0, cmisBank := 0 }

/-- Trigger units before any sample. -/
def TrigUnit.fresh : TrigUnit := { run := 0, phase := 0, met := false, events := [] }

/-- Lookout before any sample. -/
def Lko.fresh : Lko :=
  { idx := 0, kept := 0, minmaxN := 0, meanN := 0, binN := 0, binMin := 0, binMax := 0, binSum := 0,
    units := Vector.replicate 4 TrigUnit.fresh, events := [], postLeft := 0, force := false, holdEnded := false, holdCount := 0 }

/-- Supervision after POR, while RESETn is still low and every rail is good. -/
def Sup.fresh : Sup :=
  { boot := .held, resetnLow := true, refOk := true, railsBad := [], aonGood := true, due := none, procRun := false, ranBefore := 0,
    sleepFor := none, wakeDue := false, heldWrites := [], saved := none, reload := 0, opGoal := none, unwritten := BitVec.allOnes 16, pages := [] }

/-- The device right after reset, RESETn low: every register at its reset value (R13), every block as R382 and R387 leave it. -/
def Device.initial : Device :=
  { regs := [], live := [], snap := [], mem := [], errs := [], poisoned := [], memHist := [], writeBack := [], sparesOut := [],
    scrubRow := Vector.replicate 49 0, scrubFrom := Vector.replicate 49 0, now := 0, draws := 0, rx := Vector.replicate 8 RxLane.fresh,
    tx := Vector.replicate 8 TxLane.fresh, bw := Vector.replicate 8 BwRx.fresh, egr := Vector.replicate 8 Egress.fresh,
    neg := Neg.fresh, pool := Pool.fresh, host := Vector.replicate 32 HostLane.fresh, out := Vector.replicate 16 [],
    plt := Vector.replicate 8 PltLane.fresh, hws := Vector.replicate 8 { sync := false, txq := [] }, fab := Fab.fresh 0,
    sup := Sup.fresh, thm := Thermal.fresh, mon := Mon.fresh, sec := Sec.fresh, flash := Flash.blank,
    banks := Vector.replicate 4 BankSt.fresh, mft := Mft.fresh, lko := Lko.fresh, pmuReq := { freeze := none, snap := false },
    txdisLow := false, pmuPrev := [], laneHold := true, clkWake := 0 }

/-- The machine right after reset: nothing waits. -/
def State.reset : State := { dev := Device.initial, pending := [] }

end Sys2Proof.Machine
end

