-- ==== Sys2Proof/Machine/Ops.lean ====
section
/-! DEFINITION. The named operations every command is built from: reading and writing register fields, counters, the protected memories byte by byte, and time. -/

namespace Sys2Proof.Machine

/-! ### Parts of the device, one at a time -/

/-- Change the protected memories. -/
def Device.modMem (d : Device) (f : List Host.Cell → List Host.Cell) : Device := { d with mem := f d.mem }
/-- Change the flipped bits. -/
def Device.modErrs (d : Device) (f : List (Nat × List Nat) → List (Nat × List Nat)) : Device := { d with errs := f d.errs }
/-- Change the poisoned blocks. -/
def Device.modPoisoned (d : Device) (f : List Nat → List Nat) : Device := { d with poisoned := f d.poisoned }
/-- Change the history of corrections. -/
def Device.modMemHist (d : Device) (f : List MemHist → List MemHist) : Device := { d with memHist := f d.memHist }
/-- Change the write-back queue. -/
def Device.modWriteBack (d : Device) (f : List Nat → List Nat) : Device := { d with writeBack := f d.writeBack }
/-- Change the list of macros without spares. -/
def Device.modSparesOut (d : Device) (f : List Nat → List Nat) : Device := { d with sparesOut := f d.sparesOut }
/-- Change the sweep rows. -/
def Device.modScrubRow (d : Device) (f : Vector Nat 49 → Vector Nat 49) : Device := { d with scrubRow := f d.scrubRow }
/-- Change the sweep start times. -/
def Device.modScrubFrom (d : Device) (f : Vector Nat 49 → Vector Nat 49) : Device := { d with scrubFrom := f d.scrubFrom }
/-- Change the time. -/
def Device.modNow (d : Device) (f : Nat → Nat) : Device := { d with now := f d.now }
/-- Change the counter shadows. -/
def Device.modSnap (d : Device) (f : Sparse → Sparse) : Device := { d with snap := f d.snap }
/-- Change the egress framers. -/
def Device.modEgr (d : Device) (f : Vector Egress 8 → Vector Egress 8) : Device := { d with egr := f d.egr }
/-- Change the negotiation. -/
def Device.modNeg (d : Device) (f : Neg → Neg) : Device := { d with neg := f d.neg }
/-- Change the pool. -/
def Device.modPool (d : Device) (f : Pool → Pool) : Device := { d with pool := f d.pool }
/-- Change the host output. -/
def Device.modOut (d : Device) (f : Vector (List Delivered) 16 → Vector (List Delivered) 16) : Device := { d with out := f d.out }
/-- Change the hawser ports. -/
def Device.modHwsAll (d : Device) (f : Vector HwsPort 8 → Vector HwsPort 8) : Device := { d with hws := f d.hws }
/-- Change the fabric. -/
def Device.modFab (d : Device) (f : Fab → Fab) : Device := { d with fab := f d.fab }
/-- Change supervision. -/
def Device.modSup (d : Device) (f : Sup → Sup) : Device := { d with sup := f d.sup }
/-- Change the thermal history. -/
def Device.modThm (d : Device) (f : Thermal → Thermal) : Device := { d with thm := f d.thm }
/-- Change the monitor converter. -/
def Device.modMon (d : Device) (f : Mon → Mon) : Device := { d with mon := f d.mon }
/-- Change the security block. -/
def Device.modSec (d : Device) (f : Sec → Sec) : Device := { d with sec := f d.sec }
/-- Change flash and fuses. -/
def Device.modFlash (d : Device) (f : Flash → Flash) : Device := { d with flash := f d.flash }
/-- Change the requester banks. -/
def Device.modBanks (d : Device) (f : Vector BankSt 4 → Vector BankSt 4) : Device := { d with banks := f d.banks }
/-- Change the manifest machinery. -/
def Device.modMft (d : Device) (f : Mft → Mft) : Device := { d with mft := f d.mft }
/-- Change Lookout. -/
def Device.modLko (d : Device) (f : Lko → Lko) : Device := { d with lko := f d.lko }
/-- Change the counter requests. -/
def Device.modPmuReq (d : Device) (f : PmuReq → PmuReq) : Device := { d with pmuReq := f d.pmuReq }
/-- Change the TXDISn pin. -/
def Device.modTxdisLow (d : Device) (f : Bool → Bool) : Device := { d with txdisLow := f d.txdisLow }
/-- Change the asserted level events. -/
def Device.modPmuPrev (d : Device) (f : List Nat → List Nat) : Device := { d with pmuPrev := f d.pmuPrev }
/-- Change the hold of lane requests. -/
def Device.modLaneHold (d : Device) (f : Bool → Bool) : Device := { d with laneHold := f d.laneHold }
/-- Change the woken clock domains. -/
def Device.modClkWake (d : Device) (f : BitVec 18 → BitVec 18) : Device := { d with clkWake := f d.clkWake }
/-- Count open values that are drawn. -/
def Device.draw (d : Device) (n : Nat := 1) : Device := { d with draws := d.draws + n }

/-! ### Registers -/

/-- The shadow word at a register address. -/
def Device.reg (d : Device) (a : Nat) : Word := Sparse.get regReset d.regs a

/-- Write the shadow word at a register address. -/
def Device.setReg (d : Device) (a : Nat) (w : Word) : Device :=
  { d with regs := Sparse.put regReset d.regs a w }

/-- The live word of a staged register (Table 19-4). -/
def Device.liveReg (d : Device) (a : Nat) : Word := Sparse.get regReset d.live a

/-- Write the live word of a staged register. -/
def Device.setLiveReg (d : Device) (a : Nat) (w : Word) : Device :=
  { d with live := Sparse.put regReset d.live a w }

/-- The value of a field. -/
def Device.get (d : Device) (f : Fld) : Nat := bitsOf (d.reg f.addr) f.hi f.lo

/-- A one-bit field as a truth value. -/
def Device.flag (d : Device) (f : Fld) : Bool := d.get f != 0

/-- The two's complement value of a field. -/
def Device.sget (d : Device) (f : Fld) : Int := toSigned (f.hi - f.lo + 1) (d.get f)

/-- Set a field, leaving the other bits of its register. -/
def Device.set (d : Device) (f : Fld) (v : Nat) : Device :=
  d.setReg f.addr (putBits (d.reg f.addr) f.hi f.lo v)

/-- Set a two's complement field. -/
def Device.sset (d : Device) (f : Fld) (v : Int) : Device := d.set f (ofSigned (f.hi - f.lo + 1) v)

/-- Set a one-bit field from a truth value. -/
def Device.setB (d : Device) (f : Fld) (b : Bool) : Device := d.set f b.toNat

/-- The live value of a staged field. -/
def Device.lget (d : Device) (f : Fld) : Nat := bitsOf (d.liveReg f.addr) f.hi f.lo

/-- Set the live value of a staged field. -/
def Device.lset (d : Device) (f : Fld) (v : Nat) : Device :=
  d.setLiveReg f.addr (putBits (d.liveReg f.addr) f.hi f.lo v)

/-- Set a staged field in both copies (as a step that the device itself takes). -/
def Device.bset (d : Device) (f : Fld) (v : Nat) : Device := (d.set f v).lset f v

/-- A wrapping count of a field (the 16-bit event fields, R607). -/
def Device.bump (d : Device) (f : Fld) (n : Nat := 1) : Device := d.set f (d.get f + n)

/-- A saturating count of a field. -/
def Device.bumpSat (d : Device) (f : Fld) (n : Nat := 1) : Device :=
  d.set f (satAdd (2 ^ (f.hi - f.lo + 1) - 1) (d.get f) n)

/-! ### Open values -/

/-- A word that the manual leaves open. -/
def Device.fresh (d : Device) : Device × Word := (d.draw, Config.freeWord d.draws)

/-! ### 48-bit counters (R86, R562) -/

/-- The 48-bit value of a _LO/_HI pair named by its low word. -/
def Device.pair (d : Device) (f : Fld) : Nat :=
  (d.reg f.addr).toNat + 2 ^ 32 * ((d.reg (f.addr + 4)).toNat % 2 ^ 16)

/-- Set a _LO/_HI pair modulo 2^48. -/
def Device.setPair (d : Device) (f : Fld) (v : Nat) : Device :=
  (d.setReg f.addr (BitVec.ofNat 32 v)).setReg (f.addr + 4) (BitVec.ofNat 32 (v / 2 ^ 32 % 2 ^ 16))

/-- Add to a fixed counter, which stands still while the counters are frozen (R562). -/
def Device.count (d : Device) (f : Fld) (n : Nat := 1) : Device :=
  if d.flag F.PMU_STATUS_FROZEN || n == 0 then d else d.setPair f (d.pair f + n)

/-! ### Units of events and manifests -/

/-- A sub-address laid out as descriptor word 2 (Table 8-1). -/
def unitOf (kind index : Nat) : Word := BitVec.ofNat 32 (kind * 256 + index)

/-- The unit a block's flag names, from the block code and the register's first index (R316). -/
def unitAt (code : Nat) (ix : List Nat) : Word :=
  match code, ix with
  | 0x10, n :: _ | 0x11, n :: _ | 0x20, n :: _ | 0x28, n :: _ => unitOf 1 n
  | 0x40, k :: _ => unitOf 2 k
  | 0x0D, p :: _ => unitOf 3 p
  | _, _ => 0

/-! ### Bytes of the protected memories (chapter 16) -/

/-- Memory address of the first byte of a macro (Table 16-1); every macro has 32 KiB of room. -/
def macroBase (m : Nat) : Nat := m * 0x8000

/-- Memory address of a shared-window offset: macros 36 to 43. -/
def windowAddr (off : Nat) : Nat := macroBase 36 + off

/-- Memory address of an offset of the Lookout capture memory: macros 28 to 35. -/
def lookoutAddr (off : Nat) : Nat := macroBase 28 + off

/-- Memory address of an offset of the management SRAM: macros 0 to 15. -/
def sramAddr (off : Nat) : Nat := off

/-- What a byte that nothing has written reads as: zero, as memory BIST leaves every block (R535). -/
def memDefault : Byte := 0

/-- The byte written at `a`. -/
def memGet : List Host.Cell → Nat → Byte
  | [], _ => memDefault
  | (b, v) :: rest, a => if a = b then v else memGet rest a

/-- Enter a byte in its place. -/
def memInsert (a : Nat) (v : Byte) : List Host.Cell → List Host.Cell
  | [] => [(a, v)]
  | (b, w) :: rest =>
    if a = b then (a, v) :: rest
    else if a < b then (a, v) :: (b, w) :: rest
    else (b, w) :: memInsert a v rest

/-- Remove every entry at `a`. -/
def memErase (a : Nat) (l : List Host.Cell) : List Host.Cell := l.filter fun p => p.1 != a

/-- Write one byte, keeping the canonical form. -/
def memPut (l : List Host.Cell) (a : Nat) (v : Byte) : List Host.Cell :=
  if v = memDefault then memErase a l else memInsert a v l

/-- The canonical form of memory: addresses strictly rising, no entry equal to `memDefault`. -/
def Memory.wf : List Host.Cell → Bool
  | [] => true
  | [(_, v)] => v != memDefault
  | (a, v) :: (b, w) :: rest => decide (a < b) && v != memDefault && Memory.wf ((b, w) :: rest)

/-- The byte at a memory address, as written. -/
def Device.byte (d : Device) (a : Nat) : Byte := memGet d.mem a

/-- Store one byte. -/
def Device.setByte (d : Device) (a : Nat) (v : Byte) : Device := { d with mem := memPut d.mem a v }

/-- Store bytes from `a` up. -/
def Device.setBytes (d : Device) (a : Nat) : List Byte → Device
  | [] => d
  | v :: vs => (d.setByte a v).setBytes (a + 1) vs

/-- The `n` bytes from `a` up. -/
def Device.bytes (d : Device) (a n : Nat) : List Byte := (List.range n).map fun i => d.byte (a + i)

/-- The four bytes of a word, lowest address first (R9). -/
def wordBytes (w : Word) : List Byte :=
  [w.extractLsb' 0 8, w.extractLsb' 8 8, w.extractLsb' 16 8, w.extractLsb' 24 8]

/-- The word whose bytes stand lowest address first. -/
def bytesWord (b0 b1 b2 b3 : Byte) : Word := b3 ++ b2 ++ b1 ++ b0

/-- The little-endian word at a memory address, as written. -/
def Device.word (d : Device) (a : Nat) : Word :=
  bytesWord (d.byte a) (d.byte (a + 1)) (d.byte (a + 2)) (d.byte (a + 3))

/-- Store a little-endian word. -/
def Device.setWord (d : Device) (a : Nat) (w : Word) : Device := d.setBytes a (wordBytes w)

/-! ### Blocks and their check bits -/

/-- The block (macro × 512 + row) that holds a memory address. -/
def blockOf (a : Nat) : Nat := a / 64

/-- Rows of a macro, each of one 64-byte block (R514, Table 16-1). -/
def macroRows (m : Nat) : Nat := if m = 48 then 128 else if m = 46 ∨ m = 47 then 384 else 512

/-- The flipped bits of a block: 0 to 511 data (64 w + 8 j + b), 512 to 575 row parity (8 w + j), 576 to 639 column parity (8 j + b), 640 PR, 641 PC. -/
def Device.flips (d : Device) (blk : Nat) : List Nat :=
  match d.errs.find? (fun e => e.1 == blk) with
  | some e => e.2
  | none => []

/-- Replace the flipped bits of a block. -/
def Device.setFlips (d : Device) (blk : Nat) (fl : List Nat) : Device :=
  let rest := d.errs.filter fun e => e.1 != blk
  d.modErrs fun _ => if fl.isEmpty then rest else rest ++ [(blk, fl)]

/-- Whether an odd number of a list's members satisfy `p`. -/
def oddCount (p : Nat → Bool) (l : List Nat) : Bool := (l.filter p).length % 2 == 1

/-- Row syndrome of byte `i` (= 8 w + j) before poison (R515). -/
def rowSyn (fl : List Nat) (i : Nat) : Bool :=
  oddCount (fun x => (x < 512 && x / 8 == i) || x == 512 + i) fl

/-- Column syndrome of column `c` (= 8 j + b) before poison. -/
def colSyn (fl : List Nat) (c : Nat) : Bool :=
  oddCount (fun x => (x < 512 && x % 64 == c) || x == 576 + c) fl

/-- The class of a block as read (Table 16-2). -/
inductive BlockClass where
  | clean | data (bit : Nat) | rowParity (i : Nat) | colParity (c : Nat) | check (n : Nat) | poisoned | bad
  deriving DecidableEq, Repr

/-- Class of a block with flipped bits `fl`, whose parity bits stand inverted when `poison` (R516, Table 16-2). -/
def classify (poison : Bool) (fl : List Nat) : BlockClass :=
  if fl.isEmpty then (if poison then .poisoned else .clean)
  else
    let rows := (List.range 64).filter fun i => xor poison (rowSyn fl i)
    let cols := (List.range 64).filter fun c => xor poison (colSyn fl c)
    -- PR and PC are recomputed from the parity bits as read; 64 inverted bits leave them as they were
    let pr := oddCount (fun x => (512 ≤ x && x < 576) || x == 640) fl
    let pc := oddCount (fun x => (576 ≤ x && x < 640) || x == 641) fl
    match rows, cols, pr, pc with
    | [], [], false, false => .clean
    | [], [], true, false => .check 640
    | [], [], false, true => .check 641
    | [i], [], true, false => .rowParity i
    | [], [c], false, true => .colParity c
    | [i], [c], false, false => if i % 8 == c / 8 then .data (8 * i + c % 8) else .bad
    | _, _, _, _ => if 56 ≤ rows.length && 56 ≤ cols.length then .poisoned else .bad

/-- The class of a block now. -/
def Device.blockClass (d : Device) (blk : Nat) : BlockClass :=
  classify (d.poisoned.contains blk) (d.flips blk)

/-- Make the flipped data bits of a block its content: the data as it then stands. -/
def Device.settleBits (d : Device) (blk : Nat) : List Nat → Device
  | [] => d
  | x :: xs =>
    if x < 512 then
      let a := 64 * blk + x / 8
      (d.setByte a (d.byte a ^^^ BitVec.ofNat 8 (2 ^ (x % 8)))).settleBits blk xs
    else d.settleBits blk xs

/-- Recompute every check bit over the data as it stands, clearing poison (R519 to R522). -/
def Device.recheck (d : Device) (blk : Nat) : Device :=
  let e := (d.settleBits blk (d.flips blk)).setFlips blk []
  e.modPoisoned fun _ => e.poisoned.filter fun b => b != blk

/-- Rewrite a block's parity bits inverted relative to its data: the poison signature (R519). -/
def Device.poison (d : Device) (blk : Nat) : Device :=
  let e := (d.settleBits blk (d.flips blk)).setFlips blk []
  e.modPoisoned fun _ => e.poisoned.filter (fun b => b != blk) ++ [blk]

/-- Owner code of a block (Table 16-1); the code region ends at CODE_LIMIT (R531). -/
def Device.ownerOf (d : Device) (blk : Nat) : Nat :=
  let m := blk / 512
  if m < 16 then (if 64 * blk < d.get F.MEM_CODE_LIMIT_CODE_LIMIT then 0 else 1)
  else if m < 28 then 3 else if m < 36 then 4 else if m < 44 then 2
  else if m < 46 then 5 else if m < 48 then 6 else 7

/-- The location word of Table 16-4: macro, row, word, bit, kind, owner. -/
def Device.location (d : Device) (blk word bit kind : Nat) : Word :=
  BitVec.ofNat 32
    (blk / 512 * 2 ^ 24 + blk % 512 * 2 ^ 15 + word * 2 ^ 12 + bit * 2 ^ 6 + kind * 16 + d.ownerOf blk)

/-- The location word of a correctable class. -/
def Device.classLocation (d : Device) (blk : Nat) : BlockClass → Word
  | .data x => d.location blk (x / 64) (x % 64) 0
  | .rowParity i => d.location blk (i / 8) (8 * (i % 8)) 1
  | .colParity c => d.location blk 0 c 2
  | _ => d.location blk 0 0 3

/-- The flipped bit that the correction of a class inverts. -/
def classBit : BlockClass → Option Nat
  | .data x => some x
  | .rowParity i => some (512 + i)
  | .colParity c => some (576 + c)
  | .check n => some n
  | _ => none

/-- The block after the correction of its class: the corrected bit inverted, whatever other flips remain. -/
def Device.mend (d : Device) (blk : Nat) (c : BlockClass) : Device :=
  match classBit c with
  | none => d
  | some x =>
    let fl := d.flips blk
    d.setFlips blk (if fl.contains x then fl.filter (fun y => y != x) else fl ++ [x])

/-! ### Vectors of lanes -/

/-- Change one line receive half. -/
def Device.modRx (d : Device) (n : Lane) (f : RxLane → RxLane) : Device :=
  { d with rx := d.rx.set n (f (d.rx.get n)) }

/-- Change one line transmit half. -/
def Device.modTx (d : Device) (n : Lane) (f : TxLane → TxLane) : Device :=
  { d with tx := d.tx.set n (f (d.tx.get n)) }

/-- Change one host lane. -/
def Device.modHost (d : Device) (k : HLane) (f : HostLane → HostLane) : Device :=
  { d with host := d.host.set k (f (d.host.get k)) }

/-- Change the Breakwater receive of one line lane. -/
def Device.modBw (d : Device) (n : Lane) (f : BwRx → BwRx) : Device :=
  { d with bw := d.bw.set n (f (d.bw.get n)) }

/-- Change one engine. -/
def Device.modEng (d : Device) (e : Eng) (f : Engine → Engine) : Device :=
  d.modPool fun (q0 : Pool) => { q0 with engines := q0.engines.set e (f (q0.engines.get e)) }

/-- Change one pilot lane. -/
def Device.modPlt (d : Device) (n : Lane) (f : PltLane → PltLane) : Device :=
  { d with plt := d.plt.set n (f (d.plt.get n)) }

/-- Change one hawser port. -/
def Device.modHws (d : Device) (p : Port) (f : HwsPort → HwsPort) : Device :=
  { d with hws := d.hws.set p (f (d.hws.get p)) }

/-- Apply a change for each member of a list, in order. -/
def Device.each {α : Type} (d : Device) (l : List α) (f : Device → α → Device) : Device := l.foldl f d

/-- The eight line lanes. -/
def lanes : List Lane := List.finRange 8
/-- The 32 host lanes. -/
def hlanes : List HLane := List.finRange 32
/-- The 64 engines. -/
def engs : List Eng := List.finRange 64
/-- The eight hawser ports. -/
def ports : List Port := List.finRange 8

/-- Whether bit `i` of a mask is one. -/
def maskHas (m : BitVec 8) (i : Nat) : Bool := m.getLsbD i

/-- The mask with bit `n` set to `b`. -/
def maskSet (m : BitVec 8) (n : Nat) (b : Bool) : BitVec 8 :=
  if b then m ||| BitVec.ofNat 8 (2 ^ n) else m &&& ~~~ BitVec.ofNat 8 (2 ^ n)

end Sys2Proof.Machine
end

