-- ==== Sys2Proof/Machine/Flags.lean ====
section
/-! DEFINITION. Interrupt flags and events: a flag that changes from 0 to 1 posts one event (R316), the event ring and its holding queue (R317, R318), the INTn line and the interrupt source registers (Table 19-8), and the performance counters that events drive (R559). -/

namespace Sys2Proof.Machine

/-! ### Ring geometry (Table 8-10, R286) -/

/-- Entries of the command ring. -/
def Device.cmdSize (d : Device) : Nat := 16 * 2 ^ min (d.get F.MFT_CTRL_CMD_SIZE) 4
/-- Entries of the completion ring. -/
def Device.cplSize (d : Device) : Nat := 16 * 2 ^ min (d.get F.MFT_CTRL_CPL_SIZE) 4
/-- Entries of the event ring. -/
def Device.evtSize (d : Device) : Nat := 16 * 2 ^ min (d.get F.MFT_CTRL_EVT_SIZE) 3

/-- Unconsumed entries between a consumer and a producer index of a ring. -/
def unconsumed (size pi ci : Nat) : Nat := (pi + size - ci % size) % size

/-! ### Performance counters (R559, R560) -/

/-- Set a flag of an interrupt status register, without its event. -/
def Device.raiseQuiet (d : Device) (f : Fld) : Device := d.set f 1

/-- Add `n` occurrences of a count event on a unit to every general counter that selects it; returns the counters that wrapped. -/
def Device.pmuAdd (d : Device) (ev unit n : Nat) : List Nat → Device × List Nat
  | [] => (d, [])
  | i :: is =>
    let (e, ws) := Device.pmuAdd d ev unit n is
    if e.flag (F.PMU_EVSEL_EN i) && e.get (F.PMU_EVSEL_EVENT i) == ev
        && (unit == 0x100 || e.get (F.PMU_EVSEL_UNIT i) == unit) && !e.flag F.PMU_STATUS_FROZEN then
      let v := e.pair (F.PMU_CNT i) + n
      (e.setPair (F.PMU_CNT i) v, if 2 ^ 48 ≤ v then i :: ws else ws)
    else (e, ws)

/-- Counters whose selection register is not at reset: the only ones that can count. -/
def Device.pmuActive (d : Device) : List Nat :=
  (List.range 64).filter fun i => d.reg (F.PMU_EVSEL i).addr != 0

/-! ### Events (R316 to R318) -/

/-- Write one entry into the event ring, ahead of the consumer, and advance the producer (R298). The device's own
store mends the block it meets and clears its poison. -/
def Device.writeEvent (d : Device) (w0 unit data : Word) (time : Nat) : Device :=
  let pi := d.get F.MFT_EVT_PI_IDX
  let a := windowAddr (d.get F.MFT_EVT_BASE + 16 * pi)
  let blk := blockOf a
  let d1 := match d.blockClass blk with
    | .clean => d
    | .poisoned | .bad => d.recheck blk
    | c => ((d.mend blk c).count F.MEM_CORR).set F.MEM_LAST_CORR (d.classLocation blk c).toNat
  let ph := d.mft.evtPhase
  let w3 := BitVec.ofNat 32 (ph.toNat * 2 ^ 31 + time % 2 ^ 31)
  let d2 := (((d1.setWord a w0).setWord (a + 4) unit).setWord (a + 8) data).setWord (a + 12) w3
  let np := (pi + 1) % d.evtSize
  let ph' := if np = 0 then !ph else ph
  (((d2.modMft fun (q0 : Mft) => { q0 with evtPhase := ph' }).set F.MFT_EVT_PI_IDX np).setB F.MFT_EVT_PI_PHASE ph').set
    F.MFT_INT_STATUS_EVT 1

/-- Whether the event ring holds size − 1 unconsumed entries (R296). -/
def Device.evtFull (d : Device) : Bool :=
  unconsumed d.evtSize (d.get F.MFT_EVT_PI_IDX) (d.get F.MFT_EVT_CI) + 1 ≥ d.evtSize

/-- Count an event that was lost (R317, R318). -/
def Device.loseEvent (d : Device) : Device :=
  (d.modMft fun (q0 : Mft) => { q0 with lost := d.mft.lost + 1 }).bump F.MFT_EVT_LOST

/-- Put an entry into the ring, behind the entry that reports lost events if any were lost (R317). -/
def Device.ringEvent (d : Device) (w0 unit data : Word) (time : Nat) : Device :=
  if d.evtFull then d.loseEvent
  else if d.mft.lost = 0 then d.writeEvent w0 unit data time
  else
    let n := d.mft.lost
    let d1 := (d.writeEvent (BitVec.ofNat 32 0x0620) 0 (BitVec.ofNat 32 n) time).set F.MFT_INT_STATUS_EVT_OVERFLOW 1
    let d2 := (d1.modMft fun (q0 : Mft) => { q0 with lost := 0 })
    if d2.evtFull then d2.loseEvent else d2.writeEvent w0 unit data time

/-- Post an event of a block (Table 8-7): into the ring while ENABLE is 1, else into the holding queue of 32 (R318). -/
def Device.post (d : Device) (block event : Nat) (unit data : Word) : Device :=
  let w0 := BitVec.ofNat 32 (block * 256 + event)
  let t := d.now / 1000
  if d.flag F.MFT_CTRL_ENABLE then d.ringEvent w0 unit data t
  else if d.mft.held.length < 32 then
    (d.modMft fun (q0 : Mft) => { q0 with held := d.mft.held ++ [{ w0 := w0, unit := unit, data := data, time := t }] })
  else d.loseEvent

/-- Set a flag of an interrupt status register, naming the unit and the data of its event; a flag that is 1 already posts nothing (R316). -/
def Device.raiseAt (d : Device) (f : Fld) (unit data : Word) : Device :=
  if d.flag f then d
  else
    let code := match findRow f.addr with
      | some (r, _) => r.code
      | none => 0
    (d.set f 1).post code f.lo unit data

/-- Set a flag of an interrupt status register, with the unit its address names. -/
def Device.raise (d : Device) (f : Fld) (data : Word := 0) : Device :=
  let unit := match findRow f.addr with
    | some (r, ix) => unitAt r.code ix
    | none => 0
  d.raiseAt f unit data

/-- Raise a flag when `b`. -/
def Device.raiseIf (d : Device) (b : Bool) (f : Fld) (data : Word := 0) : Device :=
  if b then d.raise f data else d

/-- Count events for the general counters; a counter that wraps sets its overflow bit and, under OVF_INT, OVF (R560). -/
def Device.pmu (d : Device) (ev unit : Nat) (n : Nat := 1) : Device :=
  if n = 0 then d
  else
    let (e, ws) := d.pmuAdd ev unit n d.pmuActive
    e.each ws fun s i =>
      let s1 := s.setReg (F.PMU_OVF (i / 32)).addr (s.reg (F.PMU_OVF (i / 32)).addr ||| BitVec.ofNat 32 (2 ^ (i % 32)))
      if s1.flag (F.PMU_EVSEL_OVF_INT i) then s1.raise F.PMU_INT_STATUS_OVF (BitVec.ofNat 32 i) else s1

/-- Write the held events into the ring, oldest first (R318). -/
def Device.flushHeld (d : Device) : Device :=
  let hs := d.mft.held
  let d1 := (d.modMft fun (q0 : Mft) => { q0 with held := [] })
  hs.foldl (fun s h => s.ringEvent h.w0 h.unit h.data h.time) d1

/-! ### Interrupt sources (R87 and its like, Table 19-8) -/

/-- Addresses of a status and its enable register. -/
structure IntPair where
  status : Nat
  enable : Nat
  deriving DecidableEq, Repr

/-- The interrupt registers of a block code, every instance (Table 8-7). -/
def intPairs (code : Nat) : List IntPair :=
  let per (f g : Nat → Fld) (n : Nat) := (List.range n).map fun i => IntPair.mk (f i).addr (g i).addr
  match code with
  | 0x01 => [⟨F.SYS_INT_STATUS.addr, F.SYS_INT_EN.addr⟩]
  | 0x02 => [⟨F.CLK_INT_STATUS.addr, F.CLK_INT_EN.addr⟩]
  | 0x03 => [⟨F.PWR_INT_STATUS.addr, F.PWR_INT_EN.addr⟩]
  | 0x04 => [⟨F.THM_INT_STATUS.addr, F.THM_INT_EN.addr⟩]
  | 0x05 => [⟨F.SEC_INT_STATUS.addr, F.SEC_INT_EN.addr⟩]
  | 0x06 => [⟨F.MFT_INT_STATUS.addr, F.MFT_INT_EN.addr⟩]
  | 0x07 => [⟨F.MEM_INT_STATUS.addr, F.MEM_INT_EN.addr⟩]
  | 0x08 => [⟨F.PMU_INT_STATUS.addr, F.PMU_INT_EN.addr⟩]
  | 0x09 => [⟨F.MON_INT_STATUS.addr, F.MON_INT_EN.addr⟩]
  | 0x0A => [⟨F.BDAC_INT_STATUS.addr, F.BDAC_INT_EN.addr⟩]
  | 0x0B => [⟨F.CAL_INT_STATUS.addr, F.CAL_INT_EN.addr⟩]
  | 0x0C => [⟨F.FAB_INT_STATUS.addr, F.FAB_INT_EN.addr⟩]
  | 0x0D => per F.HWS_INT_STATUS F.HWS_INT_EN 8
  | 0x10 => per F.LRX_INT_STATUS F.LRX_INT_EN 8 ++ per F.LRX_CAL_INT_STATUS F.LRX_CAL_INT_EN 8
  | 0x11 => per F.LRX_BW_INT_STATUS F.LRX_BW_INT_EN 8
  | 0x20 => per F.LTX_INT_STATUS F.LTX_INT_EN 8
  | 0x28 => per F.PLT_INT_STATUS F.PLT_INT_EN 8
  | 0x30 => [⟨F.POOL_INT_STATUS.addr, F.POOL_INT_EN.addr⟩]
  | 0x34 => [⟨F.BWK_INT_STATUS.addr, F.BWK_INT_EN.addr⟩]
  | 0x38 => [⟨F.LKO_INT_STATUS.addr, F.LKO_INT_EN.addr⟩]
  | 0x40 => per F.HLN_INT_STATUS F.HLN_INT_EN 32
  | _ => []

/-- A block asserts INTn while a flag and its enable are both 1. -/
def Device.blockAsserts (d : Device) (code : Nat) : Bool :=
  (intPairs code).any fun p => d.reg p.status &&& d.reg p.enable != 0

/-- MFT_INT_SRC: its bit number and block code (Table 19-8). -/
def intSrcBits : List (Nat × Nat) :=
  [(1, 0x01), (2, 0x02), (3, 0x03), (4, 0x04), (5, 0x05), (6, 0x06), (7, 0x07), (8, 0x08), (9, 0x09), (10, 0x0A),
   (11, 0x0B), (12, 0x0C), (13, 0x0D), (16, 0x10), (17, 0x11), (28, 0x20), (29, 0x28), (30, 0x30), (31, 0x34)]

/-- The value of MFT_INT_SRC. -/
def Device.intSrc (d : Device) : Word :=
  intSrcBits.foldl (fun w p => if d.blockAsserts p.2 then w ||| BitVec.ofNat 32 (2 ^ p.1) else w) 0

/-- The value of MFT_INT_SRC_B. -/
def Device.intSrcB (d : Device) : Word :=
  (if d.blockAsserts 0x38 then 1 else 0) ||| (if d.blockAsserts 0x40 then 2 else 0)

/-- INTn is asserted (low) while any block asserts it, each by its own rule (R87, R126, R164, R200, R235, R281, R322, R369, R398, R420,
R446, R464, R492, R512, R539, R558, R567, R593). -/
def Device.intAsserted (d : Device) : Bool := d.intSrc != 0 || d.intSrcB != 0

end Sys2Proof.Machine
end

