-- ==== Sys2Proof/Machine/Memory.lean ====
section
/-! DEFINITION. Reads and writes of the protected memories through their checkers: corrections, poison, the history of recurring corrections, spare rows and the responses of Table 16-3 (chapter 16). -/

namespace Sys2Proof.Machine

/-- Line lanes with an item that has bytes in a block of the reorder buffer (macros 44 and 45) or of the frame buffers (46 and 47); where an item
lies there is not stated, so Config says it (log 14). -/
def Device.itemLanes (d : Device) (blk : Nat) : List Lane :=
  let held (n : Lane) (first : Nat) (l : List FabMsg) : Bool := (List.range l.length).any fun i => Config.bufferHolds n.val (first + i) blk
  if blk / 512 < 46 then lanes.filter fun n => (d.pool.flights.get n).any fun f => Config.reorderHolds f.tag blk
  else lanes.filter fun n => held n 0 (d.plt.get n).fab || held n 64 (d.plt.get n).wait

/-- Unit of a memory event: the line lane whose items the block belongs to, in the macros of lane items, else 0 (R530). -/
def Device.memUnit (d : Device) (blk : Nat) : Word :=
  let m := blk / 512
  if 16 ≤ m && m < 28 then
    -- two streams of 24,576 bytes a lane (Table 4-6)
    unitOf 1 ((blk - 16 * 512) * 64 / 24576 / 2)
  else if 44 ≤ m && m < 48 then
    (match d.itemLanes blk with
      | [n] => unitOf 1 n
      | _ => 0)
  else 0

/-- A location without its owner field, as the history keeps it (R526). -/
def locationKey (w : Word) : Nat := w.toNat / 16

/-- Free spare rows of a macro. -/
def Device.freeSpares (d : Device) (m : Nat) : Nat := 8 - min 8 (d.get (F.MEM_SPARE m))

/-- A correction at a location: first of its kind, or a recurrence; the third recurrence moves the row to a spare (R526 to R528). -/
def Device.recordCorrection (d : Device) (blk : Nat) (loc : Word) : Device :=
  let key := locationKey loc
  match d.memHist.find? (fun h => h.key == key) with
  | none =>
    let kept := if d.memHist.length < 32 then d.memHist else d.memHist.drop 1
    (d.modMemHist fun _ => kept ++ [{ key := key, first := d.now, count := 0, back := false }])
  | some h =>
    if !h.back then d
    else
      let n := h.count + 1
      let d1 := (d.modMemHist fun _ => d.memHist.map fun (x : MemHist) => if x.key == key then { x with count := n, back := false } else x).post
        0x07 0x21 (d.memUnit blk) loc
      if 3 ≤ n && d1.flag F.MEM_CTRL_REMAP_EN && d1.now - h.first ≤ 24 * 3600 * 1000000000 then
        let m := blk / 512
        if 0 < d1.freeSpares m then
          let d2 := (d1.modMemHist fun _ => d1.memHist.filter fun (x : MemHist) => x.key != key)
          (((d2.setFlips blk []).set (F.MEM_SPARE m) (d2.get (F.MEM_SPARE m) + 1)).raiseAt F.MEM_INT_STATUS_REMAP (d.memUnit blk) loc).post
            0x07 0x22 (d.memUnit blk) loc
        else if d1.sparesOut.contains m then d1
        else ((d1.modSparesOut fun _ => d1.sparesOut ++ [m]).raiseAt F.MEM_INT_STATUS_SPARES_OUT (d.memUnit blk) loc).post
          0x07 0x23 (d.memUnit blk) loc
      else d1

/-- Count and report a correction of a block (R518), and queue it for write-back (R524). -/
def Device.countCorrection (d : Device) (blk : Nat) (c : BlockClass) : Device :=
  let loc := d.classLocation blk c
  let d1 := ((d.count F.MEM_CORR).set F.MEM_LAST_CORR loc.toNat).pmu 0x0700 0x100
  let d2 := d1.raiseAt F.MEM_INT_STATUS_CORR (d.memUnit blk) loc
  (d2.recordCorrection blk loc)

/-- Queue a block for write-back ahead of the sweep (R524). -/
def Device.queueWriteBack (d : Device) (blk : Nat) : Device :=
  if d.writeBack.contains blk then d else (d.modWriteBack fun _ => d.writeBack ++ [blk])

/-- Poison a block that reads uncorrectable, and report it (R519). -/
def Device.poisonReport (d : Device) (blk : Nat) : Device :=
  let loc := d.location blk 0 0 3
  let d0 := ((d.poison blk).count F.MEM_UNCORR).set F.MEM_LAST_UNCORR loc.toNat
  -- a block of the code region has its page reloaded (R531)
  let d1 := if d.ownerOf blk = 0 then (d0.modSup fun (q0 : Sup) => { q0 with pages := d0.sup.pages ++ [blk] }) else d0
  (d1.raiseAt F.MEM_INT_STATUS_UNCORR (d.memUnit blk) loc).post 0x07 0x20 (d.memUnit blk) loc

/-- A read of one block by a requester: corrected data and its report, or poison; true when its data may be used (R516 to R519). -/
def Device.touch (d : Device) (blk : Nat) : Device × Bool :=
  match d.blockClass blk with
  -- a clean pattern may still hide flips beyond the guarantee of R517: the data as it stands is what is read
  | .clean => (d, true)
  | .poisoned => (d, false)
  | .bad => (d.poisonReport blk, false)
  | c => (((d.mend blk c).countCorrection blk c).queueWriteBack blk, true)

/-- Blocks that a run of bytes touches. -/
def blocksOf (a n : Nat) : List Nat :=
  if n = 0 then [] else (List.range (blockOf (a + n - 1) - blockOf a + 1)).map (blockOf a + ·)

/-- Whether a block has flipped bits or poison. -/
def Device.suspect (d : Device) (blk : Nat) : Bool := d.poisoned.contains blk || !(d.flips blk).isEmpty

/-- Read a run of blocks; true when every one is usable. -/
def Device.touchAll (d : Device) : List Nat → Device × Bool
  | [] => (d, true)
  | b :: bs =>
    let (d1, ok) := if d.suspect b then d.touch b else (d, true)
    let (d2, oks) := d1.touchAll bs
    (d2, ok && oks)

/-- The byte a read returns: as stored, with the flips that no correction has inverted. -/
def Device.readByte (d : Device) (a : Nat) : Byte :=
  ((d.flips (blockOf a)).filter fun x => x < 512 && x / 8 == a % 64).foldl
    (fun v x => v ^^^ BitVec.ofNat 8 (2 ^ (x % 8))) (d.byte a)

/-- Read `n` bytes: none when a block of the run is poisoned or uncorrectable. -/
def Device.readBytes (d : Device) (a n : Nat) : Device × Option (List Byte) :=
  let (d1, ok) := d.touchAll (blocksOf a n)
  (d1, if ok then some ((List.range n).map fun i => d1.readByte (a + i)) else none)

/-- Read one little-endian word. -/
def Device.readWord (d : Device) (a : Nat) : Device × Option Word :=
  match d.readBytes a 4 with
  | (e, some [b0, b1, b2, b3]) => (e, some (bytesWord b0 b1 b2 b3))
  | (e, _) => (e, none)

/-- Prepare a block for a narrow write by the processor or the host: a correctable error is mended in the write and
counted; a poisoned or uncorrectable block takes nothing (R520, R521). -/
def Device.prepareWrite (d : Device) (blk : Nat) : Device × Bool :=
  match d.blockClass blk with
  | .clean => (d, true)
  | .poisoned => (d, false)
  | .bad => (d, false)
  | c => ((d.mend blk c).countCorrection blk c, true)

/-- A narrow write by the processor or the host: nothing is written when a block refuses it (R521). -/
def Device.hostWrite (d : Device) (a : Nat) (bs : List Byte) : Device × Bool :=
  let blks := blocksOf a bs.length
  let (d1, ok) := blks.foldl (fun (s : Device × Bool) b =>
    if s.1.suspect b then let (e, k) := s.1.prepareWrite b; (e, s.2 && k) else s) (d, true)
  if ok then (d1.setBytes a bs, true) else (d1, false)

/-- Prepare a block for a narrow write by the device's own hardware: a correctable error is mended and counted, and a poisoned or
uncorrectable block takes fresh check bits over its content as it stands (R520, R521). -/
def Device.ownPrepare (d : Device) (blk : Nat) : Device :=
  match d.blockClass blk with
  | .clean => d
  | .poisoned | .bad => d.recheck blk
  | c => (d.mend blk c).countCorrection blk c

/-- Prepare the suspect blocks of a run of bytes: one that the run covers whole has all its check bits replaced (R520). -/
def Device.ownClean (d : Device) (a n : Nat) : Device :=
  (blocksOf a n).foldl (fun (s : Device) b =>
    if !s.suspect b then s else if a ≤ 64 * b && 64 * b + 64 ≤ a + n then s.recheck b else s.ownPrepare b) d

/-- A write by the device's own hardware (R520, R521). -/
def Device.ownWrite (d : Device) (a : Nat) (bs : List Byte) : Device := (d.ownClean a bs.length).setBytes a bs

/-- The blocks with flipped bits or poison that satisfy `p`. -/
def Device.suspects (d : Device) (p : Nat → Bool) : List Nat :=
  (d.poisoned ++ (d.errs.map (·.1)).filter fun b => !d.poisoned.contains b).filter p

/-- Read the suspect blocks that satisfy `p`; true when every one is usable. -/
def Device.touchWhere (d : Device) (p : Nat → Bool) : Device × Bool :=
  if d.errs.isEmpty && d.poisoned.isEmpty then (d, true) else d.touchAll (d.suspects p)

/-- Blocks that hold an item of the correction pool: the reorder buffer's, and the delay store's. -/
def poolBlock (tag blk : Nat) : Bool :=
  let m := blk / 512
  (m == 44 || m == 45 || (16 ≤ m && m < 28)) && Config.reorderHolds tag blk

/-- A window write by the device itself. -/
def Device.windowPut (d : Device) (off : Nat) (bs : List Byte) : Device := d.ownWrite (windowAddr off) bs

/-- A window word written by the device itself. -/
def Device.windowPutWord (d : Device) (off : Nat) (w : Word) : Device := d.windowPut off (wordBytes w)

/-- A window read by the device itself. -/
def Device.windowRead (d : Device) (off n : Nat) : Device × Option (List Byte) := d.readBytes (windowAddr off) n

/-- Record an access error in SYS_BUS_ERR_INFO and SYS_BUS_ERR_ADDR (R609). -/
def Device.busError (d : Device) (req : Nat) (write : Bool) (cause addr : Nat) : Device :=
  let d1 :=
    if d.flag F.SYS_BUS_ERR_INFO_VALID then d
    else ((((d.set F.SYS_BUS_ERR_INFO_VALID 1).set F.SYS_BUS_ERR_INFO_REQ req).setB F.SYS_BUS_ERR_INFO_WRITE write).set
      F.SYS_BUS_ERR_INFO_CAUSE cause).set F.SYS_BUS_ERR_ADDR (addr % 2 ^ 20)
  d1.bumpSat F.SYS_BUS_ERR_INFO_COUNT

/-- The REQ code of a requester (Table 19-6). -/
def reqCode : Requester → Nat
  | .procM | .procM8 | .procM16 => 0 | .procU | .procU8 | .procU16 => 1 | .spi => 2 | .twoWire => 3 | .jtag => 4 | .manifestLocal => 5 | .manifestFabric => 6

/-- Bytes of one access. -/
def accessBytes : Requester → Nat
  | .procM8 | .procU8 => 1
  | .procM16 | .procU16 => 2
  | _ => 4

/-- A U-mode access by the processor. -/
def userAccess (rq : Requester) : Bool := reqCode rq == 1

/-- The bank a requester uses (R407, R610). -/
def bankOf : Requester → Bank
  | .spi => .spi | .twoWire => .twoWire | .jtag => .jtag | _ => .proc

end Sys2Proof.Machine
end

