-- ==== Sys2Proof/Machine/Operands.lean ====
section
/-! DEFINITION. Operand forms: the fields of a manifest descriptor (Table 8-1) and of LANE_STATE (Table 8-4), group numbers (Table 8-6), correction windows and presets. -/

namespace Sys2Proof

open Sys2Proof.Machine

/-- OPCODE of a descriptor. -/
def Desc.opcode (c : Desc) : Nat := bitsOf c.w0 7 0
/-- IRQ flag. -/
def Desc.irq (c : Desc) : Bool := bitsOf c.w0 8 8 == 1
/-- FENCE flag. -/
def Desc.fence (c : Desc) : Bool := bitsOf c.w0 9 9 == 1
/-- TAG chosen by the sender. -/
def Desc.tag (c : Desc) : Nat := bitsOf c.w0 31 16
/-- LOCAL flag. -/
def Desc.isLocal (c : Desc) : Bool := bitsOf c.w1 25 25 == 1
/-- TARGET fabric address. -/
def Desc.target (c : Desc) : Nat := bitsOf c.w1 24 0
/-- KIND of the unit. -/
def Desc.kind (c : Desc) : Nat := bitsOf c.w2 15 8
/-- INDEX of the unit. -/
def Desc.index (c : Desc) : Nat := bitsOf c.w2 7 0
/-- SEQ byte. -/
def Desc.seqByte (c : Desc) : Nat := bitsOf c.w7 23 16
/-- CRC field. -/
def Desc.crc (c : Desc) : Nat := bitsOf c.w7 15 0
/-- The words of a descriptor, in order. -/
def Desc.words (c : Desc) : List Word := [c.w0, c.w1, c.w2, c.w3, c.w4, c.w5, c.w6, c.w7]
/-- The reserved fields of Table 8-1 are all 0. -/
def Desc.rsvdOk (c : Desc) : Bool :=
  bitsOf c.w0 15 10 == 0 && bitsOf c.w1 31 26 == 0 && bitsOf c.w2 31 16 == 0 && bitsOf c.w7 31 24 == 0

end Sys2Proof

namespace Sys2Proof.Machine

/-- The correction window in ns (R102): WINDOW from 0 to 4, live. -/
def Device.window (d : Device) : Nat := 32 * (d.lget F.POOL_CTRL_WINDOW + 1)

/-- Live RATE of a line lane (Table 2-1). -/
def Device.rate (d : Device) (n : Lane) : Nat := d.lget (F.LRX_CTRL_RATE n)
/-- The lane runs native mode. -/
def Device.native (d : Device) (n : Lane) : Bool := d.rate n == 2
/-- The lane's codewords use the pool: native, or terminated standard operation (R88, R89). -/
def Device.poolUse (d : Device) (n : Lane) : Bool := d.native n || d.lget (F.LRX_SYN_CTRL_TERM n) == 1

/-- The RX half is in RXON in the sense of R635: from the start of its transition in until its transition out is complete. -/
def Device.rxInRxon (d : Device) (n : Lane) : Bool :=
  d.get (F.LRX_STATE_RX_STATE n) == 3 || d.get (F.LRX_STATE_RX_TRANS n) == 3

/-- The lane is tracking: step 8 of Table 2-6 is reached (R634). -/
def Device.tracking (d : Device) (n : Lane) : Bool :=
  d.get (F.LRX_STATUS_ACQ_STEP n) == 8 || d.get (F.LRX_STATUS_ACQ_STEP n) == 0xA

/-- The TX half is in TXON, or its transition out is not complete (R635). -/
def Device.txInTxon (d : Device) (n : Lane) : Bool :=
  d.get (F.LTX_STATUS_STATE n) == 3 || d.get (F.LTX_STATUS_TRANS n) == 3

/-- Enforcement step in force: 0 none, 1 E1, 2 E2. -/
def Device.enf (d : Device) : Nat := d.get F.THM_STATUS_ENF

/-- Signalling rate of a RATE code in kBd (Table 2-1). -/
def signalling (rate : Nat) : Nat := if rate = 2 then 233750000 else if rate = 1 then 113437500 else 53125000

/-- Length of an overrange window in 64-symbol blocks (Table 2-1). -/
def windowBlocks (rate : Nat) : Nat := if rate = 2 then 3652 else if rate = 1 then 1772 else 830

/-- Clip limit of an overrange window (Table 2-1). -/
def clipLimit (rate : Nat) : Nat := if rate = 2 then 14 else if rate = 1 then 6 else 3

/-- Host streams of a line lane: 2n and 2n+1. -/
def streamOf (n : Lane) (k : Fin 2) : Nat := 2 * n.val + k.val

/-- The host lanes of line lane n's block (R202). -/
def Device.blockLanes (d : Device) (n : Lane) : List HLane :=
  if d.lget F.HLN_MODE_HOST_MODE == 1 then hlanes.filter fun k => k.val / 2 == n.val && k.val < 16
  else hlanes.filter fun k => k.val / 4 == n.val

/-- The line lane that feeds a host lane's TX, when the mode maps it to a block (R202). -/
def Device.feeder (d : Device) (k : HLane) : Option Lane :=
  if d.lget F.HLN_MODE_HOST_MODE == 1 then (if k.val < 16 then lanes[k.val / 2]? else none)
  else lanes[k.val / 4]?

/-- Whether Table 6-2 uses a host lane (R201) for its line lane's live rate. -/
def Device.hostUsedAt (d : Device) (k : HLane) (rate : Nat) : Bool :=
  if d.lget F.HLN_MODE_HOST_MODE == 1 then
    k.val < 16 && (rate == 2 || (rate == 1 && k.val % 2 == 0))
  else rate == 2 || (rate == 1 && k.val % 4 < 2) || (rate == 0 && k.val % 4 == 0)

/-- The host lane is used under Table 6-2 (its complement is R203). -/
def Device.hostUsed (d : Device) (k : HLane) : Bool :=
  match d.feeder k with
  | some n => d.hostUsedAt k (d.rate n)
  | none => false

/-- The host lane is enabled in the live configuration. -/
def Device.hostLive (d : Device) (k : HLane) : Bool :=
  d.lget (F.HLN_CTRL_TX_EN k) == 1 || d.lget (F.HLN_CTRL_RX_EN k) == 1

/-- The host lane is in RUN or QUIET, or on its way there. -/
def Device.hostAwake (d : Device) (k : HLane) : Bool :=
  d.hostLive k && (d.get (F.HLN_LP_LP_STATE k) != 2 || (d.get (F.HLN_LP_TRANS k) != 3 && d.get (F.HLN_LP_TRANS k) != 2))

/-- A half of the line lane is in SYNTH, RXON or TXON, or on its way there. -/
def Device.lineAwake (d : Device) (n : Lane) : Bool :=
  let on (v : Nat) : Bool := v == 2 || v == 3
  on (d.get (F.LRX_STATE_RX_STATE n)) || on (d.get (F.LRX_STATE_RX_TRANS n)) || on (d.get (F.LTX_STATUS_STATE n))
    || on (d.get (F.LTX_STATUS_TRANS n))

/-- A pair of a position and its value goes into a list that rises by value, then by position. -/
def rankInsert (x : Nat × Nat) : List (Nat × Nat) → List (Nat × Nat)
  | [] => [x]
  | y :: ys => if x.2 < y.2 ∨ (x.2 = y.2 ∧ x.1 < y.1) then x :: y :: ys else y :: rankInsert x ys

/-- Positions by rising value, ties by rising position. -/
def ranked (l : List (Nat × Nat)) : List Nat := (l.foldl (fun a x => rankInsert x a) []).map (·.1)

/-- The shortlist of a codeword (R91): the eight symbol positions of lowest reliability, rising, ties by rising position. `weak` names the
positions whose reliability is below 15, with it; every other position has 15. -/
def shortlistOf (weak : List (Nat × Nat)) : List Nat :=
  let low := ranked (weak.filter fun p => decide (p.2 < 15))
  (low ++ (List.range 16).filter fun p => !low.contains p).take 8

/-- OP_MIN (R436). -/
def Device.opMin (d : Device) : Nat :=
  if lanes.any (fun n => d.lineAwake n && d.native n) || (d.lget F.HLN_MODE_HOST_MODE == 1 && hlanes.any d.hostAwake) then 2
  else if lanes.any d.lineAwake || hlanes.any d.hostAwake then 1 else 0

/-- The operating point that R436 asks for. -/
def Device.opTarget (d : Device) : Nat := max (d.get F.PWR_CTRL_OP_REQ) (max (d.get F.PWR_CTRL_FLOOR) d.opMin)

/-- The live operating point does not permit what is configured or under way: transitions and commits wait (R439). -/
def Device.opShort (d : Device) : Bool := decide (d.get F.PWR_STATUS_OP_LIVE < d.opMin)

/-- A request for a state that needs ACTIVE is held back outside ACTIVE; every request is stored in DORMANT and HIBERNATE (R424). -/
def Device.laneHeld (d : Device) (needsActive : Bool) : Bool :=
  (d.laneHold && needsActive) || decide (2 ≤ d.get F.PWR_STATUS_STATE)

/-- A lane whose bank is reloaded from flash starts no transition out of OFF or PILOT (R443). -/
def Device.reloadWait (d : Device) (state : Nat) : Bool :=
  (state == 0 || state == 4) && (d.sup.reload.getLsbD 5 || d.sup.reload.getLsbD 6)

end Sys2Proof.Machine
end

