-- ==== Sys2Proof/Machine/Manifest.lean ====
section
/-! DEFINITION. Completing manifests, and staged groups: which registers a group holds, its pending set, and what going live does (Manifests and Host Control, Table 19-4). -/

namespace Sys2Proof.Machine

/-! ### Completion -/

/-- Status codes of Table 8-3. -/
abbrev stOk : Nat := 0x00
abbrev stTimeout : Nat := 0x01
abbrev stSuperseded : Nat := 0x02
abbrev stStageReject : Nat := 0x03
abbrev stBadCrc : Nat := 0x04
abbrev stBadSeq : Nat := 0x05
abbrev stBadOpcode : Nat := 0x06
abbrev stBadOperand : Nat := 0x07
abbrev stBadTarget : Nat := 0x08
abbrev stBusy : Nat := 0x09
abbrev stBusError : Nat := 0x0A
abbrev stNotAuthorised : Nat := 0x0B
abbrev stReadonly : Nat := 0x0C
abbrev stUnreachable : Nat := 0x0D
abbrev stRemoteTimeout : Nat := 0x0E
abbrev stNotReady : Nat := 0x0F
abbrev stFailed : Nat := 0x10

/-- Table 8-4 states what RESULT0 holds: when the manifest is done, when it ended on the way to a state or a commit whose registers the
result names, and when its status comes with a reason or a count. With INDEX 0xFF no lane is named whose state the word would be. -/
def statedR0 (op index status : Nat) : Bool :=
  if status = stFailed then true
  else if status = stOk then
    [0x02, 0x03, 0x08, 0x09, 0x0A, 0x12, 0x13, 0x14, 0x21, 0x22, 0x23, 0x24, 0x30, 0x31, 0x32].contains op || ((op == 0x10 || op == 0x11) && index != 0xFF)
  else if status = stTimeout ∨ status = stSuperseded then op == 0x0A || op == 0x12 || op == 0x13 || ((op == 0x10 || op == 0x11) && index != 0xFF)
  else if op = 0x0A then status == stStageReject || status == stBadOperand
  else op == 0x21 && status == stBusError

/-- Table 8-4 states what RESULT1 holds. -/
def statedR1 (op : Nat) (second : Bool) (status : Nat) : Bool :=
  if status = stOk then [0x02, 0x03, 0x0A, 0x12].contains op || (op == 0x08 && second)
  else op == 0x0A && (status == stTimeout || status == stSuperseded || status == stStageReject)

/-- A result word: as computed where it is stated, else open. -/
def Device.resultWord (d : Device) (stated : Bool) (w : Word) : Device × Word := if stated then (d, w) else d.fresh

/-- A manifest has completed: its entry waits to be written (R298). -/
def Device.finish (d : Device) (m : Manifest) (status : Nat) (r0 r1 : Word := 0) : Device :=
  let c := m.desc
  let (d1, a) := d.resultWord (statedR0 c.opcode c.index status) r0
  let (d2, b) := d1.resultWord (statedR1 c.opcode (c.w4 != BitVec.allOnes 32) status) r1
  (d2.modMft fun (q0 : Mft) => { q0 with done := d2.mft.done ++ [{ man := m, status := status, r0 := a, r1 := b }] })

/-- Complete every pending manifest whose goal satisfies `p`. -/
def Device.settle (d : Device) (p : Goal → Bool) (status : Nat) (r0 r1 : Word := 0) : Device :=
  let hit := d.mft.waiting.filter fun w => p w.goal
  let d1 := (d.modMft fun (q0 : Mft) => { q0 with waiting := d.mft.waiting.filter fun w => !p w.goal })
  hit.foldl (fun s w => s.finish w.man status r0 r1) d1

/-- Let a manifest wait for a goal. -/
def Device.await (d : Device) (m : Manifest) (g : Goal) : Device :=
  (d.modMft fun (q0 : Mft) => { q0 with waiting := d.mft.waiting ++ [{ man := m, goal := g }] })

/-- RESULT0 of a LANE_STATE manifest (Table 8-4). -/
def Device.laneResult (d : Device) (n : Lane) : Word :=
  BitVec.ofNat 32
    (d.get (F.LTX_STATUS_STATE n) + d.get (F.LRX_STATE_RX_STATE n) * 16 + d.get (F.LRX_STATUS_ACQ_STEP n) * 256
      + d.get (F.LTX_STATUS_SQ_DIS n) * 2 ^ 16 + d.get (F.LTX_STATUS_LIVE n) * 2 ^ 17)

/-- Advance the LANE_STATE manifests: drop the parts that `reached` clears, and complete those with none left (R300).
`reached` answers a part's TX and RX halves that are now satisfied. -/
def Device.advanceLanes (d : Device) (n : Lane) (reached : LaneGoal → Bool × Bool) : Device :=
  let step (g : LaneGoal) : LaneGoal :=
    if g.lane = n then
      let (t, r) := reached g
      { g with tx := if t then none else g.tx, rx := if r then none else g.rx }
    else g
  let upd (w : Waiting) : Waiting :=
    match w.goal with
    | .lane ps => { w with goal := .lane ((ps.map step).filter fun g => g.tx.isSome || g.rx.isSome) }
    | _ => w
  let d1 := (d.modMft fun (q0 : Mft) => { q0 with waiting := d.mft.waiting.map upd })
  d1.settle (fun g => g == .lane []) stOk (d1.laneResult n)

/-- A later request replaces the target of a pending LANE_STATE manifest on the same half (R297). -/
def Device.supersedeLane (d : Device) (n : Lane) (tx rx : Option Nat) : Device :=
  d.settle (fun g => match g with
    | .lane ps => ps.any fun p => p.lane = n
        && ((match p.tx, tx with | some a, some b => a != b | _, _ => false)
          || (match p.rx, rx with | some a, some b => a != b | _, _ => false))
    | _ => false) stSuperseded (d.laneResult n)

/-! ### Staged groups (Table 19-4) -/

/-- A range of `n` register addresses from `a`, `stride` apart. -/
def addrs (a n stride : Nat) : List Nat := (List.range n).map fun i => a + stride * i

/-- The registers whose ST fields form a group; none for a number that is not in Table 19-4. -/
def groupRegs (g : Nat) : List Nat :=
  let i := g % 256
  match g / 256 with
  | 0x01 => if i < 8 then [(F.LRX_CTRL i).addr, (F.LRX_TIA i).addr, (F.LRX_DCB i).addr, (F.LRX_FFE_CFG i).addr] else []
  | 0x02 => if i < 8 then [(F.LRX_SYN_CTRL i).addr] else []
  | 0x03 => if i < 8 then addrs (F.LTX_FFE_TAP i 0).addr 7 4 ++ [(F.LTX_CFG i).addr] else []
  | 0x04 => if i < 8 then (F.PLT_RX_CFG i).addr :: addrs (F.PLT_FIR_COEF i 0).addr 255 4 else []
  | 0x05 => if i < 32 then [(F.HLN_CTRL i).addr] else []
  | 0x06 => if i = 0 then (List.range 16).flatMap fun e => (F.CHT_RX e).addr :: addrs (F.CHT_DFE e 0).addr 3 4 ++ [(F.CHT_TX e).addr] else []
  | 0x07 => if i = 0 then [F.HLN_MODE.addr] else []
  | 0x08 => if i = 0 then [F.POOL_CTRL.addr] else []
  | 0x09 => if i = 0 then [F.BWK_PORT_MAP.addr] else []
  | 0x10 => if i = 0 then F.FAB_ACL_DEF.addr :: (List.range 16).flatMap fun k => [(F.FAB_ACL_CFG k).addr, (F.FAB_ACL_LO k).addr, (F.FAB_ACL_HI k).addr] else []
  | 0x11 => if i = 0 then [F.LKO_SRC.addr, F.LKO_RED.addr, F.LKO_POST.addr] ++ addrs (F.LKO_REGION 0).addr 5 4
      ++ (List.range 4).flatMap fun k => addrs (F.LKO_TU_CFG k).addr 5 4 else []
  | _ => []

/-- The ST mask of the register at an address. -/
def stMask (a : Nat) : Word :=
  match findRow a with
  | some (r, _) => r.maskOf .st
  | none => 0

/-- The words of a group as its shadow holds them. -/
def Device.shadowOf (d : Device) (g : Nat) : List (Nat × Word) := (groupRegs g).map fun a => (a, d.reg a)

/-- The value a pending set gives a field: the word of its register in the set. -/
def wordsGet (ws : List (Nat × Word)) (f : Fld) : Nat :=
  match ws.find? (fun p => p.1 == f.addr) with
  | some p => bitsOf p.2 f.hi f.lo
  | none => 0

/-- Make the words of a pending set live: the ST bits of each register. -/
def Device.makeLive (d : Device) (ws : List (Nat × Word)) : Device :=
  ws.foldl (fun s p => s.setLiveReg p.1 ((s.liveReg p.1 &&& ~~~ stMask p.1) ||| (p.2 &&& stMask p.1))) d

/-- The commit of a group that is pending. -/
def Device.pendingCommit (d : Device) (g : Nat) : Option PendCommit := d.mft.commits.find? fun c => c.group == g

/-- A commit finishes: a manifest completes, a register commit shows its status and sets COMMIT_DONE (R313, R314). -/
def Device.endCommit (d : Device) (c : PendCommit) (status : Nat) (fail : Word := 0) : Device :=
  let d1 := (d.modMft fun (q0 : Mft) => { q0 with commits := d.mft.commits.filter fun x => x.group != c.group })
  match c.origin with
  | .register =>
    (((d1.set F.MFT_COMMIT_GO 0).set F.MFT_COMMIT_STATUS_STATUS status).set F.MFT_COMMIT_STATUS_FAIL_ADDR fail.toNat).raise
      F.MFT_INT_STATUS_COMMIT_DONE
  | _ => d1.settle (fun g => g == .commit c.group) status (BitVec.ofNat 32 c.group) fail

end Sys2Proof.Machine
end

