-- ==== Sys2Proof/Machine/Lookout.lean ====
section
/-! DEFINITION. Lookout (reductions, triggers, captures) and the performance counters' freeze and snapshot (chapter 17). -/

namespace Sys2Proof.Machine

/-! ### Capture memory -/

/-- Capture-memory offset of the base of a region (Table 17-6). -/
def Device.regionBase (d : Device) (r : Nat) : Nat := 1024 * d.lget (F.LKO_REGION_BASE r)
/-- Bytes of a region. -/
def Device.regionSize (d : Device) (r : Nat) : Nat := 1024 * d.lget (F.LKO_REGION_SIZE r)

/-- Write bytes into the capture memory. -/
def Device.capturePut (d : Device) (off : Nat) (bs : List Byte) : Device := d.ownWrite (lookoutAddr off) bs

/-- Increment a saturating 32-bit counter of the capture memory (R548, R549). -/
def Device.captureInc (d : Device) (off : Nat) : Device :=
  let w := d.word (lookoutAddr off)
  if w = 0xFFFFFFFF then d else d.capturePut off (wordBytes (w + 1))

/-- Zero a region. -/
def Device.captureZero (d : Device) (r : Nat) : Device :=
  let a := lookoutAddr (d.regionBase r)
  let e := a + d.regionSize r
  let d1 := (blocksOf a (d.regionSize r)).foldl (fun s b => if s.suspect b then s.recheck b else s) d
  (d1.modMem fun _ => d1.mem.filter fun c => c.1 < a || e ≤ c.1)

/-- The 32-bit two's complement bytes of a value. -/
def intBytes (i : Int) : List Byte := wordBytes (BitVec.ofInt 32 i)

/-! ### Ends of a capture (R544, R545, R542, R555, R556) -/

/-- Lookout is storing samples. -/
def Device.capturing (d : Device) : Bool :=
  d.get F.LKO_STATUS_STATE == 1 || d.get F.LKO_STATUS_STATE == 2

/-- Bytes of a raw sample of a source (Table 17-1). -/
def rawSize (source : Nat) : Nat := if source = 0 then 1 else if source = 2 then 2 else 4

/-- The unused samples of the last word are 0 (R546). -/
def Device.padRaw (d : Device) : Device :=
  let size := rawSize (d.lget F.LKO_SRC_SOURCE)
  let pos := d.lko.kept * size
  let region := d.regionSize 0
  if d.lget F.LKO_RED_RAW == 1 && 0 < region && pos % 4 != 0 then
    d.capturePut (d.regionBase 0 + pos % region) (List.replicate (4 - pos % 4) 0)
  else d

/-- A capture ends in state `st` with a stop cause; its incomplete bin is not written (R547). -/
def Device.endCapture (d : Device) (cause st : Nat) : Device :=
  (((d.padRaw.modLko fun (q0 : Lko) => { q0 with binN := 0 }).set F.LKO_STATUS_STOP_CAUSE cause).set F.LKO_STATUS_STATE st).raise
    F.LKO_INT_STATUS_STOPPED

/-- Entry to DORMANT or HIBERNATE stops a capture with cause 5 (R556). -/
def Device.lkoSleep (d : Device) : Device := if d.capturing then d.endCapture 5 3 else d

/-- The source's domain starts a coordinated reset or loses its power (R542). -/
def Device.lkoSourceStop (d : Device) (srcs : List Nat) (n : Option Lane) : Device :=
  let src := d.lget F.LKO_SRC_SOURCE
  if d.capturing && srcs.contains src
      && (match n with | some l => d.lget F.LKO_SRC_LANE == l.val | none => true) then
    (d.endCapture 4 3).raise F.LKO_INT_STATUS_SRC_RESET
  else d

/-- Sources that run in the LRX domain of LANE (Table 17-1). -/
def lrxSources : List Nat := [0, 1, 2, 5]

/-- Step E2 is ordered: a capture stops with cause 3, a pending re-arm is cancelled (R555). -/
def Device.lkoE2 (d : Device) : Device :=
  if d.capturing then (d.endCapture 3 3).raise F.LKO_INT_STATUS_E2_STOP
  else if d.get F.LKO_STATUS_STATE = 4 then (d.set F.LKO_STATUS_STATE 3).raise F.LKO_INT_STATUS_E2_STOP
  else d

/-! ### Samples (R540, Table 17-1) -/

/-- The SOURCE code that delivers a sample. -/
def sourceOf : LkoWord → Nat
  | .adc _ => 0
  | .equaliser _ => 1
  | .soft _ _ => 2
  | .pilot _ => 3
  | .monitor _ _ _ => 4
  | .codeword _ _ _ _ | .group _ _ _ => 5

/-- The trigger value of a sample; a FEC record has none. -/
def triggerValue : LkoWord → Int
  | .adc v => v.toInt
  | .equaliser v | .pilot v => v.toInt
  | .soft a b => min a.toInt.natAbs b.toInt.natAbs
  | .monitor _ ch v => if 22 ≤ ch.val then v.toInt else v.toNat
  | .codeword _ _ _ _ | .group _ _ _ => 0

/-- The raw word of a sample, whose low bytes RAW stores. -/
def rawWord (s : LkoSample) : Word :=
  match s.word with
  | .adc v => v.setWidth 32
  | .equaliser v | .pilot v => v.signExtend 32
  | .soft a b => BitVec.ofNat 32 (a.toNat + b.toNat * 2 ^ 5 + s.level.val * 2 ^ 10)
  | .monitor ovr ch v => BitVec.ofNat 32 (v.toNat + ch.val * 2 ^ 24 + ovr.toNat * 2 ^ 31)
  | .codeword k o c n => BitVec.ofNat 32 (n.toNat + c.toNat * 2 ^ 22 + o.val * 2 ^ 27 + k.val * 2 ^ 29)
  | .group k cas n => BitVec.ofNat 32 (n.toNat + cas.toNat * 2 ^ 26 + k.val * 2 ^ 29 + 2 ^ 30)

/-- A FEC event of a lane, by EVSEL code, falls on the next sample of a source on that lane (R551). -/
def Device.fecEvent (d : Device) (n : Lane) (ev : Nat) : Device :=
  let st := d.get F.LKO_STATUS_STATE
  if d.lget F.LKO_SRC_LANE == n.val && (st == 1 || st == 2 || st == 4) then d.modLko fun (q0 : Lko) => { q0 with events := q0.events ++ [ev] } else d

/-! ### Error-location map (R549) -/

/-- The error map counts an outcome of the lane it watches. -/
def Device.emapOn (d : Device) (n : Lane) : Bool :=
  d.capturing && d.lget F.LKO_RED_EMAP == 1 && d.lget F.LKO_SRC_LANE == n.val && d.poolUse n

/-- A CORR codeword with its changed symbols; its sub-ADC shares are free, since the line position of a symbol depends on the standard's interleave (Table 17-3). -/
def Device.emapCorr (d : Device) (n : Lane) (k : Fin 2) (tag : Nat) (record : List (Nat × BitVec 10)) : Device :=
  if d.emapOn n then
    let base := d.regionBase 4
    let d1 := record.foldl (fun s p =>
      let s1 := s.captureInc (base + (if k = 0 then 0 else 0x880) + 4 * p.1)
      (List.range 64).foldl (fun t j => if Config.subAdcCarries tag p.1 j then t.captureInc (base + 0x1100 + 4 * j) else t) s1) d
    d1.captureInc (base + 0x1200)
  else d

/-- A FAIL (1), a MISS (2) or a rebuild (3) of a lane: the map that watches it counts it (R549), and its FEC event is 2, 3 or 6 (R551). -/
def Device.emapCount (d : Device) (n : Lane) (which : Nat) : Device :=
  (if d.emapOn n then d.captureInc (d.regionBase 4 + 0x1200 + 4 * which) else d).fecEvent n (if which = 3 then 6 else which + 1)

/-! ### Reductions of one sample -/

/-- RAW: a sample is kept when (index − PHASE) modulo 2^DEC is 0 (R546). -/
def Device.rawSample (d : Device) (raw : Word) : Device :=
  let dec := 2 ^ min 16 (d.lget F.LKO_SRC_DEC)
  let region := d.regionSize 0
  if d.lget F.LKO_RED_RAW == 1 && (d.lko.idx + dec * 64 - d.lget F.LKO_SRC_PHASE) % dec == 0 && 0 < region then
    let size := rawSize (d.lget F.LKO_SRC_SOURCE)
    let pos := d.lko.kept * size
    let d1 := d.capturePut (d.regionBase 0 + pos % region) ((wordBytes raw).take size)
    let next := pos + size
    let d2 := (d1.set (F.LKO_WRAP_OFF 0) (next % region)).setB (F.LKO_WRAP_WRAPPED 0) (decide (region ≤ next))
    (d2.modLko fun (q0 : Lko) => { q0 with kept := d2.lko.kept + 1 })
  else d

/-- One entry of `bs` at position `n` of region `r`, with the region's ring registers (R547). -/
def Device.ringEntry (d : Device) (r n : Nat) (bs : List Byte) : Device :=
  let region := d.regionSize r
  if region = 0 then d
  else
    let pos := n * bs.length
    let next := pos + bs.length
    ((d.capturePut (d.regionBase r + pos % region) bs).set (F.LKO_WRAP_OFF r) (next % region)).setB
      (F.LKO_WRAP_WRAPPED r) (decide (region ≤ next))

/-- MINMAX and MEAN: every sample joins the running bin, counted from index 0; a full bin writes its entries, and a bin that lacks its first
samples is not written (R547). -/
def Device.binSample (d : Device) (v : Int) : Device :=
  let l := d.lko
  let mn := if l.binN = 0 then v else min l.binMin v
  let mx := if l.binN = 0 then v else max l.binMax v
  let sum := (if l.binN = 0 then 0 else l.binSum) + v
  let size := 2 ^ d.lget F.LKO_RED_BIN_LOG2
  if l.idx % size != l.binN then (d.modLko fun _ => { l with binN := 0 })
  else if l.binN + 1 < size then
    (d.modLko fun _ => { l with binN := l.binN + 1, binMin := mn, binMax := mx, binSum := sum })
  else
    let d1 := (d.modLko fun _ => { l with binN := 0 })
    let d2 := if d1.lget F.LKO_RED_MINMAX == 1 then
        let e := d1.ringEntry 1 d1.lko.minmaxN (intBytes mn ++ intBytes mx)
        (e.modLko fun (q0 : Lko) => { q0 with minmaxN := e.lko.minmaxN + 1 })
      else d1
    if d2.lget F.LKO_RED_MEAN == 1 then
      let e := d2.ringEntry 2 d2.lko.meanN (intBytes (Int.fdiv (sum * 256) size))
      (e.modLko fun (q0 : Lko) => { q0 with meanN := e.lko.meanN + 1 })
    else d2

/-- HIST: samples of source 0 or 1 while the lane tracks (R548). -/
def Device.histSample (d : Device) (s : LkoSample) : Device :=
  match lanes[d.lget F.LKO_SRC_LANE]? with
  | none => d
  | some n =>
    let src := d.lget F.LKO_SRC_SOURCE
    if d.lget F.LKO_RED_HIST == 1 && src ≤ 1 && d.tracking n then
      let bin : Int := if src = 0 then triggerValue s.word + 128
        else Int.fdiv (triggerValue s.word - toSigned 20 (d.get (F.LRX_LEVEL n s.level.val))) (2 ^ d.lget F.LKO_RED_HIST_SHIFT : Nat) + 128
      d.captureInc (d.regionBase 3 + 4 * (256 * s.level.val + (clampInt 0 255 bin).toNat))
    else d

/-! ### Trigger units (R550, Table 17-4) -/

/-- COND on a length. -/
def lengthMeets (cond wmin wmax len : Nat) : Bool :=
  match cond with
  | 0 => len < wmin
  | 1 => wmax < len
  | 2 => wmin ≤ len && len ≤ wmax
  | _ => len < wmin || wmax < len

/-- The sample lies on the POL side of TH_A. -/
def onSide (pol : Bool) (a v : Int) : Bool := if pol then v < a else a < v

/-- Whether an FEC event is one that EVSEL selects (R551). -/
def evselHit (sel ev : Nat) : Bool := if sel = 4 then ev == 2 || ev == 3 else ev == sel

/-- One sample through a unit: its new memory, and whether its condition is met on this sample. -/
def Device.unitSample (d : Device) (k : Nat) (u : TrigUnit) (s : LkoSample) : TrigUnit × Bool :=
  let a := toSigned 20 (d.lget (F.LKO_TU_THA k))
  let b := toSigned 20 (d.lget (F.LKO_TU_THB k))
  let wmin := d.lget (F.LKO_TU_WMIN k) % 2 ^ 24
  let wmax := d.lget (F.LKO_TU_WMAX k) % 2 ^ 24
  let pol := d.lget (F.LKO_TU_CFG_POL k) == 1
  let cond := d.lget (F.LKO_TU_CFG_COND k)
  let v := triggerValue s.word
  match d.lget (F.LKO_TU_CFG_KIND k) with
  | 0 =>
    if onSide pol a v then ({ u with run := u.run + 1 }, false)
    else ({ u with run := 0 }, 0 < u.run && lengthMeets cond wmin wmax u.run)
  | 1 =>
    -- start: at or below TH_A (POL 0), at or above TH_B (POL 1); phase 1 beyond it, phase 2 once the far threshold is met
    let atStart := if pol then b ≤ v else v ≤ a
    let far := if pol then v ≤ a else b ≤ v
    if atStart then ({ u with run := 1, phase := 0 }, u.run == 1 && u.phase == 1)
    else if u.run = 0 then (u, false)
    else ({ u with phase := if far || u.phase == 2 then 2 else 1 }, false)
  | 2 =>
    if onSide pol a v then ({ u with run := u.run + 1 }, u.run + 1 == wmax + 1)
    else ({ u with run := 0 }, false)
  | 3 =>
    let atStart := if pol then b ≤ v else v ≤ a
    let far := if pol then v ≤ a else b ≤ v
    if atStart then ({ u with run := 0, phase := 1 }, false)
    else if u.phase = 1 then
      if far then ({ u with phase := 0 }, lengthMeets cond wmin wmax (u.run + 1)) else ({ u with run := u.run + 1 }, false)
    else (u, false)
  | 4 =>
    let hits := (d.lko.events.filter (evselHit (d.lget (F.LKO_TU_CFG_EVSEL k)))).length
    let evs := (if 0 < hits then [(d.lko.idx, hits)] else []) ++ u.events.filter fun p => d.lko.idx < p.1 + wmax + 1
    let n : Nat := evs.foldl (fun t p => t + p.2) 0
    let th := d.lget (F.LKO_TU_THA k) % 2 ^ 16
    ({ u with events := evs, met := decide (th ≤ n) }, decide (th ≤ n) && !u.met)
  | _ => (u, false)

/-- All enabled units see the sample; answers those whose condition is met, and counts them (R552). -/
def Device.unitsSample (d : Device) (s : LkoSample) : Device × List Nat :=
  (List.finRange 4).foldl (fun (acc : Device × List Nat) (k : Fin 4) =>
    if acc.1.lget (F.LKO_TU_CFG_EN k) == 1 then
      let (u, m) := acc.1.unitSample k (acc.1.lko.units.get k) s
      let d1 := (acc.1.modLko fun (q0 : Lko) => { q0 with units := acc.1.lko.units.set k u })
      if m then (d1.bump (F.LKO_TU_CNT k), acc.2 ++ [k.val]) else (d1, acc.2)
    else acc) (d, [])

/-- A 48-bit index into a _LO/_HI register pair. -/
def Device.setIndex (d : Device) (f : Fld) (v : Nat) : Device := d.setPair f v

/-- The hold-off length in force (R553): samples that meet a condition, or units of 10 ns of which 0 acts as 1 and more than 10^9 as 10^9. -/
def Device.holdVal (d : Device) : Nat :=
  let v := d.get F.LKO_HOLD_VAL
  if d.flag F.LKO_HOLD_KIND then v else max 1 (min (10 ^ 9) v)

/-- The capture triggers on the current sample (R544, R552). -/
def Device.lkoTrigger (d : Device) (met : List Nat) : Device :=
  let d1 := d.setIndex F.LKO_TRIG_IDX d.lko.idx
  let d2 := met.foldl (fun s k => s.setIndex (F.LKO_TU_HIT k) d.lko.idx) d1
  let d3 := ((d2.set F.LKO_STATUS_STATE 2).set F.LKO_STATUS_HITS (met.foldl (fun m k => m + 2 ^ k) 0)).set
    F.LKO_STATUS_CAUSE (met.head?.getD 4)
  let d4 := (d3.modLko fun _ => { d3.lko with
    postLeft := max 1 (d3.liveReg F.LKO_POST.addr).toNat, force := false, holdEnded := d3.flag F.LKO_HOLD_KIND && d3.holdVal == 0, holdCount := 0 })
  d4.raise F.LKO_INT_STATUS_TRIGGER (BitVec.ofNat 32 d.lko.idx)

/-- A source sample (R540, R541, R544 to R553); samples of another source than SOURCE do not reach Lookout. -/
def Device.lkoSample (d0 : Device) (s : LkoSample) : Device :=
  let st := d0.get F.LKO_STATUS_STATE
  if st = 0 || st = 3 || sourceOf s.word != d0.lget F.LKO_SRC_SOURCE then d0
  else
    let (d, met) := d0.unitsSample s
    let d1 := d.modLko fun (q0 : Lko) => { q0 with events := [] }
    let d2 := if st = 1 && (!met.isEmpty || d1.lko.force) then d1.lkoTrigger met else d1
    let d3 : Device :=
      if st != 1 && d2.flag F.LKO_HOLD_KIND && !met.isEmpty then
        let c := d2.lko.holdCount + 1
        (d2.modLko fun (q0 : Lko) => { q0 with holdCount := c, holdEnded := d2.lko.holdEnded || decide (d2.holdVal ≤ c) })
      else d2
    let d4 : Device := if st = 1 || st = 2 then ((d3.rawSample (rawWord s)).binSample (triggerValue s.word)).histSample s else d3
    let d5 : Device := (d4.modLko fun (q0 : Lko) => { q0 with idx := (d4.lko.idx + 1) % 2 ^ 48 })
    if d5.get F.LKO_STATUS_STATE = 2 then
      let left : Nat := d5.lko.postLeft - 1
      let d6 := (d5.modLko fun (q0 : Lko) => { q0 with postLeft := left })
      if left = 0 then d6.endCapture 1 (if d6.flag F.LKO_CTRL_MODE then 4 else 3) else d6
    else d5

/-- A write of 1 to ARM (R543). -/
def Device.arm (d : Device) : Device :=
  if d.enf = 2 then d.raise F.LKO_INT_STATUS_ARM_REFUSED
  else
    let d0 := (d.modLko fun _ => Lko.fresh)
    let d1 := if d0.lget F.LKO_RED_HIST == 1 then d0.captureZero 3 else d0
    let d2 := if d1.lget F.LKO_RED_EMAP == 1 then d1.captureZero 4 else d1
    let d3 := (List.range 5).foldl (fun s r => s.set (F.LKO_WRAP r) 0) d2
    let d4 := (List.range 4).foldl (fun s k => s.set (F.LKO_TU_CNT k) 0) d3
    ((((d4.set F.LKO_STATUS_STATE 1).set F.LKO_STATUS_STOP_CAUSE 0).set F.LKO_STATUS_HITS 0).set F.LKO_STATUS_CAUSE 0).set
      F.LKO_STATUS_CAPTURES 0

/-- A write of 1 to FORCE: in ARMED the current sample triggers (R545). -/
def Device.lkoForce (d : Device) : Device :=
  if d.get F.LKO_STATUS_STATE = 1 then (d.modLko fun (q0 : Lko) => { q0 with force := true }) else d

/-- A write of 1 to STOP (R545). -/
def Device.lkoStop (d : Device) : Device :=
  if d.capturing then d.endCapture 2 3
  else if d.get F.LKO_STATUS_STATE = 4 then (d.set F.LKO_STATUS_STOP_CAUSE 2).set F.LKO_STATUS_STATE 3
  else d

/-- The hold-off timer of HOLD_KIND 0 ends (R553). -/
def Device.holdoffEnd (d : Device) : Device :=
  if d.flag F.LKO_HOLD_KIND then d else (d.modLko fun (q0 : Lko) => { q0 with holdEnded := true })

/-- Re-arm from HOLDOFF (R553). -/
def Device.lkoRearm (d : Device) : Device :=
  if d.get F.LKO_STATUS_STATE = 4 && d.lko.holdEnded && d.enf != 2
      && !(d.mft.begun.any fun m => m.desc.opcode == 0x21) then
    (d.set F.LKO_STATUS_STATE 1).bump F.LKO_STATUS_CAPTURES
  else d

/-! ### Performance counters -/

/-- A change of FREEZE is requested for instant T (R562). -/
def Device.freezeReq (d : Device) (v : Bool) : Device :=
  { d.setB F.PMU_CTRL_FREEZE v with pmuReq := { d.pmuReq with freeze := some v } }

/-- A snapshot is requested for instant T; requests before T share it (R563). -/
def Device.snapReq (d : Device) : Device :=
  ((d.set F.PMU_STATUS_SNAP_BUSY 1).modPmuReq fun _ => { d.pmuReq with snap := true })

/-- Instant T (R562, R563); nothing but the counters of chapter 17 follows it (R565): counters freeze or resume, or are copied; manifests that wait for the snapshot complete. -/
def Device.freezeInstant (d : Device) : Device :=
  let d1 := match d.pmuReq.freeze with
    | some v => d.setB F.PMU_STATUS_FROZEN v
    | none => d
  let d2 := (d1.modPmuReq fun _ => { freeze := none, snap := false })
  if d.pmuReq.snap then
    let d3 := (d2.modSnap fun _ => d2.regs)
    let d4 := ((d3.setPair F.PMU_SNAP_TIME d3.now).set F.PMU_STATUS_SNAP_VALID 1).set F.PMU_STATUS_SNAP_BUSY 0
    (d4.raise F.PMU_INT_STATUS_SNAP_DONE).settle (fun g => g == .snapshot) stOk
  else d2

/-- CLR_ALL zeroes the general counters and their overflow bits on one tick (R560). -/
def Device.clearCounters (d : Device) : Device :=
  let d1 := (List.range 64).foldl (fun s i => s.setPair (F.PMU_CNT i) 0) d
  (d1.set (F.PMU_OVF 0) 0).set (F.PMU_OVF 1) 0

/-- A write of PMU_EVSELi (R559). -/
def Device.evselWrite (d : Device) (i : Nat) (w : Word) : Device :=
  let m := match findRow (F.PMU_EVSEL i).addr with
    | some (r, _) => r.fullMask
    | none => 0
  d.setReg (F.PMU_EVSEL i).addr (w &&& m)

/-! ### Meanings -/

/-- ARM (R543). -/
def execArm (s : State) : Host.Outcome State Fault Refusal := .next { s with dev := s.dev.arm }
/-- FORCE (R545). -/
def execForce (s : State) : Host.Outcome State Fault Refusal := .next { s with dev := s.dev.lkoForce }
/-- STOP (R545). -/
def execStop (s : State) : Host.Outcome State Fault Refusal := .next { s with dev := s.dev.lkoStop }
/-- HOLDOFF_END (R553). -/
def execHoldoffEnd (s : State) : Host.Outcome State Fault Refusal := .next { s with dev := s.dev.holdoffEnd }
/-- LOOKOUT_REARM (R553). -/
def execLookoutRearm (s : State) : Host.Outcome State Fault Refusal := .next { s with dev := s.dev.lkoRearm }
/-- FREEZE (R562). -/
def execFreeze (v : Bool) (s : State) : Host.Outcome State Fault Refusal := .next { s with dev := s.dev.freezeReq v }
/-- SNAP (R563). -/
def execSnap (s : State) : Host.Outcome State Fault Refusal := .next { s with dev := s.dev.snapReq }
/-- FREEZE_INSTANT (R562). -/
def execFreezeInstant (s : State) : Host.Outcome State Fault Refusal := .next { s with dev := s.dev.freezeInstant }
/-- CLR_ALL (R560). -/
def execClrAll (s : State) : Host.Outcome State Fault Refusal := .next { s with dev := s.dev.clearCounters }
/-- EVSEL_WRITE (R559). -/
def execEvselWrite (i : Fin 64) (w : Word) (s : State) : Host.Outcome State Fault Refusal :=
  .next { s with dev := s.dev.evselWrite i w }

end Sys2Proof.Machine
end

