-- ==== Sys2Proof/Machine/Pool.lean ====
section
/-! DEFINITION. The correction pool: berths, engines, stealing, passes, outcomes, the tide gauge and the supply loop (chapter 3), with the meanings of its commands that need no later block. -/

namespace Sys2Proof.Machine

/-! ### Engines and berths -/

/-- The engine is in the quarantine set (R36). -/
def Device.quarantined (d : Device) (e : Nat) : Bool := (d.reg (F.POOL_QUAR (e / 32)).addr).getLsbD (e % 32)

/-- Engines in the quarantine set. -/
def Device.quarantineCount (d : Device) : Nat := ((List.range 64).filter d.quarantined).length

/-- R640: available when VDD_POOL is enabled and the engine is neither chosen for a BIST slice nor quarantined. -/
def Device.available (d : Device) (e : Eng) : Bool :=
  d.pool.enabled && !(d.pool.engines.get e).chosen && !d.quarantined e.val && (d.pool.engines.get e).job != .slice

/-- Available and without work. -/
def Device.idleEngine (d : Device) (e : Eng) : Bool := d.available e && (d.pool.engines.get e).job == .idle

/-- Berth contents. -/
def Device.berth (d : Device) (b : Nat) : List WorkItem := d.pool.berths.toList.getD b []

/-- Replace a berth's contents. -/
def Device.setBerth (d : Device) (b : Nat) (l : List WorkItem) : Device :=
  (d.modPool fun (q0 : Pool) => { q0 with berths := d.pool.berths.setIfInBounds b l })

/-- Change one codeword in flight. -/
def Device.modFlight (d : Device) (n : Lane) (tag : Nat) (f : Flight → Flight) : Device :=
  (d.modPool fun (q0 : Pool) => { q0 with flights := d.pool.flights.set n ((d.pool.flights.get n).map fun x => if x.tag = tag then f x else x) })

/-- The codeword in flight with a tag. -/
def Device.flight? (d : Device) (n : Lane) (tag : Nat) : Option Flight := (d.pool.flights.get n).find? fun x => x.tag == tag

/-- An engine takes an item from berth `b`: removed from the berth, counted, and counted as stolen outside its home gang (R94, R95: one engine gets it). -/
def Device.takeItem (d : Device) (e : Eng) (b : Nat) (x : WorkItem) : Device :=
  let stolen := b / 2 != e.val / 8
  let d1 := (d.setBerth b ((d.berth b).filter fun y => y != x)).modEng e fun g =>
    { g with job := .pass x b stolen (if x.requeued then 2 else 1) }
  let d2 := d1.bump (F.ENG_CW e)
  if stolen then ((d2.bump (F.ENG_STOLEN e)).count F.POOL_STOLEN).pmu 0x020B b else d2

/-- Gangs in the order in which an item of home gang `g` is offered (R93). -/
def offerOrder (g : Nat) : List Nat := (List.range 8).map fun i => (g + i) % 8

/-- Offer an item of berth `b`: the lowest-numbered idle available engine of the home gang, else of the next gangs, takes it (R93). -/
def Device.offer (d : Device) (b : Nat) (x : WorkItem) : Device :=
  match ((offerOrder (b / 2)).flatMap fun g => engs.filter fun e => e.val / 8 == g && d.idleEngine e).head? with
  | some e => d.takeItem e b x
  | none => d

/-- The oldest head item among berths, ties to the lower berth (R94). -/
def Device.oldestHead (d : Device) (bs : List Nat) : Option (Nat × WorkItem) :=
  bs.foldl (fun best b =>
    match (d.berth b).head?, best with
    | none, _ => best
    | some x, none => some (b, x)
    | some x, some (b', y) => if x.time < y.time then some (b, x) else some (b', y)) none

/-- An engine becomes idle: it takes the oldest head item of its home berths, or else of all berths (R94). -/
def Device.engineIdle (d : Device) (e : Eng) : Device :=
  if d.idleEngine e then
    let g := e.val / 8
    match d.oldestHead [2 * g, 2 * g + 1] with
    | some (b, x) => d.takeItem e b x
    | none => match d.oldestHead (List.range 16) with
      | some (b, x) => d.takeItem e b x
      | none => d
  else d

/-- The engine has no work; one chosen for a BIST slice starts it (R536). -/
def Device.release (d : Device) (e : Eng) : Device :=
  if (d.pool.engines.get e).chosen then
    ((d.modEng e fun g => { g with job := .slice }).set F.BIST_STATUS_SLICE_RUN 1).bump F.BIST_EVENTS_RUN
  else d.modEng e fun g => { g with job := .idle }

/-! ### Outcomes (Table 3-3) and slots (Table 3-6) -/

/-- Add a codeword's busy ticks to the class its outcome gives (R125, R561), with the general counters by gang. -/
def Device.classify (d : Device) (busy : List Nat) (retired : Bool) (event : Nat) : Device :=
  let total := busy.foldl (· + ·) 0
  let d1 := d.count (if retired then F.POOL_SLOT_RET else F.POOL_SLOT_WASTE) total
  let d2 := (List.range 8).foldl (fun s g => s.pmu event g (busy.getD g 0)) d1
  d2.pmu event 0xFF total

/-- Decide a codeword's outcome. The ticks of a FAIL or MISS are classified here; those of a CORR codeword when it leaves, since until then it
may still end as FAIL or be removed (R107, R108, Table 3-6). -/
def Device.decideCw (d : Device) (n : Lane) (tag : Nat) (o : CwOutcome) (record : List (Nat × BitVec 10)) : Device :=
  match d.flight? n tag with
  | none => d
  | some f =>
    let d1 := d.modFlight n tag fun x => { x with outcome := some o, record := record }
    match o with
    | .clean => d1
    | .corr _ => d1.fecEvent n 1
    | .fail => (d1.classify f.busy false 0x0202).emapCount n 1
    | .miss =>
      let d2 := (d1.classify f.busy false 0x0203).emapCount n 2
      (d2.modPool fun (q0 : Pool) => { q0 with misses := d2.pool.misses + 1 }).raise F.POOL_INT_STATUS_MISS

/-- An admission or a re-queue is refused: the codeword counts as a deadline miss and in POOL_REFUSED (R92, R98, R121). -/
def Device.refuse (d : Device) (n : Lane) (tag : Nat) : Device :=
  ((d.decideCw n tag .miss []).count F.POOL_REFUSED).raise F.POOL_INT_STATUS_REFUSED

/-- Admission cap of a band (R121). -/
def Device.capOf (d : Device) (band : Nat) : Nat :=
  if band = 0 then d.get F.POOL_CAP_A_BAND0 else if band = 1 then d.get F.POOL_CAP_A_BAND1
  else if band = 2 then d.get F.POOL_CAP_A_BAND2 else d.get F.POOL_CAP_B

/-- Time between two codewords of one stream, in 0.1 ns, by RATE (Table 4-1, Line Receive). -/
def streamTime (rate : Nat) : Nat := if rate = 2 then 256 else if rate = 1 then 512 else 1024

/-- The two streams of a lane carry one port (R137: PORT[n] is 1). -/
def Device.widePort (d : Device) (n : Lane) : Bool := (d.liveReg F.BWK_PORT_MAP.addr).getLsbD n.val

/-- The port type of a lane's streams, as the standard's layouts depend on it: RATE, and whether one port takes both streams. -/
def Device.portType (d : Device) (n : Lane) : Nat := 2 * d.rate n + (d.widePort n).toNat

/-- Codewords of a stream since the last one counted: 1, or after an outage as many as the time gives. -/
def MarkerSt.steps (m : MarkerSt) (rate time : Nat) : Nat :=
  if m.gap then max 1 ((10 * (time - m.last) + streamTime rate / 2) / streamTime rate) else 1

/-- The count before a codeword that arrives at `time`: where it falls after the last group's start. -/
def MarkerSt.place (m : MarkerSt) (rate time : Nat) : Option Nat := m.since.map fun p => p + m.steps rate time

/-- A codeword is counted: a marker group that starts in it gives the period, confirms it, or where it falls out of place ends it (R638). The
group's marker bits are kept, codeword by codeword. DESIGN CHOICE: after an outage the count advances by the time since the last codeword
(log entry 131). -/
def MarkerSt.count (m : MarkerSt) (port rate time : Nat) (starts : Bool) (message : BitVec 5140) : MarkerSt :=
  let p := m.place rate time
  let m1 := { m with last := time, gap := false }
  if starts then
    let per := match p, m.period with
      | some q, none => some q
      | some q, some r => if q % r = 0 then some r else none
      | none, _ => none
    { m1 with since := some 0, period := per, group := [message &&& Config.markerBits port 0] }
  else
    let grow := match p with
      | some q => decide (q = m.group.length ∧ q < Config.markerSpan port)
      | none => false
    { m1 with since := p, group := if grow then m.group ++ [message &&& Config.markerBits port m.group.length] else m.group }

/-- AM_PERIOD_VALID: a period is known, and every stream in which a group has been found has one. -/
def RxLane.periodValid (r : RxLane) : Bool :=
  r.markers.toList.any (fun m => m.period.isSome) && r.markers.toList.all fun m => m.since.isNone || m.period.isSome

/-- Whole frames of a native lane whose codewords have arrived and not yet all left the reorder buffer. -/
def Device.framesOut (d : Device) (n : Lane) : Nat :=
  ((if (d.bw.get n).half.isSome then 1 else 0) + (d.pool.flights.get n).length) / 2

/-- The frame of a native lane's group in which the next codeword to arrive lies, counted from the first frame that is not decided. -/
def Device.arrivingFrame (d : Device) (n : Lane) : Nat := (d.bw.get n).frames.length + d.framesOut n

/-- The syndrome pipeline counts a data codeword of an aligned stream (R638): a native lane is aligned with parity lock, and its parity slots
are no codewords of the stream. -/
def Device.learnMarker (d : Device) (n : Lane) (k : Fin 2) (c : CwIn) : Device :=
  if d.native n && (!d.flag (F.LRX_BW_STATUS_PARITY_LOCK n) || d.arrivingFrame n % 33 == 32) then d
  else
    let d1 := d.modRx n fun r => { r with
      markers := r.markers.set k ((r.markers.get k).count (d.portType n) (d.rate n) c.time c.marker (c.bits.extractLsb' 0 5140)) }
    d1.setB (F.LRX_SYN_STATUS_AM_PERIOD_VALID n) (d1.rx.get n).periodValid

/-- The stream index of an arriving codeword (Table 3-1): as its slot says in native mode, else 0 and 1 in turn since alignment. -/
def Device.streamIndex (d : Device) (n : Lane) (k : Fin 2) : Fin 2 :=
  if d.native n then k else Fin.ofNat 2 (d.rx.get n).cwCount

/-- Memory address of a slot of a stream's group buffer: 37 slots of 648 bytes in 24,576 (Table 4-6). -/
def slotAddr (stream q : Nat) : Nat := macroBase 16 + 24576 * stream + 648 * (q % 37)

/-- The streams whose slots hold symbols of codeword `k` (R138). -/
def Device.slotStreams (d : Device) (n : Lane) (k : Nat) : List Nat := if d.widePort n then [2 * n.val, 2 * n.val + 1] else [2 * n.val + k]

/-- A native lane's codeword is written into its slot, its delay store from arrival on (From syndrome to berth). -/
def Device.storeWrite (d : Device) (n : Lane) (k : Nat) : Device :=
  if d.native n then (d.slotStreams n k).foldl (fun (s : Device) j => s.ownClean (slotAddr j ((d.bw.get n).slot + d.framesOut n)) 648) d
  else d

/-- The last syndrome of a codeword of a tracking lane is complete (R88 to R92): counted; held in the delay store; a zero
syndrome is CLEAN, a nonzero one enters its berth or is refused. -/
def Device.arrive (d : Device) (n : Lane) (k0 : Fin 2) (c : CwIn) : Device :=
  if !d.tracking n || (d.native n && !d.flag (F.LRX_BW_STATUS_FRAME_LOCK n)) then d
  else
    let k := d.streamIndex n k0
    let d1 := (((d.count (F.LRX_CW_TOTAL n k)).learnMarker n k c).storeWrite n k).modRx n fun r => { r with cwCount := r.cwCount + 1 }
    let d2 := if c.zero then d1 else (d1.count (F.LRX_CW_NZ n k)).fecEvent n 0
    let tag := d2.pool.nextTag
    let thru := !d2.poolUse n
    let m := (d2.rx.get n).markers.get k
    let f : Flight := {
      tag := tag, time := c.time, deadline := if thru then c.time else c.time + d2.window, k := k, bits := c.bits,
      place := if m.period.isSome then m.since else none,
      permitted := if d2.pool.laneEnf.get n = 0 then d2.lget F.POOL_CTRL_MAX_PASS else 1,
      outcome := if c.zero || thru then some .clean else none, record := [], poisoned := false, lost := false, through := thru,
      busy := List.replicate 8 0 }
    let d3 := (d2.modPool fun _ => { d2.pool with
      nextTag := tag + 1, flights := d2.pool.flights.set n (d2.pool.flights.get n ++ [f]) })
    if c.zero || thru then d3
    else
      let b := streamOf n k
      if 4 ≤ (d3.berth b).length || d3.capOf d3.pool.capBand ≤ d3.pool.windowAdmits then d3.refuse n tag
      else
        let x : WorkItem := { lane := n, tag := tag, time := c.time, syndromes := c.syndromes, short := shortlistOf c.weak, requeued := false }
        let d4 := ((d3.setBerth b (d3.berth b ++ [x])).count F.POOL_ADMIT).pmu 0x020A b
        let d5 := (d4.modPool fun _ => { d4.pool with
          admits := d4.pool.admits + 1, windowAdmits := d4.pool.windowAdmits + 1 })
        d5.offer b x

/-- Erased positions of a pass (Table 3-2). -/
def erasures (num : Nat) : Nat := if num = 1 then 0 else if num = 2 then 2 else if num = 3 then 4 else 8

/-- R100: a locator of degree v with exactly v distinct roots, all at positions 0 to 543, and 2v + e ≤ 30. -/
def passSucceeds (num : Nat) (r : PassResult) : Bool :=
  r.roots.length == r.degree && decide r.roots.Nodup && r.roots.all (· < 544) && decide (2 * r.degree + erasures num ≤ 30)

/-- The record of a successful pass: the changed symbols, at error or erased positions, each once. -/
def recordOf (num : Nat) (short : List Nat) (r : PassResult) : List (Nat × BitVec 10) :=
  (r.values.filter fun v => v.2 != 0 && (r.roots.contains v.1 || (short.take (erasures num)).contains v.1)).foldl
    (fun l v => if l.any (fun p => p.1 == v.1) then l else l ++ [v]) []

/-- An engine finishes a pass (R97 to R101): success waits for the reorder buffer's input; failure re-queues after pass 1,
goes on to the next erasure pass, or ends the codeword as FAIL. -/
def Device.passEnd (d : Device) (e : Eng) (r : PassResult) : Device :=
  match (d.pool.engines.get e).job with
  | .pass x b stolen num =>
    match d.flight? x.lane x.tag with
    | none => d.release e
    | some f =>
      if passSucceeds num r then
        d.modEng e fun g => { g with job := .waiting x b stolen num (recordOf num x.short r) }
      else if num = 1 then
        if 1 < f.permitted then
          let d1 := d.release e
          if 4 ≤ (d1.berth b).length then d1.refuse x.lane x.tag
          else
            let y := { x with requeued := true }
            ((d1.setBerth b (y :: d1.berth b)).count F.POOL_REQUEUE).offer b y
        else (d.release e).decideCw x.lane x.tag .fail []
      else if num < f.permitted then
        d.modEng e fun g => { g with job := .pass x b stolen (num + 1) }
      else (d.release e).decideCw x.lane x.tag .fail []
  | _ => d

/-- Correction records that a lane's area of 32 holds (R637). -/
def Device.recordsHeld (d : Device) (n : Lane) : Nat := ((d.pool.flights.get n).filter fun f => !f.record.isEmpty).length

/-- The reorder buffer's input takes an engine's record (R637): the codeword is CORR; the engine becomes idle. A full record
area keeps the engine waiting. -/
def Device.recordTaken (d : Device) (e : Eng) : Device :=
  match (d.pool.engines.get e).job with
  | .waiting x _ _ num rec =>
    if 32 ≤ d.recordsHeld x.lane then d
    else
      -- the buffer's own write mends or clears the blocks it meets (R521)
      let d1 := (d.suspects fun b => b / 512 == 44 || b / 512 == 45).foldl (fun (s : Device) b =>
        if poolBlock x.tag b then s.ownPrepare b else s) d
      (d1.release e).decideCw x.lane x.tag (.corr num) rec
  | _ => d

/-- Whether an engine works on a codeword. -/
def worksOn (j : EngJob) (n : Lane) (tag : Nat) : Bool :=
  match j with
  | .pass x _ _ _ => x.lane == n && x.tag == tag
  | .waiting x _ _ _ _ => x.lane == n && x.tag == tag
  | _ => false

/-- Whether an engine works on any codeword of a lane. -/
def worksOnLane (j : EngJob) (n : Lane) : Bool :=
  match j with
  | .pass x _ _ _ => x.lane == n
  | .waiting x _ _ _ _ => x.lane == n
  | _ => false

/-- Free every engine whose job satisfies `p` (R104, R107). -/
def Device.abandon (d : Device) (p : EngJob → Bool) : Device :=
  (engs.filter fun e => p (d.pool.engines.get e).job).foldl (fun (s : Device) e => s.release e) d

/-- Remove from every berth the items that satisfy `p`. -/
def Device.clearItems (d : Device) (p : WorkItem → Bool) : Device :=
  (d.modPool fun (q0 : Pool) => { q0 with berths := d.pool.berths.map fun l => l.filter fun x => !p x })

/-- A codeword's deadline: work still in a berth or in a pass is removed or abandoned, and the codeword is MISS (R104, R417). -/
def Device.deadline (d : Device) (n : Lane) (tag : Nat) : Device :=
  match d.flight? n tag with
  | some f =>
    if f.outcome.isNone then
      ((d.clearItems fun x => x.lane == n && x.tag == tag).abandon fun j => worksOn j n tag).decideCw n tag .miss []
    else d
  | none => d

/-- The pool's side of a coordinated reset of LRXn (R107): items removed, engines freed, records discarded; the codewords
in flight leave as substitutes. -/
def Device.poolFlush (d : Device) (n : Lane) : Device :=
  let fs := d.pool.flights.get n
  let d1 := (d.clearItems fun x => x.lane == n).abandon fun j => worksOnLane j n
  let d2 := (fs.filter fun f => match f.outcome with | none => true | some (.corr _) => true | _ => false).foldl
    (fun s f => s.classify f.busy false 0x0204) d1
  (d2.modPool fun (q0 : Pool) => { q0 with flights := d2.pool.flights.set n (fs.map fun f =>
      { f with lost := true, record := [], outcome := some .miss }) })

/-- A correction record as it is applied: the group buffer stores message symbols only, so in native mode the entries at 514 to 543 are not (R158). -/
def recordUsed (native : Bool) (rec : List (Nat × BitVec 10)) : List (Nat × BitVec 10) :=
  if native then rec.filter fun p => decide (p.1 < 514) else rec

/-- XOR a correction record into a codeword. -/
def applyRecord (bits : Cw) (rec : List (Nat × BitVec 10)) : Cw :=
  rec.foldl (fun b p => b ^^^ (BitVec.setWidth 5440 p.2 <<< (10 * p.1))) bits

/-! ### Supply loop (R116 to R123) -/

/-- Upper limit of VDD_CODE (R117). -/
def Device.vddUpper (d : Device) : Nat :=
  let vmax := min 40 (d.get F.POOL_SUPPLY_CFG_VMAX)
  if d.enf = 0 then vmax else min vmax (d.get F.POOL_SUPPLY_CFG_VLIM_E1)

/-- Lower limit of VDD_CODE (R116). -/
def Device.vddLower (d : Device) : Nat := min (d.get F.POOL_SUPPLY_CFG_VMIN) d.vddUpper

/-- Band of a target (R121): 0.600 V + 5 mV × code. -/
def bandOf (code : Nat) : Nat := if code < 10 then 0 else if code < 20 then 1 else if code < 30 then 2 else 3

/-- Change the VDD_POOL target (R116) under the ordering of R122: a lower cap at once, a higher one when VGOOD is 1 at the new
target. Where the rail stands on its way from one target to the next is analogue: VGOOD, which finds it within 10 mV or two codes of the
target (R120), stays 1 where every place on the way is that near, falls where none is, and else is free (log entry 132). -/
def Device.setCode (d : Device) (code : Nat) : Device :=
  let old := d.get F.POOL_STATUS_VDD_CODE
  if code = old then d
  else
    let lo := min d.pool.railLow old
    let hi := max d.pool.railHigh old
    let near := hi ≤ code + 2 && code ≤ lo + 2
    let far := hi + 2 < code || code + 2 < lo
    let d0 := (d.set F.POOL_STATUS_VDD_CODE code).set F.POOL_STATUS_BAND (bandOf code)
    let d1 := d0.modPool fun (q0 : Pool) => { q0 with railLow := min lo code, railHigh := max hi code }
    let d2 :=
      if near then d1
      else if far then d1.set F.POOL_STATUS_VGOOD 0
      else if Config.freeBool d1.draws then d1.draw else (d1.draw).set F.POOL_STATUS_VGOOD 0
    if d2.capOf (bandOf code) ≤ d2.capOf d2.pool.capBand || d2.flag F.POOL_STATUS_VGOOD then
      (d2.modPool fun (q0 : Pool) => { q0 with capBand := bandOf code })
    else d2

/-- Move VDD_CODE to the nearer limit when it lies outside them (R116). -/
def Device.clampCode (d : Device) : Device :=
  let c := d.get F.POOL_STATUS_VDD_CODE
  if d.vddUpper < c then d.setCode d.vddUpper
  else if c < d.vddLower then d.setCode d.vddLower
  else d

/-- A prediction of the tide gauge (R114); the coefficients are the calibration record's, whose tolerance is R115's. -/
def tidePred (period coef : Nat) : Nat := min 0xFFFF (period * coef / 256)

/-- A tide gauge window ends (R114), with the fast guard of R119. -/
def Device.tideWindow (d : Device) (period : Nat) : Device :=
  if !d.pool.enabled then d
  else
    let (eo, er) := match d.pool.coefs with
      | some (a, b) => (tidePred period a, tidePred period b)
      | none => (0xFFFF, 0xFFFF)
    let d1 := ((d.set F.POOL_TIDE period).set F.POOL_TIDE_PRED_TP_EO eo).set F.POOL_TIDE_PRED_TP_ER er
    let d2 := (d1.modPool fun (q0 : Pool) => { q0 with windowAdmits := 0 })
    let c := d2.get F.POOL_STATUS_VDD_CODE
    if d2.flag F.POOL_CTRL_LOOP_EN && decide (d2.window * 1000 < eo + er + 3000) && decide (c < d2.vddUpper) && d2.flag F.POOL_STATUS_VGOOD then
      (d2.setCode (c + 1)).raise F.POOL_INT_STATUS_FAST_GUARD
    else d2

/-- A loop interval ends (R34, R118, R123). -/
def Device.loopInterval (d : Device) : Device :=
  if !d.flag F.POOL_CTRL_LOOP_EN || !d.pool.enabled then d
  else
    let c := d.get F.POOL_STATUS_VDD_CODE
    let d0 := { (d.set F.POOL_STATUS_LOOP_AT_MAX 0) with pool := { d.pool with admits := 0, misses := 0 } }
    if d.get F.POOL_LOOP_CFG_MISS_TGT * d.pool.admits < d.pool.misses * 2 ^ 20 then
      let d1 := if c < d0.vddUpper && d0.flag F.POOL_STATUS_VGOOD then d0.setCode (c + 1) else d0
      let atMax := d1.get F.POOL_STATUS_VDD_CODE == d1.vddUpper
      let d2 := (d1.setB F.POOL_STATUS_LOOP_AT_MAX atMax).raiseIf atMax F.POOL_INT_STATUS_LOOP_AT_MAX
      { (d2.set F.POOL_STATUS_BELOW_TGT 0) with pool := { d2.pool with quiet := 0 } }
    else
      let quiet := if d.pool.misses = 0 then d.pool.quiet + 1 else 0
      let d1 := d0.set F.POOL_STATUS_BELOW_TGT 1
      let chain : Int := d1.get F.POOL_TIDE_PRED_TP_EO + 3 * d1.get F.POOL_TIDE_PRED_TP_ER + 3000
      let room : Int := ((d1.window : Int) - d1.get F.POOL_LOOP_CFG_DOWN_MARGIN) * 1000
      -- without coefficients the loop makes no step down (R114)
      if d.pool.coefs.isSome && d1.get F.POOL_LOOP_CFG_DOWN_CNT ≤ quiet && d1.vddLower < c && decide (chain ≤ room) then
        let d2 := d1.setCode (c - 1)
        (d2.modPool fun (q0 : Pool) => { q0 with quiet := 0 })
      else (d1.modPool fun (q0 : Pool) => { q0 with quiet := quiet })

/-- The interval grid and the quiet count restart (R118). -/
def Device.restartLoop (d : Device) : Device :=
  (d.modPool fun (q0 : Pool) => { q0 with quiet := 0, admits := 0, misses := 0 })

/-- Enable VDD_POOL (R423, R640): the loop's grid restarts. -/
def Device.poolOn (d : Device) : Device :=
  (d.modPool fun (q0 : Pool) => { q0 with enabled := true }).restartLoop

/-- Disable VDD_POOL: VGOOD falls and no engine is available (R640). -/
def Device.poolOff (d : Device) : Device :=
  (d.modPool fun (q0 : Pool) => { q0 with enabled := false }).set F.POOL_STATUS_VGOOD 0

/-- One 1 ns tick of the slot accounting for one engine (R124, R637). -/
def Device.slotTick (d : Device) (e : Eng) : Device :=
  match (d.pool.engines.get e).job with
  | .idle => if d.available e then ((d.count F.POOL_SLOT_FRONT).pmu 0x0205 (e.val / 8)).pmu 0x0205 0xFF else d
  | .pass x _ _ _ =>
    (d.bump (F.ENG_BUSY e)).modFlight x.lane x.tag fun f =>
      { f with busy := f.busy.set (e.val / 8) (f.busy.getD (e.val / 8) 0 + 1) }
  | .waiting x _ _ _ _ =>
    -- an engine chosen for a BIST slice waits with its record as any other (R637; log entry 133)
    if d.pool.enabled then
      let ev := if 32 ≤ d.recordsHeld x.lane then 0x0207 else 0x0206
      ((d.count F.POOL_SLOT_BACK).pmu ev (e.val / 8)).pmu ev 0xFF
    else d
  | .slice => d

/-! ### Meanings -/

/-- ENGINE_IDLE (R94). -/
def execEngineIdle (e : Eng) (s : State) : Host.Outcome State Fault Refusal :=
  .next { s with dev := s.dev.engineIdle e }

/-- PASS_END (R96, R100, R639): the locator decides, so a miscorrection counts as CORR. -/
def execPassEnd (e : Eng) (r : PassResult) (s : State) : Host.Outcome State Fault Refusal :=
  .next { s with dev := s.dev.passEnd e r }

/-- CORRECTION_RECORD_TAKEN (R637). -/
def execCorrectionRecordTaken (e : Eng) (s : State) : Host.Outcome State Fault Refusal :=
  .next { s with dev := s.dev.recordTaken e }

/-- CODEWORD_ARRIVAL (R19 to R21, R88): a zero syndrome goes to the reorder buffer alone. -/
def execCodewordArrival (n : Lane) (k : Fin 2) (cw : CwIn) (s : State) : Host.Outcome State Fault Refusal :=
  .next { s with dev := s.dev.arrive n k cw }

/-- TIDE_GAUGE_WINDOW (R114). -/
def execTideGaugeWindow (period : Nat) (s : State) : Host.Outcome State Fault Refusal :=
  .next { s with dev := s.dev.tideWindow period }

/-- LOOP_INTERVAL (R118). -/
def execLoopInterval (s : State) : Host.Outcome State Fault Refusal := .next { s with dev := s.dev.loopInterval }

/-- VGOOD reaches 1 at the target and the band's cap applies (R120, R122). DESIGN CHOICE: VDD_POOL then stands at the target (log entry 132). -/
def Device.vgood (d : Device) : Device :=
  if !d.pool.enabled then d
  else
    let d1 := d.set F.POOL_STATUS_VGOOD 1
    let code := d1.get F.POOL_STATUS_VDD_CODE
    (d1.modPool fun (q0 : Pool) => { q0 with capBand := d1.get F.POOL_STATUS_BAND, railLow := code, railHigh := code })

/-- VGOOD (R122). -/
def execVgood (s : State) : Host.Outcome State Fault Refusal := .next { s with dev := s.dev.vgood }

/-- A write of POOL_SUPPLY_CFG: limits move VDD_CODE, a new LOOP_INT restarts the grid (R116, R118). -/
def Device.supplyCfgWrite (d : Device) (w : Word) : Device :=
  let old := d.get F.POOL_SUPPLY_CFG_LOOP_INT
  let d1 := (((d.set F.POOL_SUPPLY_CFG_LOOP_INT (bitsOf w 30 24)).set F.POOL_SUPPLY_CFG_VLIM_E1 (bitsOf w 21 16)).set
    F.POOL_SUPPLY_CFG_VMAX (bitsOf w 13 8)).set F.POOL_SUPPLY_CFG_VMIN (bitsOf w 5 0)
  let d2 := if d1.get F.POOL_SUPPLY_CFG_LOOP_INT = old then d1 else d1.restartLoop
  d2.clampCode

/-- POOL_SUPPLY_CFG_WRITE (R116). -/
def execPoolSupplyCfgWrite (w : Word) (s : State) : Host.Outcome State Fault Refusal :=
  .next { s with dev := s.dev.supplyCfgWrite w }

/-- A change of LOOP_EN to 1, or of LOOP_INT, restarts the grid (R118). -/
def Device.loopEnWrite (d : Device) (en : Bool) (interval : Nat) : Device :=
  let restart := (en && !d.flag F.POOL_CTRL_LOOP_EN) || d.get F.POOL_SUPPLY_CFG_LOOP_INT != interval
  let d1 := (d.setB F.POOL_CTRL_LOOP_EN en).set F.POOL_SUPPLY_CFG_LOOP_INT interval
  if restart then d1.restartLoop else d1

/-- LOOP_EN_WRITE (R118). -/
def execLoopEnWrite (en : Bool) (interval : BitVec 7) (s : State) : Host.Outcome State Fault Refusal :=
  .next { s with dev := s.dev.loopEnWrite en interval.toNat }

end Sys2Proof.Machine
end

