-- ==== Sys2Proof/Machine/Breakwater.lean ====
section
/-! DEFINITION. Release from the reorder buffer, error marking, and Breakwater receive: group phase, lock and loss, the decisions of Table 4-5 and the delivery of groups (chapters 3 and 4). -/

namespace Sys2Proof.Machine

/-- The codeword of given message symbols, its parity symbols computed afresh (R109, R158). -/
def encode514 (m : BitVec 5140) : Cw := m.setWidth 5440 ||| ((Config.rsParity m).setWidth 5440 <<< 5140)

/-- The message symbols of a codeword: positions 0 to 513. -/
def messageOf (b : Cw) : BitVec 5140 := b.extractLsb' 0 5140

/-- A codeword re-encoded from its message symbols. -/
def reencode (b : Cw) : Cw := encode514 (messageOf b)

/-- Marker bits of the codeword at a place of the marker schedule, while its period is known (R110). -/
def markerMask (port : Nat) (place : Option Nat) : BitVec 5140 :=
  match place with
  | some p => if p < Config.markerSpan port then Config.markerBits port p else 0
  | none => 0

/-- A message whose synchronisation headers carry the error marking; all other bits, those of alignment markers among them, stay as they are
(R110). -/
def markMessage (port : Nat) (place : Option Nat) (m : BitVec 5140) : BitVec 5140 :=
  let h := Config.headerBits port &&& ~~~ markerMask port place
  (m &&& ~~~ h) ||| (Config.headerMarks port m &&& h)

/-- An error-marked codeword formed from received or corrected symbols: marked and re-encoded (R110). -/
def errorMark (port : Nat) (place : Option Nat) (b : Cw) : Cw := encode514 (markMessage port place (messageOf b))

/-- A place within the marker period. -/
def MarkerSt.due (m : MarkerSt) (place : Option Nat) : Option Nat :=
  match m.period, place with
  | some r, some p => some (p % r)
  | _, _ => none

/-- A substitute codeword of stream index `k` (R112): error-marked with payload 0; while the marker period is known, with the bits of the most
recent marker group in the codewords where they fall due (R638). -/
def Device.substituteAt (d : Device) (n : Lane) (k : Nat) (place : Option Nat) : Delivered :=
  let m := (d.rx.get n).markers.get (Fin.ofNat 2 k)
  let port := d.portType n
  let due := if d.flag (F.LRX_SYN_STATUS_AM_PERIOD_VALID n) then m.due place else none
  let mask := markerMask port due
  let kept : BitVec 5140 := match due with
    | some p => m.group.getD p 0
    | none => 0
  { bits := encode514 ((markMessage port due 0 &&& ~~~ mask) ||| (kept &&& mask)), how := .substitute, k := k, place := place }

/-- A codeword that leaves as a substitute at its time. -/
def Device.substituteFor (d : Device) (n : Lane) (x : Delivered) : Delivered := d.substituteAt n x.k x.place

/-- Put codewords on a host stream's output; in the safe state substitutes go out in their place (Table 10-4). -/
def Device.putOut (d : Device) (j : Nat) (l : List Delivered) : Device :=
  if d.flag F.SYS_SAFE_SAFE then d.modOut fun _ => d.out.setIfInBounds j (l.map (d.substituteFor (Fin.ofNat 8 (j / 2))))
  else (d.modOut fun _ => d.out.setIfInBounds j l)

/-- Bits of the 514 message symbols. -/
def messageMask : Cw := BitVec.ofNat 5440 (2 ^ 5140 - 1)

/-- Bits of the symbols at positions of parity `j`. -/
def halfMask (j : Nat) : Cw :=
  (List.range 272).foldl (fun m i => m ||| (BitVec.ofNat 5440 1023 <<< (10 * (2 * i + j)))) 0

/-- Codeword of stream index k in a frame. -/
def Frame.mem (f : Frame) (k : Nat) : Member := if k = 0 then f.a else f.b

/-- XOR of the codewords of index k over frames. -/
def xorFrames (fs : List Frame) (k : Nat) : Cw := fs.foldl (fun x f => x ^^^ (f.mem k).bits) 0

/-- What a slot of stream j holds: member codewords and the bits of each (R138). -/
def slotParts (wide : Bool) (j : Nat) : List (Nat × Cw) :=
  if wide then [(0, messageMask &&& halfMask j), (1, messageMask &&& halfMask j)] else [(j, messageMask)]

/-- A slot is erased when any codeword whose symbols it holds ended as FAIL or MISS. -/
def slotErased (wide : Bool) (j : Nat) (f : Frame) : Bool := (slotParts wide j).any fun p => (f.mem p.1).bad

/-- The frame's slot of stream j was found poisoned. -/
def slotPoisoned (j : Nat) (f : Frame) : Bool := if j = 0 then f.poison0 else f.poison1

/-- The XOR of a stream's 33 slots is zero. -/
def slotsCancel (wide : Bool) (j : Nat) (fs : List Frame) : Bool :=
  (slotParts wide j).all fun p => (xorFrames fs p.1) &&& p.2 == 0

/-- The case of Table 4-5 that a stream's group of 33 frames takes, in the order of the table (R154). -/
def groupCase (wide : Bool) (j : Nat) (e2 mmMark : Bool) (fs : List Frame) : Nat :=
  let erased := (fs.filter (slotErased wide j)).length
  let dataErased := ((fs.take 32).filter (slotErased wide j)).length
  if fs.any (slotPoisoned j) then 1
  else if 2 ≤ erased then 2
  else if dataErased = 1 then (if e2 then 3 else 4)
  else if erased = 1 then 5
  else if !slotsCancel wide j fs then (if mmMark then 6 else 7)
  else 8

/-- How a data slot of a stream is delivered in a case. -/
def slotHow (wide : Bool) (j cas : Nat) (f : Frame) : Leaving :=
  let e := slotErased wide j f
  let p := slotPoisoned j f
  if cas = 1 then (if e || p then .marked else .corrected)
  else if cas = 2 || cas = 3 then (if e then .marked else .corrected)
  else if cas = 4 then (if e then .rebuilt else .corrected)
  else if cas = 6 then .marked
  else .corrected

/-- The codeword of index k in a frame, with the bits of the streams' rebuilt slots replaced by the XOR of the other 32 slots (case 4). -/
def memberBits (wide : Bool) (fs : List Frame) (f : Frame) (how0 how1 : Leaving) (k : Nat) : Cw :=
  let whole := xorFrames fs k ^^^ (f.mem k).bits
  let fix (b : Cw) (j : Nat) (how : Leaving) : Cw :=
    if how == .rebuilt then
      (slotParts wide j).foldl (fun x p => if p.1 = k then (x &&& ~~~ p.2) ||| (whole &&& p.2) else x) b
    else b
  fix (fix (f.mem k).bits 0 how0) 1 how1

/-- How a member leaves (R155, R158): with one port on both streams, as corrected only when both slots are. -/
def memberHow (wide : Bool) (how0 how1 : Leaving) (k : Nat) : Leaving :=
  if wide then
    (if how0 == .marked || how1 == .marked then .marked
     else if how0 == .rebuilt || how1 == .rebuilt then .rebuilt else .corrected)
  else if k = 0 then how0 else how1

/-- A member towards the host: re-encoded from its message symbols, or error-marked (R110, R158). `port` is the lane's port type. -/
def deliverMember (port k : Nat) (place : Option Nat) (bits : Cw) (how : Leaving) : Delivered :=
  { bits := if how == .marked then errorMark port place bits else reencode bits, how := how, k := k, place := place }

/-- The counter of a case (Table 4-5); the pool's outcome stays counted too (R157). -/
def Device.countCase (d : Device) (n : Lane) (k cas : Nat) : Device :=
  let d1 := d.count (F.LRX_BW_GROUPS n k)
  let s := 2 * n.val + k
  match cas with
  | 1 | 2 => (((d1.count (F.LRX_BW_UNRECOV n k)).raise (F.LRX_BW_INT_STATUS_UNRECOV n)).pmu 0x0301 s).fecEvent n 7
  | 3 => d1.count (F.LRX_BW_E2_SKIP n k)
  | 4 => ((d1.count (F.LRX_BW_REBUILT n k)).pmu 0x0300 s).emapCount n 3
  | 5 => d1.count (F.LRX_BW_PAR_ERASED n k)
  | 6 | 7 => ((d1.count (F.LRX_BW_MISMATCH n k)).raise (F.LRX_BW_INT_STATUS_MISMATCH n)).fecEvent n 8
  | _ => d1

/-- Read the blocks of a stream's slot; true when they are usable. -/
def Device.slotOk (d : Device) (stream q : Nat) : Device × Bool := d.touchAll (blocksOf (slotAddr stream q) 648)

/-- Read both streams' slots of a group before its decision; each stream's slot is found usable or poisoned (Table 4-5, case 1). -/
def Device.readGroup (d : Device) (n : Lane) (base : Nat) (fs : List Frame) : Device × List Frame :=
  if d.errs.isEmpty && d.poisoned.isEmpty then (d, fs)
  else
    fs.zipIdx.foldl (fun (s : Device × List Frame) p =>
      let (d1, ok0) := s.1.slotOk (2 * n.val) (base + p.2)
      let (d2, ok1) := d1.slotOk (2 * n.val + 1) (base + p.2)
      (d2, s.2 ++ [{ p.1 with poison0 := p.1.poison0 || !ok0, poison1 := p.1.poison1 || !ok1 }]))
      (d, [])

/-- ACQ_STEP of a lane whose acquisition goes on, in RXON only: after a request out of RXON it reads 0 (R70, R634). -/
def Device.acqStep (d : Device) (n : Lane) (v : Nat) : Device :=
  if d.get (F.LRX_STATUS_ACQ_STEP n) = 0 then d else d.set (F.LRX_STATUS_ACQ_STEP n) v

/-- A lane hunts for its group phase from phase 0 (R150). -/
def Device.startHunt (d : Device) (n : Lane) : Device :=
  (((((d.set (F.LRX_BW_STATUS_PARITY_LOCK n) 0).set (F.LRX_BW_STATUS_PARITY_HUNT n) 1).set (F.LRX_BW_STATUS_PHASE n) 0).set
    (F.LRX_BW_CTRL_REHUNT n) 0).modBw n fun b => { b with half := none, frames := [], ready := [], goodRun := 0, lossRun := 0, skip := 0, e2 := d.enf == 2 })

/-- No alignment: the lane's Breakwater logic holds nothing. -/
def Device.bwClear (d : Device) (n : Lane) : Device :=
  ((((d.set (F.LRX_BW_STATUS_PARITY_LOCK n) 0).set (F.LRX_BW_STATUS_PARITY_HUNT n) 0).set (F.LRX_BW_STATUS_FRAME_LOCK n) 0).modBw n
    fun b => { b with half := none, frames := [], goodRun := 0, lossRun := 0, badRun := 0, skip := 0, e2 := d.enf == 2 })

/-- Parity lock is lost (R151). -/
def Device.parityLoss (d : Device) (n : Lane) : Device :=
  ((((d.bump (F.LRX_BW_EVENTS_PARITY_LOSS n)).raise (F.LRX_BW_INT_STATUS_PARITY_LOSS n)).fecEvent n 9).startHunt n).acqStep n 8

/-- 256 codewords in a row failed: frame and parity lock drop, inner lock stays (R152). -/
def Device.frameRehunt (d : Device) (n : Lane) : Device :=
  let d1 := (d.bump (F.LRX_BW_EVENTS_FRAME_REHUNT n)).raise (F.LRX_BW_INT_STATUS_FRAME_REHUNT n)
  ((d1.bwClear n).modBw n fun b => { b with ready := [] }).acqStep n 8

/-- The 33 frames of a group are complete: under lock the group is decided and waits for its release; in the hunt the phase
is kept or rejected (R150, R151, R154). Under E2 all but the replacement goes on (R32, R33, R159); the decision comes before the
release (R162). -/
def Device.groupEnd (d : Device) (n : Lane) : Device :=
  let b0 := d.bw.get n
  let base := (b0.slot + 37 - 33) % 37
  let locked := d.flag (F.LRX_BW_STATUS_PARITY_LOCK n)
  let (d1, fs) := if locked then d.readGroup n base b0.frames else (d, b0.frames)
  let wide := d1.widePort n
  let port := d1.portType n
  let evaluable := !fs.any fun f => f.a.bad || f.b.bad
  let good := slotsCancel false 0 fs && slotsCancel false 1 fs
  let d2 := d1.modBw n fun b => { b with frames := [] }
  if locked then
    let mm := d2.flag (F.LRX_BW_CTRL_MM_MARK n)
    let c0 := groupCase wide 0 b0.e2 mm fs
    let c1 := groupCase wide 1 b0.e2 mm fs
    let d3 := (d2.countCase n 0 c0).countCase n 1 c1
    let leave (k : Nat) (f : Frame) : Delivered :=
      let h0 := slotHow wide 0 c0 f
      let h1 := slotHow wide 1 c1 f
      deliverMember port k (f.mem k).place (memberBits wide fs f h0 h1 k) (memberHow wide h0 h1 k)
    let run := if evaluable then (if good then 0 else b0.lossRun + 1) else b0.lossRun
    let d4 := d3.modBw n fun b => { b with
      ready := b.ready ++ [{ a := (fs.take 32).map (leave 0), b := (fs.take 32).map (leave 1), base := base }], lossRun := run, e2 := d.enf == 2 }
    if 8 ≤ run then d4.parityLoss n else d4
  else if evaluable then
    if good then d2.modBw n fun b => { b with goodRun := b.goodRun + 1 }
    else (d2.set (F.LRX_BW_STATUS_PHASE n) ((d2.get (F.LRX_BW_STATUS_PHASE n) + 1) % 33)).modBw n
      fun b => { b with goodRun := 0, skip := 1 }
  else d2

/-- A codeword of a native lane leaves the reorder buffer for the group buffer (R154). -/
def Device.bwPush (d : Device) (n : Lane) (k : Fin 2) (m : Member) : Device :=
  let run := if m.bad then (d.bw.get n).badRun + 1 else 0
  let d1 := d.modBw n fun b => { b with badRun := run }
  if 256 ≤ run then d1.frameRehunt n
  else if !d1.flag (F.LRX_BW_STATUS_FRAME_LOCK n) then d1
  else if k = 0 then d1.modBw n fun b => { b with half := some m }
  else match (d1.bw.get n).half with
    | none => d1
    | some a =>
      let d3 := d1.modBw n fun b => { b with half := none, slot := (b.slot + 1) % 37 }
      if 0 < (d3.bw.get n).skip then d3.modBw n fun b => { b with skip := b.skip - 1 }
      else
        let d4 := d3.modBw n fun b => { b with frames := b.frames ++ [{ a := a, b := m, poison0 := false, poison1 := false }] }
        if (d4.bw.get n).frames.length = 33 then d4.groupEnd n else d4

/-- The data slots of a group whose parity slot will not come leave error-marked, those of a last half frame too; without parity lock the
group buffers hold nothing for the host (R153, R636). -/
def Device.bwPartial (d : Device) (n : Lane) : Device :=
  let b0 := d.bw.get n
  let data := b0.frames.take 32
  if !d.flag (F.LRX_BW_STATUS_PARITY_LOCK n) || (data.isEmpty && b0.half.isNone) then d
  else
    let port := d.portType n
    let leave (k : Nat) (m : Member) : Delivered := deliverMember port k m.place m.bits .marked
    let lone := match b0.half with
      | some m => if b0.frames.length < 32 then [leave 0 m] else []
      | none => []
    d.modBw n fun b => { b with
      frames := [], half := none
      ready := b.ready ++ [{ a := data.map (fun f => leave 0 f.a) ++ lone, b := data.map fun f => leave 1 f.b,
                             base := (b.slot + 37 - b0.frames.length) % 37 }] }

/-- After the lane has left RXON and its last codeword has left the reorder buffer, an undecided group leaves error-marked; the clock may stop
once the last group has been released (R636). -/
def Device.drainCheck (d : Device) (n : Lane) : Device :=
  if !d.rxInRxon n && (d.pool.flights.get n).isEmpty && (d.rx.get n).draining then
    let d1 := (d.bwPartial n).bwClear n
    if (d1.bw.get n).ready.isEmpty then d1.modRx n fun r => { r with draining := false } else d1
  else d

/-- Count a released codeword's outcome (Table 3-3). -/
def Device.countOutcome (d : Device) (n : Lane) (k : Fin 2) (o : CwOutcome) (rec : List (Nat × BitVec 10)) : Device :=
  match o with
  | .clean => d
  | .corr _ =>
    let c := rec.length
    let d1 := (d.count (F.LRX_CW_CORR n k)).count (F.LRX_SYM_CORR n k) c
    if 1 ≤ c && c ≤ 19 then d1.bumpSat (F.LRX_CORR_HIST n (c - 1)) else d1
  | .fail => d.count (F.LRX_CW_FAIL n k)
  | .miss => d.count (F.LRX_CW_MISS n k)

/-- The outcome of a codeword that leaves, for good: its busy ticks go to their class and the error map takes it (R125). FAIL and MISS were
taken when they were decided; a codeword found poisoned here is FAIL (R108). -/
def Device.settleCw (d : Device) (n : Lane) (f : Flight) (spoilt : Bool) : Device :=
  match f.outcome with
  | some (.corr num) =>
    if spoilt then (d.classify f.busy false 0x0202).emapCount n 1
    else (d.classify f.busy true (if num = 1 then 0x0200 else 0x0201)).emapCorr n f.k f.tag f.record
  | some .clean => if spoilt then d.emapCount n 1 else d
  | _ => d

/-- Read what a codeword's release reads (R108): its record and the delay store, which in native mode is its slots. -/
def Device.readStore (d : Device) (n : Lane) (f : Flight) : Device × Bool :=
  if d.errs.isEmpty && d.poisoned.isEmpty then (d, true)
  else
    let (d1, ok) := d.touchWhere fun b => poolBlock f.tag b && (!d.native n || 28 ≤ b / 512)
    if d.native n then
      (d.slotStreams n f.k).foldl (fun (s : Device × Bool) j =>
        let (e, good) := s.1.slotOk j (d.bw.get n).slot
        (e, s.2 && good)) (d1, ok)
    else (d1, ok)

/-- At t_a + W the lane's oldest codeword leaves the reorder buffer with its outcome (R103 to R111, R415). -/
def Device.releaseCodeword (d : Device) (n : Lane) : Device :=
  match d.pool.flights.get n with
  | [] => d
  | f0 :: _ =>
    let d1 := d.deadline n f0.tag
    let f := (d1.flight? n f0.tag).getD f0
    let d2 := (d1.modPool fun (q0 : Pool) => { q0 with flights := d1.pool.flights.set n ((d1.pool.flights.get n).drop 1) })
    let out := 2 * n.val
    let leave (bits : Cw) (how : Leaving) : Delivered := { bits := bits, how := how, k := f.k, place := f.place }
    let d3 :=
      if f.lost then d2.putOut out [d2.substituteAt n f.k f.place]
      else if f.through then d2.putOut out [leave f.bits .asReceived]
      else
        let (dr, usable) := d2.readStore n f
        let spoilt := f.poisoned || !usable
        let o := if spoilt then .fail else f.outcome.getD .miss
        let d4 := (dr.settleCw n f spoilt).countOutcome n f.k o f.record
        let bits := if spoilt then f.bits else applyRecord f.bits (recordUsed (d4.native n) f.record)
        let bad := match o with | .fail => true | .miss => true | _ => false
        if d4.native n then d4.bwPush n f.k { bits := bits, bad := bad, place := f.place }
        else d4.putOut out [
          match o with
          | .clean => leave f.bits .asReceived
          | .corr _ => leave (reencode bits) .corrected
          | _ => leave (errorMark (d4.portType n) f.place f.bits) .marked]
    d3.drainCheck n

/-- Codewords of a native lane that have arrived since the last decided group, in order: stream index and place. -/
def Device.undecided (d : Device) (n : Lane) : List (Nat × Option Nat) :=
  let b := d.bw.get n
  (b.frames.flatMap fun f => [(0, f.a.place), (1, f.b.place)]) ++ (match b.half with | some m => [(0, m.place)] | none => [])
    ++ (d.pool.flights.get n).map fun f => (f.k.val, f.place)

/-- The data codewords of index `k` in group `g` of a run of codewords, 66 to a group, of which the last two are parity slots. -/
def groupData (l : List (Nat × Option Nat)) (g k : Nat) : List (Nat × Option Nat) :=
  ((l.drop (66 * g)).take 64).filter fun x => x.1 = k

/-- The Breakwater side of a coordinated reset of LRXn (R160, R415): what waits in the reorder buffer and in the group buffers leaves as
substitutes at the groups' times; answers how many data codewords were lost. Without parity lock the host streams carry substitutes anyway, and
which codewords are parity slots is not known: none is lost (log entry 134). -/
def Device.bwFlush (d : Device) (n : Lane) : Device × Nat :=
  let b0 := d.bw.get n
  let sub (x : Nat × Option Nat) : Delivered := d.substituteAt n x.1 x.2
  let held := b0.ready.map fun g => { g with a := g.a.map (d.substituteFor n), b := g.b.map (d.substituteFor n) }
  let l := if d.flag (F.LRX_BW_STATUS_PARITY_LOCK n) then d.undecided n else []
  let late := (List.range ((l.length + 65) / 66)).map fun g =>
    { a := (groupData l g 0).map sub, b := (groupData l g 1).map sub, base := b0.slot : ReadyGroup }
  let ready := held ++ late
  ((d.bwClear n).modBw n fun b => { b with ready := ready }, ready.foldl (fun s g => s + g.a.length + g.b.length) 0)

/-- What a group's slots give as they are read for the host: a codeword with symbols in a slot found poisoned since the decision leaves marked
(R156). -/
def Device.readSlots (d : Device) (n : Lane) (g : ReadyGroup) (mark : Delivered → Delivered) : Device × List Delivered × List Delivered :=
  if d.errs.isEmpty && d.poisoned.isEmpty then (d, g.a, g.b)
  else
    let wide := d.widePort n
    let fix (ok : Bool) (x : Option Delivered) : List Delivered := (x.map fun y => if ok then y else mark y).toList
    (List.range (max g.a.length g.b.length)).foldl (fun (s : Device × List Delivered × List Delivered) i =>
      let (e1, ok0) := s.1.slotOk (2 * n.val) (g.base + i)
      let (e2, ok1) := e1.slotOk (2 * n.val + 1) (g.base + i)
      (e2, s.2.1 ++ fix (if wide then ok0 && ok1 else ok0) g.a[i]?, s.2.2 ++ fix (if wide then ok0 && ok1 else ok1) g.b[i]?)) (d, [], [])

/-- At t0 + D the first bit of a group's host output leaves (R161): the oldest decided group goes to the lane's two streams;
slots found poisoned since the decision leave error-marked (R156). -/
def Device.releaseGroup (d : Device) (n : Lane) : Device :=
  match (d.bw.get n).ready with
  | [] => d
  | g :: rest =>
    let d1 := d.modBw n fun b => { b with ready := rest }
    let port := d1.portType n
    let mark (x : Delivered) : Delivered :=
      if x.how == .substitute then x else { x with bits := errorMark port x.place x.bits, how := .marked }
    let (d2, a, b) := d1.readSlots n g mark
    ((d2.putOut (2 * n.val) a).putOut (2 * n.val + 1) b).drainCheck n

/-- CODEWORD_RELEASE (R103). -/
def execCodewordRelease (n : Lane) (s : State) : Host.Outcome State Fault Refusal :=
  .next { s with dev := s.dev.releaseCodeword n }

/-- GROUP_RELEASE (R161). -/
def execGroupRelease (n : Lane) (s : State) : Host.Outcome State Fault Refusal :=
  .next { s with dev := s.dev.releaseGroup n }

/-- The hunt that a write of 1 to REHUNT started runs: the bit reads 1 (R11). -/
def Device.rehunting (d : Device) (n : Lane) : Bool := d.flag (F.LRX_BW_CTRL_REHUNT n) && d.flag (F.LRX_BW_STATUS_PARITY_HUNT n)

/-- A write of 1 to REHUNT (R150): parity lock drops and the hunt starts from phase 0; it has no effect while that hunt runs (R603). A lane
without frame lock has no hunt to restart. -/
def Device.rehunt (d : Device) (n : Lane) : Device :=
  if d.flag (F.LRX_BW_STATUS_FRAME_LOCK n) && !d.rehunting n then
    ((d.startHunt n).acqStep n 8).set (F.LRX_BW_CTRL_REHUNT n) 1
  else d

/-- REHUNT (R150). -/
def execRehunt (n : Lane) (s : State) : Host.Outcome State Fault Refusal :=
  .next { s with dev := s.dev.rehunt n }

end Sys2Proof.Machine
end

