-- ==== Sys2Proof/Machine/Clocks.lean ====
section
/-! DEFINITION. Clock domains: which run, the coordinated reset of a domain, islands that stall, and gated clocks (chapter 11), with the meanings of their commands. -/

namespace Sys2Proof.Machine

/-- Domain index of LRXn (Table 11-2). -/
def lrxDomain (n : Lane) : Nat := 2 + n.val

/-- Bit `i` of a register set to `b`. -/
def Device.putBit (d : Device) (f : Fld) (i : Nat) (b : Bool) : Device :=
  d.setReg f.addr (putBits (d.reg f.addr) i i b.toNat)

/-- Bit `i` of a register. -/
def Device.bit (d : Device) (f : Fld) (i : Nat) : Bool := (d.reg f.addr).getLsbD i

/-- A coordinated reset of a domain starts: its crossings close, the flush is counted once, with the codewords replaced (R411, R412, R415). A reset
that meets a closed crossing extends the closure (R414). While it is closed, register writes stay in the shell, where reads find them (R413); what
waits there acts here at once, up to 3 µs early (log 150). -/
def Device.domainReset (d : Device) (dom lost : Nat) : Device :=
  let d1 := d.putBit F.CLK_DOM_CLOSED dom true
  let d2 := (d1.bump (F.CLK_CDC_FLUSH_EV dom)).bump (F.CLK_CDC_FLUSH_CW dom) lost
  d2.raise F.CLK_INT_STATUS_FLUSH (BitVec.ofNat 32 dom)

/-- The coordinated reset of LRXn (R74, R107, R160, R412, R415, R542): the pool and the group buffers give up the lane's
codewords, which leave as substitutes at their times. -/
def Device.lrxReset (d : Device) (n : Lane) : Device :=
  let nat := d.native n
  let flying := if nat then 0 else (d.pool.flights.get n).length
  let (d1, held) := d.bwFlush n
  let d2 := d1.poolFlush n
  -- a native lane's codewords wait from here as members of their groups
  let d3 := if nat then d2.modPool fun (q0 : Pool) => { q0 with flights := q0.flights.set n [] } else d2
  let d4 := d3.domainReset (lrxDomain n) (flying + held)
  d4.lkoSourceStop lrxSources (some n)

/-- An enabled host TX lane of the block keeps LRXn running while it is not in DEEP; on the way out of DEEP from when its TX half is in
RUN (R206). -/
def Device.hostKeeps (d : Device) (n : Lane) : Bool :=
  (d.blockLanes n).any fun k =>
    d.lget (F.HLN_CTRL_TX_EN k) == 1 && (d.get (F.HLN_LP_LP_STATE k) != 2 || (d.host.get k).txRun)

/-- The clock of LRXn runs (Table 11-2, R206, R636). -/
def Device.lrxRuns (d : Device) (n : Lane) : Bool := d.rxInRxon n || (d.rx.get n).draining || d.hostKeeps n

/-- A domain's clock runs in the device's state (R401, Table 11-2): `active`, `standby` and `dormant` say the state. -/
def Device.domRuns (d : Device) (dom : Nat) : Bool :=
  let st := d.get F.PWR_STATUS_STATE
  let hib := st == 3
  let up := st ≤ 1
  if dom = 0 then true
  else if dom = 1 || dom = 12 || dom = 14 then !hib
  else if dom = 10 then !hib && (hlanes.any (fun k => d.lget (F.HLN_CTRL_RX_EN k) == 1) || lanes.any fun n => d.get (F.LTX_STATUS_STATE n) != 0)
  else if dom = 11 || dom = 13 then up
  else if dom = 15 then false
  else match lanes[dom - 2]? with
    | some n => dom < 10 && d.lrxRuns n
    | none => false

/-- The value of CLK_DOM_RUN: domains that run, and gated ones that a handshake has started (R409). -/
def Device.domRunWord (d : Device) : Word :=
  BitVec.setWidth 32 d.clkWake |||
    (List.range 18).foldl (fun w i => if d.domRuns i then w ||| BitVec.ofNat 32 (2 ^ i) else w) 0

/-- The domain of Lookout's source runs (R542, Table 17-1): LRXn of LANE, PLT for the pilot samples, MADC for the monitor results. -/
def Device.lkoClocked (d : Device) : Bool :=
  let src := d.lget F.LKO_SRC_SOURCE
  d.domRuns (if src = 3 then 12 else if src = 4 then 13 else 2 + d.lget F.LKO_SRC_LANE)

/-- LOOKOUT_SAMPLE (R541): with its domain stopped the source delivers none (R542). -/
def execLookoutSample (x : LkoSample) (s : State) : Host.Outcome State Fault Refusal :=
  .next { s with dev := if s.dev.lkoClocked then s.dev.lkoSample x else s.dev }

/-- Both sides of every crossing of a domain have reported ready (R412): the crossings reopen. -/
def Device.crossingReopen (d : Device) (dom : Nat) : Device := d.putBit F.CLK_DOM_CLOSED dom false

/-- An island handshake has not been acknowledged within 1 µs (R418, R419): the transfer is withdrawn. -/
def Device.islandStall (d : Device) (s : Stall) : Device :=
  let d1 := d.raise F.CLK_INT_STATUS_ISLAND_STALL
  match s with
  | .pool n tag => d1.deadline n tag
  | .fabric => d1.bump F.FAB_ERR_D_BUF_DROP

/-- CROSSING_REOPEN (R412). -/
def execCrossingReopen (dom : Fin 18) (s : State) : Host.Outcome State Fault Refusal :=
  .next { s with dev := s.dev.crossingReopen dom }

/-- ISLAND_STALL (R419). -/
def execIslandStall (x : Stall) (s : State) : Host.Outcome State Fault Refusal :=
  .next { s with dev := s.dev.islandStall x }

/-- CLOCK_GATE_WAKE (R409): the gated domain's clock runs and the handshake completes. -/
def execClockGateWake (dom : Fin 18) (s : State) : Host.Outcome State Fault Refusal :=
  .next { s with dev := (s.dev.modClkWake fun _ => s.dev.clkWake ||| BitVec.ofNat 18 (2 ^ dom.val)) }

/-- CLOCK_GATE_STOP (R409): 64 cycles after the last handshake the gate stops the clock again. -/
def execClockGateStop (dom : Fin 18) (s : State) : Host.Outcome State Fault Refusal :=
  .next { s with dev := (s.dev.modClkWake fun _ => s.dev.clkWake &&& ~~~ BitVec.ofNat 18 (2 ^ dom.val)) }

/-- A core PLL loses lock (R420): its lock bit falls and the flag sets. -/
def Device.corePllUnlock (d : Device) (p : CorePll) : Device :=
  let d1 := match p with
    | .a => d.set F.CLK_STATUS_CPLLA_LOCK 0
    | .b => d.set F.CLK_STATUS_CPLLB_LOCK 0
  d1.raise F.CLK_INT_STATUS_PLL_UNLOCK

/-- CORE_PLL_UNLOCK (R420). -/
def execCorePllUnlock (p : CorePll) (s : State) : Host.Outcome State Fault Refusal :=
  .next { s with dev := s.dev.corePllUnlock p }

end Sys2Proof.Machine
end

