-- ==== Sys2Proof/Machine/HostLanes.lean ====
section
/-! DEFINITION. Host lanes: acquisition, adaptation sessions, recovery, the EGR source and low-power states (chapter 6), with the meanings of their commands. -/

namespace Sys2Proof.Machine

/-! ### EGR source (R207, R209) -/

/-- The host RX lane is enabled and holds CDR lock. -/
def Device.rxLocked (d : Device) (k : HLane) : Bool :=
  d.lget (F.HLN_CTRL_RX_EN k) == 1 && d.flag (F.HLN_STATUS_CDR_LOCK k)

/-- The source the rules choose now, if any lane can be one. -/
def Device.egrChoice (d : Device) : Option HLane :=
  if d.flag F.HLN_MODE_EGR_AUTO then hlanes.find? d.rxLocked
  else match hlanes[d.get F.HLN_MODE_EGR_SRC]? with
    | some k => if d.rxLocked k then some k else none
    | none => none

/-- Bring HLN_EGR_STATUS up to date: a source in use, or the held frequency of the last one. -/
def Device.egrUpdate (d : Device) : Device :=
  let d1 := d.setB F.HLN_EGR_STATUS_NONE (!(hlanes.any d.rxLocked))
  match d.egrChoice with
  | some k => (d1.set F.HLN_EGR_STATUS_SRC k.val).set F.HLN_EGR_STATUS_HOLD 0
  | none => d1.set F.HLN_EGR_STATUS_HOLD 1

/-! ### Acquisition (Table 6-4) -/

/-- The RX half of a host lane works: enabled, used, and in RUN or on its way to it. -/
def Device.hostRxActive (d : Device) (k : HLane) : Bool :=
  d.lget (F.HLN_CTRL_RX_EN k) == 1 && d.hostUsed k && !(d.host.get k).lateRx &&
    (d.get (F.HLN_LP_TRANS k) == 0 || (d.get (F.HLN_LP_TRANS k) == 3 && d.get (F.HLN_LP_LP_STATE k) == 0))

/-- Set the acquisition step. -/
def Device.setHostStep (d : Device) (k : HLane) (v : Nat) : Device := d.set (F.HLN_STATUS_ACQ_STEP k) v

/-- The RX half starts at step 1 of Table 6-4. -/
def Device.hostStart (d : Device) (k : HLane) : Device :=
  (((((d.set (F.HLN_STATUS_PLL_LOCK k) 0).set (F.HLN_STATUS_SD k) 0).set (F.HLN_STATUS_CDR_LOCK k) 0).set
    (F.HLN_STATUS_AM_LOCK k) 0).set (F.HLN_STATUS_ADAPTING k) 0).setHostStep k 1

/-- The RX half is off: every lock is gone. -/
def Device.hostStop (d : Device) (k : HLane) : Device :=
  (((((((d.set (F.HLN_STATUS_PLL_LOCK k) 0).set (F.HLN_STATUS_SD k) 0).set (F.HLN_STATUS_CDR_LOCK k) 0).set
    (F.HLN_STATUS_AM_LOCK k) 0).set (F.HLN_STATUS_ADAPTING k) 0).set (F.HLN_STATUS_FREQ_MISMATCH k) 0).setHostStep k 0).egrUpdate

/-- R211 asks for marker lock on the lane: in every mode but standard at 100 Gb/s per lane. -/
def Device.markerNeeded (d : Device) (k : HLane) : Bool :=
  match d.feeder k with
  | some n => d.rate n != 0
  | none => true

/-- The lane is in service (step 7); an exit from DEEP has then completed its RX half (Table 6-6). -/
def Device.inService (d : Device) (k : HLane) : Device :=
  ((d.setHostStep k 8).set (F.HLN_STATUS_AM_LOCK k) 1).modHost k fun h =>
    { h with recFails := 0, recovering := false, recRan := false, rxDone := true }

/-- Where marker lock is not required the lane is in service at step 4 or 6. -/
def Device.serviceOrWait (d : Device) (k : HLane) : Device := if d.markerNeeded k then d else d.inService k

/-- The session that has been due longest starts at step 5; the lane is out of service until step 7 (R219, R222). -/
def Device.startSession (d : Device) (k : HLane) : Device :=
  (((d.setHostStep k 4).set (F.HLN_STATUS_ADAPTING k) 1).set (F.HLN_STATUS_AM_LOCK k) 0).modHost k fun h =>
    { h with session := h.due.headD 0, due := h.due.tail }

/-- The lane goes to step 5 when a session is due, else on to step 7. -/
def Device.afterCdr (d : Device) (k : HLane) : Device :=
  if (d.host.get k).due.isEmpty then d.serviceOrWait k else d.startSession k

/-! ### Low-power states (R226 to R230) -/

/-- A line lane that feeds the host lane's TX is in RXON (R229, R635). -/
def Device.lpBlocked (d : Device) (k : HLane) : Bool :=
  match d.feeder k with
  | some n => d.hostUsed k && d.rxInRxon n
  | none => false

/-- A lane has reached a low-power state: manifests that wait for it advance (Table 8-4). -/
def Device.advanceHostLp (d : Device) (k : HLane) : Device :=
  let st := d.get (F.HLN_LP_LP_STATE k)
  let upd (w : Waiting) : Waiting :=
    match w.goal with
    | .hostLp ks v => if v = st then { w with goal := .hostLp (ks.filter (· != k)) v } else w
    | _ => w
  let d1 := (d.modMft fun (q0 : Mft) => { q0 with waiting := d.mft.waiting.map upd })
  d1.settle (fun g => match g with | .hostLp [] _ => true | _ => false) stOk (d1.reg (F.HLN_LP k).addr)

/-- A cause joins the sessions that are due, once. -/
def HostLane.addDue (h : HostLane) (cause : Nat) : HostLane := if h.due.contains cause then h else { h with due := h.due ++ [cause] }

/-- A transition towards `v` begins; from DEEP, QUIET is reached through RUN (Table 6-6). A disabled half completes at once, as does one
whose RX_EN became live outside RUN, which starts in RUN (R217). An exit from DEEP makes a session of CAUSE 4 due behind those that are
due already. -/
def Device.lpBegin (d : Device) (k : HLane) (v : Nat) : Device :=
  let st := d.get (F.HLN_LP_LP_STATE k)
  let tgt := if st = 2 ∧ v = 1 then 0 else v
  let tx := d.lget (F.HLN_CTRL_TX_EN k) == 1
  let on := d.lget (F.HLN_CTRL_RX_EN k) == 1 && d.hostUsed k
  let rx := on && !(d.host.get k).lateRx
  let d1 := if tgt = v then d else d.set (F.HLN_LP_PENDING k) v
  let d2 := (d1.set (F.HLN_LP_TRANS k) tgt).modHost k fun h =>
    { (if st = 2 && on then h.addDue 4 else h) with
      txDone := !tx, rxDone := !rx, txRun := !tx, checkMarker := decide (st = 1 ∧ tgt = 0) && rx }
  if st = 2 && rx then d2.hostStart k else d2

/-- A lane that has reached RUN: an RX half enabled meanwhile starts at step 1 (R217), and a session that became due in QUIET starts. -/
def Device.hostInRun (d : Device) (k : HLane) : Device :=
  let d1 := d.modHost k fun h => { h with lateRx := false }
  if !d1.hostRxActive k then d1
  else if d1.get (F.HLN_STATUS_ACQ_STEP k) == 0 then d1.hostStart k
  else if !(d1.host.get k).due.isEmpty && d1.flag (F.HLN_STATUS_CDR_LOCK k) && !d1.flag (F.HLN_STATUS_ADAPTING k) then d1.startSession k
  else d1

/-- Both halves have completed the transition (R227, R228). -/
def Device.lpComplete (d : Device) (k : HLane) : Device :=
  let t := d.get (F.HLN_LP_TRANS k)
  let d1 := ((d.set (F.HLN_LP_LP_STATE k) t).set (F.HLN_LP_TRANS k) 3).modHost k fun h => { h with txRun := decide (t = 0) }
  let d2 := if t = 2 then d1.hostStop k else d1
  let d3 := (d2.raise (F.HLN_INT_STATUS_LP_DONE k)).advanceHostLp k
  if t = 0 then d3.hostInRun k else d3

/-- Start the queued request, and complete at once what no enabled half takes time for. -/
def Device.lpRun (d : Device) (k : HLane) : Nat → Device
  | 0 => d
  | fuel + 1 =>
    let h := d.host.get k
    if d.get (F.HLN_LP_TRANS k) = 3 then
      let p := d.get (F.HLN_LP_PENDING k)
      if p = 3 then d
      else
        let d1 := d.set (F.HLN_LP_PENDING k) 3
        if p = d1.get (F.HLN_LP_LP_STATE k) then d1.advanceHostLp k
        else if p != 0 && d1.lpBlocked k then d1.raise (F.HLN_INT_STATUS_LP_REFUSED k)
        else (d1.lpBegin k p).lpRun k fuel
    else if h.txDone && h.rxDone && d.lget (F.HLN_CTRL_TX_EN k) != 1 && !d.hostRxActive k then (d.lpComplete k).lpRun k fuel
    else d

/-- A request for QUIET or DEEP that R229 refuses. -/
def Device.lpRefused (d : Device) (k : HLane) (v : Nat) : Bool := v != 0 && d.lpBlocked k

/-- A later low-power request replaces the target of a pending HOST_LP manifest on the lane (R297). -/
def Device.supersedeLp (d : Device) (k : HLane) (v : Nat) : Device :=
  d.settle (fun g => match g with | .hostLp ks w => ks.contains k && w != v | _ => false) stSuperseded (d.reg (F.HLN_LP k).addr)

/-- A low-power request from any of its sources (R223, R227 to R229). -/
def Device.lpRequest (d : Device) (k : HLane) (v : Nat) : Device :=
  if v ≠ 0 ∧ d.flag (F.HLN_STATUS_ADAPTING k) then (d.supersedeLp k v).modHost k fun h => { h with heldLp := some v }
  else if d.lpRefused k v then d.raise (F.HLN_INT_STATUS_LP_REFUSED k)
  else
    let d1 := (d.supersedeLp k v).modHost k fun h => { h with heldLp := none }
    (d1.set (F.HLN_LP_PENDING k) v).lpRun k 4

/-- A request held during a session is taken (R223). -/
def Device.takeHeldLp (d : Device) (k : HLane) : Device :=
  match (d.host.get k).heldLp with
  | some v => (d.modHost k fun h => { h with heldLp := none }).lpRequest k v
  | none => d

/-- A request by register, manifest or CMIS control, recorded in LP_REQ and held back under R424. -/
def Device.lpAsk (d : Device) (k : HLane) (v : Nat) : Device :=
  let d1 := d.set (F.HLN_LP_LP_REQ k) v
  if d1.laneHeld (v ≠ 2) then d1 else d1.lpRequest k v

/-- A write of LP_REQ: 0x3 is ignored, and the value the field holds makes no request (R228, Table 6-14). -/
def Device.lpWrite (d : Device) (k : HLane) (v : Nat) : Device :=
  if v = 3 ∨ v = d.get (F.HLN_LP_LP_REQ k) then d else d.lpAsk k v

/-- A request for RXON starts the exit to RUN of every host lane of the block in QUIET or DEEP, or on its way there (R230). -/
def Device.hostExit (d : Device) (n : Lane) : Device :=
  (d.blockLanes n).foldl (fun (s : Device) (k : HLane) =>
    let p : Nat := s.get (F.HLN_LP_PENDING k)
    let t : Nat := s.get (F.HLN_LP_TRANS k)
    let goal : Nat := if p ≠ 3 then p else if t ≠ 3 then t else s.get (F.HLN_LP_LP_STATE k)
    if goal = 0 then s else s.lpRequest k 0) d

/-- Every host lane of the block has its TX half in RUN (R230). -/
def Device.blockTxRun (d : Device) (n : Lane) : Bool :=
  (d.blockLanes n).all fun k => (d.host.get k).txRun || d.lget (F.HLN_CTRL_TX_EN k) != 1

/-! ### Sessions, losses and recovery (R218 to R222) -/

/-- A session that the lane leaves before its end is abandoned and stays due; a request held under R223 is then taken. -/
def Device.abandonSession (d : Device) (k : HLane) : Device :=
  if d.flag (F.HLN_STATUS_ADAPTING k) then
    ((d.set (F.HLN_STATUS_ADAPTING k) 0).modHost k fun h => { h with due := h.session :: h.due, session := 0 }).takeHeldLp k
  else d

/-- The lane restarts Table 6-4 at step 3 (R221): from service, REC_TO starts. -/
def Device.hostRestart (d : Device) (k : HLane) : Device :=
  let d1 := if d.get (F.HLN_STATUS_ACQ_STEP k) = 8 then d.modHost k fun h => { h with recovering := true } else d
  let d2 := (d1.set (F.HLN_STATUS_AM_LOCK k) 0).setHostStep k (if d1.flag (F.HLN_STATUS_SD k) then 3 else 2)
  d2.abandonSession k

/-- The lane PLL locks and calibrates (step 2). -/
def Device.hostPllLock (d : Device) (k : HLane) : Device :=
  let d1 := d.set (F.HLN_STATUS_PLL_LOCK k) 1
  if d1.hostRxActive k && d1.get (F.HLN_STATUS_ACQ_STEP k) == 1 then d1.setHostStep k 2 else d1

/-- The input signal is detected (step 3). -/
def Device.signalDetect (d : Device) (k : HLane) : Device :=
  if d.hostRxActive k && d.get (F.HLN_STATUS_ACQ_STEP k) == 2 then (d.set (F.HLN_STATUS_SD k) 1).setHostStep k 3 else d

/-- CDR lock with the entry's settings (step 4). -/
def Device.hostCdrLock (d : Device) (k : HLane) : Device :=
  if d.hostRxActive k && d.get (F.HLN_STATUS_ACQ_STEP k) == 3 then
    let d1 := (((d.set (F.HLN_STATUS_CDR_LOCK k) 1).set (F.HLN_STATUS_FREQ_MISMATCH k) 0).setHostStep k 4).egrUpdate
    d1.afterCdr k
  else d

/-- The twelve frozen DFE taps of the lane's entry (Table 6-8). -/
def Device.entryTaps (d : Device) (k : HLane) : List Int :=
  let e := d.lget (F.HLN_CTRL_ENTRY k)
  (List.range 12).map fun i => toSigned 8 (d.lget (F.CHT_DFE e (i / 4)) / 2 ^ (8 * (i % 4)) % 2 ^ 8)

/-- The bytes of four taps as a register word. -/
def tapWord (ts : List Int) : Word :=
  BitVec.ofNat 32 ((List.range 4).foldl (fun w i => w + ofSigned 8 (clampInt (-128) 127 (ts.getD i 0)) * 2 ^ (8 * i)) 0)

/-- The length of a session, t_A, in ns (R219). -/
def Device.sessionTime (d : Device) (k : HLane) : Nat := 500000 * (d.get (F.HLN_ADAPT_CFG_ADAPT_TIME k) + 1)

/-- One tap moved by the sign-sign step, saturating (R219). -/
def tapMove (t m : Int) : Int := clampInt (-128) 127 (t + m)

/-- The twelve taps after the moves of a session, and whether one saturated on the way. -/
def signSign (start : List Int) (moves : List (List Int)) : List Int × Bool :=
  moves.foldl (fun (q : List Int × Bool) ms =>
    let ts := List.zipWith tapMove q.1 ms
    (ts, q.2 || ts.any fun x => x == -128 || x == 127)) (start, false)

/-- The distance from a threshold within which no more than 16 samples fall, from the samples' distances: that of the seventeenth
nearest sample (R220; DESIGN CHOICE, log 144: whole millivolts). -/
def thresholdMargin (near : List Nat) : Nat := (ranked (near.map fun x => (x, x))).getD 16 255

/-- The margin of a measurement: the smallest over the three thresholds, saturating at 255 mV (R220). -/
def marginOf (near : List (List Nat)) : Nat := near.foldl (fun m l => min m (thresholdMargin l)) 255

/-- A session has ended (R219, R220): both margins, the entry's taps restored, the report, and on to step 7. Whether a recovery session
led to service is seen by REC_TO after its end (R221). -/
def Device.sessionEnd (d : Device) (k : HLane) (m : AdaptMeasure) : Device :=
  if !d.flag (F.HLN_STATUS_ADAPTING k) then d
  else
    let cause := (d.host.get k).session
    let a := marginOf m.nearAdapt
    let t := marginOf m.nearTable
    let (taps, sat) := signSign (d.entryTaps k) m.moves
    let d1 := (List.range 3).foldl (fun s i => s.setReg (F.HLN_ADAPT_DFE k i).addr (tapWord (taps.drop (4 * i)))) d
    let d2 := (((((d1.set (F.HLN_ADAPT_RPT_VALID k) 1).set (F.HLN_ADAPT_RPT_CAUSE k) cause).setB (F.HLN_ADAPT_RPT_SAT k) sat).sset
      (F.HLN_ADAPT_RPT_MARGIN_DIFF k) ((a : Int) - t)).set (F.HLN_ADAPT_RPT_MARGIN_ADAPT k) a).set (F.HLN_ADAPT_RPT_MARGIN_TABLE k) t
    let d3 := ((d2.set (F.HLN_STATUS_ADAPTING k) 0).setHostStep k 6).modHost k fun h =>
      { h with session := 0, recRan := h.recRan || cause == 3, recovering := h.recovering || cause == 3 }
    let d4 := (d3.raise (F.HLN_INT_STATUS_ADAPT_DONE k)).settle (fun g => g == .hostAdapt k) stOk
      (d3.reg (F.HLN_ADAPT_RPT k).addr) (d3.reg (F.HLN_ADAPT_DFE k 0).addr)
    (d4.afterCdr k).takeHeldLp k

/-- Marker lock (R211, step 7); on leaving QUIET the next marker may not lie where the count holds it, which is a loss (R231). -/
def Device.amLoss (d : Device) (k : HLane) : Device :=
  if d.hostRxActive k && d.flag (F.HLN_STATUS_AM_LOCK k) then
    ((d.bump (F.HLN_LOCK_EVENTS_AM k)).raise (F.HLN_INT_STATUS_AM_LOSS k)).hostRestart k
  else d

/-- Marker lock, or the check of R231. -/
def Device.markerLock (d : Device) (k : HLane) (inPlace : Bool) : Device :=
  let h := d.host.get k
  let st := d.get (F.HLN_STATUS_ACQ_STEP k)
  if h.checkMarker && st == 8 then
    let d1 := d.modHost k fun h => { h with checkMarker := false }
    if inPlace then d1 else d1.amLoss k
  else if d.hostRxActive k && 4 ≤ st && st < 8 && !d.flag (F.HLN_STATUS_ADAPTING k) then d.inService k
  else d

/-- Loss of signal, the removal of the host included (R221, R233, R234). -/
def Device.hostLos (d : Device) (k : HLane) : Device :=
  if d.hostRxActive k && d.flag (F.HLN_STATUS_SD k) then
    let d1 := ((d.set (F.HLN_STATUS_SD k) 0).set (F.HLN_STATUS_CDR_LOCK k) 0).bump (F.HLN_LOS_EVENTS k)
    ((d1.raise (F.HLN_INT_STATUS_LOS_SET k)).hostRestart k).egrUpdate
  else d

/-- Loss of CDR lock (R209, R221, R234). -/
def Device.cdrLoss (d : Device) (k : HLane) : Device :=
  if d.hostRxActive k && d.flag (F.HLN_STATUS_CDR_LOCK k) then
    let d1 := (d.set (F.HLN_STATUS_CDR_LOCK k) 0).bump (F.HLN_LOCK_EVENTS_CDR k)
    ((d1.raise (F.HLN_INT_STATUS_CDR_LOSS k)).hostRestart k).egrUpdate
  else d

/-- A lane off the EGR source's frequency counts as out of CDR lock (R208). -/
def Device.freqMismatch (d : Device) (k : HLane) : Device :=
  if d.hostRxActive k && d.flag (F.HLN_STATUS_CDR_LOCK k) && d.get F.HLN_EGR_STATUS_SRC != k.val then
    ((d.set (F.HLN_STATUS_FREQ_MISMATCH k) 1).raise (F.HLN_INT_STATUS_FREQ_MISMATCH k)).cdrLoss k
  else d

/-- A recovery session that ended REC_TO ago without service counts; every third in a row posts RX_FAIL (R221). -/
def Device.recoveryFailed (d : Device) (k : HLane) : Device :=
  let c := (d.host.get k).recFails + 1
  if (d.host.get k).recRan then
    (d.modHost k fun h => { h with recFails := c, recRan := false }).raiseIf (c % 3 == 0) (F.HLN_INT_STATUS_RX_FAIL k)
  else d

/-- REC_TO has passed without service (R221): a recovery session is due, at once where the lane holds CDR lock. -/
def Device.recoveryDue (d : Device) (k : HLane) : Device :=
  if d.lget (F.HLN_CTRL_RX_EN k) == 1 && (d.host.get k).recovering && d.get (F.HLN_STATUS_ACQ_STEP k) != 8 then
    let d1 := d.recoveryFailed k
    if d1.flag (F.HLN_ADAPT_CFG_REC_ADAPT k) then
      let d2 := d1.modHost k fun h => { h.addDue 3 with recovering := false }
      if d2.hostRxActive k && d2.flag (F.HLN_STATUS_CDR_LOCK k) && !d2.flag (F.HLN_STATUS_ADAPTING k) then d2.startSession k else d2
    else d1
  else d

/-- A test request that R222 refuses. -/
def Device.testRefused (d : Device) (k : HLane) : Bool :=
  d.lget (F.HLN_CTRL_RX_EN k) != 1 || d.get (F.HLN_LP_LP_STATE k) != 0 || d.get (F.HLN_LP_TRANS k) != 3
    || d.flag (F.HLN_STATUS_ADAPTING k) || (d.host.get k).due.any (· != 2)

/-- A test request (R218, R222). -/
def Device.adaptRun (d : Device) (k : HLane) : Device :=
  if d.testRefused k then d.raise (F.HLN_INT_STATUS_ADAPT_REFUSED k)
  else
    let d1 := d.modHost k fun h => { h with due := [2] }
    if d1.flag (F.HLN_STATUS_CDR_LOCK k) && decide (4 ≤ d1.get (F.HLN_STATUS_ACQ_STEP k)) then d1.startSession k else d1

/-! ### Commits and rates -/

/-- RX_EN or TX_EN of a lane has changed by a commit (R217, R219, R226). -/
def Device.hostEnabled (d : Device) (k : HLane) (oldRx oldTx : Bool) : Device :=
  let rx := d.lget (F.HLN_CTRL_RX_EN k) == 1
  let tx := d.lget (F.HLN_CTRL_TX_EN k) == 1
  let d1 :=
    if rx && !oldRx then
      let run := d.get (F.HLN_LP_TRANS k) == 3 && d.get (F.HLN_LP_LP_STATE k) == 0
      let e := d.modHost k fun h =>
        { h with due := if d.flag (F.HLN_ADAPT_CFG_START_ADAPT k) then [1] else [], recFails := 0, lateRx := !run }
      if run && d.hostUsed k then e.hostStart k else e
    else if !rx && oldRx then
      ((d.hostStop k).modHost k fun h => { h with
        due := [], session := 0, recFails := 0, recovering := false, recRan := false, lateRx := false, rxDone := true }).takeHeldLp k
    else d
  let d2 := if tx && !oldTx then d1.modHost k fun h => { h with txRun := d1.get (F.HLN_LP_LP_STATE k) == 0 && d1.get (F.HLN_LP_TRANS k) == 3 }
    else if !tx && oldTx then d1.modHost k fun h => { h with txDone := true } else d1
  (d2.lpRun k 4).egrUpdate

/-- A working RX half meets a new live RATE of its line lane: one that starts to carry traffic starts; where the new mode needs marker lock a
lane in service goes back to wait for it, and where it needs none a lane with CDR lock that runs no session is in service (R211; DESIGN
CHOICE, log 143). -/
def Device.hostNewRate (d : Device) (k : HLane) : Device :=
  let st := d.get (F.HLN_STATUS_ACQ_STEP k)
  if !d.hostRxActive k then d
  else if st = 0 then d.hostStart k
  else if st = 8 && d.markerNeeded k then (d.set (F.HLN_STATUS_AM_LOCK k) 0).setHostStep k 4
  else if decide (4 ≤ st ∧ st < 8) && d.flag (F.HLN_STATUS_CDR_LOCK k) && !d.flag (F.HLN_STATUS_ADAPTING k) then d.serviceOrWait k
  else d

/-- The live RATE of line lane n has changed: lanes that Table 6-2 no longer uses are powered down, others start (R203). -/
def Device.hostRate (d : Device) (n : Lane) : Device :=
  ((d.blockLanes n).foldl (fun (s : Device) (k : HLane) =>
    if !s.hostUsed k then s.hostStop k else s.hostNewRate k) d).egrUpdate

/-- The TX half of a host lane has completed its exit to RUN (R230). -/
def Device.hostTxHalf (d : Device) (k : HLane) : Device :=
  if d.get (F.HLN_LP_TRANS k) = 0 then d.modHost k fun h => { h with txDone := true, txRun := true } else d

/-- Both halves have completed: an exit from DEEP waits for the RX half's service where RX is enabled (Table 6-6). -/
def Device.lpDone (d : Device) (k : HLane) : Device :=
  let fromDeep := d.get (F.HLN_LP_LP_STATE k) == 2
  if d.get (F.HLN_LP_TRANS k) = 3 || (fromDeep && d.opShort) then d
  else if fromDeep && d.hostRxActive k && !(d.host.get k).rxDone then d
  else ((d.modHost k fun h => { h with txDone := true, rxDone := true }).lpComplete k).lpRun k 4

/-- The egress has lock on a stream's host lane (R212, R231). -/
def Device.hostCarries (d : Device) (k : HLane) : Bool :=
  d.lget (F.HLN_CTRL_RX_EN k) == 1 && d.get (F.HLN_STATUS_ACQ_STEP k) == 8 && d.get (F.HLN_LP_LP_STATE k) == 0
    && (d.get (F.HLN_LP_TRANS k) == 3 || d.get (F.HLN_LP_TRANS k) == 0)

/-! ### Meanings -/

/-- HOST_PLL_LOCK (R217). -/
def execHostPllLock (k : HLane) (s : State) : Host.Outcome State Fault Refusal := .next { s with dev := s.dev.hostPllLock k }
/-- SIGNAL_DETECT (R217). -/
def execSignalDetect (k : HLane) (s : State) : Host.Outcome State Fault Refusal := .next { s with dev := s.dev.signalDetect k }
/-- CDR_LOCK (R217). -/
def execCdrLock (k : HLane) (s : State) : Host.Outcome State Fault Refusal := .next { s with dev := s.dev.hostCdrLock k }
/-- ADAPT_SESSION_END (R220). -/
def execAdaptSessionEnd (k : HLane) (m : AdaptMeasure) (s : State) : Host.Outcome State Fault Refusal :=
  .next { s with dev := s.dev.sessionEnd k m }
/-- MARKER_LOCK (R211). -/
def execMarkerLock (k : HLane) (inPlace : Bool) (s : State) : Host.Outcome State Fault Refusal :=
  .next { s with dev := s.dev.markerLock k inPlace }
/-- HOST_LOS (R221). -/
def execHostLos (k : HLane) (s : State) : Host.Outcome State Fault Refusal := .next { s with dev := s.dev.hostLos k }
/-- CDR_LOSS (R221). -/
def execCdrLoss (k : HLane) (s : State) : Host.Outcome State Fault Refusal := .next { s with dev := s.dev.cdrLoss k }
/-- AM_LOSS (R221). -/
def execAmLoss (k : HLane) (s : State) : Host.Outcome State Fault Refusal := .next { s with dev := s.dev.amLoss k }
/-- FREQ_MISMATCH (R208). -/
def execFreqMismatch (k : HLane) (s : State) : Host.Outcome State Fault Refusal := .next { s with dev := s.dev.freqMismatch k }
/-- RECOVERY_DUE (R221). -/
def execRecoveryDue (k : HLane) (s : State) : Host.Outcome State Fault Refusal := .next { s with dev := s.dev.recoveryDue k }
/-- ADAPT_RUN (R222). -/
def execAdaptRun (k : HLane) (s : State) : Host.Outcome State Fault Refusal := .next { s with dev := s.dev.adaptRun k }
/-- LP_REQUEST (R228). -/
def execLpRequest (k : HLane) (v : BitVec 2) (s : State) : Host.Outcome State Fault Refusal :=
  .next { s with dev := s.dev.lpWrite k v.toNat }
/-- LP_TRANSITION_DONE (R226). -/
def execLpTransitionDone (k : HLane) (s : State) : Host.Outcome State Fault Refusal := .next { s with dev := s.dev.lpDone k }
/-- HOST_TX_HALF_RUN (R230). -/
def execHostTxHalfRun (k : HLane) (s : State) : Host.Outcome State Fault Refusal := .next { s with dev := s.dev.hostTxHalf k }

end Sys2Proof.Machine
end

