-- ==== Sys2Proof/Machine/LineRx.lean ====
section
/-! DEFINITION. The line receive path: half states, acquisition, gain control, adaptation, trims and the inner decoder's counts (chapter 2), with the meanings of its commands but TRIM_BOUNDARY's staged groups of other blocks. -/

namespace Sys2Proof.Machine

/-! ### Coefficients -/

/-- The visible registers of a lane's coefficients: bits [23:14] of the FFE and MLSE registers (R50). DESIGN CHOICE: a 20-bit level shows
bits [23:4] of its 24-bit internal register; the manual gives the bits of the 10-bit values only (R55, log entry 121). -/
def Device.showCoefs (d : Device) (n : Lane) : Device :=
  let c := (d.rx.get n).coef
  let d1 := (List.range 40).foldl (fun (s : Device) k =>
    s.setReg (F.LRX_FFE_TAP n k).addr (BitVec.ofNat 32 (ofSigned 10 (Int.fdiv (c.ffe.getD k 0) (2 ^ 14))))) d
  let d2 := (List.range 3).foldl (fun (s : Device) g =>
    s.setReg (F.LRX_MLSE_G n g).addr (BitVec.ofNat 32 (ofSigned 10 (Int.fdiv (c.mlse.getD g 0) (2 ^ 14))))) d1
  (List.range 4).foldl (fun (s : Device) a =>
    s.setReg (F.LRX_LEVEL n a).addr (BitVec.ofNat 32 (ofSigned 20 (Int.fdiv (c.level.getD a 0) 16)))) d2

/-- Put a set of coefficients in force: their internal registers and what they show. -/
def Device.setCoefs (d : Device) (n : Lane) (c : Coefs) : Device := (d.modRx n fun r => { r with coef := c }).showCoefs n

/-- The taps that 24-tap operation uses (R53). -/
def tap24 (cursor k : Nat) : Bool := decide (cursor ≤ k + 8 ∧ k ≤ cursor + 15)

/-- The lane runs 24 taps. -/
def Device.taps24 (d : Device) (n : Lane) : Bool := d.flag (F.LRX_FFE_CFG_TAPS24 n)

/-- A set of coefficients as the lane can use it: under 24 taps every other tap holds 0 (R53). -/
def Device.usable (d : Device) (n : Lane) (c : Coefs) : Coefs :=
  if d.taps24 n then
    { c with ffe := (List.range 40).map fun k => if tap24 (d.lget (F.LRX_FFE_CFG_CURSOR n)) k then c.ffe.getD k 0 else 0 }
  else c

/-- A register write to a coefficient reaches it: under 24 taps the other taps hold 0 (R53). -/
def Device.writable (d : Device) (n : Lane) (w : Nat × Nat × Nat) : Bool :=
  w.1 != 0 || !d.taps24 n || tap24 (d.lget (F.LRX_FFE_CFG_CURSOR n)) w.2.1

/-- Shifts outside 6 to 20 act as the nearer limit (R61). -/
def clampShift (s : Nat) : Nat := max 6 (min 20 s)

/-- `−gradient × 2^(14−s)`; where a shift above 14 leaves a fraction, the manual states no rounding and `up` chooses. -/
def lmsStep (g : Int) (s : Nat) (up : Bool) : Int :=
  if s ≤ 14 then -g * (2 ^ (14 - s) : Nat)
  else
    let q := Int.fdiv (-g) (2 ^ (s - 14) : Nat)
    if q * (2 ^ (s - 14) : Nat) = -g then q else if up then q + 1 else q

/-- One 24-bit internal register after an update. -/
def lms (x g : Int) (s : Nat) (up : Bool) : Int := clampInt (-(2 ^ 23)) (2 ^ 23 - 1) (x + lmsStep g s up)

/-- Register writes to coefficients that wait for the update interval (R64). A level's written value is its register's bits [23:4]. -/
def applyCoefWrites (c : Coefs) (ws : List (Nat × Nat × Nat)) : Coefs :=
  ws.foldl (fun c w =>
    if w.1 = 0 then { c with ffe := c.ffe.set w.2.1 (toSigned 10 w.2.2 * 2 ^ 14) }
    else if w.1 = 1 then { c with mlse := c.mlse.set w.2.1 (toSigned 10 w.2.2 * 2 ^ 14) }
    else { c with level := c.level.set w.2.1 (toSigned 20 w.2.2 * 16) }) c

/-- An update interval ends (R61 to R64): written values, then one step of each loop that is not held. -/
def Device.adaptUpdate (d : Device) (n : Lane) (g : Gradients) : Device :=
  let r := d.rx.get n
  let c0 := applyCoefWrites r.coef (r.coefWrites.filter (d.writable n))
  let d0 := d.modRx n fun r => { r with coefWrites := [] }
  let step := d.get (F.LRX_STATUS_ACQ_STEP n)
  if step < 2 || (d.tracking n && d.flag (F.LRX_CTRL_ADAPT_HOLD n)) then d0.setCoefs n c0
  else
    let trk := d.tracking n
    let s1 := clampShift (d.get (if trk then F.LRX_ADAPT_FFE_MU_TRK n else F.LRX_ADAPT_FFE_MU_ACQ n))
    let s2 := clampShift (d.get (if trk then F.LRX_ADAPT_MLSE_MU_TRK n else F.LRX_ADAPT_MLSE_MU_ACQ n))
    let s3 := clampShift (d.get (if trk then F.LRX_ADAPT_LVL_MU_TRK n else F.LRX_ADAPT_LVL_MU_ACQ n))
    let cur := d.lget (F.LRX_FFE_CFG_CURSOR n)
    let t24 := d.taps24 n
    let up (i : Nat) : Bool := Config.freeBool (d.draws + i)
    let c1 : Coefs := {
      ffe := (List.range 40).map fun k =>
        if k = cur then c0.ffe.getD k 0
        else if t24 && !tap24 cur k then 0
        else lms (c0.ffe.getD k 0) (g.ffe.getD k 0) s1 (up k)
      mlse := (List.range 3).map fun k => lms (c0.mlse.getD k 0) (g.mlse.getD k 0) s2 (up (40 + k))
      level := (List.range 4).map fun k => lms (c0.level.getD k 0) (g.level.getD k 0) s3 (up (43 + k)) }
    ((d0.draw 47)).setCoefs n c1

/-! ### Gain (R40, R41, R49, R65, R77 to R83) -/

/-- 10^(j/16) × 10^12, j from 0 to 15. -/
def tenSixteenths : List Nat :=
  [1000000000000, 1154781984689, 1333521432163, 1539926526059, 1778279410039, 2053525026457, 2371373705662, 2738419634264,
   3162277660168, 3651741272548, 4216965034286, 4869675251659, 5623413251903, 6493816315762, 7498942093325, 8659643233601]

/-- The ratio of a change of gain code by Δ, as numerator and denominator: 0.8660 and 1.1548 for one step, else 10^(Δ/16) (R49). -/
def gainRatio (delta : Int) : Int × Nat :=
  if delta = 1 then (11548, 10000)
  else if delta = -1 then (8660, 10000)
  else if 0 ≤ delta then ((tenSixteenths.getD delta.toNat 1000000000000 : Nat), 1000000000000)
  else (1000000000000, tenSixteenths.getD delta.natAbs 1000000000000)

/-- An estimate within its 20-bit register. -/
def clamp20 (x : Int) : Int := clampInt (-(2 ^ 19)) (2 ^ 19 - 1) x

/-- A value scaled by a ratio: nearest, ties away from zero, saturated at 20 bits. -/
def scale20 (x : Int) (ratio : Int × Nat) : Int := clamp20 (roundDiv (x * ratio.1) ratio.2)

/-- The first-section DC estimate. -/
def Device.dcEst (d : Device) (n : Lane) : Int := toSigned 20 (d.get (F.LRX_DCB_EST n))

/-- Corner in kHz of a CORNER code (Table 2-2). -/
def dcCorner (corner : Nat) : Nat := 500 * 2 ^ corner

/-- The coefficient of a section's move at a corner and rate, as numerator and denominator: 2π × corner × 64 ÷ rate, with the corner off
its nominal value by at most 5 % (R46). DESIGN CHOICE: the manual derives the coefficient from corner and rate without stating it (log
entry 122); π is 355 ÷ 113. -/
def dcCoef (corner rate : Nat) : Int × Nat :=
  ((710 * 64 * dcCorner corner * (950 + (Config.dcTolerance corner rate).val) : Nat), 113 * 1000 * signalling rate)

/-- One section's estimate after a 64-symbol block that made an update: moved towards the block mean of its input (R46, R47). -/
def dcMove (m mean : Int) (coef : Int × Nat) : Int := clamp20 (m + roundDiv ((mean - m) * coef.1) coef.2)

/-- What the DC block holds between two blocks of a window: its estimates, its conditions, and the clips of the window so far. -/
structure DcRun where
  m1 : Int
  m2 : Int
  cond : DcCond
  clips : Nat
  deriving DecidableEq, Repr

/-- Conditions under which the DC block is frozen (R48); `over_` says that the window's clips exceed the limit. -/
def DcCond.frozen (c : DcCond) (los over_ : Bool) : Bool := c.freeze || (c.auto && (los || over_))

/-- The DC block takes a change. -/
def DcRun.take (r : DcRun) : DcChange → DcRun
  | .cond c => { r with cond := c }
  | .scale num den => { r with m1 := clamp20 (roundDiv (r.m1 * num) den), m2 := clamp20 (roundDiv (r.m2 * num) den) }
  | .shift v => { r with m1 := clamp20 (r.m1 + v), m2 := clamp20 (r.m2 + v) }

/-- Whether a change leaves the DC block frozen. -/
def DcChange.freezes (los over_ : Bool) : DcChange → Bool
  | .cond c => c.frozen los over_
  | _ => false

/-- One 64-symbol block with the changes that fell in it: it makes no update when any of its samples falls under a freeze condition (R47,
R48). The first section's input is the ADC samples, the second's the first's output. -/
def DcRun.block (r : DcRun) (rate : Nat) (los : Bool) (b : DcBlock) (cs : List DcChange) : DcRun :=
  let clips := r.clips + b.clips
  let over_ := decide (clipLimit rate < clips)
  let frozen := r.cond.frozen los over_ || cs.any (DcChange.freezes los over_)
  let q := cs.foldl DcRun.take { r with clips := clips }
  let k := dcCoef q.cond.corner rate
  if frozen then q else { q with m1 := dcMove q.m1 b.mean k, m2 := dcMove q.m2 (b.mean - q.m1) k }

/-- The blocks of a window from the one of index `i`, with the changes that are still to come. -/
def DcRun.window (rate : Nat) (los : Bool) : Nat → List DcBlock → List (Nat × DcChange) → DcRun → DcRun
  | _, [], cs, r => (cs.map (·.2)).foldl DcRun.take r
  | i, b :: bs, cs, r =>
    let here := cs.takeWhile fun c => c.1 ≤ i
    DcRun.window rate los (i + 1) bs (cs.drop here.length) (r.block rate los b (here.map (·.2)))

/-- The conditions that hold now. -/
def Device.dcCondNow (d : Device) (n : Lane) : DcCond :=
  { freeze := d.flag (F.LRX_DCB_FREEZE n), auto := d.flag (F.LRX_DCB_AUTO_FREEZE n), corner := d.lget (F.LRX_DCB_CORNER n) }

/-- The DC block of a lane whose ADC runs takes a change inside an overrange window. -/
def Device.dcNote (d : Device) (n : Lane) (c : DcChange) : Device :=
  if d.get (F.LRX_STATUS_ACQ_STEP n) < 2 then d else d.modRx n fun r => { r with dcLog := r.dcLog ++ [c] }

/-- The conditions of the DC block changed. -/
def Device.dcNoteCond (d : Device) (n : Lane) : Device := d.dcNote n (.cond (d.dcCondNow n))

/-- Set both DC estimates. -/
def Device.setDc (d : Device) (n : Lane) (m1 m2 : Int) : Device :=
  (d.set (F.LRX_DCB_EST n) (ofSigned 20 m1)).modRx n fun r => { r with dcb2 := m2 }

/-- The lane's estimation window is void (R495). -/
def Device.spoil (d : Device) (n : Lane) : Device := d.modRx n fun r => { r with estSpoiled := true }

/-- The gain code changes: DC and level estimates are scaled on the same symbol (R49, R65). DESIGN CHOICE: a level's visible 20 bits are
scaled and rounded, and the 4 internal bits below them become 0 (log entry 121). -/
def Device.setGain (d : Device) (n : Lane) (code : Nat) : Device :=
  let old := d.get (F.LRX_STATUS_GAIN_CUR n)
  if code = old then d
  else
    let q := gainRatio ((code : Int) - old)
    let r := d.rx.get n
    let d1 := (d.set (F.LRX_STATUS_GAIN_CUR n) code).setDc n (scale20 (d.dcEst n) q) (scale20 r.dcb2 q)
    ((d1.dcNote n (.scale q.1 q.2)).setCoefs n { r.coef with level := r.coef.level.map fun x => 16 * scale20 (Int.fdiv x 16) q }).spoil n

/-- An automatic step is applied, or refused at the end of the range (R41, R80). -/
def Device.gainStep (d : Device) (n : Lane) (up : Bool) : Device :=
  let c := d.get (F.LRX_STATUS_GAIN_CUR n)
  let limit := if up then F.LRX_STATUS_TIA_CEIL n else F.LRX_STATUS_TIA_FLOOR n
  if (up && c == 15) || (!up && c == 0) then
    if d.flag limit then d else (d.set limit 1).raise (F.LRX_INT_STATUS_TIA_LIMIT n)
  else
    let d1 := d.setGain n (if up then c + 1 else c - 1)
    let d2 := d1.set (if up then F.LRX_STATUS_TIA_FLOOR n else F.LRX_STATUS_TIA_CEIL n) 0
    let d3 := d2.bump (if up then F.LRX_GAIN_STEPS_UP n else F.LRX_GAIN_STEPS_DOWN n)
    (((d3.modRx n fun r => { r with upRun := 0 }).raise (F.LRX_INT_STATUS_GAIN_STEP n)).pmu 0x0102 n)

/-! ### Trims (R494, R501, R502) -/

/-- Field of a trim register by kind: 0 offset, 1 gain, 2 skew. -/
def trimField (w : Word) (kind : Nat) : Int :=
  if kind = 0 then toSigned 8 (bitsOf w 7 0) else if kind = 1 then toSigned 8 (bitsOf w 15 8) else toSigned 10 (bitsOf w 25 16)

/-- A trim word with one kind replaced. -/
def setTrimField (w : Word) (kind : Nat) (v : Int) : Word :=
  if kind = 0 then putBits w 7 0 (ofSigned 8 v) else if kind = 1 then putBits w 15 8 (ofSigned 8 v) else putBits w 25 16 (ofSigned 10 v)

/-- Put a sub-ADC's trims in force, in the register and live. -/
def Device.setTrim (d : Device) (n : Lane) (j : Fin 64) (w : Word) : Device :=
  (d.setReg (F.LRX_ADC_TRIM n j).addr w).modRx n fun r => { r with trimLive := r.trimLive.set j w }

/-- Put a TIA offset trim in force; both DC estimates take its effect (R494). -/
def Device.setTia (d : Device) (n : Lane) (v : Int) : Device :=
  let old := toSigned 8 (d.rx.get n).tiaLive
  let eff := Config.tiaOffsetEffect (d.get (F.LRX_STATUS_RANGE_CUR n)) (d.get (F.LRX_STATUS_GAIN_CUR n)) (v - old)
  (((d.set (F.LRX_TIA_TRIM n) (ofSigned 8 v)).setDc n (clamp20 (d.dcEst n + eff)) (clamp20 ((d.rx.get n).dcb2 + eff))).modRx n
    fun r => { r with tiaLive := ofSigned 8 v }).dcNote n (.shift eff)

/-- Passed sets and register writes to trims take effect together (R501 to R503). -/
def Device.applyTrims (d : Device) (n : Lane) : Device :=
  let r := d.rx.get n
  if r.trimSets.isEmpty && r.tiaDue.isNone && r.trimWrites.isEmpty then d
  else
    let d1 := r.trimSets.foldl (fun (s : Device) set =>
      (List.finRange 64).foldl (fun (t : Device) j =>
        t.setTrim n j (setTrimField ((t.rx.get n).trimLive.get j) set.1 (set.2.getD j.val 0))) s) d
    let d2 := match r.tiaDue with
      | some v => d1.setTia n v
      | none => d1
    let d3 := r.trimWrites.foldl (fun (s : Device) w =>
      if h : w.1 < 64 then s.setTrim n ⟨w.1, h⟩ w.2 else s.setTia n (toSigned 8 (bitsOf w.2 7 0))) d2
    ((d3.modRx n fun r => { r with trimSets := [], tiaDue := none, trimWrites := [] }).set (F.LRX_CAL_STATUS_SET_PENDING n) 0).spoil n

/-- A lane PLL's fine code follows its control voltage, which is analogue: it may move one step, or be held at an end (R192, R505). -/
def Device.pllTrack (d : Device) (fine limit flag : Fld) : Device :=
  let d1 := (d.draw 2)
  if !Config.freeBool d.draws then d1
  else
    let up := Config.freeBool (d.draws + 1)
    let c := d.get fine
    if (up && c == 127) || (!up && c == 0) then (d1.set limit 1).raise flag
    else d1.set fine (if up then c + 1 else c - 1)

/-- The RX PLL's fine tracking. -/
def Device.rxPllTrack (d : Device) (n : Lane) : Device :=
  d.pllTrack (F.LRX_PLL_CAL_FINE n) (F.LRX_CAL_STATUS_PLL_BAND_LIMIT n) (F.LRX_CAL_INT_STATUS_PLL_BAND_LIMIT n)

/-! ### Enforcement and staged groups at a lane's boundary (R31, R53, R54, R84) -/

/-- The enforcement step in force is taken by the lane: one pass per new codeword, and 24 taps or 40. -/
def Device.laneEnforce (d : Device) (n : Lane) : Device :=
  let e := d.enf
  let d1 := (d.modPool fun (q0 : Pool) => { q0 with laneEnf := d.pool.laneEnf.set n e })
  let t := decide (1 ≤ e)
  if d1.taps24 n == t then d1
  else
    let d2 := (d1.setB (F.LRX_FFE_CFG_TAPS24 n) t).setB (F.LRX_STATUS_TAPS24 n) t
    d2.setCoefs n (d2.usable n (d2.rx.get n).coef)

/-- A GAIN_SET write that waits for a trim boundary, on a lane that has none any more: it takes effect at once (R82). DESIGN CHOICE: R74
keeps the code in force and R83 discards a gain step; neither names this write (log entry 123). -/
def Device.flushGain (d : Device) (n : Lane) : Device :=
  match (d.rx.get n).gainSet with
  | none => d
  | some g => (if d.flag (F.LRX_TIA_AUTO n) then d else d.setGain n g).modRx n fun r => { r with gainSet := none }

/-- Acquisition restarts at step 3: reached at once where LOS is clear (Table 2-6, R634). -/
def Device.restart3 (d0 : Device) (n : Lane) : Device :=
  let d := d0.flushGain n
  let d1 := (((d.set (F.LRX_STATUS_FREQ_LOCK n) 0).set (F.LRX_STATUS_PHASE_LOCK n) 0).set (F.LRX_STATUS_INNER_LOCK n) 0).set
    (F.LRX_STATUS_ACQ_STEP n) (if d.flag (F.LRX_STATUS_LOS n) then 2 else 3)
  d1.modRx n fun r => { r with
    step := none, upRun := 0, beforeStep4 := true, icw := 0, icwFail := 0, badBlocks := 0, savedNext := none }

/-- Alignment is given up without a coordinated reset: the native streams hold nothing for the host (R153). -/
def Device.dropAlign (d : Device) (n : Lane) : Device :=
  if d.native n then (d.bwClear n).modBw n fun b => { b with ready := [] } else d

/-- The alignment-marker period and position are forgotten (R638). -/
def Device.forgetMarkers (d : Device) (n : Lane) : Device :=
  (d.set (F.LRX_SYN_STATUS_AM_PERIOD_VALID n) 0).modRx n fun r => { r with markers := Vector.replicate 2 MarkerSt.unknown }

/-- The lane's codewords are aligned again: known marker periods run on by count, and a single group found before counts no more (R638). -/
def Device.alignMarkers (d : Device) (n : Lane) : Device :=
  d.modRx n fun r => { r with
    markers := r.markers.map fun m => if m.period.isSome then { m with gap := true } else MarkerSt.unknown }

/-- The lane's RX staged group goes live (R41, R84, R638). -/
def Device.lrxLive (d : Device) (n : Lane) (ws : List (Nat × Word)) : Device :=
  let range := d.lget (F.LRX_TIA_RANGE n)
  let rate := d.rate n
  let e1 := d.makeLive ws
  let e2 := e1.setCoefs n (e1.usable n (e1.rx.get n).coef)
  let d1 := if e2.lget (F.LRX_DCB_CORNER n) = d.lget (F.LRX_DCB_CORNER n) then e2 else e2.dcNoteCond n
  let d2 :=
    if d1.lget (F.LRX_TIA_RANGE n) = range then d1
    else
      let e := (((d1.set (F.LRX_STATUS_RANGE_CUR n) (d1.lget (F.LRX_TIA_RANGE n))).set (F.LRX_STATUS_TIA_FLOOR n) 0).set
        (F.LRX_STATUS_TIA_CEIL n) 0).spoil n
      if 2 ≤ e.get (F.LRX_STATUS_ACQ_STEP n) then (e.dropAlign n).restart3 n else e
  if d2.rate n = rate then d2
  else (d2.forgetMarkers n).hostRate n

/-- The syndrome group goes live: TERM decides whether the pool is used; a change forgets the marker period (R638). -/
def Device.synLive (d : Device) (n : Lane) (ws : List (Nat × Word)) : Device :=
  let t := d.lget (F.LRX_SYN_CTRL_TERM n)
  let d1 := d.makeLive ws
  if d1.lget (F.LRX_SYN_CTRL_TERM n) = t then d1
  else d1.forgetMarkers n

/-- The pending commits of a lane's receive groups go live and complete (R311). -/
def Device.rxCommits (d : Device) (n : Lane) : Device :=
  let d1 := match d.pendingCommit (0x0100 + n) with
    | some c => (d.lrxLive n c.words).endCommit c stOk
    | none => d
  match d1.pendingCommit (0x0200 + n) with
  | some c => (d1.synLive n c.words).endCommit c stOk
  | none => d1

/-- Everything due at a lane's boundary that R31 lets happen outside tracking. -/
def Device.rxBoundaryAll (d : Device) (n : Lane) : Device := ((d.laneEnforce n).applyTrims n).rxCommits n

/-! ### Tracking -/

/-- An RX half has reached what a LANE_STATE manifest asks (R300). -/
def Device.rxReached (d : Device) (n : Lane) (g : LaneGoal) : Bool :=
  match g.rx with
  | none => true
  | some v =>
    if d.get (F.LRX_STATE_RX_TRANS n) != 7 then false
    else if v = 3 && g.waitLock then (if d.native n then d.get (F.LRX_STATUS_ACQ_STEP n) == 0xA else d.tracking n)
    else d.get (F.LRX_STATE_RX_STATE n) == v

/-- Let the LANE_STATE manifests see the RX half. -/
def Device.rxAdvance (d : Device) (n : Lane) : Device := d.advanceLanes n fun g => (false, g.rx.isSome && d.rxReached n g)

/-- The lane enters tracking (step 8): 0xA in standard mode, whose acquisition that ends (R634); enforcement and waiting trims are taken
(R31, R54, R62), and a pending commit waits for the first trim boundary (R84). -/
def Device.enterTracking (d : Device) (n : Lane) : Device :=
  let d0 := if d.native n then d else d.set (F.LRX_CTRL_REACQ n) 0
  let d1 := (d0.set (F.LRX_STATUS_INNER_LOCK n) 1).set (F.LRX_STATUS_ACQ_STEP n) (if d.native n then 8 else 0xA)
  let d2 := d1.modRx n fun r => { r with
    attempts := if d.native n then r.attempts else 0
    icw := 0, icwFail := 0, badBlocks := 0, step := none, saved := r.coef, savedNext := none }
  (((d2.raise (F.LRX_INT_STATUS_INNER_LOCK n)).laneEnforce n).applyTrims n).rxAdvance n

/-- A failed acquisition attempt is counted (R75): every third in a row posts ACQ_FAIL. -/
def Device.countAttempt (d : Device) (n : Lane) : Device :=
  let c := (d.rx.get n).attempts + 1
  let d1 := (d.bump (F.LRX_LOCK_EVENTS_ACQ_RETRY n)).modRx n fun r => { r with attempts := c }
  d1.raiseIf (c % 3 == 0) (F.LRX_INT_STATUS_ACQ_FAIL n)

/-- A failed acquisition attempt (R75). -/
def Device.attemptFailed (d : Device) (n : Lane) : Device := ((d.countAttempt n).dropAlign n).restart3 n

/-- The time of an acquisition step, or of a hunt for parity lock, is exceeded (R75, R152). At step 1 the ADC is not yet on, so the attempt
counts and the transition goes on. -/
def Device.acqTimeout (d : Device) (n : Lane) : Device :=
  let st := d.get (F.LRX_STATUS_ACQ_STEP n)
  if st = 1 then d.countAttempt n
  else if (2 ≤ st && st < 8) || (st == 8 && d.native n) then d.attemptFailed n else d

/-! ### Timing recovery (R59 to R62) -/

/-- The proportional and integral shifts of the timing loop: acquisition values before step 8 and tracking values from it; KP acts as
written, and KI outside 4 to 24 as the nearer limit (R61, R62). -/
def Device.timingShifts (d : Device) (n : Lane) : Nat × Nat :=
  let trk := d.tracking n
  (d.get (if trk then F.LRX_CDR_CFG_KP_TRK n else F.LRX_CDR_CFG_KP_ACQ n),
   max 4 (min 24 (d.get (if trk then F.LRX_CDR_CFG_KI_TRK n else F.LRX_CDR_CFG_KI_ACQ n))))

/-- One 64-symbol block of the timing loop on (phase, frequency register), with the block's phase-detector sum. The phase is in 10^-9 of an
interpolator step of 1/128 UI and the frequency register in 0.001 ppm, so a block of 64 UI ramps the phase by 8,192 of those units per LSB.
A right shift rounds down; the register keeps its 20 bits (DESIGN CHOICE, log entry 124). -/
def timingBlock (shifts : Nat × Nat) (pf : Int × Int) (sum : Int) : Int × Int :=
  let freq := clamp20 (pf.2 + Int.fdiv sum (2 ^ shifts.2 : Nat))
  (pf.1 + Int.fdiv sum (2 ^ shifts.1 : Nat) * 1000000000 + freq * 8192, freq)

/-- The timing loop of a lane over one block, with its live shifts. -/
def Device.timing (d : Device) (n : Lane) (pf : Int × Int) (sum : Int) : Int × Int := timingBlock (d.timingShifts n) pf sum

/-- Frequency lock (R60, step 6): LRX_CDR_FREQ is `freq` and has changed by `change` over 64 µs, both in 0.001 ppm. While tracking the offset
register follows the loop (R59). -/
def Device.freqLock (d : Device) (n : Lane) (freq change : Int) : Device :=
  let st := d.get (F.LRX_STATUS_ACQ_STEP n)
  let d1 := d.set (F.LRX_CDR_FREQ n) (ofSigned 20 freq)
  if d.tracking n then d1
  else if 3 ≤ st && st ≤ 6 && !d.flag (F.LRX_STATUS_LOS n) && freq.natAbs ≤ 300000 && change.natAbs < 2000 then
    (d1.set (F.LRX_STATUS_FREQ_LOCK n) 1).set (F.LRX_STATUS_ACQ_STEP n) 6
  else d

/-- Phase lock (R60, step 7): the mean phase-detector output over 16 µs, in 1/4096 UI, is within ±1/32 UI. -/
def Device.phaseLock (d : Device) (n : Lane) (mean : Int) : Device :=
  if d.get (F.LRX_STATUS_ACQ_STEP n) = 6 && mean.natAbs ≤ 128 then (d.set (F.LRX_STATUS_PHASE_LOCK n) 1).set (F.LRX_STATUS_ACQ_STEP n) 7 else d

/-- The first trial that reaches its count, as a candidate of `size`: candidates are tried in rising order, from 0 again after the last
(R148, R149). -/
def firstHit (size need : Nat) (counts : List Nat) : Option Nat := (counts.findIdx? fun c => decide (need ≤ c)).map (· % size)

/-- The symbol offset of inner lock (R148): of the 64 in rising order, the first at which at least 128 of 256 hard-decision words have a zero
syndrome; `zeros` are the counts of the trials made, in order. -/
def innerHit (zeros : List Nat) : Option Nat := firstHit 64 128 zeros

/-- The start of a three-frame period (R149): of the 272 inner codewords in order, the first at which at least 8 of 32 codewords have a zero RS
syndrome. DESIGN CHOICE: after the last candidate the trials start again from the first (log entry 128). -/
def frameHit (zeros : List Nat) : Option Nat := firstHit 272 8 zeros

/-- Inner lock (R148), or the alignment that IEEE 802.3dj and 802.3ck define in standard mode, once the block's TX halves are in RUN (R230).
Standard lanes then track, with the codeword count at 0 (Table 3-1); native lanes go on to frame lock (R62). -/
def Device.innerLock (d : Device) (n : Lane) (zeros : List Nat) : Device :=
  if d.get (F.LRX_STATUS_ACQ_STEP n) = 7 && d.blockTxRun n then
    if d.native n then
      match innerHit zeros with
      | some o => (d.set (F.LRX_STATUS_INNER_LOCK n) 1).modRx n fun r => { r with innerOffset := o }
      | none => d
    else (((d.set (F.LRX_STATUS_INNER_LOCK n) 1).modRx n fun r => { r with cwCount := 0 }).alignMarkers n).enterTracking n
  else d

/-- Frame lock (R149). The lane tracks and hunts for its group phase. -/
def Device.frameLock (d : Device) (n : Lane) (zeros : List Nat) : Device :=
  let st := d.get (F.LRX_STATUS_ACQ_STEP n)
  if d.native n && d.flag (F.LRX_STATUS_INNER_LOCK n) && (st == 7 || st == 8) && !d.flag (F.LRX_BW_STATUS_FRAME_LOCK n) then
    match frameHit zeros with
    | some p =>
      let d1 := ((d.set (F.LRX_BW_STATUS_FRAME_LOCK n) 1).modRx n fun r => { r with frameStart := p }).startHunt n
      if st = 7 then d1.enterTracking n else d1
    | none => d
  else d

/-- A cause of R73 holds. -/
def Device.lossHolds (d : Device) (n : Lane) : LockCause → Bool
  | .los => d.flag (F.LRX_STATUS_LOS n)
  | .cdr => decide (300000 < (toSigned 20 (d.get (F.LRX_CDR_FREQ n))).natAbs)
  | .inner => decide (4 ≤ (d.rx.get n).badBlocks)
  | .alignment => d.rate n == 0

/-- The coefficient set saved at the last trim boundary before the first failing block (R74): with no failing block under way, the last
boundary's. -/
def Device.savedSet (d : Device) (n : Lane) : Coefs :=
  let r := d.rx.get n
  if 0 < r.badBlocks || 32 < r.icwFail then r.saved else r.savedNext.getD r.saved

/-- Loss of lock (R74): counted, the frequency held at its mean, LRXn reset, and acquisition from step 3 with the saved set. -/
def Device.lockLoss (d : Device) (n : Lane) (c : LockCause) (mean : Int) : Device :=
  if d.tracking n && d.lossHolds n c then
    let c := d.savedSet n
    let d1 := ((d.bump (F.LRX_LOCK_EVENTS_LOCK_LOSS n)).raise (F.LRX_INT_STATUS_LOCK_LOSS n)).set (F.LRX_CTRL_REACQ n) 0
    let d2 := ((d1.set (F.LRX_CDR_FREQ n) (ofSigned 20 mean)).lrxReset n).flushGain n
    ((d2.setCoefs n (d2.usable n c)).restart3 n).spoil n
  else d

/-- A write of 1 to REACQ (R76): from step 3 with reset coefficients; it counts no failure. DESIGN CHOICE: at step 0 or 1 the ADC does not
run and there is no acquisition to restart, so the write has no effect (log entry 125). -/
def Device.reacq (d : Device) (n : Lane) : Device :=
  if 2 ≤ d.get (F.LRX_STATUS_ACQ_STEP n) then
    ((((d.dropAlign n).setCoefs n Coefs.reset).restart3 n).spoil n).set (F.LRX_CTRL_REACQ n) 1
  else d

/-- The acquisition that a write of 1 to REACQ restarted runs: the bit reads 1 (R11, R76). -/
def Device.reacquiring (d : Device) (n : Lane) : Bool :=
  d.flag (F.LRX_CTRL_REACQ n) && decide (2 ≤ d.get (F.LRX_STATUS_ACQ_STEP n) ∧ d.get (F.LRX_STATUS_ACQ_STEP n) < 0xA)

/-- A write of ADAPT_HOLD (R63): in force while the lane tracks. -/
def Device.adaptHold (d : Device) (n : Lane) (h : Bool) : Device := d.setB (F.LRX_CTRL_ADAPT_HOLD n) h

/-- A write of GAIN_SET (R82). -/
def Device.gainSetWrite (d : Device) (n : Lane) (g : Nat) : Device :=
  let d1 := d.set (F.LRX_TIA_GAIN_SET n) g
  if d1.flag (F.LRX_TIA_AUTO n) then d1
  else if d1.tracking n then d1.modRx n fun r => { r with gainSet := some g }
  else (d1.setGain n g).modRx n fun r => { r with gainSet := none }

/-! ### Overrange windows (R72, R77 to R81) -/

/-- The clips of a window are counted (Gain control and overrange). -/
def Device.countClips (d : Device) (n : Lane) (w : WindowCount) : Device :=
  let d1 := (d.count (F.LRX_OVR_CNT n) w.clips).pmu 0x0100 n w.clips
  let d2 := (d1.setReg (F.LRX_CLIP_MAP_LO n).addr (d1.reg (F.LRX_CLIP_MAP_LO n).addr ||| w.map.extractLsb' 0 32)).setReg
    (F.LRX_CLIP_MAP_HI n).addr (d1.reg (F.LRX_CLIP_MAP_HI n).addr ||| w.map.extractLsb' 32 32)
  (d2.count (F.LRX_FFE_SAT n) w.sat).raiseIf (w.sat != 0) (F.LRX_INT_STATUS_FFE_SAT n)

/-- The DC block is frozen whatever the running window has clipped: the first two conditions of R48. -/
def Device.dcFrozen (d : Device) (n : Lane) : Bool := (d.dcCondNow n).frozen (d.flag (F.LRX_STATUS_LOS n)) false

/-- The DC block after a window: each 64-symbol block under the conditions and changes that met it (R46 to R49). -/
def Device.dcWindow (d : Device) (n : Lane) (w : WindowCount) : Device :=
  let r := d.rx.get n
  let late := List.replicate (r.dcLog.length - w.cuts.length) w.blocks.length
  let q := DcRun.window (d.rate n) (d.flag (F.LRX_STATUS_LOS n)) 0 w.blocks ((w.cuts ++ late).zip r.dcLog)
    { m1 := r.dcFrom.1, m2 := r.dcFrom.2, cond := r.dcCond, clips := 0 }
  (d.setDc n q.m1 q.m2).modRx n fun r => { r with dcFrom := (q.m1, q.m2), dcCond := d.dcCondNow n, dcLog := [] }

/-- The rms of a window against the LOS thresholds (R72, R75). -/
def Device.losWindow (d : Device) (n : Lane) (rms : Nat) : Device :=
  let th := d.get (F.LRX_LOS_CFG_LOS_TH n)
  let r := d.rx.get n
  let low := if rms < th then r.losRun + 1 else 0
  let high := if th + d.get (F.LRX_LOS_CFG_LOS_HYS n) ≤ rms then r.clrRun + 1 else 0
  let d1 := d.modRx n fun r => { r with losRun := min low 4, clrRun := min high 4 }
  let st := d.get (F.LRX_STATUS_ACQ_STEP n)
  if 4 ≤ low && !d.flag (F.LRX_STATUS_LOS n) then
    let d2 := ((d1.set (F.LRX_STATUS_LOS n) 1).raise (F.LRX_INT_STATUS_LOS_SET n)).spoil n
    if 3 ≤ st && st < 8 then d2.attemptFailed n else d2
  else if 4 ≤ high && d.flag (F.LRX_STATUS_LOS n) then
    let d2 := (d1.set (F.LRX_STATUS_LOS n) 0).raise (F.LRX_INT_STATUS_LOS_CLR n)
    if st = 2 then (d2.set (F.LRX_STATUS_ACQ_STEP n) 3).modRx n fun r => { r with upRun := 0, beforeStep4 := false } else d2
  else d1

/-- What a window asks of the gain: some false a step down, some true a step up (R77, R78). DESIGN CHOICE: AUTO or UP_EN at 0 ends the run,
UP_WIN at 0 asks after every good window, and the run starts again from 0 once a step is asked for (log entry 126). -/
def Device.gainWish (d : Device) (n : Lane) (w : WindowCount) : Device × Option Bool :=
  if !d.flag (F.LRX_TIA_AUTO n) then (d.modRx n fun r => { r with upRun := 0 }, none)
  else if clipLimit (d.rate n) < w.clips then (d.modRx n fun r => { r with upRun := 0 }, some false)
  else if d.flag (F.LRX_TIA_UP_EN n) && w.clips == 0 && w.big < d.get (F.LRX_AGC_CFG_UP_TH n) && !(d.rx.get n).beforeStep4 then
    let run := (d.rx.get n).upRun + 1
    if d.get (F.LRX_AGC_CFG_UP_WIN n) ≤ run then (d.modRx n fun r => { r with upRun := 0 }, some true)
    else (d.modRx n fun r => { r with upRun := run }, none)
  else (d.modRx n fun r => { r with upRun := if r.beforeStep4 then r.upRun else 0 }, none)

/-- The gain side of a window (R78, R79, R81): asked for in every window from the start of step 4; applied at once during step 4, pending
while tracking, else discarded. When the gain and then the DC block have settled is analogue, so steps 4 and 5 come with a free choice.
DESIGN CHOICE: a step up asked for while a step down waits is dropped; R79 states the other order only (log entry 126). -/
def Device.gainWindow (d : Device) (n : Lane) (step : Nat) (w : WindowCount) : Device :=
  if (d.rx.get n).stepInWindow then d
  else
    let (d1, wish) := d.gainWish n w
    if step = 3 then
      match wish with
      | some up => d1.gainStep n up
      | none =>
        let d2 := (d1.draw)
        if Config.freeBool d1.draws then d2.set (F.LRX_STATUS_ACQ_STEP n) 4 else d2
    else if step = 4 then
      let d2 := (d1.draw)
      if Config.freeBool d1.draws then d2.set (F.LRX_STATUS_ACQ_STEP n) 5 else d2
    else if d.tracking n then
      match wish with
      | some false => d1.modRx n fun r => { r with step := some false }
      | some true => d1.modRx n fun r => { r with step := if r.step = some false then r.step else some true }
      | none => d1
    else d1

/-- An overrange window of a lane whose ADC runs ends. -/
def Device.overrangeWindow (d : Device) (n : Lane) (w : WindowCount) : Device :=
  let st := d.get (F.LRX_STATUS_ACQ_STEP n)
  if st < 2 then d
  else
    let d1 := d.countClips n w
    let d2 := d1.dcWindow n w
    let d3 := if clipLimit (d2.rate n) < w.clips then d2.spoil n else d2
    let d4 := if 3 ≤ st then d3.gainWindow n st w else d3
    let d5 := d4.losWindow n w.rms
    let d6 := d5.modRx n fun r => { r with stepInWindow := false, beforeStep4 := r.beforeStep4 && decide (st < 3) }
    if d6.tracking n then d6 else (d6.applyTrims n).rxPllTrack n

/-! ### Inner decoder (R66) -/

/-- Reliability sum of a candidate's flipped positions. -/
def flipCost (soft : List Int) (flips : List Nat) : Nat := flips.foldl (fun t p => t + (soft.getD p 0).natAbs) 0

/-- The chosen candidate: smallest sum, then fewer flips, then the lower pattern index. -/
def chase (soft : List Int) (cands : List (Option (List Nat))) : Option (List Nat) :=
  cands.foldl (fun best c =>
    match best, c with
    | b, none => b
    | none, some x => some x
    | some b, some x =>
      if flipCost soft x < flipCost soft b ∨ (flipCost soft x = flipCost soft b ∧ x.length < b.length) then some x else some b) none

/-- Syndrome of a received word of the inner code: its 120 message bits come first and its 8 parity bits follow (R144). -/
def innerSyndrome (w : BitVec 128) : BitVec 8 := Config.innerParity (w.extractLsb' 0 120) ^^^ w.extractLsb' 120 8

/-- Decoding of a word by its extended-Hamming syndrome: the position to flip, none of it for a codeword, or no codeword within one flip. -/
def innerDecode (w : BitVec 128) : Option (List Nat) :=
  let s := innerSyndrome w
  if s = 0 then some []
  else ((List.range 128).find? fun i => innerSyndrome (BitVec.ofNat 128 (2 ^ i)) ^^^ innerSyndrome 0 == s).map fun i => [i]

/-- Positions that two flips leave flipped. -/
def flipBoth (a b : List Nat) : List Nat := a.filter (fun x => !b.contains x) ++ b.filter fun x => !a.contains x

/-- The word with some positions flipped. -/
def flipWord (w : BitVec 128) (l : List Nat) : BitVec 128 := l.foldl (fun v i => v ^^^ BitVec.ofNat 128 (2 ^ i)) w

/-- The four positions of smallest soft magnitude. DESIGN CHOICE: among equal magnitudes the lower position (log entry 129). -/
def weakest (soft : List Int) : List Nat := (ranked ((List.range 128).map fun i => (i, (soft.getD i 0).natAbs))).take 4

/-- The 16 candidates of the Chase-II decoder in the order of their pattern indexes: the flips that take the hard decisions to the codeword,
where the pattern decodes. DESIGN CHOICE: bit i of a pattern's index flips the i-th weakest position (log entry 129). -/
def innerCands (hard : BitVec 128) (soft : List Int) : List (Option (List Nat)) :=
  let four := weakest soft
  (List.range 16).map fun t =>
    let flips := ((List.range 4).filter fun i => t.testBit i).map fun i => four.getD i 0
    (innerDecode (flipWord hard flips)).map fun more => flipBoth flips more

/-- What the inner decoder finds in a word: the positions it flips, or none for a failed word (R66). -/
def innerResult (hard : BitVec 128) (soft : List Int) : Option (List Nat) := chase soft (innerCands hard soft)

/-- The decoder's output bits: the chosen codeword, or the hard decisions of a failed word (R66). -/
def innerOutput (hard : BitVec 128) (res : Option (List Nat)) : BitVec 128 :=
  match res with
  | some flips => flipWord hard flips
  | none => hard

/-- An inner codeword is decoded and counted; 256 of them form a block of R73. An output that differs from the hard decisions is a
correction. -/
def Device.innerCodeword (d : Device) (n : Lane) (hard : BitVec 128) (soft : List Int) : Device :=
  if !d.flag (F.LRX_STATUS_INNER_LOCK n) || d.rate n == 0 then d
  else
    let res := innerResult hard soft
    let d1 := d.count (F.LRX_ICW_TOTAL n)
    let d2 := match res with
      | none => ((d1.count (F.LRX_ICW_FAIL n)).pmu 0x0101 n).fecEvent n 5
      | some [] => d1
      | some _ => d1.count (F.LRX_ICW_CORR n)
    let r := d.rx.get n
    let fails := r.icwFail + if res.isNone then 1 else 0
    if r.icw + 1 < 256 then d2.modRx n fun r => { r with icw := r.icw + 1, icwFail := fails }
    else
      let bad := 32 < fails
      d2.modRx n fun r => { r with
        icw := 0, icwFail := 0, badBlocks := if bad then r.badBlocks + 1 else 0,
        savedNext := if bad then r.savedNext else none, saved := if bad then r.saved else r.savedNext.getD r.saved }

/-! ### Trim boundary (R500) -/

/-- The receive side of a trim boundary of a tracking lane: gain step, trims, staged groups, enforcement, PLL tracking, and the set
that R74 would return to. `start` says that the boundary is the first symbol of an overrange window, which then is measured wholly at the new
gain (R79). -/
def Device.rxTrimBoundary (d : Device) (n : Lane) (start : Bool) : Device :=
  if !d.tracking n then d
  else
    let r := d.rx.get n
    let before := d.get (F.LRX_STATUS_GAIN_CUR n)
    let d1 :=
      if d.flag (F.LRX_TIA_AUTO n) then
        match r.step with
        | some up => d.gainStep n up
        | none => d
      else match r.gainSet with
        | some g => d.setGain n g
        | none => d
    let d2 := d1.modRx n fun r => { r with step := none, gainSet := none, stepInWindow := r.stepInWindow || (!start && d1.get (F.LRX_STATUS_GAIN_CUR n) != before) }
    let d3 := (d2.rxBoundaryAll n).rxPllTrack n
    d3.modRx n fun r =>
      if d3.rate n = 0 then { r with saved := r.coef } else { r with savedNext := some r.coef }

/-! ### Half states (R69, R70) -/

/-- The pilot filter group goes live: with the pilot in sync not within a reception, without sync at once (R270). -/
def Device.firCommit (d : Device) (n : Lane) : Device :=
  match d.pendingCommit (0x0400 + n) with
  | some c => if d.flag (F.PLT_STATUS_SYNC n) && (d.plt.get n).reception.isSome then d else (d.makeLive c.words).endCommit c stOk
  | none => d

/-- A reception ends: its freezes are released, and the applied gain follows the tracking gain again (R272, R277). -/
def Device.endReception (d : Device) (n : Lane) : Device :=
  ((((d.set (F.PLT_STATUS_RX_BUSY n) 0).set (F.PLT_STATUS_COMMITTED n) 0).set (F.PLT_STATUS_AGC_FROZEN n) 0).set
    (F.PLT_AGC_AGC_GAIN n) (d.plt.get n).agcTrack).modPlt n fun q => { q with reception := none }

/-- Sync drops; a filter commit that waited for a symbol boundary then takes effect at once (R270, R271). -/
def Device.dropSync (d : Device) (n : Lane) : Device :=
  ((((d.set (F.PLT_STATUS_SYNC n) 0).set (F.PLT_STATUS_RES_LOCK n) 0).modPlt n fun q => { q with inBound := 0, diffRun := 0 }).modTx n
    fun t => { t with resumeDue := true }).firCommit n

/-- A lane's pilot receiver stops: any reception ends and sync drops (R237). -/
def Device.pilotRxOff (d : Device) (n : Lane) : Device := (d.endReception n).dropSync n

/-- The next state on the way from `c` to `t` (Table 2-4). -/
def nextRx (c t : Nat) : Nat :=
  match c with
  | 0 => if t = 4 then 4 else 1
  | 1 => if t = 2 ∨ t = 3 then 2 else 0
  | 2 => if t = 3 then 3 else 1
  | 3 => if t = 4 then 4 else 2
  | _ => if t = 0 then 0 else 1

/-- A transition of an idle half towards `v` starts; RX_PENDING shows the final target of a walk. -/
def Device.rxStart (d : Device) (n : Lane) (v : Nat) : Device :=
  let c := d.get (F.LRX_STATE_RX_STATE n)
  if c = v then d.set (F.LRX_STATE_RX_PENDING n) 7
  else if d.reloadWait c then d.set (F.LRX_STATE_RX_PENDING n) v
  else
    let t := nextRx c v
    let d1 := (d.set (F.LRX_STATE_RX_TRANS n) t).set (F.LRX_STATE_RX_PENDING n) (if t = v then 7 else v)
    if t = 3 then (d1.set (F.LRX_STATUS_ACQ_STEP n) 1).modRx n fun r => { r with attempts := 0 }
    -- from PILOT to OFF the pilot receiver stops at once (Table 2-4)
    else if c = 4 && t = 0 then (d1.pilotRxOff n).modRx n fun r => { r with pilotRx := false }
    else d1

/-- A request to the RX half: an acquisition that it ends reads 0 at once; RXON starts the host lanes' exit (R70, R230). -/
def Device.rxRequest (d : Device) (n : Lane) (v : Nat) : Device :=
  let d1 := d.supersedeLane n none (some v)
  let d2 := if v = 3 then d1.hostExit n else d1
  let d3 := if v ≠ 3 then d2.set (F.LRX_STATUS_ACQ_STEP n) 0 else d2
  if d3.get (F.LRX_STATE_RX_TRANS n) = 7 then (d3.rxStart n v).rxAdvance n
  else d3.set (F.LRX_STATE_RX_PENDING n) (if d3.get (F.LRX_STATE_RX_TRANS n) = v then 7 else v)

/-- A request by register or manifest, recorded in RX_STATE_REQ. -/
def Device.rxAsk (d : Device) (n : Lane) (v : Nat) : Device :=
  let d1 := d.set (F.LRX_STATE_RX_STATE_REQ n) v
  if d1.laneHeld (v = 1 ∨ v = 2 ∨ v = 3) then d1 else d1.rxRequest n v

/-- A write of RX_STATE_REQ: 5 to 7 are ignored, and the value the field holds makes no request (R70). -/
def Device.rxWrite (d : Device) (n : Lane) (v : Nat) : Device :=
  if 4 < v ∨ v = d.get (F.LRX_STATE_RX_STATE_REQ n) then d else d.rxAsk n v

/-- On the way to STANDBY every enabled host lane is asked for DEEP, once no RX half is in RXON (R423). -/
def Device.standbyHosts (d : Device) : Device :=
  if d.get F.PWR_STATUS_TRANS = 1 && d.get F.PWR_STATUS_STATE = 0 && !(lanes.any fun n => d.rxInRxon n) then
    hlanes.foldl (fun (s : Device) (k : HLane) =>
      let p : Nat := s.get (F.HLN_LP_PENDING k)
      let t : Nat := s.get (F.HLN_LP_TRANS k)
      let goal : Nat := if p ≠ 3 then p else if t ≠ 3 then t else s.get (F.HLN_LP_LP_STATE k)
      if s.hostLive k && goal != 2 then s.lpRequest k 2 else s) d
  else d

/-- The half has reached RXON: TIA and ADC powered, step 2, with FFE, MLSE and levels at the saved set (Table 2-6); LOS stands until the
windows clear it (R72). DESIGN CHOICE: the start from GAIN_SET is no gain step, so it scales neither the held DC estimates nor the saved
levels (log entry 127). -/
def Device.rxOn (d : Device) (n : Lane) : Device :=
  let d0 := (((((d.set (F.LRX_STATUS_ACQ_STEP n) 2).set (F.LRX_STATUS_LOS n) 1).set (F.LRX_STATUS_RANGE_CUR n)
    (d.lget (F.LRX_TIA_RANGE n))).set (F.LRX_STATUS_GAIN_CUR n) (d.get (F.LRX_TIA_GAIN_SET n))).bwClear n).set (F.LRX_CTRL_REACQ n) 0
  let d1 := d0.setCoefs n (d0.usable n (d0.rx.get n).saved)
  d1.modRx n fun r => { r with
    dcFrom := (d1.dcEst n, r.dcb2), dcCond := d1.dcCondNow n, dcLog := [], losRun := 0, clrRun := 0, upRun := 0, step := none, gainSet := none, stepInWindow := false,
    beforeStep4 := true, icw := 0, icwFail := 0, badBlocks := 0, firstEst := none, estSpoiled := false, draining := false,
    estRule := (d.get F.CAL_CTRL_MODE, d.reg F.CAL_COMPAT_LIM.addr) }

/-- The half has left RXON (R636): locks fall, LOS stands, waiting changes take effect at once, and LRXn runs on until the last
codeword has been released. -/
def Device.rxLeft (d : Device) (n : Lane) : Device :=
  let d1 := ((((d.set (F.LRX_STATUS_ACQ_STEP n) 0).set (F.LRX_STATUS_LOS n) 1).set (F.LRX_STATUS_FREQ_LOCK n) 0).set
    (F.LRX_STATUS_PHASE_LOCK n) 0).set (F.LRX_STATUS_INNER_LOCK n) 0
  let d2 := (d1.flushGain n).modRx n fun r => { r with step := none, saved := d.savedSet n, savedNext := none, draining := true }
  (d2.rxBoundaryAll n).drainCheck n

/-- Lanes native with parity lock (LIVE_MASK). -/
def Device.liveMask (d : Device) : BitVec 8 :=
  lanes.foldl (fun (m : BitVec 8) (n : Lane) => maskSet m n (d.native n && d.flag (F.LRX_BW_STATUS_PARITY_LOCK n))) 0

/-- BWK_NEG_STATUS as it reads. -/
def Device.negWord (d : Device) : Word :=
  putBits (d.reg F.BWK_NEG_STATUS.addr) 23 16 d.liveMask.toNat

/-- NATIVE exits whose lanes have all returned complete (Table 8-4). -/
def Device.settleExit (d : Device) : Device :=
  d.settle (fun g => match g with
    | .native m true => !(lanes.any fun n => maskHas m n && d.native n)
    | _ => false) stOk d.negWord

/-- In SYNTH a lane takes the rate that a negotiation asks for, and goes on to RXON (R133 to R135). -/
def Device.takeRate (d : Device) (n : Lane) : Device :=
  match (d.rx.get n).newRate with
  | none => d
  | some r =>
    let d1 := (d.bset (F.LRX_CTRL_RATE n) r).modRx n fun x => { x with newRate := none }
    let d2 := (d1.forgetMarkers n).set (F.LRX_STATE_RX_PENDING n) 3
    let d2 := if r = d.rate n then d2 else d2.hostRate n
    (d2.modEgr fun _ => d2.egr.set n Egress.fresh).settleExit

/-- A transition of the RX half completes (R69), is reported, and the queued request starts (R70). -/
def Device.rxDone (d : Device) (n : Lane) : Device :=
  let t := d.get (F.LRX_STATE_RX_TRANS n)
  if t = 7 ∨ (t = 2 ∧ d.get (F.LRX_STATE_RX_STATE n) = 1 ∧ d.opShort) then d
  else
    let old := d.get (F.LRX_STATE_RX_STATE n)
    let p := d.get (F.LRX_STATE_RX_PENDING n)
    let d1 := (d.set (F.LRX_STATE_RX_STATE n) t).set (F.LRX_STATE_RX_TRANS n) 7
    let d2 := if old = 3 then d1.rxLeft n else d1
    let d3 :=
      if t = 3 then (if p = 7 ∨ p = 3 then d2.rxOn n else d2.set (F.LRX_STATUS_ACQ_STEP n) 0)
      else if t = 2 ∧ old = 1 then
        let e := ((d2.set (F.LRX_PLL_CAL_BAND n) (Config.pllBand d2.draws).toNat).set (F.LRX_PLL_CAL_FINE n) 64).set
          (F.LRX_CAL_STATUS_PLL_BAND_LIMIT n) 0
        (e.draw)
      else d2
    let run := decide (t = 3 ∨ t = 4 ∨ (t = 1 ∧ old = 4)) || ((d.rx.get n).pilotRx && decide (t = 1 ∨ (t = 2 ∧ old = 1)))
    let d4 := if (d.rx.get n).pilotRx && !run then d3.pilotRxOff n else d3
    let d5 := d4.modRx n fun r => { r with pilotRx := run }
    let d6 := if t = 2 then d5.takeRate n else d5
    let d7 := d6.rxAdvance n
    let q := d7.get (F.LRX_STATE_RX_PENDING n)
    (if q = 7 then d7 else d7.rxStart n q).standbyHosts

/-! ### Meanings -/

/-- RX_STATE_REQUEST (R70). -/
def execRxStateRequest (n : Lane) (v : BitVec 3) (s : State) : Host.Outcome State Fault Refusal :=
  .next { s with dev := s.dev.rxWrite n v.toNat }
/-- RX_TRANSITION_DONE (R69). -/
def execRxTransitionDone (n : Lane) (s : State) : Host.Outcome State Fault Refusal := .next { s with dev := s.dev.rxDone n }
/-- ACQUISITION_TIMEOUT (R75). -/
def execAcquisitionTimeout (n : Lane) (s : State) : Host.Outcome State Fault Refusal := .next { s with dev := s.dev.acqTimeout n }
/-- OVERRANGE_WINDOW_END (R77). -/
def execOverrangeWindowEnd (n : Lane) (w : WindowCount) (s : State) : Host.Outcome State Fault Refusal :=
  .next { s with dev := s.dev.overrangeWindow n w }
/-- FREQUENCY_LOCK (R60). -/
def execFrequencyLock (n : Lane) (x : FreqSeen) (s : State) : Host.Outcome State Fault Refusal :=
  .next { s with dev := s.dev.freqLock n x.freq x.change }
/-- PHASE_LOCK (R60). -/
def execPhaseLock (x : PhaseSeen) (s : State) : Host.Outcome State Fault Refusal := .next { s with dev := s.dev.phaseLock x.lane x.mean }
/-- INNER_LOCK (R148): the counts of the trials made, the last apart. -/
def execInnerLock (n : Lane) (tried : List Nat) (zeros : Nat) (s : State) : Host.Outcome State Fault Refusal :=
  .next { s with dev := s.dev.innerLock n (tried ++ [zeros]) }
/-- FRAME_LOCK (R149): the counts of the trials made, the last apart. -/
def execFrameLock (n : Lane) (tried : List Nat) (zeros : Nat) (s : State) : Host.Outcome State Fault Refusal :=
  .next { s with dev := s.dev.frameLock n (tried ++ [zeros]) }
/-- LOCK_LOSS (R74). -/
def execLockLoss (n : Lane) (c : LockCause) (mean : Int) (s : State) : Host.Outcome State Fault Refusal :=
  .next { s with dev := s.dev.lockLoss n c mean }
/-- REACQ (R76). -/
def execReacq (n : Lane) (s : State) : Host.Outcome State Fault Refusal := .next { s with dev := s.dev.reacq n }
/-- ADAPT_HOLD (R63). -/
def execAdaptHold (n : Lane) (h : Bool) (s : State) : Host.Outcome State Fault Refusal := .next { s with dev := s.dev.adaptHold n h }
/-- GAIN_SET_WRITE (R82). -/
def execGainSetWrite (n : Lane) (g : BitVec 4) (s : State) : Host.Outcome State Fault Refusal :=
  .next { s with dev := s.dev.gainSetWrite n g.toNat }
/-- ADAPT_UPDATE (R61). -/
def execAdaptUpdate (n : Lane) (g : Gradients) (s : State) : Host.Outcome State Fault Refusal :=
  .next { s with dev := s.dev.adaptUpdate n g }
/-- INNER_CODEWORD (R66). -/
def execInnerCodeword (n : Lane) (hard : BitVec 128) (soft : List Int) (s : State) : Host.Outcome State Fault Refusal :=
  .next { s with dev := s.dev.innerCodeword n hard soft }

end Sys2Proof.Machine
end

