-- ==== Sys2Proof/Machine/Keccak.lean ====
section
/-! DEFINITION. The functions that the manual names of FIPS 202 and NIST SP 800-185: SHAKE256 and KMAC256, on bytes. PRESUMED: the manual cites
the standards and does not print them (log 156). -/

namespace Sys2Proof

/-- Round constants of Keccak-f[1600]. -/
def keccakConstants : List (BitVec 64) :=
  [0x0000000000000001, 0x0000000000008082, 0x800000000000808A, 0x8000000080008000, 0x000000000000808B, 0x0000000080000001,
   0x8000000080008081, 0x8000000000008009, 0x000000000000008A, 0x0000000000000088, 0x0000000080008009, 0x000000008000000A]
    ++ [0x000000008000808B, 0x800000000000008B, 0x8000000000008089, 0x8000000000008003, 0x8000000000008002, 0x8000000000000080,
        0x000000000000800A, 0x800000008000000A, 0x8000000080008081, 0x8000000000008080, 0x0000000080000001, 0x8000000080008008]

/-- Rotation of lane `x + 5 y`. -/
def keccakOffsets : List Nat := [0, 1, 62, 28, 27, 36, 44, 6, 55, 20, 3, 10, 43, 25, 39, 41, 45, 15, 21, 8, 18, 2, 61, 56, 14]

/-- One round on 25 lanes, lane `x + 5 y` at that index. -/
def keccakRound (a : List (BitVec 64)) (rc : BitVec 64) : List (BitVec 64) :=
  let at' (l : List (BitVec 64)) (i : Nat) : BitVec 64 := l.getD i 0
  let c := (List.range 5).map fun x => at' a x ^^^ at' a (x + 5) ^^^ at' a (x + 10) ^^^ at' a (x + 15) ^^^ at' a (x + 20)
  let t := (List.range 25).map fun i => at' a i ^^^ at' c ((i + 4) % 5) ^^^ (at' c ((i + 1) % 5)).rotateLeft 1
  let p := (List.range 25).map fun i =>
    let src := (i % 5 + 3 * (i / 5)) % 5 + 5 * (i % 5)
    (at' t src).rotateLeft (keccakOffsets.getD src 0)
  (List.range 25).map fun i =>
    let row := i / 5 * 5
    (at' p i ^^^ (~~~ at' p (row + (i + 1) % 5) &&& at' p (row + (i + 2) % 5))) ^^^ (if i = 0 then rc else 0)

/-- Keccak-f[1600]. -/
def keccakF (a : List (BitVec 64)) : List (BitVec 64) := keccakConstants.foldl keccakRound a

/-- Eight bytes as a lane, first byte lowest. -/
def laneOf : List Byte → BitVec 64
  | [] => 0
  | b :: bs => b.setWidth 64 ||| (laneOf bs <<< 8)

/-- Blocks of 136 bytes absorbed one by one. -/
def absorb : Nat → List (BitVec 64) → List Byte → List (BitVec 64)
  | 0, a, _ => a
  | k + 1, a, bs =>
    let block := (List.range 25).map fun i => if i < 17 then laneOf ((bs.drop (8 * i)).take 8) else 0
    absorb k (keccakF ((a.zip block).map fun x => x.1 ^^^ x.2)) (bs.drop 136)

/-- `n` blocks of 136 bytes squeezed. -/
def squeeze : Nat → List (BitVec 64) → List Byte
  | 0, _ => []
  | n + 1, a => ((a.take 17).flatMap fun (v : BitVec 64) => (List.range 8).map fun j => v.extractLsb' (8 * j) 8) ++ squeeze n (keccakF a)

/-- `n` bytes of the sponge at a capacity of 512 bits over bytes, with the bits that end its input. -/
def sponge (bs : List Byte) (suffix : Byte) (n : Nat) : List Byte :=
  let blocks := bs.length / 136 + 1
  let fill := List.replicate (136 * blocks - bs.length - 1) (0 : Byte)
  let padded := if fill.isEmpty then bs ++ [suffix ||| 0x80] else bs ++ suffix :: fill.dropLast ++ [0x80]
  (squeeze ((n + 135) / 136) (absorb blocks (List.replicate 25 0) padded)).take n

/-- SHAKE256 of bytes with `n` bytes of output. -/
def shake256 (bs : List Byte) (n : Nat) : List Byte := sponge bs 0x1F n

/-- A number in the fewest bytes, at least one, most significant first. -/
def numeral : Nat → Nat → List Byte
  | 0, _ => []
  | fuel + 1, v => (if v < 256 then [] else numeral fuel (v / 256)) ++ [BitVec.ofNat 8 v]

/-- left_encode. -/
def leftEncode (v : Nat) : List Byte := let l := numeral 8 v; BitVec.ofNat 8 l.length :: l

/-- right_encode. -/
def rightEncode (v : Nat) : List Byte := let l := numeral 8 v; l ++ [BitVec.ofNat 8 l.length]

/-- encode_string of a string of bytes. -/
def encodeString (bs : List Byte) : List Byte := leftEncode (8 * bs.length) ++ bs

/-- bytepad to blocks of 136 bytes. -/
def bytePad (bs : List Byte) : List Byte :=
  let l := leftEncode 136 ++ bs
  l ++ List.replicate ((136 - l.length % 136) % 136) 0

/-- The bytes of an ASCII string. -/
def ascii (s : String) : List Byte := s.toList.map fun c => BitVec.ofNat 8 c.toNat

/-- KMAC256 under a key over bytes, with `n` bytes of output and a customisation string. -/
def kmac256 (key bs : List Byte) (n : Nat) (custom : String) : List Byte :=
  sponge (bytePad (encodeString (ascii "KMAC") ++ encodeString (ascii custom)) ++ bytePad (encodeString key) ++ bs ++ rightEncode (8 * n)) 0x04 n

/-- The identity digest of a device with a given identity public key, as the 8 bytes that R572 reads as a little-endian integer. -/
def identityBytes (idPk : List Byte) : List Byte := shake256 (ascii "WKT3208 ID" ++ idPk) 8

/-- A key digest: SHAKE256 of the 64-byte public key (chapter 18, under Table 18-1). -/
def keyDigest (pk : List Byte) : List Byte := shake256 pk 32

/-- PAGE_DIGEST of one 4 KiB page of an image's body (Table 18-4). -/
def pageDigest (page : List Byte) : List Byte := shake256 page 32

/-- The image digest: SHAKE256 of the header and the digest table, the first 256 + 32 × BODY_LEN ÷ 4,096 bytes of a slot (Table 18-4). -/
def imageDigest (slot : List Byte) (bodyLen : Nat) : List Byte := shake256 (slot.take (256 + 32 * (bodyLen / 4096))) 64

end Sys2Proof
end

