-- ==== Sys2Proof/Machine/Wire.lean ====
section
/-! DEFINITION. Byte layouts: pilot control messages, fabric messages and their frames, SPI transfers, firmware slot headers, calibration records and island records as the bytes in which they travel and lie (R6, R128, R176, R251, R259, R282, R283, R326, R328, R506, R507, Tables 4-2, 5-4, 7-9, 9-1 to 9-4, 15-3, 15-4 and 18-4). The commands carry the same things as records; these functions say which bytes spell which record. -/

namespace Sys2Proof

open Sys2Proof.Machine

/-! ### Fields of bytes -/

/-- The low byte of a number. -/
def byteOf (n : Nat) : Byte := BitVec.ofNat 8 n

/-- A field of `n` bytes, least significant byte first (R6). -/
def leBytes : Nat → Nat → List Byte
  | 0, _ => []
  | n + 1, v => byteOf v :: leBytes n (v / 256)

/-- The number that bytes spell, least significant byte first (R6). -/
def leNat : List Byte → Nat
  | [] => 0
  | b :: bs => b.toNat + 256 * leNat bs

/-- The number that bytes spell, most significant byte first. -/
def beNat (bs : List Byte) : Nat := leNat bs.reverse

/-- A field of `n` bytes, most significant byte first. -/
def beBytes (n v : Nat) : List Byte := (leBytes n v).reverse

/-- The field of `n` bytes that stands at an offset. -/
def fieldAt (bs : List Byte) (off n : Nat) : Nat := leNat ((bs.drop off).take n)

/-- A signed byte. -/
def signedByte (v : Int) : Byte := byteOf (ofSigned 8 v)

/-- The value of a signed byte. -/
def byteValue (b : Byte) : Int := toSigned 8 b.toNat

/-! ### Pilot control messages (R128, R176, R251, R259) -/

/-- Carrier codes, carrier j in bits [3:0] of byte j ÷ 2 for even j, in bits [7:4] for odd j (Table 7-9). -/
def nibbles (codes : List Nat) : List Byte :=
  (List.range 32).map fun i => byteOf (codes.getD (2 * i) 0 % 16 + codes.getD (2 * i + 1) 0 % 16 * 16)

/-- The codes that 32 bytes hold. -/
def fromNibbles (bs : List Byte) : List Nat := bs.flatMap fun b => [b.toNat % 16, b.toNat / 16]

/-- The body of a message (Tables 4-2, 5-4, 7-9). -/
def bodyBytes : CtlBody → List Byte
  | .loadmap map preset pq rec codes => [byteOf map, byteOf preset, byteOf pq, byteOf rec] ++ nibbles codes
  | .loadreq preset => [byteOf preset]
  | .thermal level step hottest grade => [byteOf level, byteOf step, signedByte hottest, byteOf grade]
  | .cap b =>
    leBytes 2 b.part ++ [byteOf b.rev, byteOf b.version, b.capable, b.live, b.portMap] ++ leBytes 8 b.identity.toNat
  | .propose mask portMap => [mask, portMap]
  | .accept mask portMap => [mask, portMap]
  | .refuse reason => [byteOf reason]
  | .commit mask => [mask]
  | .exit mask reason => [mask, byteOf reason]
  | .state live locked => [live, locked]
  | .report lane epoch window dev => [byteOf lane, byteOf epoch] ++ leBytes 2 window ++ dev.map signedByte
  | .applied lane epoch => [byteOf lane, byteOf epoch]

/-- A control message as a payload: class, type, sequence number, body (R251). -/
def CtlMsg.bytes (m : CtlMsg) : List Byte := [byteOf m.cls, byteOf m.typ] ++ leBytes 2 m.seq.toNat ++ bodyBytes m.body

/-- The body that bytes spell for a class and type; `none` where its length is not the table's. -/
def bodyOf (cls typ : Nat) (bs : List Byte) : Option CtlBody :=
  let b (i : Nat) : Byte := bs.getD i 0
  let n (i : Nat) : Nat := (b i).toNat
  match cls, typ, bs.length with
  | 1, 1, 36 => some (.loadmap (n 0) (n 1) (n 2) (n 3) (fromNibbles (bs.drop 4)))
  | 1, 2, 1 => some (.loadreq (n 0))
  | 1, 3, 4 => some (.thermal (n 0) (n 1) (byteValue (b 2)) (n 3))
  | 2, 1, 15 =>
    some (.cap { part := fieldAt bs 0 2, rev := n 2, version := n 3, capable := b 4, live := b 5, portMap := b 6,
                 identity := BitVec.ofNat 64 (fieldAt bs 7 8) })
  | 2, 2, 2 => some (.propose (b 0) (b 1))
  | 2, 3, 2 => some (.accept (b 0) (b 1))
  | 2, 4, 1 => some (.refuse (n 0))
  | 2, 5, 1 => some (.commit (b 0))
  | 2, 6, 2 => some (.exit (b 0) (n 1))
  | 2, 7, 2 => some (.state (b 0) (b 1))
  | 3, 1, 68 => some (.report (n 0) (n 1) (fieldAt bs 2 2) ((bs.drop 4).map byteValue))
  | 3, 2, 2 => some (.applied (n 0) (n 1))
  | _, _, _ => none

/-- The control message that a payload spells. -/
def ctlOf (bs : List Byte) : Option CtlMsg :=
  let cls := fieldAt bs 0 1
  let typ := fieldAt bs 1 1
  if bs.length < 4 then none
  else (bodyOf cls typ (bs.drop 4)).map fun body => { cls := cls, typ := typ, seq := BitVec.ofNat 16 (fieldAt bs 2 2), body := body }

/-- The command that a control message delivered on a lane stands for: FRAME_RECEIVED counts the frame, and the message acts through the row
of its own. -/
def CtlMsg.command (m : CtlMsg) (n : Lane) : Instr :=
  match m.body with
  | .loadmap map preset pq rec codes => .loadmap n map preset pq rec codes
  | .loadreq preset => .loadreq n preset
  | .thermal level step hottest grade => .thermal n level step hottest grade
  | .cap b => .capMessage n b
  | .propose mask portMap => .proposeMessage n mask portMap
  | .accept mask portMap => .acceptMessage n mask portMap
  | .refuse reason => .refuseMessage n reason
  | .commit mask => .commitMessage n mask
  | .exit mask reason => .exitMessage n mask reason
  | .state live locked => .stateMessage n live locked
  -- both name the same fibre by its lane, whichever lane's pilot carries them (R176)
  | .report lane epoch window dev => .dpdReport (Fin.ofNat 8 lane) (BitVec.ofNat 8 epoch) window dev
  | .applied lane epoch => .dpdApplied (Fin.ofNat 8 lane) (BitVec.ofNat 8 epoch)

/-- The command that a received payload of classes 0x01 to 0x03 stands for. -/
def delivered (n : Lane) (bs : List Byte) : Option Instr := (ctlOf bs).map fun m => m.command n

/-! ### Fabric messages (R328, Tables 9-1 to 9-4) -/

/-- A route entry (Table 9-3). -/
def RouteEntry.bytes (e : RouteEntry) : List Byte :=
  [byteOf (e.level % 4 + if e.withdraw then 128 else 0), byteOf e.number, byteOf e.metric, byteOf e.path.length]
    ++ leBytes 8 e.ident.toNat ++ leBytes 8 e.lac.toNat ++ leBytes 2 e.count ++ leBytes 2 0 ++ e.path.map byteOf

/-- The route entries that a payload spells, at most `fuel` of them. -/
def routesOf : Nat → List Byte → List RouteEntry
  | 0, _ => []
  | fuel + 1, bs =>
    let len := fieldAt bs 3 1
    if bs.length < 24 + len then []
    else
      { level := fieldAt bs 0 1 % 4, withdraw := decide (128 ≤ fieldAt bs 0 1), number := fieldAt bs 1 1, metric := fieldAt bs 2 1,
        ident := BitVec.ofNat 64 (fieldAt bs 4 8), lac := BitVec.ofNat 64 (fieldAt bs 12 8), count := fieldAt bs 20 2,
        path := ((bs.drop 24).take len).map fun b => b.toNat } :: routesOf fuel (bs.drop (24 + len))

/-- An entry of the island record, or a delta entry (Table 9-4). -/
def RecEntry.bytes (e : RecEntry) : List Byte :=
  leBytes 8 e.identity.toNat ++ [byteOf e.cluster, byteOf (e.device % 64)] ++ leBytes 4 e.seen ++ leBytes 2 0

/-- The entries that bytes spell, at most `fuel` of them. -/
def entriesOf : Nat → List Byte → List RecEntry
  | 0, _ => []
  | fuel + 1, bs =>
    if bs.length < 16 then []
    else { identity := BitVec.ofNat 64 (fieldAt bs 0 8), cluster := fieldAt bs 8 1, device := fieldAt bs 9 1 % 64, seen := fieldAt bs 10 4 }
      :: entriesOf fuel (bs.drop 16)

/-- The island record: the fields of Table 9-4 in its order, then the entries (DESIGN CHOICE, log 148: the numbers of 3 and 8 bits take a byte
each). -/
def recordBytes (epoch realm island hours : Nat) (entries : List RecEntry) : List Byte :=
  leBytes 4 epoch ++ [byteOf realm, byteOf island] ++ leBytes 4 hours ++ leBytes 2 entries.length
    ++ leBytes 8 (entries.foldl (fun m e => min m e.identity.toNat) (2 ^ 64 - 1)) ++ entries.flatMap RecEntry.bytes

/-- The word at a byte offset. -/
def wordAt (bs : List Byte) (off : Nat) : Word := BitVec.ofNat 32 (fieldAt bs off 4)

/-- The descriptor that 32 bytes spell. -/
def descOf (bs : List Byte) : Desc :=
  let b (i : Nat) : Byte := bs.getD i 0
  let w (i : Nat) : Word := bytesWord (b (4 * i)) (b (4 * i + 1)) (b (4 * i + 2)) (b (4 * i + 3))
  { w0 := w 0, w1 := w 1, w2 := w 2, w3 := w 3, w4 := w 4, w5 := w 5, w6 := w 6, w7 := w 7 }

/-- The bytes of a descriptor (Table 8-1). -/
def Desc.bytes (c : Desc) : List Byte := c.words.flatMap wordBytes

/-- The type of a message (Table 9-2). -/
def fabType : FabBody → Nat
  | .beacon _ _ _ _ _ => 0x01
  | .route _ => 0x02
  | .hmAnnounce _ _ _ _ _ _ _ _ => 0x03
  | .addrReq _ _ _ => 0x04
  | .addrGrant _ _ _ => 0x05
  | .record _ _ _ _ _ _ => 0x06
  | .recordAck _ => 0x07
  | .recordPull _ => 0x08
  | .manifest _ _ _ => 0x10
  | .completion _ _ _ _ => 0x11
  | .data _ _ _ => 0x12
  | .resend _ _ => 0x13
  | .nonce _ _ => 0x14
  | .unreach _ _ => 0x15
  | .ack _ => 0x16

/-- The payload of a message (Table 9-2). A RECORD has fields for EPOCH and its entries alone: how it carries a new REALM, ISLAND or
HOURS, and that it is the whole record, the manual does not say, and no byte stands for them (log 148). -/
def payloadOf : FabBody → List Byte
  | .beacon heard qm hm epoch flags =>
    leBytes 8 heard.toNat ++ leBytes 8 qm.toNat ++ leBytes 8 hm.toNat ++ leBytes 4 epoch ++ [flags] ++ leBytes 3 0
  | .route es => es.flatMap RouteEntry.bytes
  | .hmAnnounce epoch m r hours low island realm auth =>
    leBytes 4 epoch ++ leBytes 2 m ++ leBytes 2 r ++ leBytes 4 hours ++ leBytes 8 low.toNat
      ++ [byteOf island, byteOf realm, byteOf auth.toNat, 0]
  | .addrReq who persisted kind =>
    leBytes 8 who.toNat ++ leBytes 4 (match persisted with | some a => a % 2 ^ 31 + 2 ^ 31 | none => 0) ++ [byteOf kind]
  | .addrGrant who addr epoch => leBytes 8 who.toNat ++ leBytes 4 addr ++ leBytes 4 epoch
  | .record epoch _ _ _ _ ds => leBytes 4 epoch ++ ds.flatMap RecEntry.bytes
  | .recordAck epoch => leBytes 4 epoch
  | .recordPull epoch => leBytes 4 epoch
  | .manifest d len crc => d.bytes ++ leBytes 4 len ++ wordBytes crc
  | .completion c0 c1 c2 c3 => [c0, c1, c2, c3].flatMap wordBytes
  | .data output offset bs => [byteOf output.toNat] ++ leBytes 3 0 ++ leBytes 4 offset ++ bs
  | .resend output offset => [byteOf output.toNat] ++ leBytes 3 0 ++ leBytes 4 offset
  | .nonce current answered => wordBytes current ++ leBytes 8 answered
  | .unreach dst reason => leBytes 4 dst ++ [byteOf reason]
  | .ack n => leBytes 4 n

/-- The payload that bytes spell for a type; `none` where they are too few or the type is none of Table 9-2. -/
def fabBodyOf (typ : Nat) (bs : List Byte) : Option FabBody :=
  let f (off n : Nat) : Nat := fieldAt bs off n
  let id (off : Nat) : BitVec 64 := BitVec.ofNat 64 (f off 8)
  let need (n : Nat) (b : FabBody) : Option FabBody := if bs.length < n then none else some b
  match typ with
  | 0x01 => need 32 (.beacon (id 0) (id 8) (id 16) (f 24 4) (bs.getD 28 0))
  | 0x02 => some (.route (routesOf bs.length bs))
  | 0x03 => need 24 (.hmAnnounce (f 0 4) (f 4 2) (f 6 2) (f 8 4) (id 12) (f 20 1) (f 21 1) (f 22 1 != 0))
  | 0x04 => need 13 (.addrReq (id 0) (if 2 ^ 31 ≤ f 8 4 then some (f 8 4 % 2 ^ 31) else none) (f 12 1))
  | 0x05 => need 16 (.addrGrant (id 0) (f 8 4) (f 12 4))
  | 0x06 => need 4 (.record (f 0 4) false none none none (entriesOf bs.length (bs.drop 4)))
  | 0x07 => need 4 (.recordAck (f 0 4))
  | 0x08 => need 4 (.recordPull (f 0 4))
  | 0x10 => need 40 (.manifest (descOf bs) (f 32 4) (wordAt bs 36))
  | 0x11 => need 16 (.completion (wordAt bs 0) (wordAt bs 4) (wordAt bs 8) (wordAt bs 12))
  | 0x12 => need 8 (.data (f 0 1 != 0) (f 4 4) (bs.drop 8))
  | 0x13 => need 8 (.resend (f 0 1 != 0) (f 4 4))
  | 0x14 => need 12 (.nonce (wordAt bs 0) (f 4 8))
  | 0x15 => need 5 (.unreach (f 0 4) (f 4 1))
  | 0x16 => need 4 (.ack (f 0 4))
  | _ => none

/-- A message ahead of its tag, with a value of HOPS: bytes 0 to 35 + LEN (Table 9-1). -/
def FabMsg.plain (m : FabMsg) (hops : Nat) : List Byte :=
  let p := payloadOf m.body
  [0x04, byteOf (fabType m.body), byteOf hops, byteOf (m.link.toNat + 2 * m.flood.toNat + 4 * m.noAddr.toNat)]
    ++ leBytes 4 (m.dst % 2 ^ 25) ++ leBytes 4 (m.src % 2 ^ 25) ++ leBytes 8 m.srcId.toNat ++ leBytes 8 m.seq ++ wordBytes m.dnonce
    ++ leBytes 2 m.rid ++ leBytes 2 p.length ++ p

/-- TAG of bytes under a key: 128 bits of KMAC256 with the customisation string of R329. -/
def tagOf (key : BitVec 256) (bs : List Byte) : BitVec 128 :=
  BitVec.ofNat 128 (leNat (kmac256 (leBytes 32 key.toNat) bs 16 "WKT3208 FABRIC"))

/-- The key that a kind 0x01 envelope wraps: WRAPPED XOR KMAC256(K, TARGET ‖ EPOCH, 256 bits, "WKT3208 REKEY") (R584). -/
def unwrapKey (k : BitVec 256) (bs : List Byte) : BitVec 256 :=
  BitVec.ofNat 256 (fieldAt bs 24 32) ^^^
    BitVec.ofNat 256 (leNat (kmac256 (leBytes 32 k.toNat) ((bs.drop 8).take 12) 32 "WKT3208 REKEY"))

/-- KEY_CHECK of an envelope stands for a recovered key: 64 bits of KMAC256(key, TARGET, "WKT3208 KEYCHECK") (R584). -/
def keyCheckOk (key : BitVec 256) (bs : List Byte) : Bool :=
  (bs.drop 56).take 8 == kmac256 (leBytes 32 key.toNat) ((bs.drop 8).take 8) 8 "WKT3208 KEYCHECK"

/-- TAG under a key: KMAC256 over those bytes with HOPS taken as 0 (R329). -/
def FabMsg.tag (m : FabMsg) (key : BitVec 256) : BitVec 128 := tagOf key (m.plain 0)

/-- The bytes of a message tagged under a key (Table 9-1). -/
def FabMsg.bytes (m : FabMsg) (key : BitVec 256) : List Byte := m.plain m.hops ++ leBytes 16 (m.tag key).toNat

/-- The message that bytes spell to a receiver that holds `keys`: its tag key is the one of them, if any, under which TAG verifies. -/
def fabMsgOf (keys : List (BitVec 256)) (bs : List Byte) : Option FabMsg :=
  let len := fieldAt bs 34 2
  if bs.length ≠ 52 + len || fieldAt bs 0 1 ≠ 0x04 || 1024 < len then none
  else
    (fabBodyOf (fieldAt bs 1 1) ((bs.drop 36).take len)).map fun body =>
      let flags := fieldAt bs 3 1
      let m : FabMsg := {
        hops := fieldAt bs 2 1, link := flags.testBit 0, flood := flags.testBit 1, noAddr := flags.testBit 2, dst := fieldAt bs 4 4 % 2 ^ 25,
        src := fieldAt bs 8 4 % 2 ^ 25, srcId := BitVec.ofNat 64 (fieldAt bs 12 8), seq := fieldAt bs 20 8, dnonce := wordAt bs 28,
        rid := fieldAt bs 32 2, body := body, tagKey := none }
      let plain := (bs.take (36 + len)).set 2 0
      { m with tagKey := keys.find? fun k => tagOf k plain == BitVec.ofNat 128 (fieldAt bs (36 + len) 16) }

/-! ### SPI transfers (R282, R283) -/

/-- The whole words of a run of data bytes, each least significant byte first; a partial word at the end is discarded (R283). -/
def wholeWords : List Byte → List Word
  | b0 :: b1 :: b2 :: b3 :: bs => bytesWord b0 b1 b2 b3 :: wholeWords bs
  | _ => []

/-- The command that the bytes on SPI_MOSI of one transfer spell, SPI_CSn low to high: 0x02 writes words, and 0x0B reads as many whole
words as follow its 16 dummy clocks (R282, R283). Another command byte, and a transfer without a whole word, spell none. -/
def spiCommand (bs : List Byte) : Option Instr :=
  let addr := BitVec.ofNat 24 (beNat ((bs.drop 1).take 3))
  match bs.head? with
  | some 0x02 => if (wholeWords (bs.drop 4)).isEmpty then none else some (.spiWrite addr (wholeWords (bs.drop 4)))
  | some 0x0B => if bs.length < 10 then none else some (.spiRead addr ((bs.length - 6) / 4))
  | _ => none

/-- The bytes on SPI_MISO for the words of a read: each least significant byte first. -/
def spiReply (ws : List Word) : List Byte := ws.flatMap wordBytes

/-! ### Firmware slot headers (Table 18-4) -/

/-- The commit word of every flash structure. -/
def commitWord : Nat := 0x5A3CC3A5

/-- What the first check of R574 finds in the header bytes of a slot: 0x02 when MAGIC, FORMAT, PART, REV, BODY_LEN, ENTRY or CODE_LIMIT is
invalid, else 0 (Tables 18-4, 18-5). -/
def headerReason (h : List Byte) : Nat :=
  let w (off : Nat) : Nat := fieldAt h off 4
  let ok := w 0 == 0x0F1A3208 && fieldAt h 4 2 == 1 && fieldAt h 6 2 == 0x3208 && fieldAt h 8 1 == 0xB0
    && w 0x10 % 4096 == 0 && decide (4096 ≤ w 0x10 ∧ w 0x10 ≤ 458752) && decide (w 0x14 < w 0x18) && w 0x18 % 64 == 0 && decide (w 0x18 ≤ w 0x10)
  if ok then 0 else 0x02

/-- Every page of a slot's body matches its PAGE_DIGEST entry (reason 0x03, Table 18-5). -/
def pagesOk (slot : List Byte) : Bool :=
  (List.range (fieldAt slot 0x10 4 / 4096)).all fun i =>
    pageDigest ((slot.drop (4096 + 4096 * i)).take 4096) == (slot.drop (256 + 32 * i)).take 32

/-- A slot as its header and trailer bytes show it; what the digests and signatures of its content give comes beside them. -/
def slotOf (header trailer : List Byte) (content : Nat) (vk1 : Bool) (cosigned : List Nat) : FwSlot :=
  { commit := fieldAt trailer 0xFFC 4 == commitWord, seq := fieldAt trailer 0xFF8 4, svn := fieldAt header 9 1, version := wordAt header 0xC,
    codeLimit := fieldAt header 0x18 4, reason := if headerReason header = 0 then content else headerReason header, vk1 := vk1,
    cosigned := if fieldAt header 10 1 = 1 then cosigned else [], written := 0 }

/-! ### Calibration records (R506, R507, Tables 15-3 and 15-4) -/

/-- A section: ID, LANE, LEN and its data (R507). -/
def sectionBytes (id lane : Nat) (bs : List Byte) : List Byte := [byteOf id, byteOf lane] ++ leBytes 2 bs.length ++ bs

/-- Registers at addresses, as words of a record; one that it does not hold is 0. -/
def CalRec.wordsAt (c : CalRec) (l : List Nat) : List Byte :=
  l.flatMap fun a => wordBytes (match c.words.find? fun w => w.1 == a with | some w => w.2 | none => 0)

/-- The sections of a record, in the order of Table 15-4. The manual gives no layout inside sections 0x02, 0x07 and 0x0A: free. -/
def CalRec.sections (c : CalRec) : List (List Byte) :=
  (List.range 8).map (fun n => sectionBytes 0x01 n (c.wordsAt ((List.range 64).map fun j => (F.LRX_ADC_TRIM n j).addr)))
    ++ (List.range 8).map (fun n => sectionBytes 0x02 n (Config.calLayout 0x02
        (c.wordsAt [(F.LRX_TIA_TRIM n).addr, (F.LTX_DRV_TRIM n).addr, (F.LRX_PLL_CAL n).addr, (F.LTX_PLL_CAL n).addr])))
    ++ c.dpd.map (fun x => sectionBytes 0x03 x.1 (byteOf x.2.1 :: x.2.2.flatMap fun v => leBytes 2 (ofSigned 16 v)))
    ++ (List.range 8).map (fun n => sectionBytes 0x04 n (c.wordsAt ((List.range 16).map fun e => (F.LTX_PWR_TBL n e).addr)))
    ++ [sectionBytes 0x05 0xFF (c.wordsAt ((List.range 128).map fun i => 0x48100 + 4 * i)),
        sectionBytes 0x06 0xFF (c.wordsAt ((List.range 24).flatMap fun k => [(F.MON_OFS k).addr, (F.MON_GAIN k).addr])),
        sectionBytes 0x07 0xFF (Config.calLayout 0x07 (c.slopes.flatMap fun s => byteOf s.1 :: leBytes 4 (ofSigned 32 s.2.1) ++ leBytes 4 (ofSigned 32 s.2.2))),
        sectionBytes 0x08 0xFF c.page02,
        sectionBytes 0x09 0xFF (leBytes 2 c.kEo ++ leBytes 2 c.kEr),
        sectionBytes 0x0A 0xFF (Config.calLayout 0x0A [byteOf c.floor])]

/-- Header and sections of a record: what its CRC-32 covers (Table 15-3). -/
def CalRec.bytes (c : CalRec) (grade : Nat) : List Byte :=
  let body := c.sections.flatten
  leBytes 4 0x0C0A3208 ++ leBytes 2 1 ++ leBytes 2 c.sections.length ++ leBytes 4 c.seq ++ leBytes 4 body.length ++ [0xB0, byteOf grade]
    ++ leBytes 2 0 ++ leBytes 8 Config.identity.toNat ++ leBytes 4 0 ++ body

/-- The sections that bytes spell as (ID, LANE, data), at most `fuel` of them. -/
def sectionsOf : Nat → List Byte → List (Nat × Nat × List Byte)
  | 0, _ => []
  | fuel + 1, bs =>
    let len := fieldAt bs 2 2
    if bs.length < 4 + len then []
    else (fieldAt bs 0 1, fieldAt bs 1 1, (bs.drop 4).take len) :: sectionsOf fuel (bs.drop (4 + len))

/-- The header of a slot names a record of this device's (R509), its CRC and commit word aside. -/
def calHeaderOk (bs : List Byte) : Bool :=
  fieldAt bs 0 4 == 0x0C0A3208 && fieldAt bs 4 2 == 1 && fieldAt bs 16 1 == 0xB0 && fieldAt bs 20 8 == Config.identity.toNat

/-- The flash offset of slot 0 or 1 of the calibration record, and of its commit word (R508). -/
def calSlotAt (slot : Nat) : Nat := 0xFE0000 + 0x10000 * slot

end Sys2Proof
end

