-- ==== Sys2Proof/Machine/PilotQueue.lean ====
section
/-! DEFINITION. What the pilot transmitter holds and sends: frame lengths and headers, the control queue and the preset in force (chapter 7). -/

namespace Sys2Proof.Machine

/-- One bit through the reflected CRC-16 of R246. -/
def crc16Bit (c : Nat) (b : Bool) : Nat :=
  let low := (c % 2 == 1) != b
  if low then (c / 2) ^^^ 0x8408 else c / 2

/-- HCRC over bits 0 to 15 of a header (R246). -/
def headerCrc (v : Nat) : Nat := ((List.range 16).foldl (fun c i => crc16Bit c (v.testBit i)) 0xFFFF) ^^^ 0xFFFF

/-- The header word of a frame of `len` payload bytes under a map (Table 7-5). -/
def headerWord (len map : Nat) : Word :=
  let low := len % 2048 + (map % 16) * 2048
  BitVec.ofNat 32 (low + headerCrc low * 65536)

/-- Payload bytes of a control message (R251, Tables 4-2, 5-4, 7-9). -/
def ctlLen (b : CtlBody) : Nat := 4 + (bodyBytes b).length

/-- Bytes of a fabric message (Table 9-1). -/
def fabLen (m : FabMsg) : Nat := 52 + (payloadOf m.body).length

/-- Payload bytes of a frame. -/
def frameLen : PltFrame → Nat
  | .ctl m => ctlLen m.body
  | .fab m => fabLen m

/-- A frame is dropped from a lane's transmit side (R252, R253). -/
def Device.txqDrop (d : Device) (n : Lane) : Device := (d.bump (F.PLT_ERR_C_TXQ_DROP n)).raise (F.PLT_INT_STATUS_DROP n)

/-- Read the frame at a place of the pilot and fabric buffers: false when a block with bytes of it is poisoned or uncorrectable (Table 16-3). -/
def Device.bufferRead (d : Device) (unit place : Nat) : Device × Bool :=
  d.touchWhere fun b => (b / 512 == 46 || b / 512 == 47) && Config.bufferHolds unit place b

/-- The class 0x01 to 0x03 queue with a message added: a full queue gives up the oldest message of its class and type; none
such, and the message itself is dropped (R252). -/
def queueAdd (q : List CtlMsg) (m : CtlMsg) (front : Bool) : Option (List CtlMsg) :=
  let put (l : List CtlMsg) : List CtlMsg := if front then m :: l else l ++ [m]
  if q.length < 8 then some (put q)
  else match q.findIdx? (fun x => x.cls == m.cls && x.typ == m.typ) with
    | some i => some (put (q.eraseIdx i))
    | none => none

/-- Queue a control message. -/
def Device.queueCtl (d : Device) (n : Lane) (cls typ : Nat) (body : CtlBody) (front : Bool := false) : Device :=
  match queueAdd (d.plt.get n).ctl { cls := cls, typ := typ, seq := 0, body := body } front with
  | some q => d.modPlt n fun p => { p with ctl := q }
  | none => d.txqDrop n

/-- The pilot of the lane is in sync. -/
def Device.pilotSync (d : Device) (n : Lane) : Bool := d.flag (F.PLT_STATUS_SYNC n)

/-- The recommendation in force (R255, R256). -/
def Device.recommended (d : Device) (n : Lane) : Nat :=
  if d.flag (F.PLT_CTRL_PRESET_AUTO n) then
    (if (d.plt.get n).recValid && d.pilotSync n then (d.plt.get n).recPreset else 0)
  else d.get (F.PLT_CTRL_PRESET n)

/-- The effective transmit preset (R255). -/
def Device.preset (d : Device) (n : Lane) : Nat :=
  min (min (d.recommended n) (d.get (F.PLT_CTRL_PRESET_MAX n))) (if d.enf = 2 then 0 else 3)

/-- The newest map received for a preset, else map 0 (R261). -/
def Device.mapFor (d : Device) (n : Lane) (preset : Nat) : Nat :=
  match (d.plt.get n).maps.find? (fun m => m.preset == preset) with
  | some m => if preset = 0 then 0 else m.ident
  | none => 0

/-- A change of effective preset or map takes effect; a new preset's first frame is a LOADREQ (R257). -/
def Device.takePreset (d : Device) (n : Lane) : Device :=
  let p := d.preset n
  let d1 := d.set (F.PLT_STATUS_TX_MAP n) (d.mapFor n p)
  if d1.get (F.PLT_STATUS_TX_PRESET n) = p then d1
  else ((d1.set (F.PLT_STATUS_TX_PRESET n) p).raise (F.PLT_INT_STATUS_PRESET_CHG n)).queueCtl n 1 2 (.loadreq p) true

/-- The pilot transmitter runs exactly while its waveform has an injection point: starting, it forgets any recommendation (R256)
and owes an idle group (R250). -/
def Device.pilotTx (d : Device) (n : Lane) : Device :=
  let on := d.flag (F.LTX_STATUS_PILOT_LF n) || d.flag (F.LTX_STATUS_PILOT_LVL n)
  if on == (d.plt.get n).txOn then d
  else d.modPlt n fun p => { p with txOn := on, recValid := false, idled := false, sending := none }

end Sys2Proof.Machine
end

