-- ==== Sys2Proof/Machine/LineTx.lean ====
section
/-! DEFINITION. The line transmit path: half states, boundaries, pre-distortion and its training, the driver, TX disable and the pilot's injection point (chapter 5), with the meanings of its commands. -/

namespace Sys2Proof.Machine

/-! ### Pilot injection (R188, R189, Table 5-6) -/

/-- The injection point now: 0 none, 1 low-frequency path, 2 levels. -/
def Device.inject (d : Device) (n : Lane) : Nat :=
  if d.flag (F.LTX_STATUS_PILOT_LVL n) then 2 else if d.flag (F.LTX_STATUS_PILOT_LF n) then 1 else 0

/-- Set the injection point; the pilot transmitter follows. -/
def Device.setInject (d : Device) (n : Lane) (v : Nat) : Device :=
  (((d.setB (F.LTX_STATUS_PILOT_LF n) (v == 1)).setB (F.LTX_STATUS_PILOT_LVL n) (v == 2)).modTx n
    fun t => { t with pilotDue := none }).pilotTx n

/-- The injection point that Table 5-6 asks for, the later row deciding. DESIGN CHOICE: the row of the safe state gives every lane whose half is
not OFF its pilot on the low-frequency path, also where a TX disable had stopped it; a half in OFF has none to keep (log entry 138). -/
def Device.injectAim (d : Device) (n : Lane) : Nat :=
  let st := d.get (F.LTX_STATUS_STATE n)
  let tr := d.get (F.LTX_STATUS_TRANS n)
  let up := if d.inject n = 0 then 0 else 1
  if d.flag (F.LTX_STATUS_SQ_SHUTDOWN n) then 0
  else if d.flag (F.LTX_STATUS_SQ_SAFE n) then (if d.get F.BIST_STATUS_NR_FAIL % 2 = 1 then 0 else if st = 0 then up else 1)
  else if d.flag (F.LTX_STATUS_SQ_DIS n) && !d.flag (F.LTX_CTRL_PILOT_KEEP n) then 0
  else if d.flag (F.LTX_STATUS_LIVE n) then 2
  else if st = 4 then (if tr = 0 then 0 else 1)
  else if st = 3 ∧ tr = 4 then 1
  else if st = 3 ∧ tr = 2 then 0
  else if (d.tx.get n).viaPilot then 1
  else if d.flag (F.LTX_STATUS_SQ_DIS n) && st == 3 then up
  else 0

/-- Bring the injection point to its aim: a start or a stop at once, a move between the two at the next pilot symbol boundary. -/
def Device.aimInject (d : Device) (n : Lane) : Device :=
  let a := d.injectAim n
  if a = d.inject n then d.modTx n fun t => { t with pilotDue := none }
  else if a ≠ 0 ∧ d.inject n ≠ 0 then d.modTx n fun t => { t with pilotDue := some a }
  else d.setInject n a

/-- A pilot symbol boundary: a due move is made (R189). -/
def Device.injectMove (d : Device) (n : Lane) : Device :=
  match (d.tx.get n).pilotDue with
  | some a => d.setInject n a
  | none => d

/-! ### Manifests -/

/-- A TX half has reached what a LANE_STATE manifest asks: TXON counts when the output is live (R194). -/
def Device.txReached (d : Device) (n : Lane) (g : LaneGoal) : Bool :=
  match g.tx with
  | none => false
  | some v => d.get (F.LTX_STATUS_TRANS n) == 7 && (if v = 3 then d.flag (F.LTX_STATUS_LIVE n) else d.get (F.LTX_STATUS_STATE n) == v)

/-- Let the LANE_STATE manifests see the TX half. -/
def Device.txAdvance (d : Device) (n : Lane) : Device := d.advanceLanes n fun g => (d.txReached n g, false)

/-! ### Pre-distortion (R171 to R182) -/

/-- Show the table in its registers. -/
def Device.showDpd (d : Device) (n : Lane) : Device :=
  (List.range 64).foldl (fun (s : Device) i =>
    s.setReg (F.LTX_DPD_LUT n i).addr (BitVec.ofNat 32 (ofSigned 10 ((s.tx.get n).dpd.getD i 0)))) d

/-- Put a table in force. -/
def Device.setDpd (d : Device) (n : Lane) (t : List Int) : Device := (d.modTx n fun x => { x with dpd := t }).showDpd n

/-- SRC asks for automatic loading and training; 0b10 and 0b11 act as fixed (Table 5-12). -/
def Device.dpdAuto (d : Device) (n : Lane) : Bool := d.get (F.LTX_DPD_CTRL_SRC n) == 0

/-- The table load as the half passes through SYNTH (R174): that of the rate which the pass brings, where the RX half has not taken it yet. -/
def Device.dpdLoad (d : Device) (n : Lane) : Device :=
  if d.dpdAuto n then
    match (d.tx.get n).dpdRecord.find? (fun p => p.1 == (d.rx.get n).newRate.getD (d.rate n)) with
    | some p => (d.setDpd n p.2).modTx n fun t => { t with dpdWrites := [], dpdUpdate := none }
    | none => d
  else d

/-- One entry under an update (R180): −round(2.25 × dev ÷ 2^MU), saturated; −128 means no data. -/
def dpdEntry (old dev : Int) (mu : Nat) : Int × Bool :=
  if dev = -128 then (old, false)
  else
    let v := old - roundDiv (9 * dev) (4 * 2 ^ mu)
    (clampInt (-512) 511 v, v < -512 || 511 < v)

/-- The conditions of R179 and R182 besides the epoch. -/
def Device.mayTrain (d : Device) (n : Lane) : Bool :=
  d.dpdAuto n && d.native n && d.get (F.LTX_STATUS_STATE n) == 3 && !d.flag (F.LTX_DPD_CTRL_FREEZE n)
    && !d.flag (F.LTX_STATUS_RAMP n) && (d.tx.get n).periodOver && (d.tx.get n).dpdUpdate.isNone && d.pilotSync n
    && !(d.tx.get n).resumeDue

/-- A held report is used once the conditions hold; stale by then, it is dropped and counted (R179). -/
def Device.tryHeld (d : Device) (n : Lane) : Device :=
  match (d.tx.get n).held with
  | none => d
  | some (e, dev) =>
    if !d.mayTrain n then d
    else if e ≠ d.get (F.LTX_DPD_STATUS_EPOCH n) then
      (d.bump (F.LTX_DPD_EVENTS_DPD_STALE n)).modTx n fun t => { t with held := none }
    else
      (d.set (F.LTX_DPD_STATUS_NODATA n) (dev.filter (· = -128)).length).modTx n
        fun t => { t with held := none, dpdUpdate := some dev }

/-- A REPORT is received (R179). Training that a loss of sync paused resumes with the first that carries the current epoch (R182). -/
def Device.dpdReport (d : Device) (n : Lane) (epoch : Nat) (dev : List Int) : Device :=
  let d1 := d.set (F.LTX_DPD_STATUS_LAST_RPT_EPOCH n) epoch
  if epoch ≠ d1.get (F.LTX_DPD_STATUS_EPOCH n) then d1.bump (F.LTX_DPD_EVENTS_DPD_STALE n)
  else (d1.modTx n fun t => { t with held := some (epoch, dev), resumeDue := t.resumeDue && !d.pilotSync n }).tryHeld n

/-- DPD_PERIOD since the last update has passed (R179). -/
def Device.dpdPeriod (d : Device) (n : Lane) : Device := (d.modTx n fun t => { t with periodOver := true }).tryHeld n

/-- EPOCH advances and APPLIED is sent (R181). -/
def Device.epochUp (d : Device) (n : Lane) : Device :=
  let d1 := d.bump (F.LTX_DPD_STATUS_EPOCH n)
  d1.queueCtl n 3 2 (.applied n (d1.get (F.LTX_DPD_STATUS_EPOCH n)))

/-- The waiting register writes and update of the table; answers whether it counts as a change (R175, R180, R181). While the pilot has no sync,
and until training resumes, the table is frozen (R28, R182). DESIGN CHOICE: an update accepted before waits meanwhile, and register writes go on
taking effect under R175 (log entry 139). -/
def Device.dpdBoundary (d : Device) (n : Lane) : Device × Bool :=
  let t := d.tx.get n
  let w := t.dpdWrites.foldl (fun (l : List Int) p => l.set p.1 p.2) t.dpd
  match if d.pilotSync n && !t.resumeDue then t.dpdUpdate else none with
  | none => if t.dpdWrites.isEmpty then (d, false)
    else ((d.setDpd n w).modTx n fun t => { t with dpdWrites := [] }, w != t.dpd)
  | some dev =>
    let mu := d.get (F.LTX_DPD_CTRL_DPD_MU n)
    let es := (List.range 64).map fun i => dpdEntry (w.getD i 0) (dev.getD i (-128)) mu
    let d1 := (d.setDpd n (es.map (·.1))).modTx n fun t => { t with
      dpdWrites := [], dpdUpdate := none, periodOver := d.get (F.LTX_DPD_CTRL_DPD_PERIOD n) == 0 }
    ((d1.bump (F.LTX_DPD_EVENTS_UPDATES n)).raiseIf (es.any (·.2)) (F.LTX_INT_STATUS_DPD_SAT n), true)

/-- A deviation as reported (R177): round(256 × mean ÷ Δ), the mean of z − ref over a pattern's occurrences in the window and Δ a third of the
outer level distance, clamped; −128 for a pattern seen fewer than 4,096 times. Where the levels do not rise the manual states no result, and the
deviation is free. -/
def deviation (seen : Int × Nat) (l0 l3 : Int) (free : Word) : Int :=
  if seen.2 < 4096 then -128
  else if l3 ≤ l0 then toSigned 8 (free.toNat % 256)
  else clampInt (-127) 127 (roundDiv (768 * seen.1) (seen.2 * (l3 - l0).toNat))

/-- A measurement window of 2^24 symbols completes (R177, R178): reported once for its epoch. `seen` gives for each pattern the sum of z − ref and
the number of its occurrences. -/
def Device.dpdWindow (d : Device) (n : Lane) (seen : List (Int × Nat)) : Device :=
  if d.native n && d.get (F.LRX_STATUS_ACQ_STEP n) == 0xA && (d.tx.get n).measuring then
    let l0 := toSigned 20 (d.get (F.LRX_LEVEL n 0))
    let l3 := toSigned 20 (d.get (F.LRX_LEVEL n 3))
    let dev := (List.range 64).map fun i => deviation (seen.getD i (0, 0)) l0 l3 (Config.freeWord (d.draws + i))
    let d1 := ((d.draw 64)).modTx n fun t => { t with measuring := false }
    d1.queueCtl n 3 1 (.report n (d.tx.get n).farEpoch 256 dev)
  else d

/-- An APPLIED is received: the window in progress is discarded and a new one starts (R178). -/
def Device.dpdApplied (d : Device) (n : Lane) (epoch : Nat) : Device :=
  d.modTx n fun t => { t with farEpoch := epoch, measuring := true }

/-! ### Driver (R184 to R186) -/

/-- The in-force power table entry. -/
def Device.powerEntry (d : Device) (n : Lane) : Nat × Nat :=
  let e := d.get (F.LTX_CFG_POWER_IDX n)
  (d.get (F.LTX_PWR_TBL_SWING n e), d.get (F.LTX_PWR_TBL_PEAK n e))

/-- While the lane is live a change of the in-force entry starts or redirects a ramp (R185). -/
def Device.rampCheck (d : Device) (n : Lane) : Device :=
  if d.flag (F.LTX_STATUS_LIVE n) then
    (d.setB (F.LTX_STATUS_RAMP n) ((d.tx.get n).swing != (d.powerEntry n).1)).modTx n fun t => { t with peakDue := true }
  else d

/-- One boundary of a ramp; answers whether the swing code changed. -/
def Device.rampStep (d : Device) (n : Lane) : Device × Bool :=
  let (target, peak) := d.powerEntry n
  let t := d.tx.get n
  let d1 := if t.peakDue then d.modTx n fun t => { t with peak := peak, peakDue := false } else d
  if !d1.flag (F.LTX_STATUS_RAMP n) then (d1, false)
  else
    let s := if t.swing < target then t.swing + 1 else if target < t.swing then t.swing - 1 else t.swing
    ((d1.modTx n fun t => { t with swing := s }).setB (F.LTX_STATUS_RAMP n) (s != target), s != t.swing)

/-! ### Boundaries (R167) -/

/-- The data swing ends (Table 5-5, R197). -/
def Device.dataEnd (d : Device) (n : Lane) : Device :=
  let on := d.get (F.LTX_STATUS_STATE n) == 3 && d.get (F.LTX_STATUS_TRANS n) == 7
  let d1 := ((d.set (F.LTX_STATUS_LIVE n) 0).set (F.LTX_STATUS_RAMP n) 0).modTx n fun t => { t with
    ending := false, heading := on, peakDue := false }
  d1.aimInject n

/-- The output goes live with the in-force entry (R186, R193). -/
def Device.goLive (d : Device) (n : Lane) : Device :=
  let (s, p) := d.powerEntry n
  let d1 := (d.set (F.LTX_STATUS_LIVE n) 1).modTx n fun t => { t with
    heading := false, viaPilot := false, swing := s, peak := p, peakDue := false }
  ((d1.raise (F.LTX_INT_STATUS_LIVE n)).aimInject n).txAdvance n

/-- The lane's TX staged group goes live; answers whether a tap changed. -/
def Device.ltxCommit (d : Device) (n : Lane) : Device × Bool :=
  match d.pendingCommit (0x0300 + n) with
  | some c =>
    let before := (List.range 7).map fun j => d.lget (F.LTX_FFE_TAP n j)
    let d1 := d.makeLive c.words
    (d1.endCommit c stOk, before != (List.range 7).map fun j => d1.lget (F.LTX_FFE_TAP n j))
  | none => (d, false)

/-- BYPASS takes effect; answers whether it changed. -/
def Device.bypassBoundary (d : Device) (n : Lane) : Device × Bool :=
  match (d.tx.get n).bypassDue with
  | some v => (d.modTx n fun t => { t with bypass := v, bypassDue := none }, v != (d.tx.get n).bypass)
  | none => (d, false)

/-- Everything due at a boundary takes effect, and one epoch counts it on a native lane in TXON (R170, R173, R175, R181). `swung` says that
the swing code has changed at this boundary already. -/
def Device.txChanges (d : Device) (n : Lane) (boundary : Bool) (swung : Bool := false) : Device :=
  let (d1, c1) := d.ltxCommit n
  let (d2, c2) := d1.dpdBoundary n
  let (d3, c3) := d2.bypassBoundary n
  let (d4, c4) := if boundary then d3.rampStep n else (d3, false)
  if boundary && d4.native n && (swung || c1 || c2 || c3 || c4) then d4.epochUp n else d4

/-- DAC samples that saturated since the last boundary are counted (R172). -/
def Device.txSaturated (d : Device) (n : Lane) (k : Nat) : Device :=
  (d.count (F.LTX_TX_SAT n) k).raiseIf (k != 0) (F.LTX_INT_STATUS_TX_SAT n)

/-- A TX boundary (R167). -/
def Device.txBoundary (d : Device) (n : Lane) : Device :=
  if d.get (F.LTX_STATUS_STATE n) ≠ 3 then d
  else
    let t := d.tx.get n
    let d1 :=
      if t.ending then d.dataEnd n
      else if t.heading && d.get (F.LTX_STATUS_TRANS n) == 7 then
        if d.flag (F.LTX_STATUS_SQ_SAFE n) || d.flag (F.LTX_STATUS_SQ_SHUTDOWN n) then d
        else if d.flag (F.LTX_STATUS_SQ_DIS n) then d.advanceLanes n fun g => (g.tx == some 3, false)
        else if t.biasWait ≤ d.now then d.goLive n
        else d
      else d
    let d2 := (d1.txChanges n true ((d1.tx.get n).swing != t.swing)).tryHeld n
    d2.pllTrack (F.LTX_PLL_CAL_FINE n) (F.LTX_STATUS_PLL_BAND_LIMIT n) (F.LTX_INT_STATUS_PLL_BAND_LIMIT n)

/-! ### Half states (R190, R191) -/

/-- A transition of an idle half towards `v` starts. -/
def Device.txStart (d : Device) (n : Lane) (v : Nat) : Device :=
  let c := d.get (F.LTX_STATUS_STATE n)
  if c = v then d.set (F.LTX_STATUS_PENDING n) 7
  else if d.reloadWait c then d.set (F.LTX_STATUS_PENDING n) v
  else
    let t := nextRx c v
    let d1 := (d.set (F.LTX_STATUS_TRANS n) t).set (F.LTX_STATUS_PENDING n) (if t = v then 7 else v)
    let d2 := if c = 3 then d1.modTx n fun x => { x with ending := d.flag (F.LTX_STATUS_LIVE n), heading := false } else d1
    if c = 4 ∧ t = 0 then d2.aimInject n else d2

/-- A request to the TX half (R191). -/
def Device.txRequest (d : Device) (n : Lane) (v : Nat) : Device :=
  let d1 := d.supersedeLane n (some v) none
  if d1.get (F.LTX_STATUS_TRANS n) = 7 then (d1.txStart n v).txAdvance n
  else d1.set (F.LTX_STATUS_PENDING n) (if d1.get (F.LTX_STATUS_TRANS n) = v then 7 else v)

/-- A request by register or manifest, recorded in STATE_REQ. -/
def Device.txAsk (d : Device) (n : Lane) (v : Nat) : Device :=
  let d1 := d.set (F.LTX_CTRL_STATE_REQ n) v
  if d1.laneHeld (v = 1 ∨ v = 2 ∨ v = 3) then d1 else d1.txRequest n v

/-- A write of STATE_REQ: 5 to 7 are ignored, and the value the field holds makes no request. -/
def Device.txWrite (d : Device) (n : Lane) (v : Nat) : Device :=
  if 4 < v ∨ v = d.get (F.LTX_CTRL_STATE_REQ n) then d else d.txAsk n v

/-- A transition of the TX half completes (R190), is reported, and the queued request starts. -/
def Device.txDone (d : Device) (n : Lane) : Device :=
  let t := d.get (F.LTX_STATUS_TRANS n)
  -- TXON asks for the EGR clock, which runs while a TX half is enabled (Tables 5-5 and 11-2)
  if t = 7 ∨ (t = 2 ∧ d.get (F.LTX_STATUS_STATE n) = 1 ∧ d.opShort) ∨ (t = 3 ∧ d.domRuns 10 = false) then d
  else
    let old := d.get (F.LTX_STATUS_STATE n)
    let d0 := if old = 3 ∧ (d.tx.get n).ending then d.dataEnd n else d
    let d1 := (d0.set (F.LTX_STATUS_STATE n) t).set (F.LTX_STATUS_TRANS n) 7
    let pll := decide (t = 2 ∨ t = 3)
    let d2 := (d1.setB (F.LTX_STATUS_PLL_LOCK n) pll).setB (F.LTX_STATUS_PLL_CAL n) pll
    let d3 :=
      if t = 2 then
        let e :=
          if old = 1 then
            let x := ((d2.set (F.LTX_PLL_CAL_BAND n) (Config.pllBand d2.draws).toNat).set (F.LTX_PLL_CAL_FINE n) 64).set
              (F.LTX_STATUS_PLL_BAND_LIMIT n) 0
            (x.draw)
          else d2
        e.dpdLoad n
      else d2
    let via := if t = 1 ∧ old = 4 then true else if t = 0 ∨ t = 4 then false else if old = 3 then false else (d.tx.get n).viaPilot
    let d4 := d3.modTx n fun x => { x with viaPilot := via, heading := decide (t = 3), ending := false }
    let d5 := if old = 3 then d4.txChanges n false else d4
    let d6 := d5.aimInject n
    let d7 := if t = 4 then d6.injectMove n else d6
    let again := decide (t = 2) && (d7.tx.get n).reTxon
    let d8 := if again then (d7.set (F.LTX_STATUS_PENDING n) 3).modTx n fun x => { x with reTxon := false } else d7
    let p := d8.get (F.LTX_STATUS_PENDING n)
    if p = 7 then (d8.raise (F.LTX_INT_STATUS_STATE_DONE n)).txAdvance n
    else (d8.txAdvance n).txStart n p

/-- A request for TXON whose output is not live after 5 ms (R194). -/
def Device.txonTimeout (d : Device) (n : Lane) : Device :=
  let st := d.get (F.LTX_STATUS_STATE n)
  let heads := d.get (F.LTX_STATUS_PENDING n) == 3 || d.get (F.LTX_STATUS_TRANS n) == 3
    || (st == 3 && d.get (F.LTX_STATUS_TRANS n) == 7)
  if heads && !d.flag (F.LTX_STATUS_LIVE n) then
    (d.raise (F.LTX_INT_STATUS_TIMEOUT n)).settle
      (fun g => match g with | .lane ps => ps.any fun p => p.lane == n && p.tx == some 3 | _ => false) stTimeout (d.laneResult n)
  else d

/-! ### TX disable (R195, R197, R198) -/

/-- A TX disable of R197 holds. -/
def Device.txDisabled (d : Device) (n : Lane) : Bool :=
  (d.txdisLow && d.flag (F.LTX_CTRL_PIN_EN n)) || d.flag (F.LTX_CTRL_TX_DIS n) || (d.tx.get n).cmisDis

/-- A disable has started or ended: the data swing ends at the next boundary; afterwards the lane goes live again, 10 µs later
where the bias channel was cleared. -/
def Device.disUpdate (d : Device) (n : Lane) : Device :=
  let act := d.txDisabled n
  if act == d.flag (F.LTX_STATUS_SQ_DIS n) then d
  else if act then
    let d1 := (d.set (F.LTX_STATUS_SQ_DIS n) 1).raise (F.LTX_INT_STATUS_SQUELCH n)
    if d1.flag (F.LTX_STATUS_LIVE n) then d1.modTx n fun t => { t with ending := true } else d1.aimInject n
  else
    let d1 := (d.set (F.LTX_STATUS_SQ_DIS n) 0).modTx n fun t => { t with
      biasWait := if d.flag (F.LTX_CTRL_DIS_BIAS n) then d.now + 10000 else 0 }
    d1.aimInject n

/-- TXDISn changes level: the front-end die squelches the lanes of its own copy of PIN_EN over its own path, so their swing ends now. -/
def Device.txdisPin (d : Device) (low : Bool) : Device :=
  let d1 := (d.modTxdisLow fun _ => low)
  lanes.foldl (fun (s : Device) (n : Lane) =>
    let e := s.disUpdate n
    if low && (e.tx.get n).pinCopy && e.flag (F.LTX_STATUS_LIVE n) then e.dataEnd n else e) d1

/-- A lane's PIN_EN is delivered to the front-end die (R197), and the disables that hold are taken. DESIGN CHOICE: the delivery, within 1 µs, is
at once (log entry 140). -/
def Device.pinDeliver (d : Device) (n : Lane) : Device :=
  (d.modTx n fun t => { t with pinCopy := d.flag (F.LTX_CTRL_PIN_EN n) }).disUpdate n

/-- A write of TX_DIS. -/
def Device.txDisWrite (d : Device) (n : Lane) (v : Bool) : Device := (d.setB (F.LTX_CTRL_TX_DIS n) v).disUpdate n

/-- A write to an entry of the DPD table (R175). -/
def Device.dpdLutWrite (d : Device) (n : Lane) (i v : Nat) : Device :=
  let d1 := (d.set (F.LTX_DPD_LUT n i) v).modTx n fun t => { t with dpdWrites := t.dpdWrites ++ [(i, toSigned 10 v)] }
  if d1.get (F.LTX_STATUS_STATE n) = 3 then d1 else (d1.dpdBoundary n).1

/-- A change of BYPASS (R173). -/
def Device.bypassWrite (d : Device) (n : Lane) (v : Bool) : Device :=
  let d1 := (d.setB (F.LTX_DPD_CTRL_BYPASS n) v).modTx n fun t => { t with bypassDue := some v }
  if d1.get (F.LTX_STATUS_STATE n) = 3 then d1 else (d1.bypassBoundary n).1

/-- A write of POWER_IDX (R185). -/
def Device.powerIdxWrite (d : Device) (n : Lane) (i : Nat) : Device := (d.set (F.LTX_CFG_POWER_IDX n) i).rampCheck n

/-! ### Meanings -/

/-- TX_STATE_REQUEST (R191). -/
def execTxStateRequest (n : Lane) (v : BitVec 3) (s : State) : Host.Outcome State Fault Refusal :=
  .next { s with dev := s.dev.txWrite n v.toNat }
/-- TX_TRANSITION_DONE (R190). -/
def execTxTransitionDone (n : Lane) (s : State) : Host.Outcome State Fault Refusal := .next { s with dev := s.dev.txDone n }
/-- TX_BOUNDARY (R167). -/
def execTxBoundary (n : Lane) (sat : Nat) (s : State) : Host.Outcome State Fault Refusal :=
  .next { s with dev := (s.dev.txSaturated n sat).txBoundary n }
/-- TXON_TIMEOUT (R194). -/
def execTxonTimeout (n : Lane) (s : State) : Host.Outcome State Fault Refusal := .next { s with dev := s.dev.txonTimeout n }
/-- TXDISN_FALL (R197). -/
def execTxdisnFall (s : State) : Host.Outcome State Fault Refusal := .next { s with dev := s.dev.txdisPin true }
/-- TXDISN_RISE (R197). -/
def execTxdisnRise (s : State) : Host.Outcome State Fault Refusal := .next { s with dev := s.dev.txdisPin false }
/-- TX_DIS_WRITE (R197). -/
def execTxDisWrite (n : Lane) (v : Bool) (s : State) : Host.Outcome State Fault Refusal :=
  .next { s with dev := s.dev.txDisWrite n v }
/-- POWER_IDX_WRITE (R185). -/
def execPowerIdxWrite (n : Lane) (idx : BitVec 4) (s : State) : Host.Outcome State Fault Refusal :=
  .next { s with dev := s.dev.powerIdxWrite n idx.toNat }
/-- DPD_LUT_WRITE (R175). -/
def execDpdLutWrite (n : Lane) (i : Fin 64) (v : BitVec 10) (s : State) : Host.Outcome State Fault Refusal :=
  .next { s with dev := s.dev.dpdLutWrite n i v.toNat }
/-- BYPASS_WRITE (R173). -/
def execBypassWrite (n : Lane) (v : Bool) (s : State) : Host.Outcome State Fault Refusal :=
  .next { s with dev := s.dev.bypassWrite n v }
/-- DPD_WINDOW_END (R177). -/
def execDpdWindowEnd (n : Lane) (seen : List (Int × Nat)) (s : State) : Host.Outcome State Fault Refusal :=
  .next { s with dev := s.dev.dpdWindow n seen }
/-- DPD_REPORT (R179). -/
def execDpdReport (n : Lane) (epoch : BitVec 8) (_window : Nat) (dev : List Int) (s : State) : Host.Outcome State Fault Refusal :=
  .next { s with dev := s.dev.dpdReport n epoch.toNat dev }
/-- DPD_APPLIED (R178). -/
def execDpdApplied (n : Lane) (epoch : BitVec 8) (s : State) : Host.Outcome State Fault Refusal :=
  .next { s with dev := s.dev.dpdApplied n epoch.toNat }
/-- DPD_PERIOD_EXPIRY (R179). -/
def execDpdPeriodExpiry (n : Lane) (s : State) : Host.Outcome State Fault Refusal := .next { s with dev := s.dev.dpdPeriod n }
/-- PILOT_INJECTION_MOVE (R189). -/
def execPilotInjectionMove (n : Lane) (s : State) : Host.Outcome State Fault Refusal := .next { s with dev := s.dev.injectMove n }

end Sys2Proof.Machine
end

