-- ==== Sys2Proof/Machine/Native.lean ====
section
/-! DEFINITION. Native mode: negotiation over the pilot, parity lock, and the egress framing of host codewords (chapter 4), with the meanings of its commands. -/

namespace Sys2Proof.Machine

/-! ### Messages -/

/-- The lane runs native: its bit of the native-live mask of CAP and STATE messages. -/
def Device.nativeMask (d : Device) : BitVec 8 := lanes.foldl (fun (m : BitVec 8) (n : Lane) => maskSet m n (d.native n)) 0

/-- The device's own CAP body (Table 4-2): every lane is native-capable. -/
def Device.ownCap (d : Device) : CapBody :=
  { part := 0x3208, rev := d.get F.SYS_ID_REV, version := 1, capable := 0xFF, live := d.nativeMask,
    portMap := (d.liveReg F.BWK_PORT_MAP.addr).setWidth 8, identity := Config.identity }

/-- Send a CAP on a lane. -/
def Device.sendCap (d : Device) (n : Lane) : Device :=
  (d.queueCtl n 2 1 (.cap d.ownCap)).modNeg fun g => { g with capSent := maskSet g.capSent n true }

/-- Send a link-control message that expects an answer. -/
def Device.sendAwait (d : Device) (n : Lane) (typ : Nat) (b : CtlBody) : Device :=
  (d.queueCtl n 2 typ b).modNeg fun g => { g with awaiting := [(n, typ, b)], resends := 0 }

/-- The lanes of a mask, lowest first. -/
def maskLanes (m : BitVec 8) : List Lane := lanes.filter fun n => maskHas m n

/-- The lowest lane of a mask whose pilot is in sync, else the lowest lane. -/
def Device.speaker (d : Device) (m : BitVec 8) : Option Lane :=
  match (maskLanes m).find? d.pilotSync with
  | some n => some n
  | none => (maskLanes m).head?

/-- Set the negotiation state. -/
def Device.setNeg (d : Device) (v : Nat) : Device := d.set F.BWK_NEG_STATUS_STATE v

/-- A negotiation runs (STATE 1 to 3). -/
def Device.negRuns (d : Device) : Bool :=
  decide (1 ≤ d.get F.BWK_NEG_STATUS_STATE ∧ d.get F.BWK_NEG_STATUS_STATE ≤ 3)

/-- The negotiation fails with a reason of Table 4-3; NATIVE starts complete. -/
def Device.negFail (d : Device) (reason : Nat) : Device :=
  let d1 := ((d.setNeg 5).set F.BWK_NEG_STATUS_REASON reason).modNeg fun g => { g with awaiting := [], proposer := false }
  (d1.raise F.BWK_INT_STATUS_NEG_FAIL).settle (fun g => match g with | .native _ false => true | _ => false) stFailed d1.negWord

/-- A half of a lane may take part in native mode: PILOT, RXON or TXON, or SYNTH calibrated (R130). -/
def Device.negLane (d : Device) (n : Lane) : Bool :=
  2 ≤ d.get (F.LRX_STATE_RX_STATE n) && 2 ≤ d.get (F.LTX_STATUS_STATE n)

/-- The first condition of R130 that fails for a mask, as a reason of Table 4-3; 0 when all hold. `ports` is the far port map. DESIGN CHOICE: a
lane from which no CAP has come, and a mask without lanes, have no capable far end, so the reason is NOT_CAPABLE (log entry 135). -/
def Device.negCheck (d : Device) (m : BitVec 8) (ports : Lane → BitVec 8) : Nat :=
  let ls := maskLanes m
  let caps := ls.map fun n => (n, d.neg.farCap.get n)
  let capable := caps.all fun p => match p.2 with
    | some b => b.part == 0x3208 && b.version == 1 && maskHas b.capable p.1
    | none => false
  let ids := caps.filterMap fun p => p.2.map (·.identity)
  if !capable || ls.isEmpty then 1
  else if !(ids.all fun i => some i == ids.head?) then 2
  else if ls.any fun n => maskHas (ports n) n != (d.liveReg F.BWK_PORT_MAP.addr).getLsbD n.val then 3
  else if 1 < d.lget F.POOL_CTRL_WINDOW then 4
  else if !(ls.all d.negLane) then 5
  else 0

/-- The far port map of each lane's CAP. -/
def Device.capPorts (d : Device) (n : Lane) : BitVec 8 :=
  match d.neg.farCap.get n with
  | some b => b.portMap
  | none => 0

/-! ### Rates (R133 to R135) -/

/-- A lane goes through SYNTH to a rate, both halves then up to RXON and TXON. -/
def Device.viaSynth (d : Device) (n : Lane) (r : Nat) : Device :=
  let d1 := d.modRx n fun x => { x with newRate := some r }
  let d2 :=
    if d1.get (F.LRX_STATE_RX_STATE n) = 2 ∧ d1.get (F.LRX_STATE_RX_TRANS n) = 7 then
      let e := d1.takeRate n
      (e.set (F.LRX_STATE_RX_PENDING n) 7).rxRequest n 3
    else d1.rxRequest n 2
  if d2.get (F.LTX_STATUS_STATE n) = 2 ∧ d2.get (F.LTX_STATUS_TRANS n) = 7 then (d2.dpdLoad n).txRequest n 3
  else (d2.modTx n fun t => { t with reTxon := true }).txRequest n 2

/-- Every lane of the mask is native with parity lock: the negotiation is done (Table 4-9). -/
def Device.negDone (d : Device) : Device :=
  if d.get F.BWK_NEG_STATUS_STATE = 3 && (d.neg.mask &&& ~~~ d.liveMask) == 0 then
    let d1 := (d.setNeg 4).raise F.BWK_INT_STATUS_NEG_DONE
    d1.settle (fun g => match g with | .native _ false => true | _ => false) stOk d1.negWord
  else d

/-- RATE 0b10 on every lane of a mask; a lane whose PRECODE is 1 cannot take it (R58, R85). -/
def Device.goNative (d : Device) (m : BitVec 8) : Device :=
  (maskLanes m).foldl (fun (s : Device) (n : Lane) =>
    if s.native n || s.lget (F.LRX_CTRL_PRECODE n) == 1 then s
    else (s.modNeg fun g => { g with oldRate := g.oldRate.set n (s.rate n) }).viaSynth n 2) d

/-- The lanes of a mask return to their standard rate; lanes not yet switched stay. -/
def Device.goStandard (d : Device) (m : BitVec 8) : Device :=
  (maskLanes m).foldl (fun (s : Device) (n : Lane) =>
    let e := s.modNeg fun g => { g with notNative := g.notNative.set n 0 }
    if e.native n then e.viaSynth n (e.neg.oldRate.get n)
    else e.modRx n fun x => { x with newRate := x.newRate.map fun _ => e.neg.oldRate.get n }) d

/-- The agreed mask without some lanes. -/
def Device.unagree (d : Device) (m : BitVec 8) : Device :=
  d.set F.BWK_NEG_STATUS_AGREED_MASK ((BitVec.ofNat 8 (d.get F.BWK_NEG_STATUS_AGREED_MASK) &&& ~~~ m).toNat)

/-- Native lanes of a mask leave native mode (R135): posted, and back to their rate; with none left the negotiation is idle. -/
def Device.leaveNative (d : Device) (m : BitVec 8) (reason : Nat) : Device :=
  let out := m &&& d.nativeMask
  if out = 0 then d
  else
    let d1 := (((d.set F.BWK_NEG_STATUS_REASON reason).unagree out).raise F.BWK_INT_STATUS_NATIVE_EXIT).goStandard out
    if d1.get F.BWK_NEG_STATUS_AGREED_MASK = 0 then d1.setNeg 0 else d1

/-! ### Steps of the negotiation -/

/-- A negotiation starts (R129): CAP goes out on every lane of the mask. A start while a negotiation runs has no effect (R603). DESIGN CHOICE: a
start without lanes has no effect, and REASON reads NONE from the start on (log entry 136). START reads 1 while what it started runs (R11). -/
def Device.negStart (d : Device) (m : BitVec 8) (byWrite : Bool) : Device :=
  if d.negRuns || m == 0 then d
  else
    let d1 := (((d.setNeg 1).setB F.BWK_NEG_CTRL_START byWrite).set F.BWK_NEG_STATUS_REASON 0).modNeg fun g => { g with
      proposer := true, mask := m, resends := 0, awaiting := (maskLanes m).map fun n => (n, 1, .cap d.ownCap) }
    (maskLanes m).foldl (fun (s : Device) (n : Lane) => s.sendCap n) d1

/-- The proposer has every CAP: it checks its own end and proposes (R129, R130). -/
def Device.propose (d : Device) : Device :=
  let m := d.neg.mask
  let reason := d.negCheck m d.capPorts
  if reason ≠ 0 then d.negFail reason
  else match d.speaker m with
    | some n => (d.setNeg 2).sendAwait n 2 (.propose m d.ownCap.portMap)
    | none => d.negFail 5

/-- A CAP is received (R128, R130): kept, answered unless it answers ours, and counted towards the exchange. -/
def Device.capMessage (d : Device) (n : Lane) (b : CapBody) : Device :=
  let d1 := ((d.setReg F.BWK_FAR_ID.addr (b.identity.extractLsb' 0 32)).setReg F.BWK_FAR_ID_HI.addr
    (b.identity.extractLsb' 32 32)).modNeg fun g => { g with farCap := g.farCap.set n (some b) }
  let d2 := if maskHas d1.neg.capSent n then d1.modNeg fun g => { g with capSent := maskSet g.capSent n false }
    else d1.queueCtl n 2 1 (.cap d1.ownCap)
  if d2.get F.BWK_NEG_STATUS_STATE = 1 && d2.neg.proposer && d2.neg.awaiting.any (fun a => a.1 == n) then
    let d3 := d2.modNeg fun g => { g with awaiting := g.awaiting.filter fun a => a.1 != n }
    if d3.neg.awaiting.isEmpty then d3.propose else d3
  else d2

/-- A PROPOSE is received (R130, R132). -/
def Device.proposeMessage (d : Device) (n : Lane) (m pm : BitVec 8) : Device :=
  let st := d.get F.BWK_NEG_STATUS_STATE
  let far := match d.neg.farCap.get n with
    | some b => b.identity.toNat
    | none => 0
  if st = 3 then d
  else if st = 2 && d.neg.proposer && decide (Config.identity.toNat < far) then d
  else
    -- the responder checks against the proposer's CAP too
    let reason := if d.negCheck m d.capPorts ≠ 0 then d.negCheck m d.capPorts else d.negCheck m fun _ => pm
    if reason ≠ 0 then
      let d1 := ((d.queueCtl n 2 4 (.refuse reason)).set F.BWK_NEG_STATUS_REASON reason).raise F.BWK_INT_STATUS_REFUSED
      (d1.setNeg 5).modNeg fun g => { g with awaiting := [], proposer := false }
    else
      let d1 := (d.setNeg 2).modNeg fun g => { g with proposer := false, mask := m, portMap := pm }
      d1.sendAwait n 3 (.accept m pm)

/-- An ACCEPT is received (R133). -/
def Device.acceptMessage (d : Device) (n : Lane) (m pm : BitVec 8) : Device :=
  if d.get F.BWK_NEG_STATUS_STATE = 2 && d.neg.proposer && m == d.neg.mask && pm == d.ownCap.portMap then
    d.sendAwait n 5 (.commit m)
  else d

/-- A REFUSE is received (R130). -/
def Device.refuseMessage (d : Device) (reason : Nat) : Device :=
  if d.negRuns && d.get F.BWK_NEG_STATUS_STATE != 3 && d.neg.proposer then (d.raise F.BWK_INT_STATUS_REFUSED).negFail reason else d

/-- The negotiation is completed at this end (R133): lanes go native by it alone (R18). -/
def Device.negComplete (d : Device) (m : BitVec 8) : Device :=
  let agreed := BitVec.ofNat 8 (d.get F.BWK_NEG_STATUS_AGREED_MASK) ||| m
  ((((d.setNeg 3).set F.BWK_NEG_STATUS_AGREED_MASK agreed.toNat).modNeg fun g =>
    { g with awaiting := [], mask := m, switched := m &&& ~~~ d.nativeMask }).goNative m).negDone

/-- A COMMIT or its echo is received (R133). -/
def Device.commitMessage (d : Device) (n : Lane) (m : BitVec 8) : Device :=
  let st := d.get F.BWK_NEG_STATUS_STATE
  if m != d.neg.mask then d
  else if st = 2 then
    if d.neg.proposer then
      (if d.neg.awaiting.any (fun a => a.2.1 == 5) then d.negComplete m else d)
    else (d.queueCtl n 2 5 (.commit m)).negComplete m
  else if (st = 3 || st = 4) && !d.neg.proposer then d.queueCtl n 2 5 (.commit m)
  else d

/-- RESP_TO passes without an answer (R131). -/
def Device.negTimeout (d : Device) : Device :=
  if !d.negRuns || d.neg.awaiting.isEmpty then d
  else if d.neg.resends < d.get F.BWK_NEG_TIMING_RETRIES then
    (d.neg.awaiting.foldl (fun (s : Device) a => s.queueCtl a.1 2 a.2.1 a.2.2) d).modNeg fun g => { g with resends := g.resends + 1 }
  else d.negFail 6

/-- Send EXIT for a mask. -/
def Device.sendExit (d : Device) (m : BitVec 8) (reason : Nat) : Device :=
  match d.speaker m with
  | some n => d.queueCtl n 2 6 (.exit m reason)
  | none => d

/-- A lane of the mask has no parity lock LIVE_TO after the COMMIT echo (R134). -/
def Device.liveTimeout (d : Device) : Device :=
  if d.get F.BWK_NEG_STATUS_STATE = 3 && (d.neg.mask &&& ~~~ d.liveMask) != 0 then
    let m := d.neg.mask
    (((d.sendExit m 7).unagree m).goStandard m).negFail 7
  else d

/-- Lanes leave a negotiation that is committed and not yet live: those on their way to native mode go back to their standard rate, and with none
left the negotiation has failed. DESIGN CHOICE: it goes on for the lanes that stay (log entry 137). -/
def Device.negDrop (d : Device) (m : BitVec 8) (reason : Nat) : Device :=
  let out := m &&& d.neg.mask
  if d.get F.BWK_NEG_STATUS_STATE = 3 && out != 0 then
    let d1 := ((d.unagree out).goStandard (out &&& ~~~ d.nativeMask)).modNeg fun g => { g with mask := g.mask &&& ~~~ out }
    if d1.neg.mask = 0 then d1.negFail reason else d1.negDone
  else d

/-- Native lanes of a mask leave native mode, and a negotiation under way (R135). -/
def Device.exitLanes (d : Device) (m : BitVec 8) (reason : Nat) : Device := (d.negDrop m reason).leaveNative m reason

/-- A write of 1 to EXIT (R135). -/
def Device.negExit (d : Device) (m : BitVec 8) : Device :=
  let out := m &&& d.nativeMask
  if out = 0 then d else (d.sendExit out 9).exitLanes out 9

/-- An EXIT is received (R134, R135). -/
def Device.exitMessage (d : Device) (m : BitVec 8) : Device := d.exitLanes m 8

/-- A STATE message is received (R135): two in a row that show a lane not native end native mode on it. DESIGN CHOICE: lanes that a committed
negotiation is switching do not count yet, since the far end switches them at its own time (log entry 137). -/
def Device.stateMessage (d : Device) (n : Lane) (far : BitVec 8) : Device :=
  let same (k : Lane) : Bool :=
    match d.neg.farCap.get n, d.neg.farCap.get k with
    | some a, some b => a.identity == b.identity
    | _, _ => k == n
  let d1 := lanes.foldl (fun (s : Device) (k : Lane) =>
    if s.native k && same k && !(s.get F.BWK_NEG_STATUS_STATE == 3 && maskHas s.neg.switched k) then
      s.modNeg fun g => { g with notNative := g.notNative.set k (if maskHas far k then 0 else g.notNative.get k + 1) }
    else s) d
  d1.exitLanes (lanes.foldl (fun (m : BitVec 8) (k : Lane) => maskSet m k (d1.native k && 2 ≤ d1.neg.notNative.get k)) 0) 8

/-- Every 100 ms each native lane sends a STATE message (R128). -/
def Device.stateTimer (d : Device) : Device :=
  let nat := d.nativeMask
  let locked := d.liveMask
  (maskLanes nat).foldl (fun (s : Device) (n : Lane) => s.queueCtl n 2 7 (.state nat locked)) d

/-- A lane's pilot enters sync (R128, R129): CAP goes out; with NEG_AUTO a negotiation starts for a lane of LANE_MASK. -/
def Device.pilotUp (d : Device) (n : Lane) : Device :=
  let m := BitVec.ofNat 8 (d.get F.BWK_NEG_CTRL_LANE_MASK)
  if d.flag F.BWK_NEG_CTRL_NEG_AUTO && maskHas m n && !d.native n && !d.negRuns then d.negStart m false else d.sendCap n

/-! ### Parity lock (R150, R178, Table 4-9) -/

/-- Parity lock at the phase under test: four good evaluable groups in a row. The lane delivers to the host; DPD measurement
starts; with every lane of the mask live the negotiation is done. -/
def Device.parityLock (d : Device) (n : Lane) (phase : Nat) : Device :=
  if d.native n && d.flag (F.LRX_BW_STATUS_PARITY_HUNT n) && 4 ≤ (d.bw.get n).goodRun && d.get (F.LRX_BW_STATUS_PHASE n) == phase then
    let d1 := ((((d.set (F.LRX_BW_STATUS_PARITY_LOCK n) 1).set (F.LRX_BW_STATUS_PARITY_HUNT n) 0).set (F.LRX_CTRL_REACQ n) 0).acqStep n 0xA).raise
      (F.LRX_BW_INT_STATUS_PARITY_LOCK n)
    let d2 := ((d1.modBw n fun b => { b with lossRun := 0 }).modRx n fun r => { r with attempts := 0 }).alignMarkers n
    ((d2.modTx n fun t => { t with measuring := true }).rxAdvance n).negDone
  else d

/-! ### Egress (R138 to R147) -/

/-- The scrambler's sequence over one frame (R143): s(i) = s(i−28) xor s(i−31), from 31 ones. -/
def scrambler : BitVec 10880 :=
  let step (p : Nat × Nat) (i : Nat) : Nat × Nat :=
    -- bit j of the register is s(i − 1 − j)
    let b := (p.1.testBit 27) != (p.1.testBit 30)
    ((2 * p.1 + b.toNat) % 2 ^ 31, p.2 + b.toNat * 2 ^ i)
  BitVec.ofNat 10880 ((List.range 10880).foldl step (2 ^ 31 - 1, 0)).2

/-- Frame f of a group (R142): bits of the two slots alternate. -/
def interleave (a b : Cw) : BitVec 10880 :=
  BitVec.ofNat 10880 ((List.range 5440).foldl (fun v i =>
    v + (a.getLsbD i).toNat * 2 ^ (2 * i) + (b.getLsbD i).toNat * 2 ^ (2 * i + 1)) 0)

/-- The slot of stream j when one port takes both streams (R138): the symbols of parity j of member 0, then of member 1. -/
def portSlot (m0 m1 : Cw) (j : Nat) : Cw :=
  let half (c : Cw) (at0 : Nat) : Cw := (List.range 272).foldl (fun v i =>
    v ||| (((c >>> (10 * (2 * i + j))) &&& (1023 : Cw)) <<< (10 * (at0 + i)))) 0
  half m0 0 ||| half m1 272

/-- The two slots that two codewords make. -/
def frameSlots (wide : Bool) (m0 m1 : Cw) : Cw × Cw := if wide then (portSlot m0 m1 0, portSlot m0 m1 1) else (m0, m1)

/-- A stream has CDR and marker lock on every host lane that forms it (R140, R212). -/
def Device.streamLocked (d : Device) (j : Nat) : Bool :=
  let ks := if d.lget F.HLN_MODE_HOST_MODE == 1 then [j] else [2 * j, 2 * j + 1]
  ks.all fun i => match hlanes[i]? with
    | some k => d.hostCarries k
    | none => false

/-- A substitute at the egress, where no marker schedule has been learned: it carries no markers (R112; log entry 131). -/
def Device.egressSubstitute (d : Device) (n : Lane) : Cw := encode514 (markMessage (d.portType n) none 0)

/-- A host codeword reaches the egress of a native lane (R22, R138 to R143, R147): it fills its place, or a substitute fills the slot of its
stream; a full frame goes to the inner encoder, and after data slot 31 the parity frame. -/
def Device.hostCodeword (d : Device) (j : Berth) (bits : Cw) (zero : Bool) (slip : Slip) : Device :=
  match lanes[j.val / 2]? with
  | none => d
  | some n =>
    if !d.native n then
      -- standard mode: the inner encoder's own grid goes on, with a substitute while the stream is not locked (R212)
      let cw := if d.streamLocked j.val then bits else d.egressSubstitute n
      d.modEgr fun _ => d.egr.set n { d.egr.get n with grid := some cw }
    else
      let d1 := if zero then d else d.count (F.BWK_HOST_CW_ERR j)
      let d2 := if slip = .inTime then d1 else (d1.bump (F.BWK_EGR_SLIP j)).raise F.BWK_INT_STATUS_EGR_SLIP (BitVec.ofNat 32 j.val)
      if slip = .early then d2
      else
        let sub := slip == .late || !d2.streamLocked j.val
        let e0 := d2.egr.get n
        let e := if j.val % 2 = 0 then { e0 with have0 := some bits, sub0 := sub } else { e0 with have1 := some bits, sub1 := sub }
        match e.have0, e.have1 with
        | some a, some b =>
          let (s0, s1) := frameSlots (d2.widePort n) a b
          let sa := if e.sub0 then d2.egressSubstitute n else s0
          let sb := if e.sub1 then d2.egressSubstitute n else s1
          let x0 := e.acc0 ^^^ sa
          let x1 := e.acc1 ^^^ sb
          let fr := interleave sa sb ^^^ scrambler
          let e' : Egress :=
            if e.slot < 31 then { e with slot := e.slot + 1, have0 := none, have1 := none, sub0 := false, sub1 := false, acc0 := x0, acc1 := x1, sent := [fr] }
            else { e with slot := 0, have0 := none, have1 := none, sub0 := false, sub1 := false, acc0 := 0, acc1 := 0, sent := [fr, interleave x0 x1 ^^^ scrambler] }
          (d2.modEgr fun _ => d2.egr.set n e')
        | _, _ => (d2.modEgr fun _ => d2.egr.set n e)

/-! ### Meanings -/

/-- NEG_START (R129). -/
def execNegStart (s : State) : Host.Outcome State Fault Refusal :=
  .next { s with dev := s.dev.negStart (BitVec.ofNat 8 (s.dev.get F.BWK_NEG_CTRL_LANE_MASK)) true }
/-- NEG_EXIT (R135). -/
def execNegExit (s : State) : Host.Outcome State Fault Refusal :=
  .next { s with dev := s.dev.negExit (BitVec.ofNat 8 (s.dev.get F.BWK_NEG_CTRL_EXIT_MASK)) }
/-- CAP_MESSAGE (R130). -/
def execCapMessage (n : Lane) (b : CapBody) (s : State) : Host.Outcome State Fault Refusal := .next { s with dev := s.dev.capMessage n b }
/-- PROPOSE_MESSAGE (R132). -/
def execProposeMessage (n : Lane) (m pm : BitVec 8) (s : State) : Host.Outcome State Fault Refusal :=
  .next { s with dev := s.dev.proposeMessage n m pm }
/-- ACCEPT_MESSAGE (R133). -/
def execAcceptMessage (n : Lane) (m pm : BitVec 8) (s : State) : Host.Outcome State Fault Refusal :=
  .next { s with dev := s.dev.acceptMessage n m pm }
/-- REFUSE_MESSAGE (R130): the lane it came on does not matter. -/
def execRefuseMessage (_n : Lane) (reason : Nat) (s : State) : Host.Outcome State Fault Refusal :=
  .next { s with dev := s.dev.refuseMessage reason }
/-- COMMIT_MESSAGE (R133). -/
def execCommitMessage (n : Lane) (m : BitVec 8) (s : State) : Host.Outcome State Fault Refusal :=
  .next { s with dev := s.dev.commitMessage n m }
/-- EXIT_MESSAGE (R135): the far end's reason is its own; the lanes leave with FAR_EXIT. -/
def execExitMessage (_n : Lane) (m : BitVec 8) (_reason : Nat) (s : State) : Host.Outcome State Fault Refusal :=
  .next { s with dev := s.dev.exitMessage m }
/-- STATE_MESSAGE (R135). -/
def execStateMessage (n : Lane) (native _locked : BitVec 8) (s : State) : Host.Outcome State Fault Refusal :=
  .next { s with dev := s.dev.stateMessage n native }
/-- STATE_TIMER (R128). -/
def execStateTimer (s : State) : Host.Outcome State Fault Refusal := .next { s with dev := s.dev.stateTimer }
/-- NEG_RESPONSE_TIMEOUT (R131). -/
def execNegResponseTimeout (s : State) : Host.Outcome State Fault Refusal := .next { s with dev := s.dev.negTimeout }
/-- LIVE_TIMEOUT (R134). -/
def execLiveTimeout (s : State) : Host.Outcome State Fault Refusal := .next { s with dev := s.dev.liveTimeout }
/-- PARITY_LOCK (R150). -/
def execParityLock (n : Lane) (phase : Fin 33) (s : State) : Host.Outcome State Fault Refusal :=
  .next { s with dev := s.dev.parityLock n phase }
/-- HOST_CODEWORD (R138). -/
def execHostCodeword (j : Berth) (bits : Cw) (zero : Bool) (slip : Slip) (s : State) : Host.Outcome State Fault Refusal :=
  .next { s with dev := s.dev.hostCodeword j bits zero slip }

end Sys2Proof.Machine
end

