-- ==== Sys2Proof/Machine/Pilot.lean ====
section
/-! DEFINITION. The pilot channel: frames sent and received, sync, pre-emption, quality and bit-loading (chapter 7), with the meanings of its commands. -/

namespace Sys2Proof.Machine

/-! ### Transmit side (R250 to R253) -/

/-- One byte through the reflected CRC-32 of IEEE 802.3 (R247). -/
def crc32Byte (c : BitVec 32) (b : Byte) : BitVec 32 :=
  (List.range 8).foldl (fun (x : BitVec 32) _ => if x.getLsbD 0 then (x >>> 1) ^^^ 0xEDB88320 else x >>> 1) (c ^^^ b.setWidth 32)

/-- CRC-32 over bytes. -/
def crc32 (bs : List Byte) : BitVec 32 := (bs.foldl crc32Byte 0xFFFFFFFF) ^^^ 0xFFFFFFFF

/-- A frame waits for the lane's transmitter. -/
def Device.frameWaits (d : Device) (n : Lane) : Bool := !(d.plt.get n).ctl.isEmpty || !(d.plt.get n).fab.isEmpty

/-- Take the oldest frame of the lowest-numbered class that waits, numbering a control message as it is sent (R251, R252). -/
def Device.takeFrame (d : Device) (n : Lane) : Device × Option PltFrame :=
  let p := d.plt.get n
  let cls := if p.ctl.any (·.cls == 1) then 1 else if p.ctl.any (·.cls == 2) then 2 else 3
  match p.ctl.findIdx? (fun m => m.cls == cls) with
  | some i =>
    match p.ctl[i]? with
    | some m =>
      let d1 := d.modPlt n fun q => { q with ctl := q.ctl.eraseIdx i }
      if cls = 1 then (d1.modPlt n fun q => { q with seq1 := q.seq1 + 1 }, some (.ctl { m with seq := p.seq1 }))
      else if cls = 2 then (d1.modPlt n fun q => { q with seq2 := q.seq2 + 1 }, some (.ctl { m with seq := p.seq2 }))
      else (d1.modTx n fun t => { t with seq3 := t.seq3 + 1 }, some (.ctl { m with seq := (d.tx.get n).seq3 }))
    | none => (d, none)
  | none =>
    match p.fab with
    | m :: rest =>
      let (d1, ok) := d.bufferRead n.val 0
      let d2 := d1.modPlt n fun q => { q with fab := rest }
      if ok then (d2, some (.fab m)) else (d2.txqDrop n, none)
    | [] => (d, none)

/-- A frame start (R244, R252, R257): at least one idle group has gone out since the last frame. -/
def Device.pilotStart (d : Device) (n : Lane) : Device :=
  if !(d.plt.get n).txOn || !(d.plt.get n).idled || !d.frameWaits n then d
  else
    let d1 := d.takePreset n
    match d1.takeFrame n with
    | (d2, some f) =>
      let h := headerWord (frameLen f) (d2.get (F.PLT_STATUS_TX_MAP n))
      (d2.modPlt n fun q => { q with sending := some (h, f), idled := false }).count (F.PLT_FRM_TX n)
    | (d2, none) => d2

/-- An idle-group boundary (R250, R257): with no frame waiting, a new preset or map takes effect. -/
def Device.idleGroup (d : Device) (n : Lane) : Device :=
  if !(d.plt.get n).txOn then d
  else
    let d1 := d.modPlt n fun q => { q with idled := true, sending := none }
    if d1.frameWaits n then d1 else d1.takePreset n

/-- Frames that the switch's part of the buffers holds (R253). -/
def Device.switchHeld (d : Device) : Nat := lanes.foldl (fun (t : Nat) (n : Lane) => t + (d.plt.get n).wait.length) 0

/-- The switch takes a class 0x04 frame for a lane. Without space it gives up the oldest that waits for the lane, which is the new frame
itself where none else waits and both the lane's buffers are full (R253). -/
def Device.pilotSend (d : Device) (n : Lane) (m : FabMsg) : Device :=
  if d.switchHeld < Config.switchFrames then d.modPlt n fun q => { q with wait := q.wait ++ [m] }
  else if (d.plt.get n).wait.isEmpty && decide ((d.plt.get n).fab.length < 2) then d.modPlt n fun q => { q with fab := q.fab ++ [m] }
  else
    let d1 := d.txqDrop n
    match (d1.plt.get n).wait with
    | [] => d1
    | _ :: rest => d1.modPlt n fun q => { q with wait := rest ++ [m] }

/-- A waiting frame is handed over while a buffer of the lane is free (R253). -/
def Device.handover (d : Device) (n : Lane) : Device :=
  match (d.plt.get n).wait with
  | m :: rest =>
    if (d.plt.get n).fab.length < 2 then
      let (d1, ok) := d.bufferRead n.val 64
      if ok then d1.modPlt n fun q => { q with wait := rest, fab := q.fab ++ [m] }
      else (d1.modPlt n fun q => { q with wait := rest }).bump F.FAB_ERR_D_BUF_DROP
    else d
  | [] => d

/-- A frame has waited 100 ms (R253). -/
def Device.frameExpiry (d : Device) (n : Lane) : Device :=
  match (d.plt.get n).wait with
  | _ :: rest => (d.modPlt n fun q => { q with wait := rest }).txqDrop n
  | [] => d

/-! ### Receive side (R273 to R278) -/

/-- The lane's pilot receiver runs (R237). -/
def Device.pilotRxRuns (d : Device) (n : Lane) : Bool := (d.rx.get n).pilotRx

/-- The preset that a detection names: that of the largest metric, the lower code on equal ones (R273). -/
def detectedPreset (metrics : List Nat) : Nat := metrics.findIdx fun m => m == metrics.foldl max 0

/-- A reception starts in a preset: the applied gain, which is the tracking gain while no reception runs, freezes (R272, R274, R275). -/
def Device.startReception (d : Device) (n : Lane) (preset metric : Nat) : Device :=
  let track := (d.plt.get n).agcTrack
  let old := d.get (F.PLT_AGC_AGC_GAIN n)
  (((d.set (F.PLT_STATUS_RX_BUSY n) 1).set (F.PLT_STATUS_AGC_FROZEN n) 1).set (F.PLT_AGC_AGC_GAIN n) track).modPlt n fun q => { q with
    reception := some { preset := preset, metric := metric, committed := false, map := 0, len := 0, gainStep := (track : Int) - old } }

/-- The correlator's metrics for the four presets at a sample, and the largest metric within ±32 samples of it (R273 to R275). The
largest of them is a detection when it is above SYNC_TH and none near it is larger: it starts a reception, pre-empts an uncommitted
one of lower metric, or is ignored. -/
def Device.syncDetect (d : Device) (n : Lane) (metrics : List Nat) (near : Nat) : Device :=
  let metric := metrics.foldl max 0
  if !d.pilotRxRuns n || metric ≤ d.get (F.PLT_RX_CFG_SYNC_TH n) || metric < near then d
  else
    match (d.plt.get n).reception with
    | none => d.startReception n (detectedPreset metrics) metric
    | some r =>
      if r.committed || metric ≤ r.metric then d
      else ((d.bump (F.PLT_ERR_B_FALSE_SYNC n)).pmu 0x0501 n).startReception n (detectedPreset metrics) metric

/-- The map a header names is held: map 0 of each preset, or one of the four issued last (R262). -/
def Device.mapKnown (d : Device) (n : Lane) (preset map : Nat) : Bool :=
  map == 0 || (d.plt.get n).issued.any fun m => m.ident == map && m.preset == preset

/-- A header is received (R262, R276 to R278). -/
def Device.headerReceived (d : Device) (n : Lane) (h : Word) : Device :=
  match (d.plt.get n).reception with
  | none => d
  | some r =>
    if r.committed then d
    else if headerCrc (bitsOf h 15 0) != bitsOf h 31 16 then
      ((d.bump (F.PLT_ERR_A_HDR_ERR n)).raise (F.PLT_INT_STATUS_HDR_ERR n)).endReception n
    else
      let len := bitsOf h 10 0
      let map := bitsOf h 14 11
      let d1 := ((d.set (F.PLT_STATUS_COMMITTED n) 1).set (F.PLT_STATUS_RX_PRESET n) r.preset).set (F.PLT_STATUS_RX_MAP n) map
      let d2 := d1.modPlt n fun q => { q with reception := some { r with committed := true, map := map, len := len } }
      let d3 := if d2.pilotSync n then d2
        else ((d2.set (F.PLT_STATUS_SYNC n) 1).raise (F.PLT_INT_STATUS_SYNC_UP n)).pilotUp n
      if len = 0 || 1152 < len then ((d3.bump (F.PLT_ERR_A_HDR_ERR n)).raise (F.PLT_INT_STATUS_HDR_ERR n)).endReception n
      else if !d3.mapKnown n r.preset map then
        ((d3.bump (F.PLT_ERR_B_MAP_UNKNOWN n)).raise (F.PLT_INT_STATUS_MAP_UNKNOWN n)).endReception n
      else d3

/-- A committed reception ends after its last payload symbol (R251, R254, R277). -/
def Device.frameReceived (d : Device) (n : Lane) (bytes : List Byte) (crc : Word) (buffered : Bool) : Device :=
  match (d.plt.get n).reception with
  | none => d
  | some r =>
    if !r.committed then d
    else
      let d1 :=
        if bytes.length != r.len || crc32 bytes != crc then (d.bump (F.PLT_ERR_A_CRC_ERR n)).raise (F.PLT_INT_STATUS_CRC_ERR n)
        else
          let cls := (bytes.head?.getD 0).toNat
          if cls = 0 || 4 < cls then d.bump (F.PLT_ERR_D_CLASS_UNK n)
          else if cls = 4 && !buffered then (d.bump (F.PLT_ERR_C_RX_DROP n)).raise (F.PLT_INT_STATUS_DROP n)
          else (d.count (F.PLT_FRM_RX n)).pmu 0x0500 n
      d1.endReception n

/-- 256 symbol periods without a committed reception or a recognised idle group (R278). -/
def Device.syncLoss (d : Device) (n : Lane) : Device :=
  let committed := match (d.plt.get n).reception with
    | some r => r.committed
    | none => false
  if d.pilotSync n && !committed then
    ((d.bump (F.PLT_ERR_D_SYNC_LOSS n)).raise (F.PLT_INT_STATUS_SYNC_LOSS n)).dropSync n
  else d

/-- A write of 1 to RESYNC (R278). -/
def Device.resync (d : Device) (n : Lane) : Device := (d.endReception n).dropSync n

/-! ### Quality and bit-loading (R258 to R262, R279, R280) -/

/-- Repetition factor of a preset (Table 7-3). -/
def repFactor (preset : Nat) : Nat := if preset = 0 then 8 else if preset = 1 then 2 else 1

/-- Largest constellation of a preset, in bits. -/
def topBits (preset : Nat) : Nat := if preset = 0 then 1 else if preset = 1 then 2 else if preset = 2 then 4 else 6

/-- Carrier j is in use: it is one of the preset's carriers (Table 7-3; DEDUCED from R240, log 146). -/
def carrierUsed (preset j : Nat) : Bool := preset != 0 || j % 2 == 0

/-- Entry threshold of a recommendation (R280). -/
def entryPq (preset : Nat) : Nat := if preset = 0 then 0 else if preset = 1 then 100 else if preset = 2 then 140 else 176

/-- The recommended preset after a PQ, with its hysteresis of 12 (R280). -/
def recommend (cur pq : Nat) : Nat :=
  let best := if 176 ≤ pq then 3 else if 140 ≤ pq then 2 else if 100 ≤ pq then 1 else 0
  if cur ≤ best then best else if entryPq cur < pq + 12 then cur else best

/-- EVM² of a carrier as (symbols, energy): its mean is energy ÷ (symbols × 2^40). -/
abbrev EvmSum := Nat × Nat

/-- −20 × log10(EVM) + 10 × log10(F) is at least `halfDb` / 2 dB: F ÷ EVM² ≥ 10^(halfDb / 20), both sides to the power 20 (R258). -/
def EvmSum.meets (e : EvmSum) (f halfDb : Nat) : Bool := decide (e.2 ^ 20 * 10 ^ halfDb ≤ (f * e.1 * 2 ^ 40) ^ 20)

/-- The constellation of a carrier (R258, Table 7-8). -/
def loadCode (preset : Nat) (e : EvmSum) (margin : Nat) : Nat :=
  let meets (thr : Nat) : Bool := e.meets (repFactor preset) (2 * thr + margin)
  let top := topBits preset
  if 6 ≤ top ∧ meets 23 then 6 else if 4 ≤ top ∧ meets 17 then 4 else if 2 ≤ top ∧ meets 10 then 2 else if meets 7 then 1 else 0

/-- round(−80 × log10(EVM)) clamped to 0 to 255: how many v from 1 on have −40 × log10(EVM²) ≥ v − 1/2, both sides to the power 80 (R279). -/
def EvmSum.byte (e : EvmSum) : Nat :=
  let num := (e.1 * 2 ^ 40) ^ 80
  let den := e.2 ^ 80
  ((List.range 255).filter fun i => decide (den * 10 ^ (2 * i + 1) ≤ num)).length

/-- A symbol counts in the mean: sync, idle and header symbols, and payload symbols of frames whose CRC-32 passed (R279). -/
def symUsable : PilotSym → Bool
  | .payload ok => ok
  | _ => true

/-- The usable symbols of a carrier and the sum of their squared error vectors. -/
def evmSum (m : CarrierMeas) : EvmSum :=
  let l := m.errs.filter fun x => symUsable x.1
  (l.length, l.foldl (fun t x => t + x.2) 0)

/-- PQ: 64 + round(4 × S) clamped to 0 to 255, S in dB the pilot power over the noise power: how many t from 1 on have
40 × log10(pilot ÷ noise) ≥ t − 64.5, both sides to the power 80 (R280). Neither power there, the manual states none: `open`. -/
def pilotQuality (pilot noise opened : Nat) : Nat :=
  if pilot = 0 ∧ noise = 0 then opened % 256
  else if pilot = 0 then 0
  else ((List.range 255).filter fun i =>
    if 2 * i + 2 ≤ 129 then decide (noise ^ 80 ≤ pilot ^ 80 * 10 ^ (129 - (2 * i + 2)))
    else decide (noise ^ 80 * 10 ^ (2 * i + 2 - 129) ≤ pilot ^ 80)).length

/-- Pilot power of the carriers in use, and noise power of bins 2 to 65: of a carrier in use from its error vectors, of another its
received power (R242, R280). -/
def pilotPowers (preset : Nat) (ms : List CarrierMeas) : Nat × Nat :=
  ms.zipIdx.foldl (fun (p : Nat × Nat) x =>
    if carrierUsed preset x.2 then (p.1 + x.1.powers.pilot, p.2 + x.1.powers.noise) else (p.1, p.2 + x.1.powers.power)) (0, 0)

/-- The byte of PLT_EVM that reports carrier j. -/
def Device.evmOf (d : Device) (n : Lane) (j : Nat) : Nat := (d.reg (F.PLT_EVM n (j / 4)).addr).toNat / 2 ^ (8 * (j % 4)) % 256

/-- Set it. -/
def Device.setEvm (d : Device) (n : Lane) (j v : Nat) : Device :=
  let a := (F.PLT_EVM n (j / 4)).addr
  d.setReg a (putBits (d.reg a) (8 * (j % 4) + 7) (8 * (j % 4)) v)

/-- The measurements of one EVM period (R279): a carrier with fewer than 16 usable symbols keeps its value, one not in use reads 0. -/
def Device.takeEvm (d : Device) (n : Lane) (ms : List CarrierMeas) : Device :=
  let preset := d.get (F.PLT_STATUS_RX_PRESET n)
  ms.zipIdx.foldl (fun (s : Device) (x : CarrierMeas × Nat) =>
    if !carrierUsed preset x.2 then s.setEvm n x.2 0
    else if (evmSum x.1).1 < 16 then s
    else (s.setEvm n x.2 (evmSum x.1).byte).modPlt n fun q => { q with evm := q.evm.setIfInBounds x.2 (evmSum x.1) }) d

/-- The gain code brings a block's rms to AGC_TGT or below: rms × 10^((code − 96) / 80) ≤ target, both sides to the power 80 (R272). -/
def agcFits (target rms code : Nat) : Bool := decide (rms ^ 80 * 10 ^ code ≤ target ^ 80 * 10 ^ 96)

/-- One step of 0.25 dB of the tracking gain towards the target (R272). -/
def agcStep (target rms code : Nat) : Nat :=
  if !agcFits target rms code then code - 1 else if code < 255 && agcFits target rms (code + 1) then code + 1 else code

/-- The tracking gain after a block: up to four steps (R272). -/
def agcBlock (target code rms : Nat) : Nat := (List.range 4).foldl (fun c _ => agcStep target rms c) code

/-- Groups in a row within ±1/16 sample, after one with timing error `e` in 1/4096 sample (R271). -/
def timingRun (run : Nat) (e : Int) : Nat := if e.natAbs ≤ 256 then run + 1 else 0

/-- What the chains counted and measured over the period (R240, R263, R266, R268, R271, R272; the data path's gain enters nowhere, R238): RES_LOCK sets after 16 groups in a row, and the
applied gain follows the tracking gain unless a reception froze it. -/
def Device.takeChain (d : Device) (n : Lane) (c : PilotChain) : Device :=
  let lim := clampInt (-200000) 200000 c.resFreq
  let ovr := c.resFreq != lim
  let d1 := ((d.bump (F.PLT_SAT_TX_CLIP n) c.txClip).bump (F.PLT_SAT_SD_OVL n) c.sdOvl).bump (F.PLT_FIR_SAT n) c.firSat
  let d2 := d1.raiseIf (c.sdOvl != 0) (F.PLT_INT_STATUS_SD_OVL n)
  let track := c.rms.foldl (agcBlock (d.get (F.PLT_AGC_AGC_TGT n))) (d.plt.get n).agcTrack
  let d3 := d2.modPlt n fun q => { q with agcTrack := track }
  let d4 := if d3.flag (F.PLT_STATUS_AGC_FROZEN n) then d3 else d3.set (F.PLT_AGC_AGC_GAIN n) track
  let d5 := ((d4.set (F.PLT_RES_FREQ n) (ofSigned 20 lim)).setB (F.PLT_STATUS_RES_LIMIT n) ovr).raiseIf ovr (F.PLT_INT_STATUS_RES_LIMIT n)
  let (run, lock) := c.timing.foldl (fun (q : Nat × Bool) e => (timingRun q.1 e, q.2 || decide (16 ≤ timingRun q.1 e))) ((d.plt.get n).inBound, false)
  let d6 := d5.modPlt n fun q => { q with inBound := run }
  if lock && d6.pilotSync n then d6.set (F.PLT_STATUS_RES_LOCK n) 1 else d6

/-- Send a LOADMAP (R260): a new map takes the next identifier. -/
def Device.issueMap (d : Device) (n : Lane) (preset rec : Nat) (codes : List Nat) : Device :=
  let p := d.plt.get n
  let again := match p.issued.head? with
    | some m => m.preset == preset && m.codes == codes
    | none => false
  let ident := if preset = 0 then 0 else if again then (match p.issued.head? with | some m => m.ident | none => 0) else p.nextMap
  let wait := max 1 (d.get (F.PLT_LOAD_CFG_LOAD_MIN n)) * 10000000
  let d1 := d.modPlt n fun q => { q with
    issued := if preset = 0 || again then q.issued else (LoadMap.mk ident preset codes :: q.issued).take 4
    nextMap := if preset = 0 || again then q.nextMap else q.nextMap % 15 + 1
    loadreq := false, diffRun := 0, lastLoad := codes, nextLoadmap := d.now + wait, sentRec := rec }
  (d1.set (F.PLT_QUAL_LAST_MAP n) ident).queueCtl n 1 1 (.loadmap ident preset (d1.get (F.PLT_QUAL_PQ n)) rec codes)

/-- PQ over the powers measured in a period, in the preset of the last committed frame (R280). -/
def Device.measuredPq (d : Device) (n : Lane) (ms : List CarrierMeas) : Nat :=
  let p := pilotPowers (d.get (F.PLT_STATUS_RX_PRESET n)) ms
  pilotQuality p.1 p.2 (Config.freeWord d.draws).toNat

/-- An EVM update (R258, R260, R279, R280): two differing loadings are consecutive only while LOAD_EN is 1 and the pilot is in sync. -/
def Device.evmUpdate (d : Device) (n : Lane) (ms : List CarrierMeas) (c : PilotChain) : Device :=
  if !d.pilotRxRuns n then d.takeChain n c
  else
    let pq := d.measuredPq n ms
    let d1 := ((d.takeEvm n ms).takeChain n c).draw
    let rec' := recommend (d1.get (F.PLT_QUAL_REC_PRESET n)) pq
    let d2 := (d1.set (F.PLT_QUAL_PQ n) pq).set (F.PLT_QUAL_REC_PRESET n) rec'
    if !d2.flag (F.PLT_CTRL_LOAD_EN n) || !d2.pilotSync n then d2.modPlt n fun q => { q with diffRun := 0 }
    else
      let preset := d2.get (F.PLT_STATUS_RX_PRESET n)
      let margin := d2.get (F.PLT_LOAD_CFG_LOAD_MARGIN n)
      let codes := if preset = 0 then List.replicate 64 0 else (d2.plt.get n).evm.toList.map fun e => loadCode preset e margin
      let bits : Nat := codes.foldl (· + ·) 0
      let p := d2.plt.get n
      let run := if codes = p.lastLoad then 0 else p.diffRun + 1
      let d3 := d2.modPlt n fun q => { q with diffRun := run }
      let free := decide (p.nextLoadmap ≤ d3.now)
      let due := p.loadreq || (free && (decide (2 ≤ run) || rec' != p.sentRec))
      if due && (preset == 0 || decide (16 ≤ bits)) then d3.issueMap n preset rec' codes else d3

/-- A LOADMAP is received (R255, R261). -/
def Device.loadmap (d : Device) (n : Lane) (ident preset rec : Nat) (codes : List Nat) : Device :=
  let ok := preset == 0 || codes.all fun c => (c == 0 || c == 1 || c == 2 || c == 4 || c == 6) && decide (c ≤ topBits preset)
  if ok then
    d.modPlt n fun q => { q with
      recPreset := rec, recValid := true, maps := LoadMap.mk ident preset codes :: q.maps.filter fun m => m.preset != preset }
  else d

/-- A LOADREQ is received (R260): answered at the next EVM update. -/
def Device.loadreq (d : Device) (n : Lane) : Device := d.modPlt n fun q => { q with loadreq := true }

/-- No LOADMAP for 2 s (R256). -/
def Device.loadmapTimeout (d : Device) (n : Lane) : Device := d.modPlt n fun q => { q with recPreset := 0 }

/-! ### Meanings -/

/-- PILOT_FRAME_START (R252). -/
def execPilotFrameStart (n : Lane) (s : State) : Host.Outcome State Fault Refusal := .next { s with dev := s.dev.pilotStart n }
/-- CLASS4_HANDOVER (R253). -/
def execClass4Handover (n : Lane) (s : State) : Host.Outcome State Fault Refusal := .next { s with dev := s.dev.handover n }
/-- FABRIC_FRAME_EXPIRY (R253). -/
def execFabricFrameExpiry (n : Lane) (s : State) : Host.Outcome State Fault Refusal := .next { s with dev := s.dev.frameExpiry n }
/-- SYNC_DETECTION (R273). -/
def execSyncDetection (n : Lane) (metrics : List Nat) (near : Nat) (s : State) : Host.Outcome State Fault Refusal :=
  .next { s with dev := s.dev.syncDetect n metrics near }
/-- HEADER_RECEIVED (R276). -/
def execHeaderReceived (n : Lane) (h : Word) (s : State) : Host.Outcome State Fault Refusal :=
  .next { s with dev := s.dev.headerReceived n h }
/-- FRAME_RECEIVED (R277). -/
def execFrameReceived (n : Lane) (bytes : List Byte) (crc : Word) (buffered : Bool) (s : State) : Host.Outcome State Fault Refusal :=
  .next { s with dev := s.dev.frameReceived n bytes crc buffered }
/-- SYNC_LOSS (R278). -/
def execSyncLoss (n : Lane) (s : State) : Host.Outcome State Fault Refusal := .next { s with dev := s.dev.syncLoss n }
/-- RESYNC (R278). -/
def execResync (n : Lane) (s : State) : Host.Outcome State Fault Refusal := .next { s with dev := s.dev.resync n }
/-- EVM_UPDATE (R279). -/
def execEvmUpdate (n : Lane) (errs : List (List (PilotSym × Nat))) (powers : List CarrierPower) (c : PilotChain) (s : State) :
    Host.Outcome State Fault Refusal :=
  .next { s with dev := s.dev.evmUpdate n (carriersOf errs powers) c }
/-- LOADMAP (R261). -/
def execLoadmap (n : Lane) (ident preset _pq rec : Nat) (codes : List Nat) (s : State) : Host.Outcome State Fault Refusal :=
  .next { s with dev := s.dev.loadmap n ident preset rec codes }
/-- LOADREQ (R260). -/
def execLoadreq (n : Lane) (_preset : Nat) (s : State) : Host.Outcome State Fault Refusal := .next { s with dev := s.dev.loadreq n }
/-- LOADMAP_TIMEOUT (R256). -/
def execLoadmapTimeout (n : Lane) (s : State) : Host.Outcome State Fault Refusal := .next { s with dev := s.dev.loadmapTimeout n }
/-- IDLE_GROUP_BOUNDARY (R257). -/
def execIdleGroupBoundary (n : Lane) (s : State) : Host.Outcome State Fault Refusal := .next { s with dev := s.dev.idleGroup n }

end Sys2Proof.Machine
end

