-- ==== Sys2Proof/Machine/Staged.lean ====
section
/-! DEFINITION. Staged groups: what rejects a commit of each group, the pending set, its boundary and its time limit (R311 to R314, Table 19-4), with the meanings of TRIM_BOUNDARY, MFT_COMMIT, STAGED_GROUP_LIVE and COMMIT_TIMEOUT. -/

namespace Sys2Proof.Machine

/-- The magnitude of a two's complement field of a pending set. -/
def wordsMag (ws : List (Nat × Word)) (f : Fld) : Nat := (toSigned (f.hi - f.lo + 1) (wordsGet ws f)).natAbs

/-- The address of the first condition that holds, in the order a rule lists them (R312). -/
def firstFail (conds : List (Bool × Nat)) : Option Nat := (conds.find? fun c => c.1).map fun c => c.2

/-- The line receive group (R85, R204). -/
def Device.lrxReject (d : Device) (n : Lane) (ws : List (Nat × Word)) : Option Nat :=
  let rate := wordsGet ws (F.LRX_CTRL_RATE n)
  let main := wordsGet ws (F.LRX_FFE_CFG_MAIN n)
  firstFail [
    (rate == 3, (F.LRX_CTRL n).addr),
    (rate != d.rate n && d.rxInRxon n, (F.LRX_CTRL n).addr),
    (rate == 2 && !maskHas (BitVec.ofNat 8 (d.get F.BWK_NEG_STATUS_AGREED_MASK)) n, (F.LRX_CTRL n).addr),
    (rate == 2 && wordsGet ws (F.LRX_CTRL_PRECODE n) == 1, (F.LRX_CTRL n).addr),
    (decide (39 < wordsGet ws (F.LRX_FFE_CFG_CURSOR n)), (F.LRX_FFE_CFG n).addr),
    (decide (main < 128 ∨ 511 < main), (F.LRX_FFE_CFG n).addr),
    (rate == 0 && d.lget F.HLN_MODE_HOST_MODE == 1, (F.LRX_CTRL n).addr)]

/-- The line transmit group (R170): 128 is 1.0. -/
def ltxReject (n : Lane) (ws : List (Nat × Word)) : Option Nat :=
  let tap (j : Nat) : Fld := ⟨(F.LTX_FFE_TAP n j).addr, 8, 0⟩
  firstFail [
    (decide (128 < (List.range 7).foldl (fun t j => t + wordsMag ws (tap j)) 0), (F.LTX_FFE_TAP n 0).addr),
    (decide (toSigned 9 (wordsGet ws (tap 3)) < 64), (F.LTX_FFE_TAP n 3).addr)]

/-- The host lane group (R236, R203). -/
def Device.hlnReject (d : Device) (k : HLane) (ws : List (Nat × Word)) : Option Nat :=
  let on := wordsGet ws (F.HLN_CTRL_RX_EN k) == 1 || wordsGet ws (F.HLN_CTRL_TX_EN k) == 1
  firstFail [
    (on && d.lget (F.CHT_RX_VALID (wordsGet ws (F.HLN_CTRL_ENTRY k))) == 0, (F.HLN_CTRL k).addr),
    (on && !d.hostUsed k, (F.HLN_CTRL k).addr)]

/-- The channel table (R215). -/
def Device.chtReject (d : Device) (ws : List (Nat × Word)) : Option Nat :=
  let bad (e : Nat) : Bool :=
    wordsGet ws (F.CHT_RX_VALID e) == 1
      && (decide (63 < wordsMag ws (F.CHT_TX_CM2 e) + wordsMag ws (F.CHT_TX_CM1 e) + wordsGet ws (F.CHT_TX_C0 e) + wordsMag ws (F.CHT_TX_C1 e))
        || decide (wordsGet ws (F.CHT_TX_C0 e) < 32))
  let gone (e : Nat) : Bool :=
    wordsGet ws (F.CHT_RX_VALID e) == 0 && hlanes.any fun k => d.hostLive k && d.lget (F.HLN_CTRL_ENTRY k) == e
  firstFail (((List.range 16).map fun e => (bad e, (F.CHT_TX e).addr)) ++ (List.range 16).map fun e => (gone e, (F.CHT_RX e).addr))

/-- The host mode group (R205). -/
def Device.hostModeReject (d : Device) : Option Nat :=
  let parked (v : Nat) : Bool := v == 0 || v == 4
  firstFail (
    (hlanes.map fun (k : HLane) => (d.hostLive k, (F.HLN_CTRL k).addr))
      ++ (lanes.map fun (n : Lane) => (!parked (d.get (F.LRX_STATE_RX_STATE n)), (F.LRX_STATE n).addr))
      ++ lanes.map fun (n : Lane) => (!parked (d.get (F.LTX_STATUS_STATE n)), (F.LTX_CTRL n).addr))

/-- The pool group (R106, R136). -/
def Device.poolReject (d : Device) (ws : List (Nat × Word)) : Option Nat :=
  let w := wordsGet ws F.POOL_CTRL_WINDOW
  let p := wordsGet ws F.POOL_CTRL_MAX_PASS
  firstFail [
    (decide (4 < w), F.POOL_CTRL.addr),
    (decide (p = 0 ∨ 4 < p), F.POOL_CTRL.addr),
    (w != d.lget F.POOL_CTRL_WINDOW && lanes.any fun n => d.poolUse n && d.rxInRxon n, F.POOL_CTRL.addr),
    ((d.nativeMask != 0 || d.negRuns) && decide (1 < w), F.POOL_CTRL.addr)]

/-- The Breakwater group (R163). -/
def Device.bwkReject (d : Device) (ws : List (Nat × Word)) : Option Nat :=
  let w := wordsGet ws F.BWK_PORT_MAP
  let old := (d.liveReg F.BWK_PORT_MAP.addr).toNat
  firstFail [
    (lanes.any fun n => d.native n && w.testBit n.val != old.testBit n.val, F.BWK_PORT_MAP.addr),
    (d.negRuns, F.BWK_PORT_MAP.addr)]

/-- Fabric authorisation (R358). -/
def aclReject (ws : List (Nat × Word)) : Option Nat :=
  firstFail ((List.range 16).map fun k =>
    (wordsGet ws (F.FAB_ACL_CFG_KIND k) == 3 || decide (25 < wordsGet ws (F.FAB_ACL_CFG_PLEN k)), (F.FAB_ACL_CFG k).addr))

/-- Lookout (R557). -/
def Device.lkoReject (d : Device) (ws : List (Nat × Word)) : Option Nat :=
  let st := d.get F.LKO_STATUS_STATE
  let src := wordsGet ws F.LKO_SRC_SOURCE
  let red (r : Nat) : Bool := (wordsGet ws F.LKO_RED).testBit r
  let size (r : Nat) : Nat := wordsGet ws (F.LKO_REGION_SIZE r)
  let base (r : Nat) : Nat := wordsGet ws (F.LKO_REGION_BASE r)
  let on := (List.range 5).filter red
  let clash (r q : Nat) : Bool := r != q && decide (base r < base q + size q ∧ base q < base r + size r)
  let badRegion (r : Nat) : Bool := red r && (decide (256 < base r + size r) || on.any (clash r))
  let en (k : Nat) : Bool := wordsGet ws (F.LKO_TU_CFG_EN k) == 1
  let kind (k : Nat) : Nat := wordsGet ws (F.LKO_TU_CFG_KIND k)
  let thr (f : Fld) : Int := toSigned 20 (wordsGet ws f)
  let units (p : Nat → Bool) (f : Nat → Fld) : List (Bool × Nat) := (List.range 4).map fun k => (en k && p k, (f k).addr)
  firstFail (
    [(st == 1 || st == 2 || st == 4, F.LKO_STATUS.addr),
     (decide (5 < src), F.LKO_SRC.addr),
     (on.isEmpty, F.LKO_RED.addr)]
    ++ ((List.range 5).map fun r => (badRegion r, (F.LKO_REGION r).addr))
    ++ [(red 3 && (decide (size 3 < 4) || decide (1 < src)), F.LKO_RED.addr),
        (red 4 && decide (size 4 < 5), F.LKO_RED.addr),
        ((red 1 || red 2) && (src == 5 || wordsGet ws F.LKO_RED_BIN_LOG2 == 0), F.LKO_RED.addr),
        (decide (16 < wordsGet ws F.LKO_SRC_DEC), F.LKO_SRC.addr)]
    ++ units (fun k => decide (4 < kind k) || (decide (kind k ≤ 3) && src == 5)) F.LKO_TU_CFG
    ++ units (fun k => (kind k == 1 || kind k == 3) && decide (thr (F.LKO_TU_THB k) ≤ thr (F.LKO_TU_THA k))) F.LKO_TU_THA
    ++ units (fun k => (kind k == 0 || kind k == 3) && decide (2 ≤ wordsGet ws (F.LKO_TU_CFG_COND k))
        && decide (wordsGet ws (F.LKO_TU_WMAX k) < wordsGet ws (F.LKO_TU_WMIN k))) F.LKO_TU_WMIN)

/-- The failing register of a rejected commit, or none (the Rejection column of Table 8-6). -/
def Device.commitReject (d : Device) (g : Nat) (ws : List (Nat × Word)) : Option Nat :=
  let lane : Lane := Fin.ofNat 8 (g % 256)
  match g / 256 with
  | 0x01 => d.lrxReject lane ws
  | 0x02 =>
    if wordsGet ws (F.LRX_SYN_CTRL_TERM lane) != d.lget (F.LRX_SYN_CTRL_TERM lane) && d.rxInRxon lane then
      some (F.LRX_SYN_CTRL lane).addr else none
  | 0x03 => ltxReject lane ws
  | 0x04 =>
    if wordsGet ws (F.PLT_RX_CFG_FIR_SEL lane) == 1 && wordsGet ws (F.PLT_RX_CFG_FIR_LEN lane) == 0 then
      some (F.PLT_RX_CFG lane).addr else none
  | 0x05 => d.hlnReject (Fin.ofNat 32 (g % 256)) ws
  | 0x06 => d.chtReject ws
  | 0x07 => d.hostModeReject
  | 0x08 => d.poolReject ws
  | 0x09 => d.bwkReject ws
  | 0x10 => aclReject ws
  | 0x11 => d.lkoReject ws
  | _ => none

/-- Whether a group's boundary is now: its block does not make it wait (the Becomes live column of Table 8-6). -/
def Device.boundaryNow (d : Device) (g : Nat) : Bool :=
  let lane : Lane := Fin.ofNat 8 (g % 256)
  match g / 256 with
  | 0x01 => !d.rxInRxon lane
  | 0x03 => !d.txInTxon lane
  | 0x04 => !d.pilotSync lane
  | 0x05 | 0x06 => false
  | _ => true

/-- A pending commit takes effect whole (R311); one that would raise OP_MIN waits for the operating point (R439). -/
def Device.goLiveGroup (d : Device) (g : Nat) : Device :=
  match d.pendingCommit g with
  | none => d
  | some c =>
    if (d.makeLive c.words).opShort && decide (d.opMin < (d.makeLive c.words).opMin) then d
    else
      let lane : Lane := Fin.ofNat 8 (g % 256)
      match g / 256 with
      | 0x01 => (d.lrxLive lane c.words).endCommit c stOk
      | 0x02 => (d.synLive lane c.words).endCommit c stOk
      -- the boundary is one at which all that waits takes effect, and one EPOCH counts it (R181)
      | 0x03 => if d.txInTxon lane then d.txChanges lane true else (d.ltxCommit lane).1
      | 0x04 => d.firCommit lane
      | 0x05 =>
        let k : HLane := Fin.ofNat 32 (g % 256)
        let rx := d.lget (F.HLN_CTRL_RX_EN k) == 1
        let tx := d.lget (F.HLN_CTRL_TX_EN k) == 1
        ((d.makeLive c.words).hostEnabled k rx tx).endCommit c stOk
      | 0x07 => ((d.makeLive c.words).egrUpdate).endCommit c stOk
      | 0x10 =>
        let e := d.makeLive c.words
        (e.modFlash fun (q0 : Flash) => { q0 with acl := c.words }).endCommit c stOk
      | _ => (d.makeLive c.words).endCommit c stOk

/-- A commit by register is answered at once (Table 8-12). -/
def Device.answerCommit (d : Device) (status fail : Nat) : Device :=
  (((d.set F.MFT_COMMIT_GO 0).set F.MFT_COMMIT_STATUS_STATUS status).set F.MFT_COMMIT_STATUS_FAIL_ADDR fail).raise
    F.MFT_INT_STATUS_COMMIT_DONE

/-- A group number names a group of Table 19-4 (R608). -/
def groupExists (g : Nat) : Bool := !(groupRegs g).isEmpty

/-- A commit that passed its check replaces an earlier one of its group and becomes pending, or live where nothing makes it wait
(R311, R313). -/
def Device.acceptCommit (d : Device) (g : Nat) (ws : List (Nat × Word)) (o : Origin) (m : Option Manifest) : Device :=
  let d1 := match d.pendingCommit g with
    | some old => d.endCommit old stSuperseded
    | none => d
  let d2 := (d1.modMft fun (q0 : Mft) => { q0 with commits := d1.mft.commits ++ [PendCommit.mk g ws o] })
  let d3 := match m with
    | some x => d2.await x (.commit g)
    | none => d2
  if d3.boundaryNow g then d3.goLiveGroup g else d3

/-- A COMMIT manifest (R311 to R313). -/
def Device.commitManifest (d : Device) (m : Manifest) (g : Nat) : Device :=
  let r0 := BitVec.ofNat 32 g
  if !groupExists g then d.finish m stBadOperand r0
  else
    let ws := d.shadowOf g
    match d.commitReject g ws with
    | some a => d.finish m stStageReject r0 (BitVec.ofNat 32 a)
    | none => d.acceptCommit g ws m.origin (some m)

/-- A write of 1 to GO of MFT_COMMIT with a group number (R313); while GO reads 1 it has no effect (R603). -/
def Device.commitRegister (d : Device) (g : Nat) : Device :=
  if d.flag F.MFT_COMMIT_GO then d
  else
    let d1 := (d.set F.MFT_COMMIT_GROUP g).set F.MFT_COMMIT_GO 1
    if !groupExists g then d1.answerCommit stBadOperand 0
    else
      let ws := d1.shadowOf g
      match d1.commitReject g ws with
      | some a => d1.answerCommit stStageReject a
      | none => d1.acceptCommit g ws .register none

/-- A pending commit reaches its group's boundary. A lane that acquires has none before inner lock, and the pilot filter's needs
that no reception is in progress. -/
def Device.groupBoundary (d : Device) (g : Nat) : Device :=
  let lane : Lane := Fin.ofNat 8 (g % 256)
  match g / 256 with
  | 0x01 => if d.boundaryNow g || d.tracking lane then d.goLiveGroup g else d
  | _ => d.goLiveGroup g

/-- A commit that is not live 50 ms after acceptance is withdrawn (R314). -/
def Device.commitTimeout (d : Device) (g : Nat) : Device :=
  match d.pendingCommit g with
  | some c => d.endCommit c stTimeout
  | none => d

/-- Commits that waited for the operating point and have no other boundary take effect (R438). -/
def Device.releaseCommits (d : Device) : Device :=
  d.mft.commits.foldl (fun (s : Device) (c : PendCommit) => if s.boundaryNow c.group then s.goLiveGroup c.group else s) d

/-- TRIM_BOUNDARY (R500). -/
def execTrimBoundary (b : BoundaryAt) (s : State) : Host.Outcome State Fault Refusal :=
  .next { s with dev := s.dev.rxTrimBoundary b.lane b.start }

/-- MFT_COMMIT (R313). -/
def execMftCommit (g : BitVec 16) (s : State) : Host.Outcome State Fault Refusal := .next { s with dev := s.dev.commitRegister g.toNat }

/-- STAGED_GROUP_LIVE (R311). -/
def execStagedGroupLive (g : BitVec 16) (s : State) : Host.Outcome State Fault Refusal := .next { s with dev := s.dev.groupBoundary g.toNat }

/-- COMMIT_TIMEOUT (R314). -/
def execCommitTimeout (g : BitVec 16) (s : State) : Host.Outcome State Fault Refusal := .next { s with dev := s.dev.commitTimeout g.toNat }

end Sys2Proof.Machine
end

