-- ==== Sys2Proof/Machine/Calib.lean ====
section
/-! DEFINITION. Calibration and trimming: estimation windows and their acceptance, trim writes, the calibration record, its two slots, and CAL_SAVE (chapter 15), with the meanings of their commands. -/

namespace Sys2Proof.Machine

/-! ### Acceptance (R495 to R503) -/

/-- The estimates of a kind: 0 offset, 1 gain, 2 skew. -/
def kindOf (e : List Int × List Int × List Int × Int) (kind : Nat) : List Int :=
  if kind = 0 then e.1 else if kind = 1 then e.2.1 else e.2.2.1

/-- The corrections of one kind relative to their mean over the 64 sub-ADCs, which the estimator removes before it forms a candidate
(R493): 64 times each less the sum, so in 1/4096 of a step. -/
def relative (l : List Int) : List Int := l.map fun x => 64 * x - l.sum

/-- What a window gives to the judgement: the relative corrections and the TIA offset, in 1/4096 of a step. -/
def candidate (e : Estimates) : List Int × List Int × List Int × Int :=
  (relative e.offset, relative e.gain, relative e.skew, 64 * e.tia)

/-- Two estimates agree (R496). In 1/4096 step: 8 offset steps, 2 gain steps, 40 fs of skew at 15 fs a step (R499), one TIA step. -/
def agree (kind : Nat) (a b : Int) : Bool :=
  if kind = 0 then decide ((a - b).natAbs ≤ 32768)
  else if kind = 1 then decide ((a - b).natAbs ≤ 8192)
  else if kind = 2 then decide ((a - b).natAbs * 15 ≤ 163840)
  else decide ((a - b).natAbs ≤ 4096)

/-- Range of a trim (Table 15-1). -/
def trimRange (kind : Nat) : Int × Int := if kind = 2 then (-512, 511) else (-128, 127)

/-- Limit of CAL_COMPAT_LIM for a kind. -/
def compatLim (lim : Word) (kind : Nat) : Nat :=
  if kind = 0 then bitsOf lim 7 0 else if kind = 1 then bitsOf lim 15 8 else bitsOf lim 25 16

/-- A kind's set passed: it is counted, and pends when it changes a trim and APPLY_EN lets it (R497, R503). -/
def Device.acceptSet (d : Device) (n : Lane) (kind : Nat) (old new : List Int) : Device :=
  let d1 := (d.bump (F.LRX_CAL_EVENTS_ACCEPT n)).raise (F.LRX_CAL_INT_STATUS_ACCEPT n)
  if old == new || !d.flag (F.LRX_CAL_CTRL_APPLY_EN n) then d1
  else
    let d2 := d1.modRx n fun r =>
      if kind = 3 then { r with tiaDue := new.head? }
      else { r with trimSets := r.trimSets.filter (fun s => s.1 != kind) ++ [(kind, new)] }
    d2.set (F.LRX_CAL_STATUS_SET_PENDING n) 1

/-- A kind's set failed. -/
def Device.rejectSet (d : Device) (n : Lane) : Device :=
  (d.bump (F.LRX_CAL_EVENTS_REJECT n)).raise (F.LRX_CAL_INT_STATUS_REJECT n)

/-- Judge one kind: `count` windows whose estimates sum to `sum` per sub-ADC, with the verdict so far. CAL_COMPAT_LIM has no limit for the TIA
offset, whose set passes under R498 (DESIGN CHOICE, log 151). -/
def Device.judge (d : Device) (n : Lane) (kind count : Nat) (sum : List Int) (ok : Bool) (lim : Option Word) : Device :=
  let old : List Int :=
    if kind = 3 then [toSigned 8 (d.rx.get n).tiaLive]
    else (List.finRange 64).map fun j => trimField ((d.rx.get n).trimLive.get j) kind
  let raw := (List.range old.length).map fun j => old.getD j 0 + roundDiv (sum.getD j 0) (4096 * count)
  let within := match lim with
    | some l => kind = 3 || raw.all fun t => decide (t.natAbs ≤ compatLim l kind)
    | none => true
  if ok && within then
    let (lo, hi) := trimRange kind
    d.acceptSet n kind old (raw.map (clampInt lo hi))
  else d.rejectSet n

/-- The window after this one starts under the rule that is in force now (R513). -/
def Device.nextWindow (d : Device) (n : Lane) (first : Option (List Int × List Int × List Int × Int)) : Device :=
  (d.modRx n fun r => { r with
    firstEst := first, estSpoiled := false, estRule := (d.get F.CAL_CTRL_MODE, d.reg F.CAL_COMPAT_LIM.addr) }).setB
    (F.LRX_CAL_STATUS_SECOND n) first.isSome

/-- An estimation window ends (R495 to R499). -/
def Device.estWindow (d : Device) (n : Lane) (e : Estimates) : Device :=
  let r := d.rx.get n
  if !d.flag (F.LRX_CAL_CTRL_EST_EN n) || d.get (F.LRX_STATUS_ACQ_STEP n) < 2 then d
  else if r.estSpoiled then d.nextWindow n none
  else
    let now := candidate e
    if r.estRule.1 = 1 then
      let d1 := [0, 1, 2].foldl (fun (s : Device) k => s.judge n k 1 (kindOf now k) true (some r.estRule.2)) d
      (d1.judge n 3 1 [now.2.2.2] true (some r.estRule.2)).nextWindow n none
    else match r.firstEst with
      | none => d.nextWindow n (some now)
      | some a =>
        let d1 := [0, 1, 2].foldl (fun (s : Device) k =>
          let x := kindOf a k
          let y := kindOf now k
          let ok := (List.range 64).all fun j => agree k (x.getD j 0) (y.getD j 0)
          s.judge n k 2 ((List.range 64).map fun j => x.getD j 0 + y.getD j 0) ok none) d
        (d1.judge n 3 2 [a.2.2.2 + now.2.2.2] (agree 3 a.2.2.2 now.2.2.2) none).nextWindow n none

/-- A write to a trim register (R503): the register holds it at once, and it takes effect with the lane's next boundary; on a lane not in RXON,
which has none, at once (DESIGN CHOICE, log 151). -/
def Device.trimWrite (d : Device) (n : Lane) (t : TrimReg) (w : Word) : Device :=
  let d1 := match t with
    | .adc j =>
      let v := w &&& fieldMask 25 0
      (d.setReg (F.LRX_ADC_TRIM n j).addr v).modRx n fun r => { r with
        trimSets := [], trimWrites := r.trimWrites.filter (fun (x : Nat × Word) => x.1 != j.val) ++ [(j.val, v)] }
    | .tia =>
      let v := w &&& fieldMask 7 0
      (d.setReg (F.LRX_TIA_TRIM n).addr v).modRx n fun r => { r with
        tiaDue := none, trimWrites := r.trimWrites.filter (fun (x : Nat × Word) => x.1 != 64) ++ [(64, v)] }
  let r := d1.rx.get n
  let d2 := d1.setB (F.LRX_CAL_STATUS_SET_PENDING n) (!r.trimSets.isEmpty || r.tiaDue.isSome)
  if d2.rxInRxon n then d2 else d2.applyTrims n

/-! ### The record (R506 to R511) -/

/-- SEQ a is newer than b (R509). -/
def newerSeq (a b : Nat) : Bool :=
  let k := (a + 2 ^ 32 - b % 2 ^ 32) % 2 ^ 32
  decide (1 ≤ k ∧ k < 2 ^ 31)

/-- The newest valid calibration record of flash. -/
def Device.newestCal (d : Device) : Option CalRec :=
  match d.flash.cal.get 0, d.flash.cal.get 1 with
  | some a, some b => if newerSeq b.seq a.seq then some b else some a
  | some a, none => some a
  | none, b => b

/-- Load the words of a record that `p` chooses into registers, live copies and the values in force. -/
def Device.applyCal (d : Device) (c : CalRec) (p : Nat → Bool) : Device :=
  let d1 := c.words.foldl (fun (s : Device) w =>
    if p w.1 then
      let m := stMask w.1
      if m = 0 then s.setReg w.1 w.2 else (s.setReg w.1 w.2).setLiveReg w.1 (w.2 &&& m)
    else s) d
  lanes.foldl (fun (s : Device) (n : Lane) =>
    let e := if p (F.LRX_ADC_TRIM n 0).addr then
        s.modRx n fun r => { r with
          trimLive := Vector.ofFn fun j => s.reg (F.LRX_ADC_TRIM n j).addr, tiaLive := s.get (F.LRX_TIA_TRIM n) % 256 }
      else s
    if p (F.LTX_DPD_LUT n 0).addr then
      e.modTx n fun t => { t with dpdRecord := (c.dpd.filter fun x => x.1 == n.val).map fun x => (x.2.1, x.2.2) }
    else e) d1

/-- Step 11 of Table 10-1: the newest valid record is loaded, or none (R377, R507); the channel table is one of its
sections, VALID bits included (R216). -/
def Device.loadCal (d : Device) : Device :=
  match d.newestCal with
  | none => d.raise F.SYS_INT_STATUS_CAL_DEFAULT
  | some c =>
    let d1 := d.applyCal c fun _ => true
    let d2 := { d1 with
      pool := { d1.pool with coefs := some (c.kEo, c.kEr) }, sec := { d1.sec with cal := some c }, mon := { d1.mon with page02 := c.page02 } }
    let d3 := (((d2.set F.PWR_CTRL_FLOOR c.floor).set F.CAL_STATUS_LOADED 1).set F.CAL_STATUS_SLOT c.slot).set F.CAL_SEQ c.seq
    if c.whole then d3 else (d3.set F.CAL_STATUS_CAL_PARTIAL 1).raise F.CAL_INT_STATUS_PARTIAL

/-- A value of the loaded record that CAL_SAVE copies. -/
def Device.copied {α : Type} (d : Device) (dflt : α) (f : CalRec → α) : α :=
  match d.sec.cal with
  | some c => f c
  | none => dflt

/-- The live values of Table 15-4 as a record. -/
def Device.calSnapshot (d : Device) (seq slot : Nat) : CalRec :=
  let own (n : Lane) : List (Nat × Word) :=
    ((List.finRange 64).map fun (j : Fin 64) => ((F.LRX_ADC_TRIM n j).addr, (d.rx.get n).trimLive.get j))
      ++ [((F.LRX_TIA_TRIM n).addr, BitVec.ofNat 32 (d.rx.get n).tiaLive),
          ((F.LTX_DRV_TRIM n).addr, d.copied 0 fun c =>
            match c.words.find? (fun w => w.1 == (F.LTX_DRV_TRIM n).addr) with | some w => w.2 | none => 0),
          ((F.LRX_PLL_CAL n).addr, putBits 0 13 8 (d.get (F.LRX_PLL_CAL_BAND n))),
          ((F.LTX_PLL_CAL n).addr, putBits 0 13 8 (d.get (F.LTX_PLL_CAL_BAND n)))]
      ++ (List.range 16).map fun e => ((F.LTX_PWR_TBL n e).addr, d.reg (F.LTX_PWR_TBL n e).addr)
  let cht := (groupRegs 0x0600).map fun a => (a, d.liveReg a)
  let mon := (List.range 24).flatMap fun k =>
    [((F.MON_OFS k).addr, d.reg (F.MON_OFS k).addr), ((F.MON_GAIN k).addr, d.reg (F.MON_GAIN k).addr)]
  let old := d.copied [] fun c => c.dpd
  let live := lanes.map fun n => (n.val, d.rate n, (d.tx.get n).dpd)
  { seq := seq, slot := slot, whole := true, words := lanes.flatMap own ++ cht ++ mon,
    kEo := d.copied 0 fun c => c.kEo, kEr := d.copied 0 fun c => c.kEr, floor := d.copied 0 fun c => c.floor,
    slopes := d.copied [] fun c => c.slopes,
    dpd := old.filter (fun x => !live.any fun y => y.1 == x.1 && y.2.1 == x.2.1) ++ live,
    page02 := d.mon.page02 }

/-- A CAL_SAVE runs (R508, R510): the slot that does not hold the newest valid record is written; `ok` says that it reads back
as written. With no valid record the slot and the first SEQ are not stated: free. -/
def Device.calSave (d0 : Device) (m : Manifest) (ok : Bool) : Device :=
  let newest := d0.newestCal
  let d := (d0.draw)
  let slot : Fin 2 := match newest with
    | some c => if c.slot = 0 then 1 else 0
    | none => if Config.freeBool d0.draws then 1 else 0
  let seq := match newest with
    | some c => (c.seq + 1) % 2 ^ 32
    | none => (Config.freeWord d0.draws).toNat
  if ok then
    let d1 := (d.modFlash fun (q0 : Flash) => { q0 with cal := d.flash.cal.set slot (some (d.calSnapshot seq slot.val)) })
    (((d1.set F.CAL_SEQ seq).set F.CAL_STATUS_SLOT slot.val).raise F.CAL_INT_STATUS_SAVE_DONE).finish m stOk (BitVec.ofNat 32 slot.val)
  else
    ((d.modFlash fun (q0 : Flash) => { q0 with cal := d.flash.cal.set slot none }).raise F.CAL_INT_STATUS_SAVE_FAIL).finish m stFailed 1

/-- ESTIMATION_WINDOW_END (R496). -/
def execEstimationWindowEnd (n : Lane) (e : Estimates) (s : State) : Host.Outcome State Fault Refusal :=
  .next { s with dev := s.dev.estWindow n e }

/-- TRIM_WRITE (R503). -/
def execTrimWrite (n : Lane) (t : TrimReg) (w : Word) (s : State) : Host.Outcome State Fault Refusal :=
  .next { s with dev := s.dev.trimWrite n t w }

end Sys2Proof.Machine
end

