-- ==== Sys2Proof/Machine/Monitor.lean ====
section
/-! DEFINITION. The monitor ADC (regular sequence, injected conversions, system calibration, overrange) and the bias DACs with their clear causes (chapter 14), with the meanings of their commands. -/

namespace Sys2Proof.Machine

/-! ### The converter -/

/-- The MADC domain runs: ACTIVE and STANDBY of a device that has started (Table 11-2). -/
def Device.madcRuns (d : Device) : Bool := d.sup.boot == .running && decide (d.get F.PWR_STATUS_STATE < 2)

/-- A channel whose results are signed, of the 24 channels (R465, Table 14-1). -/
def monSigned (ch : Nat) : Bool := 22 ≤ ch

/-- The lowest and highest code of a channel (R480). -/
def monRange (ch : Nat) : Int × Int := if monSigned ch then (-0x80000, 0x7FFFF) else (0, 0xFFFFF)

/-- The next channel of the regular sequence after `last`, in rising order with wrap (R468). -/
def nextRegular (seq : Nat) (last : Option Nat) : Option Nat :=
  let on := (List.range 24).filter fun k => seq.testBit k
  match last with
  | none => on.head?
  | some l =>
    match on.find? (fun k => l < k) with
    | some k => some k
    | none => on.head?

/-- The next piece of work in the order of R469, if any. -/
def Device.nextWork (d : Device) : Option MonWork :=
  match d.mon.queue with
  | (ch, man) :: _ => some (.injected ch man)
  | [] =>
    match d.mon.cal with
    | some c => if 0 < c.left then some (.phase c.ch) else none
    | none => if d.flag F.MON_CTRL_RUN then (nextRegular (d.get F.MON_SEQ) d.mon.last).map .regular else none

/-- The channel of a piece of work. -/
def MonWork.chan : MonWork → Nat
  | .idle => 0
  | .regular c | .injected c _ | .phase c | .recovery c | .dropped c => c

/-- Show the converter in MON_STATUS (Table 14-7). WORK is stated for the four kinds it codes; during a recovery conversion it is open. -/
def Device.monShow (d : Device) : Device :=
  let d1 := ((d.set F.MON_STATUS_INJ_Q d.mon.queue.length).setB F.MON_STATUS_CAL_BUSY d.mon.cal.isSome).set
    F.MON_STATUS_CHAN d.mon.work.chan
  match d1.mon.work with
  | .idle => (d1.set F.MON_STATUS_WORK 0).set F.MON_STATUS_RECOVER 0
  | .regular _ => (d1.set F.MON_STATUS_WORK 1).set F.MON_STATUS_RECOVER 0
  | .injected _ _ => (d1.set F.MON_STATUS_WORK 2).set F.MON_STATUS_RECOVER 0
  | .phase _ | .dropped _ => (d1.set F.MON_STATUS_WORK 3).set F.MON_STATUS_RECOVER 0
  | .recovery _ =>
    let (d2, w) := d1.fresh
    (d2.set F.MON_STATUS_WORK (w.toNat % 4)).set F.MON_STATUS_RECOVER 1

/-- Start the next piece of work, behind a recovery conversion on its channel when one is due (R469, R482). -/
def Device.monStart (d : Device) : Device :=
  let d1 :=
    if !d.madcRuns then d.modMon fun m => { m with work := .idle }
    else
      match d.nextWork with
      | none => d.modMon fun m => { m with work := .idle }
      | some w =>
        if d.mon.recover then d.modMon fun m => { m with work := .recovery w.chan, recover := false }
        else
          d.modMon fun m => { m with
            work := w
            ofs := d.sget (F.MON_OFS w.chan)
            gain := d.get (F.MON_GAIN w.chan)
            queue := match w with | .injected _ _ => m.queue.drop 1 | _ => m.queue
            last := match w with | .regular c => some c | _ => m.last }
  d1.monShow

/-- An idle converter starts work (R469). -/
def Device.monKick (d : Device) : Device := if d.mon.work == .idle then d.monStart else d.monShow

/-- The conversion in progress becomes a readout (R467). -/
def Device.monRead (d : Device) (ch : Nat) (a : Analog) (inj man : Bool) : Device :=
  d.modMon fun m => { m with
    readouts := m.readouts ++ [{ ch := ch, analog := a, ofs := m.ofs, gain := m.gain, inj := inj, man := man }]
    recover := match a with | .inRange _ => m.recover | _ => true }

/-- An integration ends (R469, R474, R482). -/
def Device.integrationBoundary (d : Device) (a : Analog) : Device :=
  let d1 :=
    match d.mon.work with
    | .idle => d
    | .regular ch => d.monRead ch a false false
    | .injected ch man => d.monRead ch a true man
    | .phase _ =>
      d.modMon fun m => { m with
        cal := m.cal.map fun (c : CalStep) => { c with
          left := c.left - 1, done := c.done + 1
          sum := match a with | .inRange r => c.sum + r | _ => c.sum
          ovr := match a with | .inRange _ => c.ovr | _ => true }
        recover := match a with | .inRange _ => m.recover | _ => true }
    | .dropped _ => d.modMon fun m => { m with recover := match a with | .inRange _ => m.recover | _ => true }
    | .recovery _ => (d.bump F.MON_STALE_CNT).raise F.MON_INT_STATUS_STALE
  d1.monStart

/-! ### Results (R471, R477, R480, R481, R484) -/

/-- The calibrated result before its clamp: rounded towards minus infinity (R477). -/
def calibrated (raw ofs : Int) (gain : Nat) : Int := ((raw - ofs) * gain) / (2 ^ 18 : Nat)

/-- The result code of a readout, and whether it overranged. -/
def Readout.result (r : Readout) : Int × Bool :=
  let (lo, hi) := monRange r.ch
  match r.analog with
  | .ovr => (hi, true)
  | .under => (lo, true)
  | .inRange raw =>
    let c := calibrated raw r.ofs r.gain
    (clampInt lo hi c, c < lo || hi < c)

/-- A result code as its register holds it (R480). -/
def Device.monAlign (d : Device) (ch : Nat) (v : Int) : Word :=
  if d.get (F.MON_CHCFG_ALIGN ch) = 1 then BitVec.ofInt 32 (v * 4096) else BitVec.ofInt 32 v

/-- The CMIS monitor that a channel feeds, as an index of Table 14-3 without the module temperature. -/
def cmisMonitor (ch : Nat) : Option Nat :=
  if ch < 16 then some ch else if ch = 19 then some 16 else if ch = 20 then some 17 else if ch = 21 then some 18 else none

/-- The range of a CMIS monitor: 16 bits unsigned, and signed for Aux 1 and 2 (PRESUMED: CMIS 5). -/
def cmisRange (i : Nat) : Int × Int := if i < 17 then (0, 65535) else (-32768, 32767)

/-- A new result reaches its CMIS monitor (R484); without a slope in a calibration record the value is open. -/
def Device.cmisFeed (d : Device) (ch : Nat) (v : Int) : Device :=
  match cmisMonitor ch with
  | none => d
  | some i =>
    if !(d.get F.MON_SEQ).testBit ch then d
    else
      let slope := match d.sec.cal with
        | some c => c.slopes.find? fun (s : Nat × Int × Int) => s.1 == i
        | none => none
      let (lo, hi) := cmisRange i
      match slope with
      | some (_, s, o) => d.modMon fun m => { m with cmis := m.cmis.set i (clampInt lo hi (roundDiv (v * s) (2 ^ 16) + o)) }
      | none =>
        let (e, w) := d.fresh
        e.modMon fun m => { m with cmis := m.cmis.set i (clampInt lo hi w.toInt) }

/-- The oldest readout is written (R467). -/
def Device.resultWritten (d : Device) : Device :=
  match d.mon.readouts with
  | [] => d
  | r :: rest =>
    let d0 := d.modMon fun m => { m with readouts := rest }
    let (v, ovr) := r.result
    let w := d0.monAlign r.ch v
    let d1 := (d0.setReg (F.MON_RES r.ch).addr w).bump (F.MON_INFO_COUNT r.ch)
    let d2 := ((d1.setB (F.MON_INFO_INJ r.ch) r.inj).setB (F.MON_INFO_CAL r.ch) (r.ofs != 0 || r.gain != 0x40000)).setB
      (F.MON_INFO_OVR r.ch) ovr
    let d3 := if ovr then
        (d2.setReg F.MON_OVR.addr (d2.reg F.MON_OVR.addr ||| BitVec.ofNat 32 (2 ^ r.ch))).raise F.MON_INT_STATUS_OVR (BitVec.ofNat 32 r.ch)
      else d2
    let d4 := d3.cmisFeed r.ch v
    let d5 := if r.inj then d4.setReg F.MON_INJ_RES.addr w else d4
    if r.man then
      match d5.mft.waiting.find? (fun x => x.goal == .monConvert r.ch) with
      | some x =>
        (d5.modMft fun _ => { d5.mft with
          waiting := d5.mft.waiting.erase x, done := d5.mft.done ++ [{ man := x.man, status := stOk, r0 := w, r1 := 0 }] })
      | none => d5
    else d5

/-! ### Injection and calibration -/

/-- Queue an injected conversion; false when four are queued (R470). -/
def Device.inject4 (d : Device) (ch : Nat) (man : Bool) : Device × Bool :=
  if 4 ≤ d.mon.queue.length then (d, false)
  else ((d.modMon fun m => { m with queue := m.queue ++ [(ch, man)] }).monKick, true)

/-- A write to MON_INJ (R470). A number above 23 names no channel and queues nothing. -/
def Device.monInj (d : Device) (ch : Nat) : Device :=
  if 24 ≤ ch then d
  else
    let (e, ok) := d.inject4 ch false
    if ok then e else e.raise F.MON_INT_STATUS_INJ_FULL

/-- Start a calibration step (R474). -/
def Device.calStart (d : Device) (ch : Nat) (full man : Bool) : Device :=
  (d.modMon fun m => { m with
    cal := some { ch := ch, full := full, left := 2 ^ d.get F.MON_CAL_CTRL_CAL_AVG, done := 0, sum := 0, ovr := false, man := man } }).monKick

/-- A write of 1 to GO (R474, R476). -/
def Device.calGo (d : Device) : Device :=
  let ch := d.get F.MON_CAL_CTRL_CHANNEL
  if d.mon.cal.isSome || 24 ≤ ch || !d.madcRuns then d.raise F.MON_INT_STATUS_CAL_REFUSED
  else (d.set F.MON_CAL_CTRL_GO 1).calStart ch (d.flag F.MON_CAL_CTRL_STEP) false

/-- The coefficient that a step's mean gives, or its reason (R478). -/
def calCoef (c : CalStep) (ofs : Int) : Except Nat Nat :=
  let m := roundDiv c.sum c.done
  if c.ovr then .error 3
  else if !c.full then
    if 0x10000 < m.natAbs then .error 1 else .ok (ofSigned 20 m)
  else
    let t : Int := if monSigned c.ch then 0x78000 else 0xF0000
    if m - ofs ≤ 0 then .error 2
    else
      let g := roundDiv (t * 2 ^ 18) (m - ofs).toNat
      if g < 0x20000 || 0x80000 < g then .error 2 else .ok g.toNat

/-- A calibration step whose phases are done completes (R478, R479); an injection between two phases leaves the step as it is (R475). -/
def Device.calStepComplete (d : Device) : Device :=
  match d.mon.cal with
  | none => d
  | some c =>
    if 0 < c.left then d
    else
      let r := calCoef c (d.sget (F.MON_OFS c.ch))
      let d1 := match r with
        | .ok v => d.set (if c.full then F.MON_GAIN c.ch else F.MON_OFS c.ch) v
        | .error _ => d
      let reason := match r with | .ok _ => 0 | .error e => e
      let d2 :=
        if c.man then
          let (st, v) := match r with | .ok v => (stOk, v) | .error e => (stFailed, e)
          d1.settle (fun g => g == .monCal c.ch c.full) st (BitVec.ofNat 32 v)
        else (d1.set F.MON_CAL_CTRL_GO 0).set F.MON_CAL_CTRL_REASON reason
      ((d2.modMon fun m => { m with cal := none }).raise F.MON_INT_STATUS_CAL_DONE).monKick

/-- Abandon a calibration step: the integration in progress is never cut short (R467). -/
def Device.calAbandon (d : Device) : Device :=
  (d.modMon fun m => { m with cal := none, work := match m.work with | .phase c => .dropped c | w => w }).monKick

/-- A MON_CAL has been pending for 2 s (R479). -/
def Device.monCalTimeout (d : Device) : Device :=
  match d.mon.cal with
  | some c =>
    if c.man then (d.settle (fun g => g == .monCal c.ch c.full) stTimeout).calAbandon else d
  | none => d

/-- Entry to DORMANT or HIBERNATE abandons everything (R473). -/
def Device.monSleep (d : Device) : Device :=
  let d1 := d.settle (fun g => match g with | .monConvert _ => true | .monCal _ _ => true | _ => false) stBusy
  ((d1.modMon fun m => { m with work := .idle, queue := [], readouts := [], cal := none, last := none, recover := false }).set
    F.MON_CAL_CTRL_GO 0).monShow

/-! ### Bias DACs (R485 to R491) -/

/-- A channel is forced to its clear code (Table 14-5). -/
def Device.bdacForced (d : Device) (k : Nat) : Bool :=
  d.sup.unwritten.getLsbD k || d.flag F.BDAC_STATUS_CLRN_LOW || d.flag F.BDAC_STATUS_LATCHED
    || (decide (k < 8) && d.flag (F.LTX_STATUS_SQ_DIS k) && d.flag (F.LTX_CTRL_DIS_BIAS k))
    || d.flag F.SYS_SAFE_SAFE || d.flag F.THM_STATUS_SHUTDOWN

/-- The word in force at a ladder (BDAC_OUTk). -/
def Device.bdacOut (d : Device) (k : Nat) : Word := d.reg (if d.bdacForced k then F.BDAC_CLR k else F.BDAC_CODE k).addr

/-- The FORCED bits of BDAC_STATUS. -/
def Device.bdacForcedBits (d : Device) : Nat := ((List.range 16).filter d.bdacForced).foldl (fun s k => s + 2 ^ k) 0

/-- A write to BDAC_CODEk: the first after a reset ends its forcing (R487, R489, Table 14-5). -/
def Device.bdacCodeWrite (d : Device) (k : Nat) (w : Word) : Device :=
  let d1 := d.setReg (F.BDAC_CODE k).addr (w &&& fieldMask 16 0)
  (d1.modSup fun (q0 : Sup) => { q0 with unwritten := d1.sup.unwritten &&& ~~~ BitVec.ofNat 16 (2 ^ k) })

/-- CLRn goes low. -/
def Device.clrnFall (d : Device) : Device :=
  ((d.set F.BDAC_STATUS_CLRN_LOW 1).set F.BDAC_STATUS_LATCHED (d.get F.BDAC_CTRL_CLR_LATCH)).raise F.BDAC_INT_STATUS_CLR_PIN

/-- CLRn goes high: without the latch its clear ends. -/
def Device.clrnRise (d : Device) : Device :=
  if !d.flag F.BDAC_STATUS_CLRN_LOW then d
  else if d.flag F.BDAC_CTRL_CLR_LATCH then (d.set F.BDAC_STATUS_CLRN_LOW 0).set F.BDAC_STATUS_LATCHED 1
  else ((d.set F.BDAC_STATUS_CLRN_LOW 0).set F.BDAC_STATUS_LATCHED 0).raise F.BDAC_INT_STATUS_CLR_RELEASED

/-- A write of 1 to CLR_REL (R490). -/
def Device.clrRel (d : Device) : Device :=
  if d.flag F.BDAC_STATUS_CLRN_LOW || !d.flag F.BDAC_CTRL_CLR_LATCH || !d.flag F.BDAC_STATUS_LATCHED then d
  else (d.set F.BDAC_STATUS_LATCHED 0).raise F.BDAC_INT_STATUS_CLR_RELEASED

/-- A write of CLR_LATCH: at 0 the clear lasts only while CLRn is low (Table 14-5). -/
def Device.clrLatchWrite (d : Device) (b : Bool) : Device :=
  let d1 := d.setB F.BDAC_CTRL_CLR_LATCH b
  let low := d1.flag F.BDAC_STATUS_CLRN_LOW
  if b then (if low then d1.set F.BDAC_STATUS_LATCHED 1 else d1)
  else if d1.flag F.BDAC_STATUS_LATCHED then
    let d2 := d1.set F.BDAC_STATUS_LATCHED 0
    if low then d2 else d2.raise F.BDAC_INT_STATUS_CLR_RELEASED
  else d1

/-! ### Meanings -/

/-- MON_INJ (R470). -/
def execMonInj (ch : BitVec 5) (s : State) : Host.Outcome State Fault Refusal := .next { s with dev := s.dev.monInj ch.toNat }
/-- INTEGRATION_BOUNDARY (R469). -/
def execIntegrationBoundary (a : Analog) (s : State) : Host.Outcome State Fault Refusal := .next { s with dev := s.dev.integrationBoundary a }
/-- RESULT_WRITTEN (R467). -/
def execResultWritten (s : State) : Host.Outcome State Fault Refusal := .next { s with dev := s.dev.resultWritten }
/-- CAL_GO (R474). -/
def execCalGo (s : State) : Host.Outcome State Fault Refusal := .next { s with dev := s.dev.calGo }
/-- CAL_STEP_COMPLETE (R479). -/
def execCalStepComplete (s : State) : Host.Outcome State Fault Refusal := .next { s with dev := s.dev.calStepComplete }
/-- MON_CAL_TIMEOUT (R479). -/
def execMonCalTimeout (s : State) : Host.Outcome State Fault Refusal := .next { s with dev := s.dev.monCalTimeout }
/-- BDAC_CODE_WRITE (R487). -/
def execBdacCodeWrite (k : Berth) (w : Word) (s : State) : Host.Outcome State Fault Refusal := .next { s with dev := s.dev.bdacCodeWrite k.val w }
/-- BDAC_CLR_WRITE (R489). -/
def execBdacClrWrite (k : Berth) (w : Word) (s : State) : Host.Outcome State Fault Refusal :=
  .next { s with dev := s.dev.setReg (F.BDAC_CLR k.val).addr (w &&& fieldMask 16 0) }
/-- CLRN_FALL (R488). -/
def execClrnFall (s : State) : Host.Outcome State Fault Refusal := .next { s with dev := s.dev.clrnFall }
/-- CLRN_RISE (R488). -/
def execClrnRise (s : State) : Host.Outcome State Fault Refusal := .next { s with dev := s.dev.clrnRise }
/-- CLR_REL (R490). -/
def execClrRel (s : State) : Host.Outcome State Fault Refusal := .next { s with dev := s.dev.clrRel }

end Sys2Proof.Machine
end

