-- ==== Sys2Proof/Machine/Startup.lean ====
section
/-! DEFINITION. Start-up, full resets, the watchdog, the safe state and REFCLK (chapter 10, R400), with the meanings of their commands. -/

namespace Sys2Proof.Machine

/-! ### Draws of the random generator (R354, R573, R590) -/

/-- A drawn word that is never 0. -/
def Device.freshNonzero (d : Device) : Device × Word :=
  ((d.draw), BitVec.ofNat 32 ((Config.freeWord d.draws).toNat % (2 ^ 32 - 1) + 1))

/-- A new fabric nonce, or a draw that waits for the generator. -/
def Device.drawNonce (d : Device) : Device :=
  if d.flag F.SEC_STATUS_TRNG_OK then
    let (e, w) := d.freshNonzero
    ((e.modFab fun (q0 : Fab) => { q0 with nonce := w }).modSec fun (q0 : Sec) => { q0 with wantNonce := false })
  else (d.modSec fun (q0 : Sec) => { q0 with wantNonce := true })

/-- A new unlock challenge, or a draw that waits. -/
def Device.drawChallenge (d : Device) : Device :=
  if d.flag F.SEC_STATUS_TRNG_OK then
    let e := (List.range 8).foldl (fun (s : Device) c =>
      let (t, w) := s.fresh
      t.setReg (F.SEC_CHALLENGE c).addr w) d
    (e.modSec fun (q0 : Sec) => { q0 with wantChallenge := false })
  else (d.modSec fun (q0 : Sec) => { q0 with wantChallenge := true })

/-! ### Key and fuse status -/

/-- Show keys and fuses in the SEC registers (Table 18-11). -/
def Device.secShow (d : Device) : Device :=
  let k := d.sec.keys
  let keyed := k.key.isSome && !d.flag F.SEC_STATUS_ZEROISED
  let d1 := (((d.setB F.SEC_STATUS_KEYED keyed).setB F.FAB_STATUS_KEYED keyed).setB F.SEC_STATUS_KEY_PENDING k.pending.isSome).setB
    F.SEC_STATUS_OLD_KEY k.old.isSome
  let d2 := ((d1.set F.SEC_STATUS_SVN_FUSES d.flash.svn).setB F.SEC_STATUS_VK_REVOKE d.flash.vkRevoked).setB
    F.SEC_STATUS_COSIGN_REQ d.flash.cosign
  let d3 := d2.set F.SEC_STATUS_OWNER_SLOT (if d.flash.owners = 0 then 7 else d.flash.owners - 1)
  let epoch := match k.key with
    | some (_, e) => e
    | none => 0
  let hour := match k.pending with
    | some (_, _, h) => h
    | none => 0
  (d3.set F.SEC_KEY_EPOCH epoch).set F.SEC_KEY_SWITCH hour

/-- The pending realm key becomes the tagging key once the committed HOURS reach its switch hour, or at once without a committed record
(R586); the key it replaces is still accepted. -/
def Device.keySwitch (d : Device) : Device :=
  match d.sec.keys.pending with
  | none => d
  | some (k, epoch, hour) =>
    let due := hour = 0 || (match d.flash.record with | some r => hour ≤ r.hours | none => true)
    if !due then d
    else
      let old := match d.sec.keys.key with | some (o, _) => o | none => 0
      let keys : KeyStore := { key := some (k, epoch), pending := none, old := some old }
      (((d.modSec fun (q0 : Sec) => { q0 with keys := keys }).modFlash fun (q0 : Flash) => { q0 with keys := keys }).raise F.SEC_INT_STATUS_KEY_SWITCH).secShow

/-! ### Address (R340) -/

/-- Take an own address, or lose it; a change is flagged. -/
def Device.setAddr (d : Device) (a : Option Nat) : Device :=
  let old := if d.flag F.FAB_STATUS_ADDR_VALID then some (d.get F.FAB_ADDR_ADDR) else none
  if a == old then d
  else
    let d1 := match a with
      | some v => ((d.set F.FAB_ADDR_VALID 1).set F.FAB_ADDR_ADDR v).set F.FAB_STATUS_ADDR_VALID 1
      | none => ((d.set F.FAB_ADDR_VALID 0).set F.FAB_ADDR_ADDR 0).set F.FAB_STATUS_ADDR_VALID 0
    d1.raise F.FAB_INT_STATUS_ADDR_CHG

/-- A fabric address: realm, island, cluster, device (R3). -/
def fabAddr (realm island cluster device : Nat) : Nat := realm * 2 ^ 22 + island * 2 ^ 14 + cluster * 2 ^ 6 + device

/-- A record maps an address to an identity. -/
def IslandRec.maps (r : IslandRec) (a : Nat) (who : BitVec 64) : Bool :=
  r.entries.any fun e => e.identity == who && fabAddr r.realm r.island e.cluster e.device == a

/-- Show the committed record's numbers. -/
def Device.recShow (d : Device) : Device :=
  match d.flash.record with
  | some r => (d.set F.FAB_EPOCH r.epoch).set F.FAB_MEMBERS_M r.entries.length
  | none => (d.set F.FAB_EPOCH 0).set F.FAB_MEMBERS_M 0

/-- The fabric part of step 12, and of a HIBERNATE wake (R340, R354, R355, R435): authorisation, keys, SEQ boot block, nonce, and
the persisted address where the committed record maps it to this device. -/
def Device.fabricStart (d : Device) : Device :=
  let d1 := { d with
    flash := { d.flash with bootBlock := (d.flash.bootBlock + 1) % 2 ^ 32 }
    fab := { Fab.fresh 0 with links := Vector.replicate 16 { LinkSt.fresh with cfg := d.reg F.FAB_CFG.addr } }
    sec := { d.sec with keys := d.flash.keys } }
  let d2 := d1.drawNonce.secShow.keySwitch.recShow
  let d3 := (d2.setReg F.FAB_ID.addr (Config.identity.extractLsb' 0 32)).setReg (F.FAB_ID.addr + 4) (Config.identity.extractLsb' 32 32)
  let d4 := d3.setB F.FAB_STATUS_RUN (d3.flag F.FAB_CFG_FAB_EN)
  match d4.flash.addr, d4.flash.record with
  | some a, some r => if r.maps a Config.identity then d4.setAddr (some a) else d4
  | _, _ => d4

/-- The authorisation group as the fabric persistent state holds it (R358). -/
def Device.loadAcl (d : Device) : Device :=
  d.flash.acl.foldl (fun (s : Device) w => (s.setReg w.1 w.2).setLiveReg w.1 (w.2 &&& stMask w.1)) d

/-! ### Safe state (R389 to R392) -/

/-- The safe state is entered (R389 to R393); a second cause changes nothing. The queued power request is discarded and its manifest completes
with BUSY. -/
def Device.enterSafe (d : Device) (cause : Nat) : Device :=
  if d.flag F.SYS_SAFE_SAFE then d
  else
    let d1 := ((d.set F.SYS_SAFE_SAFE 1).set F.SYS_SAFE_SAFE_CAUSE cause).raise F.SYS_INT_STATUS_SAFE
    let d2 := lanes.foldl (fun (s : Device) (n : Lane) =>
      let e := (s.set (F.LTX_STATUS_SQ_SAFE n) 1).raise (F.LTX_INT_STATUS_SQUELCH n)
      if e.flag (F.LTX_STATUS_LIVE n) then e.dataEnd n else e.aimInject n) d1
    let p := d2.get F.PWR_STATUS_PENDING
    if p = 7 then d2
    else (d2.set F.PWR_STATUS_PENDING 7).settle (fun g => g == .power p && p != d2.get F.PWR_STATUS_TRANS) stBusy

/-- More than 8 engines are quarantined (R389). -/
def Device.quarantineJudge (d : Device) : Device := if 8 < d.quarantineCount then d.enterSafe 1 else d

/-- FAULTn is low (R388). -/
def Device.faultLow (d : Device) : Bool :=
  d.sup.boot == .failed || d.sup.boot == .recovery || d.flag F.SYS_SAFE_SAFE || d.flag F.THM_STATUS_SHUTDOWN

/-! ### Full reset (R379 to R382) -/

/-- Registers that survive a full reset (R382, R397), and the part code, grade and thresholds of the die. -/
def Device.survivors (d : Device) (por : Bool) : Device → Device := fun e =>
  let keep (s : Device) (a : Nat) : Device := s.setReg a (d.reg a)
  let e1 := e.setReg F.SYS_ID.addr (d.reg F.SYS_ID.addr)
  let e2 := if d.get F.SYS_ID_GRADE = 0x48 then e1.setReg F.THM_LIMITS.addr 0x7D7169 else e1
  let e3 := (e2.setB F.BDAC_STATUS_CLRN_LOW (d.flag F.BDAC_STATUS_CLRN_LOW))
  if por then e3
  else
    let e4 := keep (keep (keep e3 F.SYS_WDT_CAPTURE.addr) (F.POOL_QUAR 0).addr) (F.POOL_QUAR 1).addr
    let e5 := (List.range 64).foldl (fun (s : Device) k =>
      if d.quarantined k then s.setReg (F.ENG_BIST k).addr (d.reg (F.ENG_BIST k).addr &&& fieldMask 2 1) else s) e4
    e5.setB F.THM_STATUS_SHUTDOWN (d.flag F.THM_STATUS_SHUTDOWN)

/-- Hours since POR, as HOURS_LAST counts them. -/
def Device.hoursRun (d : Device) : Nat := (d.sup.ranBefore + d.now) / 3600000000000

/-- A full reset begins (R315, R393, R529, R606, R612): registers, staged groups, rings and every block's state return to reset; flash, fuses and pins stay. -/
def Device.fullReset (d : Device) (cause : Nat) : Device :=
  let por := cause == 1
  -- fuse writing that the reset cuts short leaves a count between the old one and the running SVN (R580)
  let cut := d.flag F.SEC_STATUS_SVN_BUSY
  let svn := if cut then d.flash.svn + (Config.freeWord d.draws).toNat % (d.sec.svnRun - d.flash.svn + 1) else d.flash.svn
  let base := { Device.initial with
    flash := { d.flash with svn := svn }, draws := d.draws + 1, txdisLow := d.txdisLow,
    sup := { Sup.fresh with
      resetnLow := d.sup.resetnLow, refOk := d.sup.refOk, railsBad := d.sup.railsBad, aonGood := d.sup.aonGood,
      ranBefore := if por then 0 else d.sup.ranBefore + d.now },
    thm := if d.flag F.THM_STATUS_SHUTDOWN && !por then { Thermal.fresh with last := d.thm.last } else Thermal.fresh }
  let d1 := d.survivors por base
  if por then d1
  else
    let d2 := (d1.set F.SYS_RST_CAUSE_CAUSE cause).set F.SYS_RST_CAUSE_PREV (d.get F.SYS_RST_CAUSE_CAUSE)
    let d3 := d2.set F.SYS_RST_CAUSE_COUNT (min 255 (d.get F.SYS_RST_CAUSE_COUNT + 1))
    d3.set F.SYS_RST_CAUSE_HOURS_LAST (min 255 d.hoursRun)

/-! ### The start-up sequence (Table 10-1) -/

/-- Nothing holds the device before step 3 (R372, R463). -/
def Device.canStart (d : Device) : Bool :=
  d.sup.boot == .held && !d.sup.resetnLow && d.sup.railsBad.isEmpty && d.sup.aonGood && !d.flag F.THM_STATUS_SHUTDOWN

/-- Change the start-up state. -/
def Device.setBoot (d : Device) (b : Boot) : Device := (d.modSup fun (q0 : Sup) => { q0 with boot := b })

/-- A start-up hold (R376): the watchdog is stopped and FAULTn low. -/
def Device.holdBoot (d : Device) (code step : Nat) : Device :=
  ((d.set F.SYS_BOOT_STATUS_FAIL_CODE code).set F.SYS_BOOT_STATUS_STEP step).setBoot .failed

/-- Put an engine into the quarantine set (R36). -/
def Device.quarantine (d : Device) (e : Nat) : Device :=
  let a := (F.POOL_QUAR (e / 32)).addr
  d.setReg a (d.reg a ||| BitVec.ofNat 32 (2 ^ (e % 32)))

/-- Steps 5 to 7: failing engines join the quarantine set; any other failure holds the device (R534, R535, R532). -/
def Device.selfTests (d : Device) (run : BootRun) : Device :=
  let d1 := (run.logic.filter fun p => p < 64 && !d.quarantined p).foldl (fun (s : Device) p =>
    (s.quarantine p).set (F.ENG_BIST_START_FAIL p) 1) d
  match run.logic.find? (fun p => 64 ≤ p) with
  | some p => (d1.set F.BIST_STATUS_START_PART p).holdBoot 1 5
  | none =>
    match (List.range 49).find? (fun m => 8 < run.spares.getD m 0) with
    | some m => (d1.set F.BIST_STATUS_START_MACRO m).holdBoot 2 6
    | none =>
      let d2 := (List.range 49).foldl (fun (s : Device) m => s.set (F.MEM_SPARE m) (run.spares.getD m 0)) d1
      let d3 := ((((((d2.modMem fun _ => []).modErrs fun _ => []).modPoisoned fun _ => []).modMemHist fun _ => []).modWriteBack fun _ => []).modSparesOut fun _ => [])
      if run.checkerOk then d3 else d3.holdBoot 3 7

/-- An owner co-signature is required (R575): COSIGN_REQ is blown and the device has an owner key. -/
def Device.cosignNeeded (d : Device) : Bool := d.flash.cosign && d.flash.owners != 0

/-- The reason code that the checks of a firmware slot give, in their order; a co-signature must verify under the active owner key, that of
the highest programmed slot (R570, R571, R574, R575, Table 18-5). -/
def Device.slotReason (d : Device) (i : Fin 2) : Nat :=
  let s := d.flash.fw.get i
  if !s.commit then 0x01
  else if s.reason != 0 && s.reason ≤ 3 then s.reason
  else if d.flash.vkRevoked && !s.vk1 then 0x04
  else if s.reason != 0 then s.reason
  else if d.cosignNeeded && !s.cosigned.contains (d.flash.owners - 1) then 0x05
  else if s.svn < d.flash.svn then 0x06 else 0

/-- The slot that step 8 tries first, if any has a valid COMMIT (R576). -/
def Device.firstSlot (d : Device) : Option (Fin 2) :=
  let a := d.flash.fw.get 0
  let b := d.flash.fw.get 1
  if a.commit && b.commit then (if newerSeq b.seq a.seq then some 1 else some 0)
  else if a.commit then some 0 else if b.commit then some 1 else none

/-- Record a slot's reason code. -/
def Device.setReason (d : Device) (i : Fin 2) (r : Nat) : Device :=
  d.set (if i = 0 then F.SEC_BOOT_STATUS_REASON_A else F.SEC_BOOT_STATUS_REASON_B) r

/-- An image boots (R570, R577): its slot, SVN and version, CODE_LIMIT locked, VK_REVOKE blown by an image under VK1. -/
def Device.bootImage (d : Device) (i : Fin 2) : Device :=
  let s := d.flash.fw.get i
  let d1 := { d with
    sec := { d.sec with svnRun := s.svn, vk1 := s.vk1, slot := i.val }
    flash := { d.flash with vkRevoked := d.flash.vkRevoked || s.vk1 } }
  let d2 := (((d1.set F.SYS_BOOT_STATUS_SLOT i.val).set F.SEC_BOOT_STATUS_SVN_RUN s.svn).setReg F.SEC_FW_VERSION.addr s.version).set
    F.MEM_CODE_LIMIT_CODE_LIMIT s.codeLimit
  d2.set F.MEM_CODE_LIMIT_LOCK 1

/-- Boot recovery (R375): the boot ROM serves the host and kicks the watchdog. -/
def Device.enterRecovery (d : Device) : Device :=
  let d1 := (((d.set F.SYS_BOOT_STATUS_FAIL_CODE 4).set F.SYS_BOOT_STATUS_RECOVERY 1).set F.SYS_BOOT_STATUS_STEP 0xA).secShow
  (d1.modSup fun (q0 : Sup) => { q0 with boot := .recovery, procRun := true })

/-- Steps 8 to 10 (R576): answers whether an image boots. -/
def Device.bootSlots (d : Device) : Device × Bool :=
  let d0 := (d.modSec fun (q0 : Sec) => { q0 with tried := d.firstSlot.map fun (i : Fin 2) => i.val })
  match d0.firstSlot with
  | none => (d0.enterRecovery, false)
  | some i =>
    let r := d0.slotReason i
    let d1 := d0.setReason i r
    if r = 0 then (d1.bootImage i, true)
    else
      let j : Fin 2 := 1 - i
      let q := d1.slotReason j
      if q = 1 then (d1.enterRecovery, false)
      else
        let d2 := d1.setReason j q
        if q = 0 then ((d2.bootImage j).raise F.SYS_INT_STATUS_SLOT_FALLBACK, true) else (d2.enterRecovery, false)

/-- A line lane enters PILOT at the end of start-up, or stays OFF (R374), and takes the TX disables that hold. -/
def Device.startLane (d0 : Device) (n : Lane) : Device :=
  let d := d0.pinDeliver n
  if d.flag F.FAB_CFG_FAB_EN && (d.get F.FAB_CFG_PLT_EN).testBit n.val then
    let d1 := ((d.set (F.LTX_STATUS_STATE n) 4).set (F.LRX_STATE_RX_STATE n) 4).modRx n fun r => { r with pilotRx := true }
    (d1.aimInject n).injectMove n
  else d

/-- Steps 4 to 12 of Table 10-1, with what the self-tests find. -/
def Device.startUp (d : Device) (run : BootRun) : Device :=
  if !d.sup.refOk then ((d.set F.SYS_BOOT_STATUS_FAIL_CODE 6).set F.SYS_BOOT_STATUS_STEP 4).setBoot .waitRef
  else
    let d1 := ((((d.set F.SYS_BOOT_STATUS_FAIL_CODE 0).set F.CLK_STATUS_REF_PRESENT 1).set F.CLK_STATUS_CPLLA_LOCK 1).set
      F.CLK_STATUS_CPLLB_LOCK 1).set F.SEC_STATUS_TRNG_OK 1
    let d2 := d1.selfTests run
    if d2.sup.boot == .failed then d2
    else
      let (d3, ok) := d2.drawChallenge.bootSlots
      if !ok then d3
      else
        let d4 := d3.loadCal.loadAcl.fabricStart
        let d5 := (d4.modSup fun (q0 : Sup) => { q0 with boot := .running, procRun := true })
        let d6 := ((d5.set F.SYS_BOOT_STATUS_STEP 0xC).set F.SYS_BOOT_STATUS_READY 1).monKick
        (lanes.foldl (fun (s : Device) (n : Lane) => s.startLane n) d6).quarantineJudge

/-- The start instant, if it has come. -/
def Device.tryStart (d : Device) (run : BootRun) : Device := if d.canStart then d.startUp run else d

/-! ### Pins, rails and clocks -/

/-- RESETn goes low (R380): a pulse under 100 ns is ignored, one of 1 µs acts; between the two the manual leaves it open. -/
def Device.resetnFall (d : Device) (width : Nat) : Device :=
  let acts := decide (1000 ≤ width) || (decide (100 ≤ width) && Config.freeBool d.draws)
  let d0 := (d.draw)
  if !acts || !d.sup.aonGood then d0
  else ((d0.modSup fun (q0 : Sup) => { q0 with resetnLow := true }).fullReset 2)

/-- RESETn rises. -/
def Device.resetnRise (d : Device) (run : BootRun) : Device :=
  (d.modSup fun (q0 : Sup) => { q0 with resetnLow := false }).tryStart run

/-- A rail is reported good. -/
def Device.railGood (d : Device) (r : Rail) (run : BootRun) : Device :=
  (d.modSup fun (q0 : Sup) => { q0 with railsBad := d.sup.railsBad.filter fun x => x != r }).tryStart run

/-- A rail is out of range for more than 5 µs: a full reset, held (Table 10-2). -/
def Device.railFault (d : Device) (r : Rail) : Device :=
  let d1 := (d.modSup fun (q0 : Sup) => { q0 with railsBad := if d.sup.railsBad.contains r then d.sup.railsBad else d.sup.railsBad ++ [r] })
  if d.sup.aonGood then d1.fullReset 6 else d1

/-- VDD_AON leaves its range: POR. -/
def Device.powerOnReset (d : Device) : Device := (d.modSup fun (q0 : Sup) => { q0 with aonGood := false }).fullReset 1

/-- POR is released (step 1): the AON domain and the watchdog run. -/
def Device.porRelease (d : Device) : Device :=
  if d.sup.aonGood then d else (d.modSup fun (q0 : Sup) => { q0 with aonGood := true }).set F.SYS_BOOT_STATUS_STEP 1

/-- REFCLK appears; a start-up that waits at step 4 continues (R378). -/
def Device.refclkAppear (d : Device) (run : BootRun) : Device :=
  let d1 := (d.modSup fun (q0 : Sup) => { q0 with refOk := true })
  let d2 := ((d1.set F.CLK_STATUS_REF_PRESENT 1).set F.CLK_STATUS_REF_LOSS 0).set F.CLK_STATUS_HOLDOVER 0
  if d2.sup.boot == .waitRef then d2.startUp run else d2

/-- No REFCLK edge for 10 µs (R400): the PLLs hold; in operation the safe state follows (R389). -/
def Device.refclkLoss (d : Device) : Device :=
  if !d.sup.refOk then d
  else
    let d1 := (d.modSup fun (q0 : Sup) => { q0 with refOk := false })
    let d2 := ((d1.set F.CLK_STATUS_REF_PRESENT 0).set F.CLK_STATUS_REF_LOSS 1).set F.CLK_STATUS_HOLDOVER 1
    let d3 := d2.raise F.CLK_INT_STATUS_REF_LOSS
    if d3.sup.boot == .running then d3.enterSafe 3 else d3

/-- The pool serves a lane: one in native mode or terminated operation is in RXON. -/
def Device.poolServes (d : Device) : Bool := lanes.any fun n => d.poolUse n && d.rxInRxon n

/-- VGOOD at 0 for more than 1 ms while the pool serves a lane (R389). -/
def Device.vddPoolFault (d : Device) : Device :=
  if d.sup.boot == .running && !d.flag F.POOL_STATUS_VGOOD && d.poolServes then d.enterSafe 4 else d

/-! ### Watchdog (R383 to R386) -/

/-- The watchdog counts: enabled, not in a start-up hold (R376), not asleep (R385). -/
def Device.wdtOn (d : Device) : Bool :=
  d.flag F.SYS_WDT_CTRL_EN && d.sup.boot != .failed && d.sup.aonGood && decide (d.get F.PWR_STATUS_STATE < 2)

/-- The watchdog counts and nothing but firmware kicks it: in boot recovery the boot ROM does (R375). -/
def Device.wdtRuns (d : Device) : Bool := d.wdtOn && d.sup.boot != .recovery

/-- The watchdog expires (R384). -/
def Device.wdtExpire (d : Device) (pc : Word) : Device :=
  if !d.wdtOn || d.sup.due.isSome then d
  else
    let d1 := d.setReg F.SYS_WDT_CAPTURE.addr pc
    (d1.modSup fun (q0 : Sup) => { q0 with procRun := false, due := some 3 })

/-- A whole period without a kick. -/
def Device.watchdogExpiry (d : Device) (pc : Word) : Device := if d.wdtRuns then d.wdtExpire pc else d

/-- A write to SYS_WDT_KICK: the key restarts the period; any other value expires at once, with a program counter that the command
does not bring. -/
def Device.wdtKick (d : Device) (w : Word) : Device :=
  if w = 0x0000C35A then d
  else
    let (e, pc) := d.fresh
    e.wdtExpire pc

/-- Half a period without a kick. -/
def Device.wdtHalf (d : Device) : Device := if d.wdtRuns then d.raise F.SYS_INT_STATUS_WDT_HALF else d

/-- A full-reset source of Table 10-2 is present. -/
def Device.resetDue (d : Device) (cause : Nat) : Bool :=
  match cause with
  | 1 => !d.sup.aonGood
  | 2 => d.sup.resetnLow
  | 6 => !d.sup.railsBad.isEmpty
  | _ => d.sup.due == some (BitVec.ofNat 8 cause) && decide (cause ≤ 7)

/-- A full reset begins, and start-up follows at once unless a pin or a rail holds it (R372, R373). -/
def Device.resetNow (d : Device) (cause : Nat) (run : BootRun) : Device :=
  if d.resetDue cause then (d.fullReset cause).tryStart run else d

/-! ### Meanings -/

/-- POWER_ON_RESET (R379). -/
def execPowerOnReset (s : State) : Host.Outcome State Fault Refusal := .next { s with dev := s.dev.powerOnReset }
/-- POR_RELEASE (R372). -/
def execPorRelease (s : State) : Host.Outcome State Fault Refusal := .next { s with dev := s.dev.porRelease }
/-- RESETN_FALL (R380). -/
def execResetnFall (width : Nat) (s : State) : Host.Outcome State Fault Refusal := .next { s with dev := s.dev.resetnFall width }
/-- RESETN_RISE (R372). -/
def execResetnRise (run : BootRun) (s : State) : Host.Outcome State Fault Refusal := .next { s with dev := s.dev.resetnRise run }
/-- RAIL_GOOD (R372). -/
def execRailGood (r : Rail) (run : BootRun) (s : State) : Host.Outcome State Fault Refusal := .next { s with dev := s.dev.railGood r run }
/-- RAIL_FAULT (R379). -/
def execRailFault (r : Rail) (s : State) : Host.Outcome State Fault Refusal := .next { s with dev := s.dev.railFault r }
/-- REFCLK_APPEAR (R378). -/
def execRefclkAppear (run : BootRun) (s : State) : Host.Outcome State Fault Refusal := .next { s with dev := s.dev.refclkAppear run }
/-- REFCLK_LOSS (R400). -/
def execRefclkLoss (s : State) : Host.Outcome State Fault Refusal := .next { s with dev := s.dev.refclkLoss }
/-- VDD_POOL_FAULT (R389). -/
def execVddPoolFault (s : State) : Host.Outcome State Fault Refusal := .next { s with dev := s.dev.vddPoolFault }
/-- WDT_KICK (R383). -/
def execWdtKick (w : Word) (s : State) : Host.Outcome State Fault Refusal := .next { s with dev := s.dev.wdtKick w }
/-- WDT_HALF (R384). -/
def execWdtHalf (s : State) : Host.Outcome State Fault Refusal := .next { s with dev := s.dev.wdtHalf }
/-- WATCHDOG_EXPIRY (R384). -/
def execWatchdogExpiry (pc : Word) (s : State) : Host.Outcome State Fault Refusal := .next { s with dev := s.dev.watchdogExpiry pc }
/-- WDT_LOCK (R386). -/
def execWdtLock (s : State) : Host.Outcome State Fault Refusal := .next { s with dev := s.dev.set F.SYS_WDT_CTRL_LOCK 1 }
/-- FULL_RESET (R382). -/
def execFullReset (cause : Byte) (run : BootRun) (s : State) : Host.Outcome State Fault Refusal :=
  .next { s with dev := s.dev.resetNow cause.toNat run }

end Sys2Proof.Machine
end

