-- ==== Sys2Proof/Machine/Selftest.lean ====
section
/-! DEFINITION. The scrubber, error injection, code reload and in-field BIST (chapter 16), with the meanings of their commands. -/

namespace Sys2Proof.Machine

/-! ### Owners (Table 16-3) -/

/-- The slots of a lane's group buffers that have bytes in a block are treated as poisoned. -/
def Device.poisonSlots (d : Device) (n : Lane) (blk : Nat) : Device :=
  let hit (k q : Nat) : Bool := (blocksOf (slotAddr (2 * n.val + k) q) 648).contains blk
  let wide := d.widePort n
  let port := d.portType n
  d.modBw n fun b =>
    let first := b.slot + 37 - b.frames.length % 37
    let spoil (p : Frame × Nat) : Frame :=
      { p.1 with poison0 := p.1.poison0 || hit 0 (first + p.2), poison1 := p.1.poison1 || hit 1 (first + p.2) }
    let mark (x : Delivered) (h : Bool) : Delivered :=
      if h && x.how != .substitute then { x with bits := errorMark port x.place x.bits, how := .marked } else x
    let spoilReady (g : ReadyGroup) : ReadyGroup := { g with
      a := g.a.zipIdx.map fun p => mark p.1 (hit 0 (g.base + p.2) || (wide && hit 1 (g.base + p.2)))
      b := g.b.zipIdx.map fun p => mark p.1 (hit 1 (g.base + p.2) || (wide && hit 0 (g.base + p.2))) }
    { b with frames := b.frames.zipIdx.map spoil, ready := b.ready.map spoilReady }

/-- Frames with bytes in a block of the pilot and fabric buffers are discarded: those handed to a lane count in TXQ_DROP, those that
wait in the switch in BUF_DROP. -/
def Device.dropFrames (d : Device) (blk : Nat) : Device :=
  let cut (lane from_ : Nat) (l : List FabMsg) : List FabMsg × Nat :=
    let keep := ((l.zip (List.range l.length)).filter fun p => !Config.bufferHolds lane (from_ + p.2) blk).map (·.1)
    (keep, l.length - keep.length)
  let d1 := lanes.foldl (fun (s : Device) (n : Lane) =>
    let (fab, lost) := cut n.val 0 (s.plt.get n).fab
    let (wait, gone) := cut n.val 64 (s.plt.get n).wait
    let e := (List.range lost).foldl (fun (t : Device) _ => t.txqDrop n) (s.modPlt n fun p => { p with fab := fab, wait := wait })
    e.bump F.FAB_ERR_D_BUF_DROP gone) d
  ports.foldl (fun (s : Device) (p : Port) =>
    let (q, gone) := cut (8 + p.val) 0 (s.hws.get p).txq
    (s.modHws p fun h => { h with txq := q }).bump F.FAB_ERR_D_BUF_DROP gone) d1

/-- Codewords of a lane in flight with bytes in the block leave under R108. -/
def Device.poisonItems (d : Device) (n : Lane) (blk : Nat) : Device :=
  (d.modPool fun (q0 : Pool) => { q0 with flights := d.pool.flights.set n ((d.pool.flights.get n).map fun f =>
      { f with poisoned := f.poisoned || (poolBlock f.tag blk && (!d.native n || 28 ≤ blk / 512)) }) })

/-- A block has been found poisoned by the scrubber: its owner hears of it (Table 16-3). -/
def Device.informOwner (d : Device) (blk : Nat) : Device :=
  match d.ownerOf blk with
  | 3 => lanes.foldl (fun (s : Device) (n : Lane) => (s.poisonSlots n blk).poisonItems n blk) d
  | 5 => lanes.foldl (fun (s : Device) (n : Lane) => s.poisonItems n blk) d
  | 6 => d.dropFrames blk
  | _ => d

/-! ### Scrubbing (R523 to R527) -/

/-- The scrubber works on a macro in the device's state. -/
def Device.scrubs (d : Device) (m : Nat) : Bool :=
  d.flag F.MEM_CTRL_SCRUB_EN && (decide (d.get F.PWR_STATUS_STATE < 2) || m == 48)

/-- A mended block has been written back: later corrections at its locations recur (R526). -/
def Device.wroteBack (d : Device) (blk : Nat) : Device :=
  { d with
    writeBack := d.writeBack.filter fun b => b != blk
    memHist := d.memHist.map fun (h : MemHist) =>
      if h.key / 2 ^ 11 = blk / 512 * 2 ^ 9 + blk % 512 then { h with back := true } else h }

/-- The scrubber reads one block: it mends it, writes it back and reads it again, or poisons it and informs its owner. -/
def Device.scrubBlock (d : Device) (blk : Nat) : Device :=
  match d.blockClass blk with
  | .clean => d.wroteBack blk
  | .poisoned => d.wroteBack blk
  | .bad => ((d.poisonReport blk).informOwner blk).wroteBack blk
  | c =>
    let d1 := ((d.mend blk c).countCorrection blk c).wroteBack blk
    match d1.blockClass blk with
    | .clean | .poisoned => d1
    | .bad => (d1.poisonReport blk).informOwner blk
    | c2 => ((d1.mend blk c2).countCorrection blk c2).wroteBack blk

/-- The effective pass time in s (Table 16-6). -/
def Device.scrubTime (d : Device) : Nat := min 60 (max 1 (d.get F.MEM_CTRL_SCRUB_S))

/-- The next scrub access to a macro: a queued block first, else the next row of the sweep. -/
def Device.scrubAccess (d : Device) (m : Fin 49) : Device :=
  if !d.scrubs m.val then d
  else
    match d.writeBack.find? (fun b => b / 512 == m.val) with
    | some b => d.scrubBlock b
    | none =>
      let row := d.scrubRow.get m
      let d0 := if row = 0 then (d.modScrubFrom fun _ => d.scrubFrom.set m d.now) else d
      let d1 := d0.scrubBlock (512 * m.val + row)
      if row + 1 < macroRows m.val then (d1.modScrubRow fun _ => d1.scrubRow.set m (row + 1))
      else
        let d2 := (d1.modScrubRow fun _ => d1.scrubRow.set m 0)
        let d3 := if m.val = 0 then d2.bump F.MEM_SCRUB_PASS else d2
        d3.raiseIf ((d3.scrubTime + 1) * 1000000000 < d3.now - d3.scrubFrom.get m) F.MEM_INT_STATUS_SCRUB_LATE

/-- The oldest history entry has reached 24 h (R527). -/
def Device.historyExpiry (d : Device) : Device := (d.modMemHist fun _ => d.memHist.drop 1)

/-! ### Commands on blocks -/

/-- Zero-fill a block with fresh check bits. -/
def Device.zeroBlock (d : Device) (blk : Nat) : Device :=
  { d with
    mem := d.mem.filter fun c => c.1 < 64 * blk || 64 * blk + 64 ≤ c.1
    errs := d.errs.filter fun e => e.1 != blk
    poisoned := d.poisoned.filter fun b => b != blk }

/-- A write of 1 to GO of MEM_UNPOISON (R522). -/
def Device.unpoison (d : Device) : Device :=
  let m := d.get F.MEM_UNPOISON_MACRO
  let row := d.get F.MEM_UNPOISON_ROW
  if (m < 16 || (36 ≤ m && m < 44)) && row < macroRows m then d.zeroBlock (512 * m + row) else d

/-- Invert one stored bit of a block. -/
def Device.flip (d : Device) (blk x : Nat) : Device :=
  let fl := d.flips blk
  d.setFlips blk (if fl.contains x then fl.filter (fun y => y != x) else fl ++ [x])

/-- A write of 1 to ARM of MEM_INJECT (Table 16-8): a macro or row that does not exist holds no bit to flip. -/
def Device.errorInject (d : Device) : Device :=
  let m := d.get F.MEM_INJECT_MACRO
  let row := d.get F.MEM_INJECT_ROW
  let bit := d.get F.MEM_INJECT_BIT
  let word := d.get F.MEM_INJECT_WORD
  if m < 49 && row < macroRows m then
    let d1 := d.flip (512 * m + row) (64 * word + bit)
    if d.flag F.MEM_INJECT_DOUBLE then d1.flip (512 * m + row) (64 * word + (bit + 1) % 64) else d1
  else d

/-- The reload of a code page ends (R531): the page is rewritten as whole blocks from the image, or stays poisoned. -/
def Device.codeReload (d : Device) (ok : Bool) : Device :=
  match d.sup.pages with
  | [] => d
  | blk :: rest =>
    let page := blk / 64
    let loc := d.location blk 0 0 3
    let d1 := (d.modSup fun (q0 : Sup) => { q0 with pages := rest.filter fun b => b / 64 != page })
    if ok then
      ((d1.modErrs fun _ => d1.errs.filter (fun e => e.1 / 64 != page)).modPoisoned fun _ => d1.poisoned.filter fun b => b / 64 != page).post
        0x07 0x24 0 loc
    else (d1.raiseAt F.MEM_INT_STATUS_RELOAD_FAIL 0 loc).post 0x07 0x25 0 loc

/-! ### In-field BIST (R35, R536 to R538) -/

/-- The next engine in rising order that is not quarantined, from `e` on. -/
def Device.nextEngine (d : Device) (e : Nat) : Option Nat :=
  ((List.range 64).map fun i => (e + i) % 64).find? fun i => !d.quarantined i

/-- The conditions of R35. -/
def Device.mayTest (d : Device) : Bool := d.flag F.POOL_STATUS_BELOW_TGT && d.enf == 0

/-- A slice falls due (R536): the next engine is chosen, or the slice is deferred. -/
def Device.sliceStart (d : Device) : Device :=
  if !d.flag F.BIST_CTRL_ENG_EN || d.get F.PWR_STATUS_STATE ≠ 0 || engs.any (fun e => (d.pool.engines.get e).chosen) then d
  else if !d.mayTest then (d.set F.BIST_STATUS_DEFERRED 1).bump F.BIST_EVENTS_DEFERRED
  else
    match d.nextEngine (d.get F.BIST_STATUS_NEXT_ENG) with
    | none => d
    | some i =>
      let e : Eng := Fin.ofNat 64 i
      let d1 := ((d.set F.BIST_STATUS_DEFERRED 0).set F.BIST_STATUS_NEXT_ENG ((d.nextEngine (i + 1)).getD ((i + 1) % 64))).modEng e
        fun g => { g with chosen := true }
      if (d1.pool.engines.get e).job == .idle then d1.release e else d1

/-- A slice ends (R537): the engine returns to rotation and takes work, or is quarantined. -/
def Device.sliceEnd (d : Device) (e : Eng) (pass : Bool) : Device :=
  if (d.pool.engines.get e).job != .slice then d
  else
    let d1 := (((d.modEng e fun g => { g with chosen := false }).release e).set F.BIST_STATUS_SLICE_RUN 0).set (F.ENG_BIST_TESTED e) 1
    if pass then (d1.bump (F.ENG_BIST_PASSES e)).engineIdle e
    else (((d1.quarantine e.val).set (F.ENG_BIST_FIELD_FAIL e) 1).raise F.POOL_INT_STATUS_QUARANTINE).quarantineJudge

/-- Bit of NR_FAIL of a block (Table 16-10). -/
def nrBit : NrBlock → Nat
  | .fft => 0
  | .lookout => 1
  | .switch => 2
  | .hash => 3

/-- A sub-slice of a block without redundancy ends (R538). Lookout is tested only in IDLE or STOPPED (R556). -/
def Device.nrSubslice (d : Device) (b : NrBlock) (r : NrResult) : Device :=
  if !d.flag F.BIST_CTRL_NR_EN || (b == .lookout && d.get F.LKO_STATUS_STATE != 0 && d.get F.LKO_STATUS_STATE != 3) then d
  else
    match r with
    | .more | .abandoned | .passed => d
    | .late => d.raise F.MEM_INT_STATUS_BIST_LATE
    | .failed =>
      let d1 := ((d.set F.BIST_STATUS_NR_FAIL (d.get F.BIST_STATUS_NR_FAIL ||| 2 ^ nrBit b)).raise F.MEM_INT_STATUS_BIST_FAIL).enterSafe 2
      -- a failed pilot FFT engine stops the pilots of the safe state, whenever it fails (Table 5-6)
      lanes.foldl (fun (s : Device) (n : Lane) => s.aimInject n) d1

/-! ### Meanings -/

/-- SCRUB_ACCESS (R523). -/
def execScrubAccess (m : Fin 49) (s : State) : Host.Outcome State Fault Refusal := .next { s with dev := s.dev.scrubAccess m }
/-- HISTORY_EXPIRY (R527). -/
def execHistoryExpiry (s : State) : Host.Outcome State Fault Refusal := .next { s with dev := s.dev.historyExpiry }
/-- UNPOISON (R522). -/
def execUnpoison (s : State) : Host.Outcome State Fault Refusal := .next { s with dev := s.dev.unpoison }
/-- ERROR_INJECT (R516). -/
def execErrorInject (s : State) : Host.Outcome State Fault Refusal := .next { s with dev := s.dev.errorInject }
/-- BIST_SLICE_START (R536). -/
def execBistSliceStart (s : State) : Host.Outcome State Fault Refusal := .next { s with dev := s.dev.sliceStart }
/-- BIST_SLICE_END (R537). -/
def execBistSliceEnd (e : Eng) (pass : Bool) (s : State) : Host.Outcome State Fault Refusal := .next { s with dev := s.dev.sliceEnd e pass }
/-- NR_SUBSLICE (R538). -/
def execNrSubslice (b : NrBlock) (r : NrResult) (s : State) : Host.Outcome State Fault Refusal := .next { s with dev := s.dev.nrSubslice b r }
/-- CODE_RELOAD_DONE (R531). -/
def execCodeReloadDone (ok : Bool) (s : State) : Host.Outcome State Fault Refusal := .next { s with dev := s.dev.codeReload ok }

end Sys2Proof.Machine
end

