-- ==== Sys2Proof/Machine/Power.lean ====
section
/-! DEFINITION. Device states, wake sources, operating points and the bonded store (chapter 12), with the meanings of the commands that complete no transition. -/

namespace Sys2Proof.Machine

/-! ### Operating points (R436 to R440) -/

/-- Move towards the operating point of R436: a rise raises VDD_CORE first and waits for VGOOD_CORE, a fall lowers the clock and then
the voltage. A change in progress is not aborted. -/
def Device.opStart (d : Device) : Device :=
  if d.sup.opGoal.isSome || decide (2 ≤ d.get F.PWR_STATUS_STATE) then d
  else
    let t := d.opTarget
    let live := d.get F.PWR_STATUS_OP_LIVE
    if live < t then ((d.modSup fun s => { s with opGoal := some t }).set F.PWR_STATUS_OP_BUSY 1).set F.PWR_STATUS_VGOOD_CORE 0
    else if t < live then (d.set F.PWR_STATUS_OP_LIVE t).raise F.PWR_INT_STATUS_OP_DONE
    else d

/-- VGOOD_CORE reaches 1 (R438): the rise completes, and what waited for it goes on. -/
def Device.vgoodCore (d : Device) : Device :=
  let d0 := d.opStart
  match d0.sup.opGoal with
  | none => d0
  | some g =>
    let d1 := (((d0.modSup fun s => { s with opGoal := none }).set F.PWR_STATUS_OP_BUSY 0).set F.PWR_STATUS_VGOOD_CORE 1).set
      F.PWR_STATUS_OP_LIVE g
    ((d1.raise F.PWR_INT_STATUS_OP_DONE).releaseCommits).opStart

/-- A write of OP_REQ or FLOOR (R440). -/
def Device.opReqWrite (d : Device) (v floor : Nat) : Device := ((d.set F.PWR_CTRL_OP_REQ v).set F.PWR_CTRL_FLOOR floor).opStart

/-! ### Requests (R422 to R429) -/

/-- Entry to STANDBY takes the line lane halves to PILOT or OFF, then the host lanes to DEEP (R423). -/
def Device.standbyLanes (d : Device) : Device :=
  let resting (v : Nat) : Bool := v == 0 || v == 4
  let d1 := lanes.foldl (fun (s : Device) (n : Lane) =>
    let target : Nat := if s.flag F.FAB_CFG_FAB_EN && (s.get F.FAB_CFG_PLT_EN).testBit n.val then 4 else 0
    let tx : Nat := s.get (F.LTX_STATUS_TRANS n)
    let s1 :=
      if resting (s.get (F.LTX_STATUS_STATE n)) && (tx == 7 || resting tx) && s.get (F.LTX_STATUS_PENDING n) == 7 then s
      else s.txRequest n target
    let rx : Nat := s1.get (F.LRX_STATE_RX_TRANS n)
    if resting (s1.get (F.LRX_STATE_RX_STATE n)) && (rx == 7 || resting rx) && s1.get (F.LRX_STATE_RX_PENDING n) == 7 then s1
    else s1.rxRequest n target) d
  d1.standbyHosts

/-- Start towards a device state with no transition in progress. A sleep state waits for the WFI of R426. -/
def Device.powerRun (d : Device) (v : Nat) : Device :=
  let s := d.get F.PWR_STATUS_STATE
  if v = s then
    ((d.modSup fun x => { x with sleepFor := none }).set F.PWR_STATUS_PENDING 7).settle (fun g => g == .power v) stOk (BitVec.ofNat 32 v)
  else if s = 0 then
    let d1 := (d.set F.PWR_STATUS_TRANS 1).set F.PWR_STATUS_PENDING (if v = 1 then 7 else v)
    (d1.modLaneHold fun _ => true).standbyLanes
  else if s = 1 then
    if v = 0 then (d.set F.PWR_STATUS_TRANS 0).set F.PWR_STATUS_PENDING 7
    else (d.modSup fun x => { x with sleepFor := some v }).set F.PWR_STATUS_PENDING v
  else (d.modSup fun x => { x with wakeDue := true }).set F.PWR_STATUS_PENDING v

/-- A request for a device state: recorded in STATE_REQ, it replaces the held one (R429). -/
def Device.powerRequest (d : Device) (v : Nat) : Device :=
  let d0 := d.set F.PWR_CTRL_STATE_REQ v
  let p := d0.get F.PWR_STATUS_PENDING
  let t := d0.get F.PWR_STATUS_TRANS
  let d1 := if p = 7 ∨ p = v then d0 else d0.settle (fun g => g == .power p && p != t) stSuperseded
  let d2 := d1.modSup fun x => { x with sleepFor := if x.sleepFor == some v then x.sleepFor else none }
  if t = 7 then d2.powerRun v
  else if t = v then (d2.modSup fun x => { x with wakeDue := x.wakeDue && decide (v < 2) }).set F.PWR_STATUS_PENDING 7
  else d2.set F.PWR_STATUS_PENDING v

/-- WFI with SLEEP set (R426): entry starts, or is refused. -/
def Device.wfiSleep (d : Device) (mMode : Bool) : Device :=
  let s := d.get F.PWR_CTRL_SLEEP
  if s = 0 ∨ s = 3 then d
  -- while a CAL_SAVE runs, entry does not begin (R511)
  else if d.mft.begun.any (fun m => m.desc.opcode == 0x24) then d
  else if !mMode || d.get F.PWR_STATUS_STATE ≠ 1 || d.get F.PWR_STATUS_TRANS ≠ 7 then d.raise F.PWR_INT_STATUS_SLEEP_REFUSED
  else
    let d1 := if d.sup.sleepFor == some (s + 1) then d.set F.PWR_STATUS_PENDING 7 else d
    let d2 := ((d1.modSup fun x => { x with sleepFor := none, procRun := false }).set F.PWR_STATUS_TRANS (s + 1)).monSleep
    -- for HIBERNATE the completion is written 1 ms before the window loses power (R427)
    if s = 2 then d2.settle (fun g => g == .power 3) stOk 3 else d2

/-- 100 ms without the WFI (R427). -/
def Device.sleepTimeout (d : Device) : Device :=
  match d.sup.sleepFor with
  | some v => ((d.modSup fun x => { x with sleepFor := none }).set F.PWR_STATUS_PENDING 7).settle (fun g => g == .power v) stTimeout
  | none => d

/-! ### Wake sources (R430, R431) -/

/-- A wake source of Table 12-3 arrives. -/
def Device.wakeBy (d : Device) (bit : Nat) : Device :=
  let t := d.get F.PWR_STATUS_TRANS
  let entering := t == 2 || t == 3
  let target := if entering then t else d.get F.PWR_STATUS_STATE
  let sources := if target = 2 then [0, 1, 3, 4, 5, 6] else if target = 3 then [0, 2, 3, 5] else []
  if t = 1 || !sources.contains bit || !(d.reg F.PWR_WAKE_EN.addr).getLsbD bit then d
  else
    let old := if d.sup.wakeDue then d.reg F.PWR_WAKE_SRC.addr else 0
    let d1 := (d.setReg F.PWR_WAKE_SRC.addr (old ||| BitVec.ofNat 32 (2 ^ bit))).modSup fun x => { x with wakeDue := true }
    if entering then
      let p := d1.get F.PWR_STATUS_PENDING
      let d2 := if p = 7 ∨ p = 1 then d1 else d1.settle (fun g => g == .power p && p != t) stSuperseded
      d2.set F.PWR_STATUS_PENDING 1
    else d1

/-- The wake timer expires, when one is set. -/
def Device.wakeTimer (d : Device) : Device := if d.get F.PWR_WAKE_TIMER = 0 then d else d.wakeBy 3

/-- Registers of the block at an address keep their supply in DORMANT. -/
def regOn (a : Nat) : Bool :=
  match findRow a with
  | some (r, _) => r.on
  | none => true

/-- The bank of Table 12-6 that saves a register; 8 when none does. -/
def regBank (a : Nat) : Nat :=
  match findRow a with
  | some (r, _) => r.bank
  | none => 8

/-- A write to a block that DORMANT powers off (R410, R434). -/
def Device.offBlockWrite (d : Device) (a : Nat) (w : Word) : Device :=
  if d.get F.PWR_STATUS_STATE = 2 && !regOn a then
    (d.modSup fun x => { x with heldWrites := x.heldWrites ++ [(a, w)] }).wakeBy 6
  else d

/-! ### Entry: saving and losing (R441, Table 12-6) -/

/-- Save the banks that `p` chooses; the layout of a bank is not stated, so its CRC is open. -/
def Device.saveBanks (d : Device) (deep : Bool) : Device :=
  let p (b : Nat) : Bool := if deep then b < 8 else 3 ≤ b && b < 8
  let s : Saved := {
    deep := deep
    regs := d.regs.filter fun w => p (regBank w.1)
    live := d.live.filter fun w => p (regBank w.1)
    coefs := d.rx.toList.map (·.saved)
    trims := d.rx.toList.map (·.trimLive)
    dpd := d.tx.toList.map (·.dpd) }
  let d1 := d.modSup fun x => { x with saved := some s }
  ((List.range 8).filter p).foldl (fun (e : Device) b =>
    let (f, w) := e.fresh
    f.setReg (F.PWR_RET_CRC b).addr w) d1

/-- Macros whose supply DORMANT removes (R421). -/
def macroOff (m : Nat) : Bool := (16 ≤ m && m < 36) || m == 44 || m == 45

/-- Macros that `off` names lose their content and start their next scrub pass at row 0. -/
def Device.loseMacros (d : Device) (off : Nat → Bool) : Device :=
  { d with
    mem := d.mem.filter fun c => !off (c.1 / 0x8000)
    errs := d.errs.filter fun e => !off (e.1 / 512)
    poisoned := d.poisoned.filter fun b => !off (b / 512)
    writeBack := d.writeBack.filter fun b => !off (b / 512)
    scrubRow := Vector.ofFn fun i => if off i.val then 0 else d.scrubRow.get i }

/-- Registers and spare counts that no power state touches. -/
def Device.keepAon (d e : Device) : Device :=
  let e1 := (List.range 49).foldl (fun (s : Device) m => s.setReg (F.MEM_SPARE m).addr (d.reg (F.MEM_SPARE m).addr)) e
  -- the thresholds in force stay, or come back with bank 0 (R14, Table 12-6)
  (d.survivors false e1).setReg F.THM_LIMITS.addr (e.reg F.THM_LIMITS.addr)

/-- Domains whose logic DORMANT powers off: LRX0 to LRX7, EGR and MADC (R421, Table 11-2). Each is reset when it is powered down and when it
is powered up, with one flush each time (R411, R412; DEDUCED, log 150). -/
def poweredDomains : List Nat := [2, 3, 4, 5, 6, 7, 8, 9, 10, 13]

/-- DORMANT is entered: the blocks outside the management island lose their supply. -/
def Device.enterDormant (d : Device) : Device :=
  let d1 := d.lkoSleep.saveBanks false
  let off := { d1 with
    regs := d1.regs.filter fun w => regOn w.1
    live := d1.live.filter fun w => regOn w.1
    snap := []
    rx := d1.rx.map fun r => { RxLane.fresh with pilotRx := r.pilotRx }
    tx := d1.tx.map fun t => { t with
      dpd := TxLane.fresh.dpd, dpdWrites := [], dpdUpdate := none, held := none, measuring := false }
    bw := Vector.replicate 8 BwRx.fresh, egr := Vector.replicate 8 Egress.fresh, neg := Neg.fresh
    pool := { Pool.fresh with coefs := d1.pool.coefs, nextTag := d1.pool.nextTag }
    host := Vector.replicate 32 HostLane.fresh, out := Vector.replicate 16 []
    lko := Lko.fresh, pmuReq := { freeze := none, snap := false }, pmuPrev := [] }
  poweredDomains.foldl (fun (s : Device) k => s.domainReset k 0) ((d1.keepAon off).loseMacros macroOff)

/-- A register that HIBERNATE keeps: the AON domain, the safe state, start-up and security status. -/
def hibKeeps (a : Nat) : Bool :=
  let blk := a / 0x1000
  blk == 2 || blk == 3 || blk == 4 || [0x0, 0x4, 0x8, 0x14, 0x20].contains a

/-- HIBERNATE is entered: only the AON domain and the bonded store keep their supply. -/
def Device.enterHibernate (d : Device) : Device :=
  let d1 := d.lkoSleep.saveBanks true
  let base := { Device.initial with
    regs := d1.regs.filter fun w => hibKeeps w.1
    mem := d1.mem, errs := d1.errs, poisoned := d1.poisoned, memHist := d1.memHist, sparesOut := d1.sparesOut
    writeBack := d1.writeBack, scrubRow := d1.scrubRow, scrubFrom := d1.scrubFrom
    now := d1.now, draws := d1.draws, txdisLow := d1.txdisLow, flash := d1.flash, sec := d1.sec
    pool := { Pool.fresh with coefs := d1.pool.coefs }
    thm := d1.thm, mon := { Mon.fresh with page02 := d1.mon.page02 }
    sup := { d1.sup with pages := [], opGoal := none, heldWrites := [] } }
  ((d1.keepAon base).loseMacros fun m => m != 48).setB F.BDAC_STATUS_LATCHED (d1.flag F.BDAC_STATUS_LATCHED)

/-! ### Wake: restoring (R432, R433, R442) -/

/-- Bytes of the eight banks, in order (Table 12-6). -/
def bankSizes : List Nat := [512, 768, 512, 1280, 768, 1792, 1536, 1024]

/-- The bank that holds a block of the bonded store. -/
def bankOfBlock (row : Nat) : Nat :=
  let off := 64 * row
  ((List.range 8).find? fun b => off < (bankSizes.take (b + 1)).foldl (· + ·) 0).getD 7

/-- Banks with a poisoned or uncorrectable block fail at their restore (Table 16-3). -/
def Device.storeFailed (d : Device) : Device × Nat :=
  (d.suspects fun b => b / 512 == 48).foldl (fun (s : Device × Nat) b =>
    let (e, ok) := s.1.touch b
    (e, if ok then s.2 else s.2 ||| 2 ^ bankOfBlock (b % 512))) (d, 0)

/-- Thresholds of the grade, as a full reset leaves them. -/
def Device.gradeLimits (d : Device) : Device := if d.get F.SYS_ID_GRADE = 0x48 then d.setReg F.THM_LIMITS.addr 0x7D7169 else d

/-- Restore the banks that were saved (R14, R441, R606); those of `failed` take reset values, and their blocks start cold. -/
def Device.restoreBanks (d : Device) (failed : Nat) : Device :=
  match d.sup.saved with
  | none => d
  | some s =>
    let ok (b : Nat) : Bool := !failed.testBit b
    let d1 := s.regs.foldl (fun (e : Device) w => if ok (regBank w.1) then e.setReg w.1 w.2 else e) d
    let d2 := s.live.foldl (fun (e : Device) w => if ok (regBank w.1) then e.setLiveReg w.1 w.2 else e) d1
    -- registers that kept their supply but whose bank failed
    let d3 := { d2 with
      regs := d2.regs.filter fun w => ok (regBank w.1) || !s.deep
      live := d2.live.filter fun w => ok (regBank w.1) || !s.deep }
    let d4 := lanes.foldl (fun (e : Device) (n : Lane) =>
      let e1 := if ok 4 then e.modRx n fun r => { r with coef := s.coefs.getD n Coefs.reset, saved := s.coefs.getD n Coefs.reset } else e
      let e2 := if ok 5 then e1.modRx n fun r => { r with
          trimLive := s.trims.getD n (Vector.replicate 64 0), tiaLive := e1.get (F.LRX_TIA_TRIM n) % 256 } else e1
      if ok 6 then e2.modTx n fun t => { t with dpd := s.dpd.getD n TxLane.fresh.dpd } else e2) d3
    let d5 := if ok 0 || !s.deep then d4 else d4.gradeLimits
    let d6 := if ok 1 || !s.deep then d5 else d5.loadAcl
    let d7 := if ok 2 || !s.deep then d6 else d6.modSup fun x => { x with unwritten := BitVec.allOnes 16 }
    d7.modSup fun x => { x with saved := none, reload := BitVec.ofNat 8 failed &&& 0x68 }

/-- The failed banks of a wake are reported (R442). -/
def Device.retainFail (d : Device) (failed : Nat) : Device :=
  if failed = 0 then d
  else (d.set F.PWR_RETAIN_RETAIN_FAIL (d.get F.PWR_RETAIN_RETAIN_FAIL ||| failed)).raise F.PWR_INT_STATUS_RETAIN_FAIL (BitVec.ofNat 32 failed)

/-- Steps 5 and 6 of Table 12-5: the image of the active slot, else step 10 of Table 10-1, else boot recovery. -/
def Device.wakeImage (d : Device) : Device × Bool :=
  let i : Fin 2 := Fin.ofNat 2 d.sec.slot
  let r := d.slotReason i
  let d1 := d.setReason i r
  if r = 0 then (d1.bootImage i, true)
  else
    let j : Fin 2 := 1 - i
    let q := d1.slotReason j
    if q = 1 then (d1.enterRecovery, false)
    else
      let d2 := d1.setReason j q
      if q = 0 then ((d2.bootImage j).raise F.SYS_INT_STATUS_SLOT_FALLBACK, true) else (d2.enterRecovery, false)

/-- A wake starts and runs up to the processor's return (R430, Tables 12-4 and 12-5). A HIBERNATE wake waits for REFCLK. -/
def Device.wakeStart (d : Device) (run : WakeRun) : Device :=
  let st := d.get F.PWR_STATUS_STATE
  if !d.sup.wakeDue || st < 2 || d.get F.PWR_STATUS_TRANS ≠ 7 then d
  else
    let d0 := (d.modSup fun x => { x with wakeDue := false }).set F.PWR_STATUS_TRANS 1
    let d1 := if d0.get F.PWR_STATUS_PENDING = 1 then d0.set F.PWR_STATUS_PENDING 7 else d0
    if st = 2 then
      let (d2, bad) := d1.storeFailed
      let failed := (run.failed.toNat ||| bad) &&& 0xF8
      let d3 := poweredDomains.foldl (fun (s : Device) k => s.domainReset k 0) (d2.set F.PWR_STATUS_VGOOD_CORE 1)
      (d3.restoreBanks failed).retainFail failed
    -- the wake waits for REFCLK as start-up does (R378)
    else if !d.sup.refOk then d.set F.SYS_BOOT_STATUS_FAIL_CODE 6
    else
      let d2 := (((d1.set F.SYS_BOOT_STATUS_FAIL_CODE 0).set F.CLK_STATUS_REF_PRESENT 1).set F.CLK_STATUS_CPLLA_LOCK 1).set
        F.CLK_STATUS_CPLLB_LOCK 1
      if !run.checkerOk then d2.holdBoot 3 7
      else
        let (d3, bad) := d2.storeFailed
        let failed := run.failed.toNat ||| bad
        let d4 := ((d3.restoreBanks failed).set F.MFT_CTRL_ENABLE 0).retainFail failed
        let (d5, ok) := d4.wakeImage
        if ok then d5.fabricStart else d5

/-! ### Meanings -/

/-- POWER_STATE_REQUEST (R429). -/
def execPowerStateRequest (v : BitVec 2) (s : State) : Host.Outcome State Fault Refusal := .next { s with dev := s.dev.powerRequest v.toNat }
/-- WFI_SLEEP (R426). -/
def execWfiSleep (mMode : Bool) (s : State) : Host.Outcome State Fault Refusal := .next { s with dev := s.dev.wfiSleep mMode }
/-- SLEEP_TIMEOUT (R427). -/
def execSleepTimeout (s : State) : Host.Outcome State Fault Refusal := .next { s with dev := s.dev.sleepTimeout }
/-- WAKEN_FALL (R431). -/
def execWakenFall (s : State) : Host.Outcome State Fault Refusal := .next { s with dev := s.dev.wakeBy 0 }
/-- WAKE_TIMER (R431). -/
def execWakeTimer (s : State) : Host.Outcome State Fault Refusal := .next { s with dev := s.dev.wakeTimer }
/-- HOST_ACCESS_WAKE (R431). -/
def execHostAccessWake (s : State) : Host.Outcome State Fault Refusal := .next { s with dev := s.dev.wakeBy 2 }
/-- OFF_BLOCK_WRITE (R434). -/
def execOffBlockWrite (a : BitVec 20) (w : Word) (s : State) : Host.Outcome State Fault Refusal :=
  .next { s with dev := s.dev.offBlockWrite a.toNat w }
/-- WAKE_START (R430). -/
def execWakeStart (run : WakeRun) (s : State) : Host.Outcome State Fault Refusal := .next { s with dev := s.dev.wakeStart run }
/-- OP_REQ_WRITE (R440). -/
def execOpReqWrite (v floor : BitVec 2) (s : State) : Host.Outcome State Fault Refusal :=
  .next { s with dev := s.dev.opReqWrite v.toNat floor.toNat }
/-- VGOOD_CORE (R438). -/
def execVgoodCore (s : State) : Host.Outcome State Fault Refusal := .next { s with dev := s.dev.vgoodCore }

end Sys2Proof.Machine
end

