-- ==== Sys2Proof/Machine/Thermal.lean ====
section
/-! DEFINITION. Thermal management: cross-checked sensors, levels, enforcement steps and shutdown (chapter 13), with the meanings of its commands. -/

namespace Sys2Proof.Machine

/-! ### Cross-checking (R448 to R452) -/

/-- The designated neighbours of a sensor (Table 13-1). -/
def neighbours (t : Nat) : List Nat :=
  if t < 16 then
    let r := t / 4
    let c := t % 4
    (if 0 < r then [t - 4] else []) ++ (if r < 3 then [t + 4] else []) ++ (if 0 < c then [t - 1] else [])
      ++ (if c < 3 then [t + 1] else [])
  else
    let k := t - 16
    (if 0 < k then [t - 1] else []) ++ (if k < 7 then [t + 1] else []) ++ [12 + k / 2]

/-- Enter a value in a rising list. -/
def insertUp (x : Int) : List Int → List Int
  | [] => [x]
  | y :: ys => if x ≤ y then x :: y :: ys else y :: insertUp x ys

/-- A list in rising order. -/
def sortUp (l : List Int) : List Int := l.foldr insertUp []

/-- Twice the median of a list (R449). -/
def median2 (l : List Int) : Int :=
  let s := sortUp l
  let n := s.length
  if n % 2 = 1 then 2 * s.getD (n / 2) 0 else s.getD (n / 2 - 1) 0 + s.getD (n / 2) 0

/-- The reading of a sensor, as it last arrived. -/
def Device.reading (d : Device) (t : Nat) : Int := toSigned 20 (d.reg (F.THM_T t).addr).toNat

/-- The sensor is suspect. -/
def Device.suspectT (d : Device) (t : Nat) : Bool := (d.reg F.THM_SUSPECT.addr).getLsbD t

/-- The sensor deviates: its reading differs from its neighbours' median by more than 12 °C. -/
def Device.deviates (d : Device) (t : Nat) : Bool :=
  let m := median2 ((neighbours t).map d.reading)
  decide (2 * 12 * 256 < (2 * d.reading t - m).natAbs)

/-- The device is of grade H. -/
def Device.gradeH (d : Device) : Bool := d.get F.SYS_ID_GRADE == 0x48

/-- A threshold in force, in °C: a write above the grade's value acts as the grade's value (R453). -/
def Device.warnAt (d : Device) : Int := min (d.sget F.THM_LIMITS_WARN) (if d.gradeH then 105 else 100)
/-- The throttle threshold in force. -/
def Device.throtAt (d : Device) : Int := min (d.sget F.THM_LIMITS_THROT) (if d.gradeH then 113 else 108)
/-- The shutdown threshold of the grade. -/
def Device.shutAt (d : Device) : Int := if d.gradeH then 125 else 120

/-- The value with which a sensor enters the maximum (R449, R451). -/
def Device.entering (d : Device) (t : Nat) : Int :=
  if d.suspectT t then
    let good := (neighbours t).filter fun k => !d.suspectT k
    if good.length < (neighbours t).length then d.throtAt * 256
    else (good.map d.reading).foldl max (-0x80000) + 5 * 256
  else d.thm.last.toList.getD t 0

/-- Take one sensor's sample: what arrived, and the runs of R450. -/
def Device.takeSample (d : Device) (t : Fin 24) (got : Bool) : Device :=
  let dev := got && d.deviates t
  let d1 := (d.modThm fun _ => { d.thm with
    devRun := d.thm.devRun.set t (if dev then d.thm.devRun.get t + 1 else 0)
    missRun := d.thm.missRun.set t (if got then 0 else d.thm.missRun.get t + 1)
    last := if got && !dev then d.thm.last.set t (d.reading t) else d.thm.last })
  if !d1.suspectT t && (3 ≤ d1.thm.devRun.get t || 3 ≤ d1.thm.missRun.get t) then
    (d1.setReg F.THM_SUSPECT.addr (d1.reg F.THM_SUSPECT.addr ||| BitVec.ofNat 32 (2 ^ t.val))).raise F.THM_INT_STATUS_SUSPECT (BitVec.ofNat 32 t)
  else d1

/-- The hottest value and a sensor that gives it (R452); which of several equal ones HOT_IDX names is open. -/
def Device.hottest (d : Device) : Device :=
  let vs := (List.range 24).map d.entering
  let top := vs.foldl max (-0x80000)
  let who := (List.range 24).filter fun t => d.entering t == top
  let d1 := d.sset F.THM_STATUS_HOTTEST top
  match who with
  | [t] => d1.set F.THM_STATUS_HOT_IDX t
  | _ =>
    let (d2, w) := d1.fresh
    d2.set F.THM_STATUS_HOT_IDX (who.getD (w.toNat % who.length) 0)

/-! ### THERMAL (R455) -/

/-- A temperature in whole °C; how a fraction rounds is open. -/
def Device.wholeDegrees (d : Device) (v : Int) : Device × Int :=
  if v % 256 = 0 then (d, v / 256)
  else ((d.draw), v / 256 + (if Config.freeBool d.draws then 1 else 0))

/-- Send THERMAL on every lane whose pilot is in sync. -/
def Device.sendThermal (d : Device) : Device :=
  let (d1, hot) := d.wholeDegrees (d.sget F.THM_STATUS_HOTTEST)
  let body := CtlBody.thermal (d1.get F.THM_STATUS_WARNING + 2 * d1.get F.THM_STATUS_THROTTLE) d1.enf hot (d1.get F.SYS_ID_GRADE)
  lanes.foldl (fun (s : Device) (n : Lane) => if s.pilotSync n then s.queueCtl n 1 3 body else s) d1

/-- THERMAL is received: DATA holds its body, first byte lowest. -/
def Device.thermalReceived (d : Device) (level step : Nat) (hot : Int) (grade : Nat) : Device :=
  d.raise F.THM_INT_STATUS_FAR_THERMAL
    (BitVec.ofNat 32 (level % 256 + step % 256 * 2 ^ 8 + ofSigned 8 hot * 2 ^ 16 + grade % 256 * 2 ^ 24))

/-! ### Enforcement (R456 to R461) -/

/-- The step in force reaches what has no boundary to wait for (R31, R117): the pool's limit, lanes that are not in RXON, and streams without
parity lock. -/
def Device.takeStep (d : Device) : Device :=
  let v := d.enf
  lanes.foldl (fun (s : Device) (n : Lane) =>
    let s1 := if s.rxInRxon n then s else s.laneEnforce n
    if s1.flag (F.LRX_BW_STATUS_PARITY_LOCK n) then s1 else s1.modBw n fun b => { b with e2 := v == 2 })
    ((d.set F.POOL_STATUS_ENF v).clampCode)

/-- The step in force is the higher of what temperature ordered and ENF_MIN holds (R460); a change reaches each block at its boundary, or
at once where it has none (R31). -/
def Device.enforce (d : Device) : Device :=
  let v := max d.thm.ordered (min 2 (d.get F.THM_CTRL_ENF_MIN))
  let old := d.enf
  if v = old then d
  else
    let d1 := (d.set F.THM_STATUS_ENF v).raise F.THM_INT_STATUS_ENF_CHG
    let d3 := d1.takeStep
    let d4 := if v = 2 then d3.lkoE2 else d3
    d4.sendThermal

/-- The grace time ends (R456). -/
def Device.graceExpiry (d : Device) : Device :=
  if !d.flag F.THM_STATUS_GRACE_RUN then d
  else
    let d1 := d.set F.THM_STATUS_GRACE_RUN 0
    if d1.flag F.THM_STATUS_THROTTLE then (d1.modThm fun t => { t with ordered := max t.ordered 1, e2Run := true }).enforce else d1

/-- E2_DELAY ends with throttle set (R457). -/
def Device.e2DelayExpiry (d : Device) : Device :=
  if d.thm.e2Run && d.flag F.THM_STATUS_THROTTLE then (d.modThm fun t => { t with ordered := 2, e2Run := false }).enforce else d

/-- A release period ends with throttle clear (R459). -/
def Device.releaseExpiry (d : Device) : Device :=
  if d.flag F.THM_STATUS_THROTTLE then d else (d.modThm fun t => { t with ordered := t.ordered - 1 }).enforce

/-- A write of ENF_MIN (R460). -/
def Device.enfMinWrite (d : Device) (v : Nat) : Device := (d.set F.THM_CTRL_ENF_MIN v).enforce

/-! ### Levels and shutdown (R453, R454, R462) -/

/-- Shutdown: the latch sets, and the device is held in reset (R462, R463), in the safe state too (R394). -/
def Device.shutdown (d : Device) : Device :=
  let d1 := d.set F.THM_STATUS_SHUTDOWN 1
  let e := d1.fullReset 0
  -- no source of Table 10-2 caused this reset
  let e1 := e.setReg F.SYS_RST_CAUSE.addr (d.reg F.SYS_RST_CAUSE.addr)
  (e1.set F.THM_STATUS_HOTTEST (d1.get F.THM_STATUS_HOTTEST)).set F.THM_STATUS_HOT_IDX (d1.get F.THM_STATUS_HOT_IDX)

/-- Throttle sets: the grace time, or the time to E2, starts (R456, R459). -/
def Device.throttleSet (d : Device) : Device :=
  let d1 := (d.set F.THM_STATUS_THROTTLE 1).raise F.THM_INT_STATUS_THROT_SET
  if d1.enf = 0 then d1.set F.THM_STATUS_GRACE_RUN 1 else d1.modThm fun t => { t with e2Run := true }

/-- Throttle clears. -/
def Device.throttleClear (d : Device) : Device :=
  (((d.set F.THM_STATUS_THROTTLE 0).set F.THM_STATUS_GRACE_RUN 0).modThm fun t => { t with e2Run := false }).raise F.THM_INT_STATUS_THROT_CLR

/-- Compare the hottest value with the thresholds. -/
def Device.judgeLevels (d : Device) : Device :=
  let hot := d.sget F.THM_STATUS_HOTTEST
  if d.shutAt * 256 ≤ hot then d.shutdown
  else
    let warn := d.flag F.THM_STATUS_WARNING
    let d1 :=
      if !warn && decide (d.warnAt * 256 ≤ hot) then ((d.set F.THM_STATUS_WARNING 1).raise F.THM_INT_STATUS_WARN_SET).wakeBy 5
      else if warn && decide (hot < (d.warnAt - 3) * 256) then ((d.set F.THM_STATUS_WARNING 0).raise F.THM_INT_STATUS_WARN_CLR).wakeBy 5
      else d
    let throt := d1.flag F.THM_STATUS_THROTTLE
    let d2 :=
      if !throt && decide (d1.throtAt * 256 ≤ hot) then d1.throttleSet
      else if throt && decide (hot < (d1.throtAt - 4) * 256) then d1.throttleClear
      else d1
    if d2.flag F.THM_STATUS_WARNING == warn && d2.flag F.THM_STATUS_THROTTLE == throt then d2 else d2.sendThermal

/-- Every sensor is sampled: `none` is a reading that does not arrive (R447 to R453). While the shutdown latch is set only the hottest
value is reported (R463). -/
def Device.thermalSample (d : Device) (t : List (Option Int)) : Device :=
  let d1 := (List.range 24).foldl (fun (s : Device) k =>
    match t.getD k none with
    | some v => s.setReg (F.THM_T k).addr (BitVec.ofInt 32 (toSigned 20 (ofSigned 20 v)))
    | none => s) d
  let d2 := (List.finRange 24).foldl (fun (s : Device) (k : Fin 24) => s.takeSample k ((t.getD k none).isSome)) d1
  let d3 := d2.hottest
  if d3.flag F.THM_STATUS_SHUTDOWN then d3 else d3.judgeLevels

/-! ### Meanings -/

/-- THERMAL (R455). -/
def execThermal (_n : Lane) (level step : Nat) (hot : Int) (grade : Nat) (s : State) : Host.Outcome State Fault Refusal :=
  .next { s with dev := s.dev.thermalReceived level step hot grade }
/-- THERMAL_SAMPLE (R447). -/
def execThermalSample (t : List (Option Int)) (s : State) : Host.Outcome State Fault Refusal := .next { s with dev := s.dev.thermalSample t }
/-- GRACE_EXPIRY (R456). -/
def execGraceExpiry (s : State) : Host.Outcome State Fault Refusal := .next { s with dev := s.dev.graceExpiry }
/-- E2_DELAY_EXPIRY (R457). -/
def execE2DelayExpiry (s : State) : Host.Outcome State Fault Refusal := .next { s with dev := s.dev.e2DelayExpiry }
/-- RELEASE_EXPIRY (R459). -/
def execReleaseExpiry (s : State) : Host.Outcome State Fault Refusal := .next { s with dev := s.dev.releaseExpiry }
/-- THERMAL_REPORT_TIMER (R455). -/
def execThermalReportTimer (s : State) : Host.Outcome State Fault Refusal :=
  .next { s with dev := if s.dev.flag F.THM_STATUS_THROTTLE then s.dev.sendThermal else s.dev }
/-- ENF_MIN_WRITE (R460). -/
def execEnfMinWrite (v : BitVec 2) (s : State) : Host.Outcome State Fault Refusal := .next { s with dev := s.dev.enfMinWrite v.toNat }

end Sys2Proof.Machine
end

