-- ==== Sys2Proof/Machine/Security.lean ====
section
/-! DEFINITION. Realm keys, anti-rollback fuses, the random generator and zeroisation (chapter 18), with the meanings of their commands. -/

namespace Sys2Proof.Machine

/-- The keys are zeroised (R591). -/
def Device.zeroised (d : Device) : Bool := d.flag F.SEC_STATUS_ZEROISED

/-- The realm key the device tags under (R335): all zero when none is installed, and when the keys are zeroised. -/
def Device.tagKey (d : Device) : BitVec 256 :=
  if d.zeroised then 0
  else match d.sec.keys.key with
    | some (k, _) => k
    | none => 0

/-- A realm key is installed and not zeroised. -/
def Device.keyed (d : Device) : Bool := d.sec.keys.key.isSome && !d.zeroised

/-- The keys under which a tag is accepted (R335, R586). -/
def Device.acceptKeys (d : Device) : List (BitVec 256) :=
  if d.zeroised then [0]
  else
    let k := d.sec.keys
    d.tagKey :: (match k.pending with | some (p, _, _) => [p] | none => []) ++ (match k.old with | some o => [o] | none => [])

/-- A write of 1 to SVN_ADV (R580): fuse writing starts. -/
def Device.svnAdv (d : Device) : Device :=
  if d.flag F.SEC_STATUS_SVN_BUSY || d.sec.svnRun ≤ d.flash.svn then d else d.set F.SEC_STATUS_SVN_BUSY 1

/-- The fuse writing ends: the count equals the running image's SVN. -/
def Device.svnDone (d : Device) : Device :=
  if !d.flag F.SEC_STATUS_SVN_BUSY then d
  else
    let d1 := (d.modFlash fun (q0 : Flash) => { q0 with svn := max d.flash.svn d.sec.svnRun })
    ((d1.set F.SEC_STATUS_SVN_BUSY 0).raise F.SEC_INT_STATUS_SVN_DONE).secShow

/-- The key set of R533 is zeroised; the stored keys in flash are untouched (R591). -/
def Device.zeroise (d : Device) : Device :=
  if d.zeroised then d
  else ((d.modSec fun s => { s with keys := KeyStore.none }).set F.SEC_STATUS_ZEROISED 1).secShow.raise F.SEC_INT_STATUS_ZEROISE

/-- The JTAG access that zeroises: the rights of halting, memory or scan are granted (R590, R591). -/
def Device.jtagZeroise (d : Device) : Device := if d.get F.SEC_STATUS_PERMS % 4 = 0 then d else d.zeroise

/-- A health test of the generator fails (R573). -/
def Device.trngFail (d : Device) : Device := (d.set F.SEC_STATUS_TRNG_OK 0).raise F.SEC_INT_STATUS_TRNG_FAIL

/-- Raw samples pass again: the draws that wait go ahead. -/
def Device.trngOk (d : Device) : Device :=
  let d1 := d.set F.SEC_STATUS_TRNG_OK 1
  let d2 := if d1.sec.wantNonce then d1.drawNonce else d1
  if d2.sec.wantChallenge then d2.drawChallenge else d2

/-- 3,600 s after a key switch (R586): the old key is erased. -/
def Device.oldKeyErase (d : Device) : Device :=
  ((d.modFlash fun (q0 : Flash) => { q0 with keys := { d.flash.keys with old := none } }).modSec fun s =>
    { s with keys := { s.keys with old := none } }).secShow

/-! ### Meanings -/

/-- SVN_ADV (R580). -/
def execSvnAdv (s : State) : Host.Outcome State Fault Refusal := .next { s with dev := s.dev.svnAdv }
/-- SVN_DONE (R580). -/
def execSvnDone (s : State) : Host.Outcome State Fault Refusal := .next { s with dev := s.dev.svnDone }
/-- JTAG_ZEROISE (R591). -/
def execJtagZeroise (s : State) : Host.Outcome State Fault Refusal := .next { s with dev := s.dev.jtagZeroise }
/-- TRNG_FAIL (R573). -/
def execTrngFail (s : State) : Host.Outcome State Fault Refusal := .next { s with dev := s.dev.trngFail }
/-- TRNG_OK (R573). -/
def execTrngOk (s : State) : Host.Outcome State Fault Refusal := .next { s with dev := s.dev.trngOk }
/-- OLD_KEY_ERASE (R586). -/
def execOldKeyErase (s : State) : Host.Outcome State Fault Refusal := .next { s with dev := s.dev.oldKeyErase }

end Sys2Proof.Machine
end

