-- ==== Sys2Proof/Machine/Fabric.lean ====
section
/-! DEFINITION. The fabric's links, messages, trust, beacons and routes (chapter 9): operations. -/

namespace Sys2Proof.Machine

/-- Change what the fabric holds of one link. -/
def Device.modLink (d : Device) (i : Link) (f : LinkSt → LinkSt) : Device :=
  d.modFab fun b => { b with links := b.links.set i (f (b.links.get i)) }

/-- The sixteen links. -/
def fabLinks : List Link := List.finRange 16

/-- The line lane of a pilot link. -/
def linkLane (i : Link) : Lane := Fin.ofNat 8 i.val
/-- The port of a hawser link. -/
def linkPort (i : Link) : Port := Fin.ofNat 8 (i.val - 8)
/-- The link is a pilot channel. -/
def isPilot (i : Link) : Bool := decide (i.val < 8)

/-! ### Addresses (R3) -/

/-- Realm of an address. -/
def aRealm (a : Nat) : Nat := a / 2 ^ 22 % 8
/-- Island of an address. -/
def aIsland (a : Nat) : Nat := a / 2 ^ 14 % 256
/-- Cluster of an address. -/
def aCluster (a : Nat) : Nat := a / 64 % 256
/-- Device number of an address. -/
def aDevice (a : Nat) : Nat := a % 64

/-- The number of an address at a level: device, cluster, island, realm (Table 9-3). -/
def aNumber (a level : Nat) : Nat :=
  match level with
  | 0 => aDevice a
  | 1 => aCluster a
  | 2 => aIsland a
  | _ => aRealm a

/-- The own address in force. -/
def Device.ownAddr (d : Device) : Option Nat := if d.flag F.FAB_STATUS_ADDR_VALID then some (d.get F.FAB_ADDR_ADDR) else none

/-! ### Links (R323, R336, R337) -/

/-- The fabric takes part: running, and not in HIBERNATE (R368). -/
def Device.fabUp (d : Device) : Bool := d.flag F.FAB_STATUS_RUN && d.get F.PWR_STATUS_STATE != 3

/-- A link is up (R323). -/
def Device.linkUp (d : Device) (i : Link) : Bool :=
  if isPilot i then
    d.pilotSync (linkLane i) && (d.plt.get (linkLane i)).txOn && (d.fab.links.get i).cfg.getLsbD (8 + i.val)
  else
    (d.hws.get (linkPort i)).sync && d.flag (F.HWS_CTRL_HWS_EN (linkPort i)) && !d.flag (F.HWS_CTRL_LOOP (linkPort i))

/-- The pilot link is a realm boundary at either end (R336). -/
def Device.realmBnd (d : Device) (i : Link) : Bool :=
  isPilot i && ((d.fab.links.get i).cfg.getLsbD (16 + i.val) || (d.fab.links.get i).flags.getLsbD 4)

/-- The pilot link is an island boundary at either end (R337). -/
def Device.islBnd (d : Device) (i : Link) : Bool :=
  isPilot i && ((d.fab.links.get i).cfg.getLsbD (24 + i.val) || (d.fab.links.get i).flags.getLsbD 3 || d.realmBnd i)

/-- Entries of a level may cross a link (R336, R337, R349): device routes stay in the cluster, cluster routes in the island. -/
def Device.mayCross (d : Device) (i : Link) (level : Nat) : Bool :=
  match level with
  | 0 => !isPilot i
  | 1 => !d.islBnd i
  | 2 => !d.realmBnd i
  | _ => true

/-- Cost of a link (R327). -/
def Device.linkCost (d : Device) (i : Link) : Nat :=
  if !isPilot i then 1
  else match d.get (F.PLT_STATUS_TX_PRESET (linkLane i)) with
    | 3 => 2
    | 2 => 4
    | 1 => 8
    | _ => 32

/-! ### Messages (R328, R329, R355) -/

/-- The next SEQ: boot block above, a count of messages below; a wrap takes a new block. -/
def Device.nextSeq (d : Device) : Device × Nat :=
  let s := d.fab.seq
  let full := d.flash.bootBlock * 2 ^ 32 + s
  if s + 1 = 2 ^ 32 then
    ((d.modFlash fun (q0 : Flash) => { q0 with bootBlock := (d.flash.bootBlock + 1) % 2 ^ 32 }).modFab fun b => { b with seq := 0 }, full)
  else (d.modFab fun b => { b with seq := s + 1 }, full)

/-- Form a message of this device's. -/
def Device.mkMsg (d : Device) (link flood : Bool) (dst : Nat) (dnonce : Word) (rid : Nat) (key : BitVec 256) (body : FabBody) :
    Device × FabMsg :=
  let (d1, seq) := d.nextSeq
  let m : FabMsg := {
    hops := 0, link := link, flood := flood, noAddr := d.ownAddr.isNone, dst := dst, src := d.ownAddr.getD 0
    srcId := Config.identity, seq := seq, dnonce := dnonce, rid := rid, body := body, tagKey := some key }
  (d1.count F.FAB_TX, m)

/-- Hand a message to a link. -/
def Device.putLink (d : Device) (i : Link) (m : FabMsg) : Device :=
  if isPilot i then d.pilotSend (linkLane i) m else d.modHws (linkPort i) fun h => { h with txq := h.txq ++ [m] }

/-- Beacons and routes on a realm boundary are tagged under the all-zero key (R336). -/
def zeroKeyed : FabBody → Bool
  | .beacon _ _ _ _ _ => true
  | .route _ => true
  | _ => false

/-- Send a LINK message on a link that is up. -/
def Device.sendLink (d : Device) (i : Link) (body : FabBody) : Device :=
  if !d.linkUp i then d
  else
    let key := if d.realmBnd i && zeroKeyed body then 0 else d.tagKey
    let (d1, m) := d.mkMsg true false 0 0 0 key body
    d1.putLink i m

/-! ### Routing (R348, R350) -/

/-- Of two entries for one destination, whether the first is used: lower metric, a hawser before a pilot link, the lower link. -/
def RouteIn.better (a b : RouteIn) : Bool :=
  let rank (r : RouteIn) : Nat := if 8 ≤ r.link then r.link - 8 else r.link + 8
  a.entry.metric < b.entry.metric || (a.entry.metric == b.entry.metric && rank a < rank b)

/-- The entry used for a destination. -/
def bestRoute (rs : List RouteIn) (level number : Nat) : Option RouteIn :=
  (rs.filter fun r => r.entry.level == level && r.entry.number == number).foldl (fun best r =>
    match best with
    | none => some r
    | some b => if r.better b then some r else some b) none

/-- The route for an address: by realm, island, cluster or device. -/
def Device.hop (d : Device) (dst : Nat) : Option RouteIn :=
  match d.ownAddr with
  | none => none
  | some a =>
    let level := if aRealm dst ≠ aRealm a then 3 else if aIsland dst ≠ aIsland a then 2 else if aCluster dst ≠ aCluster a then 1 else 0
    bestRoute d.fab.routes level (aNumber dst level)

/-- Hand a message to the link of its route; without one it is dropped and counted. -/
def Device.routeOut (d : Device) (m : FabMsg) : Device :=
  match d.hop m.dst with
  | some r => d.putLink (Fin.ofNat 16 r.link) m
  | none => d.bump F.FAB_ERR_B_NO_ROUTE

/-- The nonce held for a destination (R360). -/
def Device.nonceOf (d : Device) (dst : Nat) : Option Word := (d.fab.nonces.find? fun p => p.1 == dst).map (·.2)

/-- Send a unicast message, with the nonce held for its destination or 0; answers its SEQ and whether a nonce was held. -/
def Device.sendTo (d : Device) (dst rid : Nat) (body : FabBody) : Device × Nat × Bool :=
  let n := d.nonceOf dst
  let (d1, m) := d.mkMsg false false dst (n.getD 0) rid d.tagKey body
  (d1.routeOut m, m.seq, n.isSome)

/-- Send a unicast message. -/
def Device.sendUni (d : Device) (dst : Nat) (body : FabBody) : Device := (d.sendTo dst 0 body).1

/-- Forward or originate a flood on every up link inside the island but one (R330). -/
def Device.floodOut (d : Device) (m : FabMsg) (but : Option Link) : Device :=
  fabLinks.foldl (fun (s : Device) i => if s.linkUp i && !s.islBnd i && some i != but then s.putLink i m else s) d

/-- A pair of SRC_ID and SEQ joins the last 64 floods. -/
def Device.noteFlood (d : Device) (id : BitVec 64) (seq : Nat) : Device :=
  d.modFab fun b => { b with floods := ((id, seq) :: b.floods).take 64 }

/-- Send an island flood. -/
def Device.sendFlood (d : Device) (body : FabBody) : Device :=
  let (d1, m) := d.mkMsg false true 0 0 0 d.tagKey body
  (d1.noteFlood m.srcId m.seq).floodOut m none

/-! ### Forwarding (R330, R331) -/

/-- A message that cannot go on is counted, and its source is told. -/
def Device.dropMsg (d : Device) (m : FabMsg) (hopLimit : Bool) : Device :=
  let d1 := if hopLimit then d.bump F.FAB_ERR_B_HOP_LIMIT else d.bump F.FAB_ERR_B_NO_ROUTE
  if m.noAddr || d.ownAddr == some m.src then d1 else d1.sendUni m.src (.unreach m.dst (if hopLimit then 2 else 1))

/-- Forward a message that arrived on a link: a flood once, a unicast message by its route, a LINK message never. -/
def Device.forward (d : Device) (i : Link) (m : FabMsg) : Device :=
  if m.link then d
  else if m.flood then
    if d.fab.floods.contains (m.srcId, m.seq) || m.srcId == Config.identity || d.islBnd i then d
    else
      let d1 := d.noteFlood m.srcId m.seq
      if 32 ≤ m.hops then d1.dropMsg m true
      else (d1.floodOut { m with hops := m.hops + 1 } (some i)).count F.FAB_FWD
  else if d.ownAddr == some m.dst then d
  else if 32 ≤ m.hops then d.dropMsg m true
  else
    match d.hop m.dst with
    | some r => (d.putLink (Fin.ofNat 16 r.link) { m with hops := m.hops + 1 }).count F.FAB_FWD
    | none => d.dropMsg m false

/-! ### Trust (R334, R352 to R354) -/

/-- The tag verifies under one of these keys; a failure is counted. -/
def Device.tagCheck (d : Device) (m : FabMsg) (keys : List (BitVec 256)) : Device × Bool :=
  match m.tagKey with
  | some k => if keys.contains k then (d, true) else ((d.bump F.FAB_ERR_A_TAG_FAIL).raise F.FAB_INT_STATUS_TAG_FAIL, false)
  | none => ((d.bump F.FAB_ERR_A_TAG_FAIL).raise F.FAB_INT_STATUS_TAG_FAIL, false)

/-- A nonce failure is counted and answered with the current nonce, unless the source has no address. -/
def Device.nonceFail (d : Device) (m : FabMsg) : Device :=
  let d1 := d.bump F.FAB_ERR_C_NONCE_SENT
  if m.noAddr || m.flood || d1.fab.nonce == 0 then d1 else d1.sendUni m.src (.nonce d1.fab.nonce m.seq)

/-- The replay window of a source (R353): bit k stands for H − k. -/
def Device.replayCheck (d : Device) (m : FabMsg) : Device × Bool :=
  let put (l : List (BitVec 64 × Nat × BitVec 64)) (h : Nat) (w : BitVec 64) : List (BitVec 64 × Nat × BitVec 64) :=
    l.map fun p => if p.1 == m.srcId then (m.srcId, h, w) else p
  match d.fab.replay.find? (fun p => p.1 == m.srcId) with
  | some (_, h, w) =>
    if h < m.seq then (d.modFab fun b => { b with replay := put b.replay m.seq ((w <<< (m.seq - h)) ||| 1) }, true)
    else if h - m.seq ≤ 63 && !w.getLsbD (h - m.seq) then
      (d.modFab fun b => { b with replay := put b.replay h (w ||| BitVec.ofNat 64 (2 ^ (h - m.seq))) }, true)
    else (d.bump F.FAB_ERR_A_REPLAY, false)
  | none =>
    if d.fab.replay.length < 256 then (d.modFab fun b => { b with replay := b.replay ++ [(m.srcId, m.seq, 1)] }, true)
    else
      let d1 := (((d.modFab fun b => { b with replay := [] }).drawNonce).bump F.FAB_ERR_C_TABLE_ROLL).raise F.FAB_INT_STATUS_TABLE_ROLL
      (d1.nonceFail m, false)

/-- A NONCE message carries the answer to a nonce that its receiver does not hold, so it needs none itself. -/
def isNonce : FabBody → Bool
  | .nonce _ _ => true
  | _ => false

/-- The checks of a unicast message addressed to the device, in order (R352). -/
def Device.trustUni (d : Device) (m : FabMsg) : Device × Bool :=
  let (d1, ok) := d.tagCheck m d.acceptKeys
  if !ok then (d1, false)
  else if !isNonce m.body && (m.dnonce != d1.fab.nonce || m.dnonce == 0) then (d1.nonceFail m, false)
  else d1.replayCheck m

/-- The checks of a LINK message (R334, R336). -/
def Device.trustLink (d : Device) (i : Link) (m : FabMsg) : Device × Bool :=
  let far := match m.body with | .beacon _ _ _ _ f => f.getLsbD 4 | _ => false
  let zero := zeroKeyed m.body && isPilot i && (d.realmBnd i || far)
  let (d1, ok) := d.tagCheck m (if zero then [0] else d.acceptKeys)
  if !ok then (d1, false)
  else
    let l := d1.fab.links.get i
    match l.seqs.find? (fun p => p.1 == m.srcId) with
    | some (_, s) =>
      if s < m.seq then
        (d1.modLink i fun x => { x with seqs := x.seqs.map fun p => if p.1 == m.srcId then (m.srcId, m.seq) else p }, true)
      else (d1.bump F.FAB_ERR_A_REPLAY, false)
    | none => (d1.modLink i fun x => { x with seqs := x.seqs ++ [(m.srcId, m.seq)] }, true)

/-- A message arrives on a link: forwarded when it goes elsewhere, and acted on when it passes the checks of Trust. -/
def Device.fabReceive (d : Device) (i : Link) (m : FabMsg) (act : Device → Device) : Device :=
  if !d.fabUp || !d.linkUp i then d
  else if m.link then
    let (d1, ok) := d.trustLink i m
    if ok then act d1 else d1
  else if m.flood then
    let d0 := d.forward i m
    if m.srcId == Config.identity || d0.islBnd i then d0
    else
      let (d1, ok) := d0.tagCheck m d0.acceptKeys
      if !ok then d1
      else
        let (d2, new) := d1.replayCheck m
        if new then act d2 else d2
  else if d.ownAddr == some m.dst then
    let (d1, ok) := d.trustUni m
    if ok then act d1 else d1
  else d.forward i m

/-! ### Route tables (R348 to R351) -/

/-- Destinations of a level in the tables. -/
def Device.routeCount (d : Device) (level : Nat) : Nat :=
  ((d.fab.routes.filter fun r => r.entry.level == level).map fun r => r.entry.number).eraseDups.length

/-- Capacity of a level's table. -/
def routeCap (level : Nat) : Nat := if level = 0 then 64 else if level = 3 then 8 else 256

/-- Destinations are to be sent on every link. -/
def Device.markDirty (d : Device) (l : List (Nat × Nat)) : Device :=
  d.modFab fun b => { b with links := b.links.map fun x => { x with dirty := x.dirty ++ l.filter fun k => !x.dirty.contains k } }

/-- The entries that stand for this device itself: its device, cluster, island and realm. -/
def Device.selfLevels (d : Device) : List (Nat × Nat) :=
  match d.ownAddr with
  | some a => [(0, aDevice a), (1, aCluster a), (2, aIsland a), (3, aRealm a)]
  | none => []

/-- A 64-bit register pair. -/
def Device.id64 (d : Device) (f : Fld) : BitVec 64 := d.reg (f.addr + 4) ++ d.reg f.addr

/-- Write a 64-bit register pair. -/
def Device.setId64 (d : Device) (f : Fld) (v : BitVec 64) : Device :=
  (d.setReg f.addr (v.extractLsb' 0 32)).setReg (f.addr + 4) (v.extractLsb' 32 32)

/-- The device may be elected harbour master (R339). -/
def Device.capable (d : Device) : Bool := d.flag F.FAB_CFG_HM_CAP && d.keyed

/-- The lowest of some identities; 0 stands for none. -/
def lowest (l : List (BitVec 64)) : BitVec 64 :=
  (l.filter (· != 0)).foldl (fun m x => if m = 0 || x < m then x else m) 0

/-- The lowest authority-capable identity of the own cluster. -/
def Device.ownLac (d : Device) : BitVec 64 :=
  lowest ((if d.capable then [Config.identity] else []) ++
    (d.fab.routes.filter fun r => r.entry.level == 0 && r.entry.lac.getLsbD 0).map fun r => r.entry.ident)

/-- The lowest authority-capable identity of the island's reachable clusters (R339). -/
def Device.islandLac (d : Device) : BitVec 64 :=
  lowest (d.ownLac :: (d.fab.routes.filter fun r => r.entry.level == 1).map fun r => r.entry.lac)

/-- The lowest identity of the cluster's device routes, the own one included (R338). -/
def Device.clusterLow (d : Device) : BitVec 64 :=
  lowest (Config.identity :: (d.fab.routes.filter fun r => r.entry.level == 0).map fun r => r.entry.ident)

/-- Addressed members of the own cluster. -/
def Device.clusterCount (d : Device) : Nat := (if d.ownAddr.isSome then 1 else 0) + d.routeCount 0

/-- The entry of a destination as it stands: the best route, or this device's own. -/
def Device.entryFor (d : Device) (level number : Nat) : Option RouteEntry :=
  if d.selfLevels.contains (level, number) then
    some {
      level := level, withdraw := false, number := number, metric := 0, path := []
      ident := match level with
        | 0 => Config.identity
        | 1 => d.id64 F.FAB_QM_ID
        | 2 => d.id64 F.FAB_HM_ID
        | _ => 0
      lac := match level with
        | 0 => if d.capable then 1 else 0
        | 1 => d.ownLac
        | _ => 0
      count := if level = 1 then d.clusterCount else 0 }
  else (bestRoute d.fab.routes level number).map (·.entry)

/-- An entry as a link sends it: the link's cost added, the own number prepended (R349); a destination that is gone is withdrawn. -/
def Device.advertise (d : Device) (i : Link) (a level number : Nat) : RouteEntry :=
  match d.entryFor level number with
  | some e => { e with metric := min 254 (e.metric + d.linkCost i), path := aNumber a level :: e.path }
  | none => { level := level, withdraw := true, number := number, metric := 254, ident := 0, lac := 0, count := 0, path := [aNumber a level] }

/-- Split off as many entries as one payload of 1,024 bytes holds. -/
def takeFit : Nat → List RouteEntry → List RouteEntry × List RouteEntry
  | _, [] => ([], [])
  | room, e :: es =>
    if 24 + e.path.length ≤ room then
      let (a, b) := takeFit (room - (24 + e.path.length)) es
      (e :: a, b)
    else ([], e :: es)

/-- Send the changed entries of a link, at most one ROUTE message in 100 ms (R349). -/
def Device.sendRoutes (d : Device) (i : Link) : Device :=
  let l := d.fab.links.get i
  let free := match l.routeAt with | some t => decide (t + 100000000 ≤ d.now) | none => true
  match d.ownAddr with
  | none => d
  | some a =>
    if l.adj.isNone || l.dirty.isEmpty || !free then d
    else
      let es := (l.dirty.filter fun k => d.mayCross i k.1).map fun k => d.advertise i a k.1 k.2
      let (now, later) := takeFit 1024 es
      let d1 := d.modLink i fun x => { x with dirty := later.map fun e => (e.level, e.number) }
      if now.isEmpty then d1 else (d1.sendLink i (.route now)).modLink i fun x => { x with routeAt := some d.now }

/-- Show the tables' use. -/
def Device.routeUse (d : Device) : Device :=
  (((d.set F.FAB_RT_USE_DEVICE (d.routeCount 0)).set F.FAB_RT_USE_CLUSTER (d.routeCount 1)).set F.FAB_RT_USE_ISLAND (d.routeCount 2)).set
    F.FAB_RT_USE_REALM (d.routeCount 3)

/-! ### Roles (R338, R339) -/

/-- The quaymaster's identity changes; one whose address lies in another cluster means that the device has moved (R340). -/
def Device.setQm (d : Device) (id : BitVec 64) : Device :=
  if d.id64 F.FAB_QM_ID = id then d
  else
    let d1 := ((d.setId64 F.FAB_QM_ID id).raise F.FAB_INT_STATUS_QM_CHG).markDirty d.selfLevels
    match d1.ownAddr, d1.flash.record with
    | some a, some r =>
      let es := r.entries.filter fun e => e.identity == id
      if id != 0 && id != Config.identity && !es.isEmpty && !(es.any fun e => e.cluster == aCluster a) then d1.setAddr none else d1
    | _, _ => d1

/-- The harbour master's identity changes. -/
def Device.setHm (d : Device) (id : BitVec 64) : Device :=
  if d.id64 F.FAB_HM_ID = id then d else ((d.setId64 F.FAB_HM_ID id).raise F.FAB_INT_STATUS_HM_CHG).markDirty d.selfLevels

/-- AUTH changes. -/
def Device.setAuth (d : Device) (b : Bool) : Device :=
  if d.flag F.FAB_STATUS_AUTH == b then d else (d.setB F.FAB_STATUS_AUTH b).raise F.FAB_INT_STATUS_AUTH_CHG

/-- Judge the roles after a change: a lower identity ends the quaymaster's at once, a failed condition the harbour master's. -/
def Device.judgeRoles (d : Device) : Device :=
  let low := d.clusterLow
  let d1 :=
    if low != Config.identity then (d.set F.FAB_STATUS_QM 0).setQm low
    else if d.flag F.FAB_STATUS_QM then d else d.setQm 0
  if d1.flag F.FAB_STATUS_HM && !(d1.capable && d1.islandLac == Config.identity) then
    ((d1.set F.FAB_STATUS_HM 0).modFab fun b => { b with proposal := none, requests := [] }).setHm 0
  else d1

/-! ### Adjacencies (R333, R351) -/

/-- Show an adjacency in FAB_ADJ and HWS_STATUS, and report the change. -/
def Device.showAdj (d : Device) (i : Link) (b : Bool) : Device :=
  let d1 := d.setReg F.FAB_ADJ.addr (putBits (d.reg F.FAB_ADJ.addr) i.val i.val b.toNat)
  let d2 := if isPilot i then d1 else d1.setB (F.HWS_STATUS_ADJ (linkPort i)) b
  d2.raise F.FAB_INT_STATUS_ADJ_CHG

/-- An adjacency goes down: its routes are withdrawn at once. -/
def Device.adjDown (d : Device) (i : Link) : Device :=
  if (d.fab.links.get i).adj.isNone then d
  else
    let gone := (d.fab.routes.filter fun r => r.link == i.val).map fun r => (r.entry.level, r.entry.number)
    let d1 := (d.modLink i fun x => { x with adj := none, flags := 0, heard := 0 }).modFab fun b =>
      { b with routes := b.routes.filter fun r => r.link != i.val }
    (((d1.showAdj i false).markDirty gone).routeUse).judgeRoles

/-- An adjacency comes up: every route is to be sent on it. -/
def Device.adjUp (d : Device) (i : Link) (id : BitVec 64) : Device :=
  let all := d.selfLevels ++ ((d.fab.routes.map fun r => (r.entry.level, r.entry.number)).eraseDups)
  (d.modLink i fun x => { x with adj := some id, dirty := all }).showAdj i true

/-! ### Beacons (R332) -/

/-- The payload of a link's beacon. -/
def Device.beaconBody (d : Device) (i : Link) : FabBody :=
  let l := d.fab.links.get i
  let bit (k : Nat) (b : Bool) : BitVec 8 := if b then BitVec.ofNat 8 (2 ^ k) else 0
  .beacon l.heard (d.id64 F.FAB_QM_ID) (d.id64 F.FAB_HM_ID) (d.get F.FAB_EPOCH)
    (bit 0 d.ownAddr.isSome ||| bit 1 d.capable ||| bit 2 (d.flag F.FAB_STATUS_AUTH)
      ||| bit 3 (isPilot i && l.cfg.getLsbD (24 + i.val)) ||| bit 4 (isPilot i && l.cfg.getLsbD (16 + i.val)))

/-- Send a beacon on a link; FAB_CFG takes effect with it (Table 9-7). -/
def Device.sendBeacon (d : Device) (i : Link) : Device :=
  let d1 := d.modLink i fun x => { x with cfg := d.reg F.FAB_CFG.addr }
  if !d1.linkUp i then d1
  else
    let body := d1.beaconBody i
    (d1.sendLink i body).modLink i fun x => { x with sent := some body, sentAt := d.now }

/-- A changed payload goes out at once, but never more than one beacon in 100 ms. -/
def Device.beaconChange (d : Device) (i : Link) : Device :=
  let l := d.fab.links.get i
  if d.linkUp i && l.sent != some (d.beaconBody i) && (l.sent.isNone || decide (l.sentAt + 100000000 ≤ d.now)) then d.sendBeacon i else d

/-- The beacon timer. With FAB_EN at 0 the device leaves the fabric. -/
def Device.beaconTimer (d : Device) : Device :=
  if d.sup.boot != .running || d.get F.PWR_STATUS_STATE = 3 then d
  else if d.flag F.FAB_CFG_FAB_EN then
    fabLinks.foldl (fun (s : Device) i => s.sendBeacon i) (d.set F.FAB_STATUS_RUN 1)
  else
    (fabLinks.foldl (fun (s : Device) i => (s.modLink i fun x => { x with cfg := d.reg F.FAB_CFG.addr }).adjDown i) d).set F.FAB_STATUS_RUN 0

/-- What DORMANT holds for after the wake (R368). -/
def Device.defer (d : Device) (i : Link) (m : Option FabMsg) : Device :=
  if d.fab.deferred.contains (i.val, m) then d
  else (d.modFab fun b => { b with deferred := b.deferred ++ [(i.val, m)] }).wakeBy 4

/-- What follows by itself from the fabric's state: adjacencies of links that fell, changed beacons and changed routes. -/
def Device.fabTick (d : Device) : Device :=
  if !d.fabUp then d
  else
    let d1 := fabLinks.foldl (fun (s : Device) i =>
      if (s.fab.links.get i).adj.isSome && !s.linkUp i then
        (if s.get F.PWR_STATUS_STATE = 2 then s.defer i none else s.adjDown i)
      else s) d
    fabLinks.foldl (fun (s : Device) i => (s.beaconChange i).sendRoutes i) d1

/-! ### Hawsers (R324, R325) -/

/-- A hawser receiver's synchronisation changes; its link comes up or goes down. -/
def Device.hawserSync (d : Device) (p : Port) (b : Bool) : Device :=
  let i : Link := Fin.ofNat 16 (p.val + 8)
  let was := d.linkUp i
  let d1 := (d.modHws p fun h => { h with sync := b }).setB (F.HWS_STATUS_SYNC p) b
  let d2 := if b then d1.set (F.HWS_STATUS_SIGNAL p) 1 else d1
  let up := d2.linkUp i
  if up && !was then d2.raise (F.HWS_INT_STATUS_LINK_UP p)
  else if was && !up then
    let d3 := d2.raise (F.HWS_INT_STATUS_LINK_DOWN p)
    if d3.get F.PWR_STATUS_STATE = 2 && (d3.fab.links.get i).adj.isSome then d3.defer i none else d3.adjDown i
  else d2

/-- The ordered set /K28.5/D16.2/ that fills a hawser between frames (R325). -/
def hawserIdle : List CodeGroup := [.ctl 0xBC, .data 0x50]

/-- The data groups of a message's frame: the bytes and their CRC-32, least significant byte first (R325). -/
def hawserBody (bytes : List Byte) : List CodeGroup := (bytes ++ wordBytes (crc32 bytes)).map CodeGroup.data

/-- The code groups of a message's frame: /K27.7/, its data groups, /K29.7/ (R325). -/
def hawserWire (bytes : List Byte) : List CodeGroup := .ctl 0xFB :: (hawserBody bytes ++ [.ctl 0xFD])

/-- The data bytes between a frame's first and last code groups. -/
def frameData : List CodeGroup → Option (List Byte)
  | [.ctl b] => if b = 0xFD then some [] else none
  | .data b :: r => (frameData r).map (b :: ·)
  | _ => none

/-- The message bytes of received code groups; none with an invalid group, a group out of place or a CRC that fails (R325). -/
def hawserBytes : List CodeGroup → Option (List Byte)
  | .ctl b :: r =>
    if b != 0xFB then none
    else (frameData r).bind fun bs =>
      let n := bs.length - 4
      if 4 ≤ bs.length && bs.drop n == wordBytes (crc32 (bs.take n)) then some (bs.take n) else none
  | _ => none

/-- A frame's code groups are received (R325): a good frame is counted; an invalid code group or a CRC that fails discards it. The message of a good
frame is delivered by the command of its type. -/
def Device.hawserFrame (d : Device) (p : Port) (groups : List CodeGroup) : Device :=
  if !(d.hws.get p).sync || !d.flag (F.HWS_CTRL_HWS_EN p) || d.get F.PWR_STATUS_STATE = 3 then d
  else if (hawserBytes groups).isSome then d.count (F.HWS_FRM_RX p)
  else
    let d1 := groups.foldl (fun (s : Device) g => if g = .invalid then s.bump (F.HWS_ERR_CODE p) else s) d
    (d1.bump (F.HWS_ERR_CRC_ERR p)).raise (F.HWS_INT_STATUS_CRC_ERR p)

end Sys2Proof.Machine
end

