-- ==== Sys2Proof/Machine/FabricRec.lean ====
section
/-! DEFINITION. Beacons, routes, elections, addresses and the island record (chapter 9), with the meanings of their commands. -/

namespace Sys2Proof.Machine

/-! ### Addresses and the record (R340 to R347) -/

/-- Take an own address and write it to flash; the routes that stand for the device are sent. -/
def Device.takeAddr (d : Device) (a : Option Nat) : Device :=
  let d1 := (d.modFlash fun (q0 : Flash) => { q0 with addr := a }).setAddr a
  d1.markDirty d1.selfLevels

/-- Delta entries applied to the entries of a record: a last-seen hour of 0xFFFF_FFFF releases the address (Table 9-4). -/
def applyDeltas (es : List RecEntry) (ds : List RecEntry) : List RecEntry :=
  ds.foldl (fun l x =>
    let same (e : RecEntry) : Bool := e.identity == x.identity && e.cluster == x.cluster && e.device == x.device
    if x.seen = 0xFFFFFFFF then l.filter fun e => !same e
    else if l.any same then l.map fun e => if same e then x else e
    else if l.length < 16384 then l ++ [x] else l) es

/-- The lowest identity of a record. -/
def IslandRec.lowId (r : IslandRec) : BitVec 64 := lowest (r.entries.map fun e => e.identity)

/-- A record becomes the committed one: the own address follows it, and a due key switch is made (R343, R347, R586). -/
def Device.recordLive (d : Device) (r : IslandRec) : Device :=
  let d1 := (d.modFlash fun (q0 : Flash) => { q0 with record := some r }).modFab fun b => { b with stored := none }
  let d2 := (d1.raise F.FAB_INT_STATUS_RECORD_COMMIT).recShow
  let d3 := match d2.ownAddr with
    | none => d2
    | some a =>
      let now := fabAddr r.realm r.island (aCluster a) (aDevice a)
      if r.maps now Config.identity then (if now = a then d2 else d2.takeAddr (some now)) else d2.takeAddr none
  d3.keySwitch

/-- The address of an identity: from the cluster's routes, or from the record. -/
def Device.addrOfId (d : Device) (id : BitVec 64) : Option Nat :=
  match d.ownAddr, d.fab.routes.find? (fun r => r.entry.level == 0 && r.entry.ident == id) with
  | some a, some r => some (fabAddr (aRealm a) (aIsland a) (aCluster a) r.entry.number)
  | _, _ =>
    match d.flash.record with
    | some r => (r.entries.find? fun e => e.identity == id).map fun e => fabAddr r.realm r.island e.cluster e.device
    | none => none

/-- The harbour master's address: where its announcements come from, or the record's. -/
def Device.hmAddress (d : Device) : Option Nat :=
  match d.fab.hmAddr with
  | some a => some a
  | none => d.addrOfId (d.id64 F.FAB_HM_ID)

/-- Answer along the relay path: on a link, or to an address. -/
def Device.sendBack (d : Device) (back : Nat) (body : FabBody) : Device :=
  if back < 16 then d.sendLink (Fin.ofNat 16 back) body else d.sendUni (back - 16) body

/-! ### The harbour master's proposals (R342, R343, R345) -/

/-- The lowest number below `n` that is not in a list. -/
def lowestFree (n : Nat) (used : List Nat) : Option Nat := (List.range n).find? fun k => !used.contains k

/-- A member is reached: this device, a device of the own cluster's routes, or one of a cluster that has a route. -/
def Device.reaches (d : Device) (e : RecEntry) : Bool :=
  e.identity == Config.identity ||
    (match d.ownAddr with
      | some a =>
        if e.cluster = aCluster a then d.fab.routes.any fun r => r.entry.level == 0 && r.entry.ident == e.identity
        else d.fab.routes.any fun r => r.entry.level == 1 && r.entry.number == e.cluster
      | none => false)

/-- The change that a request asks for: the next record and its delta entries. -/
def Device.change (d : Device) (r : IslandRec) (q : HeldReq) : Option (IslandRec × List RecEntry) :=
  let grant (c dv : Nat) : IslandRec × List RecEntry :=
    let e : RecEntry := { identity := q.who, cluster := c, device := dv, seen := r.hours }
    ({ r with epoch := r.epoch + 1, entries := applyDeltas r.entries [e] }, [e])
  match q.kind with
  | 0 => (lowestFree 64 ((r.entries.filter fun e => e.cluster == q.cluster).map fun e => e.device)).map (grant q.cluster)
  | 1 => (lowestFree 256 (r.entries.map fun e => e.cluster)).map fun c => grant c 0
  | 2 =>
    let h := r.hours + 1
    let ds := r.entries.filterMap fun e =>
      if d.reaches e then some { e with seen := h } else if 168 ≤ h - e.seen then some { e with seen := 0xFFFFFFFF } else none
    some ({ r with epoch := r.epoch + 1, hours := h, entries := applyDeltas r.entries ds }, ds)
  | 3 => some ({ r with epoch := r.epoch + 1, realm := q.who.toNat % 8 }, [])
  | _ => some ({ r with epoch := r.epoch + 1, island := q.who.toNat % 256 }, [])

/-- The acknowledging members exceed M ÷ 2, or equal it with the holder of LOW_ID (R343). -/
def enough (r : IslandRec) (acks : List (BitVec 64)) : Bool :=
  let k := (acks.filter fun a => r.entries.any fun e => e.identity == a).length
  decide (r.entries.length < 2 * k) || (2 * k == r.entries.length && acks.contains r.lowId)

/-- The proposal commits when enough members acknowledge it: what asked for it is answered. -/
def Device.tryCommit (d : Device) : Device :=
  match d.fab.proposal, d.flash.record with
  | some p, some r =>
    if !enough r p.acks then d
    else
      let d1 := (d.modFab fun b => { b with proposal := none }).recordLive p.next
      match p.req.kind with
      | 0 | 1 =>
        match p.next.entries.find? (fun e => e.identity == p.req.who && !r.entries.contains e) with
        | some e =>
          let a := fabAddr p.next.realm p.next.island e.cluster e.device
          if e.identity == Config.identity then d1.takeAddr (some a)
          else d1.sendBack p.req.back (.addrGrant e.identity a p.next.epoch)
        | none => d1
      | 3 => d1.settle (fun g => g == .realm (p.req.who.toNat % 8)) stOk
      | _ => d1
  | _, _ => d

/-- The harbour master proposes the oldest change that waits: one at a time, and none without AUTH or while it pulls (R342, R365, R367). -/
def Device.proposeNext (d : Device) : Device :=
  if !d.flag F.FAB_STATUS_HM || !d.flag F.FAB_STATUS_AUTH || d.flag F.FAB_STATUS_PULLING || d.fab.proposal.isSome then d
  else
    match d.fab.requests, d.flash.record with
    | q :: rest, some r =>
      let d1 := d.modFab fun b => { b with requests := rest }
      match d1.change r q with
      | none => d1
      | some (next, ds) =>
        let full := if q.kind = 3 then some next.realm else none
        let isl := if q.kind = 4 then some next.island else none
        let hrs := if q.kind = 2 then some next.hours else none
        let d2 := d1.modFab fun b => { b with proposal := some { next := next, acks := [Config.identity], req := q } }
        (d2.sendFlood (.record next.epoch false full isl hrs ds)).tryCommit
    | _, _ => d

/-- A change waits at the harbour master; beyond 16 behind the one proposed it is dropped. -/
def Device.holdReq (d : Device) (q : HeldReq) : Device :=
  if 16 ≤ d.fab.requests.length then d else (d.modFab fun b => { b with requests := b.requests ++ [q] }).proposeNext

/-! ### Address requests (R341, R342, R344) -/

/-- The quaymaster serves a device request: it needs a cluster number, and refuses when its cluster is full. -/
def Device.qmServe (d : Device) (who : BitVec 64) (persisted : Option Nat) (back : Nat) : Device :=
  match d.ownAddr with
  | none => d
  | some a =>
    let full := match d.flash.record with
      | some r => decide (64 ≤ (r.entries.filter fun e => e.cluster == aCluster a).length)
      | none => false
    if d.fab.newCluster || full then d
    else if d.flag F.FAB_STATUS_HM then
      d.holdReq { who := who, persisted := persisted, kind := 0, cluster := aCluster a, back := back }
    else
      match d.hmAddress with
      | some h => (d.modFab fun b => { b with relays := b.relays.filter (fun r => r.1 != who) ++ [(who, back)] }).sendUni h (.addrReq who persisted 0)
      | none => d

/-- Relay a request towards an address, keeping the way back. -/
def Device.relay (d : Device) (dst : Option Nat) (who : BitVec 64) (persisted : Option Nat) (kind back : Nat) : Device :=
  match dst with
  | some a => (d.modFab fun b => { b with relays := b.relays.filter (fun r => r.1 != who) ++ [(who, back)] }).sendUni a (.addrReq who persisted kind)
  | none => d

/-- ADDR_REQ is received. -/
def Device.addrReqIn (d : Device) (i : Link) (m : FabMsg) (who : BitVec 64) (persisted : Option Nat) (kind : Nat) : Device :=
  let back := if m.link then i.val else 16 + m.src
  let hm := d.flag F.FAB_STATUS_HM
  if kind = 1 then
    if hm then d.holdReq { who := who, persisted := persisted, kind := 1, cluster := 0, back := back }
    else d.relay d.hmAddress who persisted 1 back
  else
    match d.ownAddr with
    | none => d
    | some a =>
      let near := m.link || aCluster m.src == aCluster a
      if near && d.flag F.FAB_STATUS_QM then d.qmServe who persisted back
      else if !m.link && hm then
        d.holdReq { who := who, persisted := persisted, kind := 0, cluster := aCluster m.src, back := back }
      else if m.link then d.relay (d.addrOfId (d.id64 F.FAB_QM_ID)) who persisted 0 back
      else d

/-- ADDR_GRANT is received: taken, or relayed back along the path. -/
def Device.addrGrantIn (d : Device) (who : BitVec 64) (a : Nat) (epoch : Nat) : Device :=
  if who = Config.identity then
    (d.takeAddr (some (a % 2 ^ 25))).modFab fun b => { b with newCluster := false, fullPosted := false }
  else
    match d.fab.relays.find? (fun r => r.1 == who) with
    | some (_, back) => (d.modFab fun b => { b with relays := b.relays.filter fun r => r.1 != who }).sendBack back (.addrGrant who a epoch)
    | none => d

/-- The neighbour that an unaddressed device asks: an addressed hawser neighbour first, otherwise an addressed pilot neighbour of its island; among
several the choice is open. -/
def Device.askLink (d : Device) : Device × Option Link :=
  let ok (i : Link) : Bool := (d.fab.links.get i).adj.isSome && (d.fab.links.get i).flags.getLsbD 0 && d.linkUp i
  let hs := fabLinks.filter fun i => !isPilot i && ok i
  let ps := fabLinks.filter fun i => isPilot i && ok i && !d.islBnd i
  let l := if hs.isEmpty then ps else hs
  if l.length ≤ 1 then (d, l.head?)
  else
    let (e, w) := d.fresh
    (e, l[w.toNat % l.length]?)

/-- An unaddressed device asks for an address; a quaymaster without a cluster number asks for one (R341, R344, R346). -/
def Device.askAddr (d : Device) : Device :=
  if !d.fabUp then d
  else if d.fab.newCluster && d.ownAddr.isSome then
    if d.flag F.FAB_STATUS_HM then
      d.holdReq { who := Config.identity, persisted := d.flash.addr, kind := 1, cluster := 0, back := 0 }
    else match d.hmAddress with
      | some h => d.sendUni h (.addrReq Config.identity d.flash.addr 1)
      | none => d
  else if d.ownAddr.isSome then d
  else
    let (d1, who) := d.askLink
    match who with
    | none => d1
    | some i =>
      let kind := if d1.flag F.FAB_STATUS_QM then 1 else 0
      let full := match d1.flash.record with
        | some r => kind == 0 && decide (64 ≤ (r.entries.filter fun e => e.cluster == aCluster (d1.fab.links.get i).farAddr).length)
        | none => false
      let d2 := if full && !d1.fab.fullPosted then (d1.modFab fun b => { b with fullPosted := true }).raise F.FAB_INT_STATUS_CLUSTER_FULL else d1
      d2.sendLink i (.addrReq Config.identity d2.flash.addr kind)

/-! ### Beacons and routes received (R333, R346, R350, R367) -/

/-- A committed epoch above the own one is pulled from the harbour master that announced it (R367). -/
def Device.pull (d : Device) (src : Option Nat) (epoch : Nat) : Device :=
  if epoch ≤ d.get F.FAB_EPOCH || d.ownAddr.isNone then d
  else
    let d1 := (d.set F.FAB_STATUS_PULLING 1).setAuth false
    match src with
    | some a => d1.sendUni a (.recordPull (d1.get F.FAB_EPOCH))
    | none => d1

/-- A valid BEACON is acted on. -/
def Device.beaconAct (d : Device) (i : Link) (m : FabMsg) : Device :=
  match m.body with
  | .beacon heard qm hm epoch flags =>
    let d1 := d.modLink i fun x => { x with
      heard := m.srcId, flags := flags, farQm := qm, farHm := hm, farEpoch := epoch, farAddr := m.src }
    let d2 := match (d1.fab.links.get i).adj with
      | some id => if id = m.srcId then d1
          else (d1.adjDown i).modLink i fun x => { x with heard := m.srcId, flags := flags }
      | none => d1
    let d3 := if (d2.fab.links.get i).adj.isNone && heard = Config.identity then d2.adjUp i m.srcId else d2
    if d3.islBnd i then d3 else d3.pull (d3.addrOfId hm) epoch
  | _ => d

/-- One entry of a ROUTE. -/
def Device.routeEntry (d : Device) (i : Link) (e : RouteEntry) : Device :=
  let own := d.ownAddr.map fun a => aNumber a e.level
  if !d.mayCross i e.level || 3 < e.level || (e.level = 0 && 64 ≤ e.number) || (e.level = 3 && 8 ≤ e.number) || 256 ≤ e.number then d
  else if e.level = 1 && isPilot i && own == some e.number && !e.withdraw && e.ident != d.id64 F.FAB_QM_ID then
    -- another cluster carries the own number (R346)
    let d1 := d.raise F.FAB_INT_STATUS_CLASH
    if d1.id64 F.FAB_QM_ID < e.ident then d1
    else if d1.flag F.FAB_STATUS_QM then d1.modFab fun b => { b with newCluster := true }
    else d1.takeAddr none
  else if e.level = 2 && d.islBnd i && own == some e.number && !e.withdraw && e.ident != d.id64 F.FAB_HM_ID then
    d.raise F.FAB_INT_STATUS_CLASH
  else
    let looped := match own with | some k => e.path.contains k || e.number == k | none => false
    if looped || 31 < e.path.length then d
    else
      let mine (r : RouteIn) : Bool := r.entry.level == e.level && r.entry.number == e.number && r.link == i.val
      let before := bestRoute d.fab.routes e.level e.number
      let d1 :=
        if e.withdraw then d.modFab fun b => { b with routes := b.routes.filter fun r => !mine r }
        else if before.isNone && routeCap e.level ≤ d.routeCount e.level then d.raise F.FAB_INT_STATUS_TABLE_FULL
        else d.modFab fun b => { b with
          routes := b.routes.filter (fun r => !mine r) ++ [{ entry := { e with withdraw := false }, link := i.val, at_ := d.now }] }
      let after := bestRoute d1.fab.routes e.level e.number
      if (before.map (·.entry)) == (after.map (·.entry)) then d1 else d1.markDirty [(e.level, e.number)]

/-- A valid ROUTE is acted on. -/
def Device.routeAct (d : Device) (i : Link) (m : FabMsg) : Device :=
  match m.body with
  | .route es => ((es.foldl (fun (s : Device) e => s.routeEntry i e) d).routeUse).judgeRoles
  | _ => d

/-- Act on a BEACON or ROUTE; in DORMANT what would change an adjacency or a table waits for the wake (R368). -/
def Device.actOrDefer (d : Device) (i : Link) (m : FabMsg) (act : Device → Device) : Device :=
  let d1 := act d
  if d.get F.PWR_STATUS_STATE = 2 then
    let changes := (d1.fab.links.get i).adj != (d.fab.links.get i).adj ||
      (d1.fab.routes.map fun r => (r.entry, r.link)) != (d.fab.routes.map fun r => (r.entry, r.link))
    if changes then d.defer i (some m) else d1
  else d1

/-- After a wake, what DORMANT held is acted on. -/
def Device.runDeferred (d : Device) : Device :=
  let l := d.fab.deferred
  l.foldl (fun (s : Device) p =>
    let i : Link := Fin.ofNat 16 p.1
    match p.2 with
    | none => if s.linkUp i then s else s.adjDown i
    | some m => (s.beaconAct i m).routeAct i m) (d.modFab fun b => { b with deferred := [] })

/-- A route expires: of several entries for the destination, the one advertised longest ago (R351). -/
def Device.routeExpiry (d : Device) (level number : Nat) : Device :=
  let hits := d.fab.routes.filter fun r => r.entry.level == level && r.entry.number == number
  match hits.foldl (fun best r => match best with
      | none => some r
      | some b => if r.at_ < b.at_ then some r else some b) (none : Option RouteIn) with
  | none => d
  | some r =>
    ((d.modFab fun b => { b with routes := b.routes.filter fun x => x != r }).markDirty [(level, number)]).routeUse.judgeRoles

/-- Every 30 s all routes are sent on each adjacency (R349). -/
def Device.routeTimer (d : Device) : Device :=
  d.markDirty (d.selfLevels ++ (d.fab.routes.map fun r => (r.entry.level, r.entry.number)).eraseDups)

/-! ### Announcements and the record received (R343, R366, R367) -/

/-- HM_ANNOUNCE is received. -/
def Device.hmAnnounceIn (d : Device) (m : FabMsg) (epoch : Nat) (island realm : Nat) (auth : Bool) : Device :=
  let mine := match d.flash.record with
    | some r => r.realm == realm && r.island == island
    | none => true
  if !mine then d
  else
    let d1 := ((d.setHm m.srcId).set F.FAB_STATUS_HM_KNOWN 1).modFab fun b => { b with hmAt := d.now, hmAddr := if m.noAddr then none else some m.src }
    let d2 := match d1.fab.stored with
      | some r => if r.epoch = epoch then d1.recordLive r else d1
      | none => d1
    let d3 := d2.pull (if m.noAddr then none else some m.src) epoch
    if auth && epoch = d3.get F.FAB_EPOCH && d3.flash.record.isSome && !d3.flag F.FAB_STATUS_PULLING then d3.setAuth true else d3

/-- RECORD is received: a proposal is stored and acknowledged, an answer to a pull is adopted. -/
def Device.recordIn (d : Device) (m : FabMsg) (epoch : Nat) (full : Bool) (realm island hours : Option Nat) (ds : List RecEntry) : Device :=
  let base : IslandRec := d.flash.record.getD { epoch := 0, realm := 0, island := 0, hours := 0, entries := [] }
  let next : IslandRec := {
    epoch := epoch, realm := realm.getD base.realm, island := island.getD base.island, hours := hours.getD base.hours
    entries := applyDeltas (if full then [] else base.entries) ds }
  if full then
    if d.flag F.FAB_STATUS_PULLING && d.get F.FAB_EPOCH < epoch then (d.set F.FAB_STATUS_PULLING 0).recordLive next else d
  else if d.flash.record.isSome && epoch = base.epoch + 1 then
    (d.modFab fun b => { b with stored := some next }).sendUni m.src (.recordAck epoch)
  else d

/-- RECORD_ACK is received. -/
def Device.recordAckIn (d : Device) (m : FabMsg) (epoch : Nat) : Device :=
  match d.fab.proposal with
  | some p =>
    if p.next.epoch = epoch && !p.acks.contains m.srcId then
      ((d.modFab fun b => { b with proposal := some { p with acks := p.acks ++ [m.srcId] } }).tryCommit).proposeNext
    else d
  | none => d

/-- RECORD_PULL is received: answered with the committed record. -/
def Device.recordPullIn (d : Device) (m : FabMsg) (epoch : Nat) : Device :=
  match d.flash.record with
  | some r => if epoch < r.epoch then d.sendUni m.src (.record r.epoch true (some r.realm) (some r.island) (some r.hours) r.entries) else d
  | none => d

/-- A proposal has not committed within 5 s: it is abandoned (R343, R347). -/
def Device.proposalTimeout (d : Device) : Device :=
  match d.fab.proposal with
  | none => d
  | some p =>
    let d1 := d.modFab fun b => { b with proposal := none }
    (if p.req.kind = 3 then d1.settle (fun g => g == .realm (p.req.who.toNat % 8)) stTimeout else d1).proposeNext

/-! ### Timers and declarations (R338, R339, R345, R365, R366) -/

/-- The device declares itself quaymaster. -/
def Device.quaymasterDeclare (d : Device) : Device :=
  if d.fabUp && d.clusterLow == Config.identity && !d.flag F.FAB_STATUS_QM then (d.set F.FAB_STATUS_QM 1).setQm Config.identity else d

/-- Found the record of a new island: cluster 0, device 0 of ISL_DEFAULT in realm 0 (R342). -/
def Device.foundRecord (d : Device) : Device :=
  let isl := d.get F.FAB_ISL_ISL_DEFAULT
  let r : IslandRec := {
    epoch := 1, realm := 0, island := isl, hours := 0
    entries := [{ identity := Config.identity, cluster := 0, device := 0, seen := 0 }] }
  (d.recordLive r).takeAddr (some (fabAddr 0 isl 0 0))

/-- The device declares itself harbour master; without a record and without another harbour master it founds an island's. -/
def Device.harbourDeclare (d : Device) : Device :=
  if !d.fabUp || !d.capable || d.islandLac != Config.identity || d.flag F.FAB_STATUS_HM then d
  else if d.flash.record.isNone then
    if d.flag F.FAB_STATUS_HM_KNOWN then d else ((d.set F.FAB_STATUS_HM 1).setHm Config.identity).foundRecord
  else if d.ownAddr.isNone then d
  else (d.set F.FAB_STATUS_HM 1).setHm Config.identity

/-- Reachable members: the COUNT of the own cluster and of each reachable cluster (R365). -/
def Device.reachedCount (d : Device) : Nat :=
  d.clusterCount + (((d.fab.routes.filter fun r => r.entry.level == 1).map fun r => r.entry.number).eraseDups.foldl
    (fun t k => t + ((bestRoute d.fab.routes 1 k).map fun r => r.entry.count).getD 0) 0)

/-- The harbour master's announcement (R365): with AUTH it goes on with its changes. -/
def Device.announce (d : Device) : Device :=
  if !d.fabUp || !d.flag F.FAB_STATUS_HM || d.flag F.FAB_STATUS_PULLING then d
  else
    match d.flash.record with
    | none => d
    | some r =>
      let m := r.entries.length
      let n := d.reachedCount
      let low := r.entries.any fun e => e.identity == r.lowId && d.reaches e
      let auth := decide (m < 2 * n) || (2 * n == m && low)
      let d1 := (d.set F.FAB_MEMBERS_R n).sendFlood (.hmAnnounce r.epoch m n r.hours r.lowId r.island r.realm auth)
      (((d1.setAuth auth).set F.FAB_STATUS_HM_KNOWN 1).modFab fun b => { b with hmAt := d.now, hmAddr := d.ownAddr }).proposeNext

/-- Once per hour (R345). -/
def Device.hoursAdvance (d : Device) : Device :=
  if d.flag F.FAB_STATUS_HM then d.holdReq { who := 0, persisted := none, kind := 2, cluster := 0, back := 0 } else d

/-- No HM_ANNOUNCE with AUTH for 3 s (R366). -/
def Device.authorityLapse (d : Device) : Device :=
  let d1 := d.setAuth false
  if d.fab.hmAt + 3000000000 ≤ d.now then (d1.set F.FAB_STATUS_HM_KNOWN 0).modFab fun b => { b with hmAddr := none } else d1

/-- A write of 1 to GO of FAB_ISL (R347). -/
def Device.islandSet (d : Device) (w : Word) : Device :=
  let d1 := (d.set F.FAB_ISL_ISL_DEFAULT (bitsOf w 15 8)).set F.FAB_ISL_ISL_SET (bitsOf w 7 0)
  if bitsOf w 16 16 = 1 && d1.flag F.FAB_STATUS_HM then
    d1.holdReq { who := BitVec.ofNat 64 (bitsOf w 7 0), persisted := none, kind := 4, cluster := 0, back := 0 }
  else d1

/-! ### Meanings -/

/-- HAWSER_FRAME (R325). -/
def execHawserFrame (p : Port) (first : CodeGroup) (body : List CodeGroup) (last : CodeGroup) (s : State) :
    Host.Outcome State Fault Refusal :=
  .next { s with dev := s.dev.hawserFrame p (first :: (body ++ [last])) }
/-- HAWSER_SYNC_ACQUIRED (R324). -/
def execHawserSyncAcquired (p : Port) (s : State) : Host.Outcome State Fault Refusal := .next { s with dev := s.dev.hawserSync p true }
/-- HAWSER_SYNC_LOST (R324). -/
def execHawserSyncLost (p : Port) (s : State) : Host.Outcome State Fault Refusal := .next { s with dev := s.dev.hawserSync p false }
/-- MESSAGE_FORWARD (R330). -/
def execMessageForward (i : Link) (m : FabMsg) (s : State) : Host.Outcome State Fault Refusal :=
  .next { s with dev := if s.dev.fabUp && s.dev.linkUp i then s.dev.forward i m else s.dev }
/-- BEACON (R333). -/
def execBeacon (i : Link) (m : FabMsg) (s : State) : Host.Outcome State Fault Refusal :=
  .next { s with dev := match m.body with
    | .beacon _ _ _ _ _ => if m.link then s.dev.fabReceive i m fun d => d.actOrDefer i m fun e => e.beaconAct i m else s.dev
    | _ => s.dev }
/-- ROUTE (R350). -/
def execRoute (i : Link) (m : FabMsg) (s : State) : Host.Outcome State Fault Refusal :=
  .next { s with dev := match m.body with
    | .route _ => if m.link then s.dev.fabReceive i m fun d => d.actOrDefer i m fun e => e.routeAct i m else s.dev
    | _ => s.dev }
/-- HM_ANNOUNCE (R366). -/
def execHmAnnounce (i : Link) (m : FabMsg) (s : State) : Host.Outcome State Fault Refusal :=
  .next { s with dev := match m.body with
    | .hmAnnounce epoch _ _ _ _ island realm auth => s.dev.fabReceive i m fun d => d.hmAnnounceIn m epoch island realm auth
    | _ => s.dev }
/-- ADDR_REQ (R341). -/
def execAddrReq (i : Link) (m : FabMsg) (s : State) : Host.Outcome State Fault Refusal :=
  .next { s with dev := match m.body with
    | .addrReq who p kind => s.dev.fabReceive i m fun d => d.addrReqIn i m who p kind
    | _ => s.dev }
/-- ADDR_GRANT (R342). -/
def execAddrGrant (i : Link) (m : FabMsg) (s : State) : Host.Outcome State Fault Refusal :=
  .next { s with dev := match m.body with
    | .addrGrant who a e => s.dev.fabReceive i m fun d => d.addrGrantIn who a e
    | _ => s.dev }
/-- RECORD (R343). -/
def execRecord (i : Link) (m : FabMsg) (s : State) : Host.Outcome State Fault Refusal :=
  .next { s with dev := match m.body with
    | .record e full r isl h ds => s.dev.fabReceive i m fun d => d.recordIn m e full r isl h ds
    | _ => s.dev }
/-- RECORD_ACK (R343). -/
def execRecordAck (i : Link) (m : FabMsg) (s : State) : Host.Outcome State Fault Refusal :=
  .next { s with dev := match m.body with
    | .recordAck e => s.dev.fabReceive i m fun d => d.recordAckIn m e
    | _ => s.dev }
/-- RECORD_PULL (R367). -/
def execRecordPull (i : Link) (m : FabMsg) (s : State) : Host.Outcome State Fault Refusal :=
  .next { s with dev := match m.body with
    | .recordPull e => s.dev.fabReceive i m fun d => d.recordPullIn m e
    | _ => s.dev }
/-- BEACON_TIMER (R332). -/
def execBeaconTimer (s : State) : Host.Outcome State Fault Refusal := .next { s with dev := s.dev.beaconTimer }
/-- An adjacency runs out: a sleeping device also wakes (R333, R431). -/
def Device.adjTimeout (d : Device) (i : Link) : Device :=
  if d.get F.PWR_STATUS_STATE = 2 && (d.fab.links.get i).adj.isSome then (d.wakeBy 4).adjDown i else d.adjDown i
/-- ADJACENCY_TIMEOUT (R333). -/
def execAdjacencyTimeout (i : Link) (s : State) : Host.Outcome State Fault Refusal := .next { s with dev := s.dev.adjTimeout i }
/-- QUAYMASTER_DECLARE (R338). -/
def execQuaymasterDeclare (s : State) : Host.Outcome State Fault Refusal := .next { s with dev := s.dev.quaymasterDeclare }
/-- HARBOUR_MASTER_DECLARE (R339). -/
def execHarbourMasterDeclare (s : State) : Host.Outcome State Fault Refusal := .next { s with dev := s.dev.harbourDeclare }
/-- HM_ANNOUNCE_TIMER (R365). -/
def execHmAnnounceTimer (s : State) : Host.Outcome State Fault Refusal := .next { s with dev := s.dev.announce }
/-- ADDR_REQ_RETRY (R341). -/
def execAddrReqRetry (s : State) : Host.Outcome State Fault Refusal := .next { s with dev := s.dev.askAddr }
/-- PROPOSAL_TIMEOUT (R343). -/
def execProposalTimeout (s : State) : Host.Outcome State Fault Refusal := .next { s with dev := s.dev.proposalTimeout }
/-- HOURS_ADVANCE (R345). -/
def execHoursAdvance (s : State) : Host.Outcome State Fault Refusal := .next { s with dev := s.dev.hoursAdvance }
/-- ROUTE_TIMER (R349). -/
def execRouteTimer (s : State) : Host.Outcome State Fault Refusal := .next { s with dev := s.dev.routeTimer }
/-- ROUTE_EXPIRY (R351). -/
def execRouteExpiry (level number : Nat) (s : State) : Host.Outcome State Fault Refusal := .next { s with dev := s.dev.routeExpiry level number }
/-- AUTHORITY_LAPSE (R366). -/
def execAuthorityLapse (s : State) : Host.Outcome State Fault Refusal := .next { s with dev := s.dev.authorityLapse }
/-- ISLAND_SET (R347). -/
def execIslandSet (w : Word) (s : State) : Host.Outcome State Fault Refusal := .next { s with dev := s.dev.islandSet w }

end Sys2Proof.Machine
end

