-- ==== Sys2Proof/Machine/Rings.lean ====
section
/-! DEFINITION. The command, completion and event rings: enabling and draining, the doorbell, completion entries and the consumer indices (R286 to R298, R317), with the meanings of their commands. -/

namespace Sys2Proof.Machine

/-- Size of the shared window. -/
def windowSize : Nat := 0x40000

/-- A manifest came through the command ring. -/
def Manifest.ofRing (m : Manifest) : Bool :=
  match m.origin with
  | .ring _ => true
  | _ => false

/-- Manifests of the ring that have started and whose completion is not written yet: each holds a reserved completion entry (R296). -/
def Device.ringStarted (d : Device) : Nat :=
  (d.mft.begun.filter Manifest.ofRing).length + (d.mft.waiting.filter fun w => w.man.ofRing).length
    + (d.mft.done.filter fun x => x.man.ofRing).length

/-- Base and byte length of the three rings. -/
def Device.ringAreas (d : Device) : List (Nat × Nat) :=
  [(d.get F.MFT_CMD_BASE, 32 * d.cmdSize), (d.get F.MFT_CPL_BASE, 16 * d.cplSize), (d.get F.MFT_EVT_BASE, 16 * d.evtSize)]

/-- Two byte areas overlap. -/
def overlap (a b : Nat × Nat) : Bool := decide (a.1 < b.1 + b.2 ∧ b.1 < a.1 + a.2)

/-- The ring configuration keeps R286. -/
def Device.ringsOk (d : Device) : Bool :=
  d.ringAreas.all (fun a => a.1 % 256 == 0 && decide (a.1 + a.2 ≤ windowSize)) &&
    match d.ringAreas with
    | [a, b, c] => !overlap a b && !overlap a c && !overlap b c
    | _ => false

/-- A write of 1 to ENABLE (R286 to R288, R318). -/
def Device.ringEnable (d : Device) : Device :=
  if d.flag F.MFT_CTRL_ENABLE then d
  else if d.flag F.MFT_STATUS_DRAINING || !d.ringsOk then d.set F.MFT_STATUS_CFG_ERR 1
  else
    let zero := [F.MFT_DB, F.MFT_CMD_CI, F.MFT_CPL_PI_IDX, F.MFT_CPL_CI, F.MFT_EVT_PI_IDX, F.MFT_EVT_CI, F.MFT_STATUS_CFG_ERR]
    let one := [F.MFT_CPL_PI_PHASE, F.MFT_EVT_PI_PHASE, F.MFT_CTRL_ENABLE, F.MFT_STATUS_RUNNING]
    let d1 := one.foldl (fun (s : Device) f => s.set f 1) (zero.foldl (fun (s : Device) f => s.set f 0) d)
    (d1.modMft fun m => { m with seq := 0, cplPhase := true, evtPhase := true, lastFabric := false }).flushHeld

/-- The rings stop once every started manifest has completed (R288). -/
def Device.drainComplete (d : Device) : Device :=
  if d.flag F.MFT_STATUS_DRAINING && d.ringStarted == 0 then (d.set F.MFT_STATUS_DRAINING 0).set F.MFT_STATUS_RUNNING 0 else d

/-- A write of 0 to ENABLE (R288). -/
def Device.ringDisable (d : Device) : Device :=
  if !d.flag F.MFT_CTRL_ENABLE then d
  else ((d.set F.MFT_CTRL_ENABLE 0).set F.MFT_STATUS_DRAINING 1).drainComplete

/-- A write to MFT_DB (R289, R290). -/
def Device.doorbell (d : Device) (v : Nat) : Device :=
  let size := d.cmdSize
  let ci := d.get F.MFT_CMD_CI
  let covered (db : Nat) : Nat := (db + size - ci % size) % size
  if !d.flag F.MFT_CTRL_ENABLE || size ≤ v || covered v < covered (d.get F.MFT_DB) then d.raise F.MFT_INT_STATUS_DB_ERR
  else (d.set F.MFT_DB v).wakeBy 1

/-- The slot number that a completion entry carries. -/
def Manifest.slot (m : Manifest) : Nat :=
  match m.origin with
  | .ring k => k
  | _ => 0

/-- The four words of a completion entry (Table 8-2). -/
def DoneMan.words (x : DoneMan) (phase : Bool) : List Word :=
  let c := x.man.desc
  [BitVec.ofNat 32 (x.status * 2 ^ 24 + c.opcode * 2 ^ 16 + c.tag), x.r0, x.r1,
    BitVec.ofNat 32 (phase.toNat * 2 ^ 31 + x.far.toNat * 2 ^ 25 + c.seqByte * 2 ^ 16 + x.man.slot)]

/-- Write a completion entry, then advance the producer index, whose wrap inverts the phase (R298). -/
def Device.writeCompletion (d : Device) (x : DoneMan) : Device :=
  let pi := d.get F.MFT_CPL_PI_IDX
  let ph := d.mft.cplPhase
  let d1 := d.windowPut (d.get F.MFT_CPL_BASE + 16 * pi) ((x.words ph).flatMap wordBytes)
  let np := (pi + 1) % d.cplSize
  let ph' := if np = 0 then !ph else ph
  let d2 := (((d1.modMft fun m => { m with cplPhase := ph' }).set F.MFT_CPL_PI_IDX np).setB F.MFT_CPL_PI_PHASE ph')
  (d2.raiseIf x.man.desc.irq F.MFT_INT_STATUS_CPL).raiseIf (x.status != 0) F.MFT_INT_STATUS_CPL_ERR

/-- RING_ENABLE (R287). -/
def execRingEnable (s : State) : Host.Outcome State Fault Refusal := .next { s with dev := s.dev.ringEnable }
/-- RING_DISABLE (R288). -/
def execRingDisable (s : State) : Host.Outcome State Fault Refusal := .next { s with dev := s.dev.ringDisable }
/-- DRAIN_COMPLETE (R288). -/
def execDrainComplete (s : State) : Host.Outcome State Fault Refusal := .next { s with dev := s.dev.drainComplete }
/-- DOORBELL (R289). -/
def execDoorbell (v : Byte) (s : State) : Host.Outcome State Fault Refusal := .next { s with dev := s.dev.doorbell v.toNat }
/-- COMPLETION_CONSUMED (R296). -/
def execCompletionConsumed (v : Byte) (s : State) : Host.Outcome State Fault Refusal :=
  .next { s with dev := s.dev.set F.MFT_CPL_CI v.toNat }
/-- EVENT_CONSUMED (R317). -/
def execEventConsumed (v : BitVec 7) (s : State) : Host.Outcome State Fault Refusal :=
  .next { s with dev := s.dev.set F.MFT_EVT_CI v.toNat }

end Sys2Proof.Machine
end

