-- ==== Sys2Proof/Machine/Views.lean ====
section
/-! DEFINITION. Registers as they read: status fields that repeat what a block holds, the copies of a requester's bank, snapshots, and the live view (R11, R53, R86, R407, R434, R483, R563, R604, R610, R611). -/

namespace Sys2Proof.Machine

/-! ### Status fields that show the state of their block -/

/-- The host TX drives nothing (Table 6-5, first row). -/
def Device.hostHiz (d : Device) (k : HLane) : Bool := !d.hostUsed k || d.lget (F.HLN_CTRL_TX_EN k) != 1

/-- The host TX is in QUIET or DEEP, or on its way (Table 6-5, second row). -/
def Device.hostQuiet (d : Device) (k : HLane) : Bool := !(d.host.get k).txRun

/-- A group whose codewords are not all substitutes still waits for its release. -/
def Device.realReady (d : Device) (n : Lane) : Bool :=
  (d.bw.get n).ready.any fun g => (g.a ++ g.b).any fun x => x.how != .substitute

/-- A native lane's host streams carry substitutes (R153): it has no parity lock, and no decided group waits. -/
def Device.bwSubst (d : Device) (n : Lane) : Bool := d.native n && !d.flag (F.LRX_BW_STATUS_PARITY_LOCK n) && !d.realReady n

/-- A line lane has codewords of its own for its host lanes: it tracks, or after leaving RXON its last ones are still to be released (R636). -/
def Device.feeds (d : Device) (n : Lane) : Bool := (d.tracking n || (d.rx.get n).draining) && !d.bwSubst n

/-- The host TX carries substitutes (Table 6-5, third row). -/
def Device.hostSubst (d : Device) (k : HLane) : Bool :=
  !d.hostHiz k && !d.hostQuiet k &&
    (d.flag F.SYS_SAFE_SAFE || match d.feeder k with
      | some n => !d.feeds n
      | none => true)

/-- Closed-loop DPD training is in force on the lane (R179). -/
def Device.training (d : Device) (n : Lane) : Bool := d.dpdAuto n && d.native n && d.get (F.LTX_STATUS_STATE n) == 3

/-- Training in force is paused (R28, R179, R182). -/
def Device.trainingPaused (d : Device) (n : Lane) : Bool :=
  d.training n && (d.flag (F.LTX_DPD_CTRL_FREEZE n) || d.flag (F.LTX_STATUS_RAMP n) || !d.pilotSync n || (d.tx.get n).resumeDue)

/-- The driver is squelched by reset or thermal shutdown: until start-up is over every driver is (R196, R387, R462, Table 5-9). -/
def Device.squelchedByReset (d : Device) (n : Lane) : Bool :=
  d.flag (F.LTX_STATUS_SQ_SHUTDOWN n) || d.flag F.THM_STATUS_SHUTDOWN || d.sup.boot != .running

/-- STATE, ERASE, BERTH and STOLEN of an engine (Table 3-13). -/
def Device.engWord (d : Device) (e : Eng) : Nat :=
  let busy (st berth : Nat) (stolen : Bool) (num : Nat) : Nat := stolen.toNat * 2 ^ 10 + (num - 1) % 4 * 2 ^ 8 + berth * 16 + st
  match (d.pool.engines.get e).job with
  | .pass _ b stolen num => busy (if num ≤ 1 then 1 else 2) b stolen num
  | .waiting _ b stolen num _ => busy 3 b stolen num
  | .slice => 4
  | .idle => if d.quarantined e.val then 5 else 0

/-- Bits of a word from a list of truth values, lowest first. -/
def wordOf (l : List Bool) : Word := (l.zipIdx.foldl (fun (w : Word) p => if p.1 then w ||| BitVec.ofNat 32 (2 ^ p.2) else w) 0)

/-- Whether the running overrange window has already clipped more than the limit is known to the ADC alone until the window ends (R48). -/
def Device.dcOpen (d : Device) (n : Lane) : Bool :=
  !d.dcFrozen n && d.flag (F.LRX_DCB_AUTO_FREEZE n) && decide (2 ≤ d.get (F.LRX_STATUS_ACQ_STEP n))

/-- DCB_FROZEN: one of the conditions of R48 holds; the third, in the running window, is a free value. -/
def Device.dcFrozenNow (d : Device) (n : Lane) : Bool := d.dcFrozen n || (d.dcOpen n && Config.freeBool d.draws)

/-- The first two conditions of R266 hold. -/
def Device.pilotDcHeld (d : Device) (n : Lane) : Bool :=
  d.flag (F.PLT_RX_CFG_DCB_FREEZE n) || (d.flag (F.PLT_RX_CFG_DCB_RX_FRZ n) && (d.plt.get n).reception.isSome)

/-- Whether a run of 64 equal modulator bits, or the 256 samples after one, is on at an instant is known to the chain alone (R266). -/
def Device.pilotDcOpen (d : Device) (n : Lane) : Bool := !d.pilotDcHeld n && (d.rx.get n).pilotRx

/-- DCB_FROZEN of the pilot: one of the conditions of R266 holds; the third, while the receiver runs, is a free value. -/
def Device.pilotDcFrozen (d : Device) (n : Lane) : Bool := d.pilotDcHeld n || (d.pilotDcOpen n && Config.freeBool d.draws)

/-- A register of a line lane that shows what its block holds. -/
def Device.laneView (d : Device) (n : Lane) (base : Nat) (w : Word) : Word :=
  match base with
  | 0x10000 => putBits w 0 0 (d.reacquiring n).toNat
  | 0x10004 => putBits (putBits w 5 5 (d.dcFrozenNow n).toNat) 4 4 (d.taps24 n).toNat
  | 0x10484 => putBits w 0 0 (d.poolUse n).toNat
  | 0x10800 => putBits w 0 0 (d.rehunting n).toNat
  | 0x10804 => putBits (putBits (putBits w 5 5 (d.bwSubst n).toNat) 4 4 ((d.bw.get n).e2 && d.native n).toNat) 0 0 (d.native n).toNat
  | 0x11004 =>
    let run := d.flag (F.LRX_CAL_CTRL_EST_EN n) && decide (2 ≤ d.get (F.LRX_STATUS_ACQ_STEP n))
    let pend := !(d.rx.get n).trimSets.isEmpty || (d.rx.get n).tiaDue.isSome
    putBits (putBits w 2 2 pend.toNat) 0 0 run.toNat
  | 0x20004 => putBits (putBits w 19 19 (d.squelchedByReset n).toNat) 15 15 (d.trainingPaused n).toNat
  | 0x20010 => putBits w 7 7 (d.training n).toNat
  | 0x28004 =>
    putBits (putBits w 19 19 (d.enf == 2 && (d.plt.get n).txOn).toNat) 16 16 (d.pilotDcFrozen n).toNat
  | _ => w

/-- A register of a host lane that shows what its block holds. UNUSED is what Table 6-2 gives for the live RATE and HOST_MODE; Table 6-13
prints reset 0x1 for every lane, while at the reset RATE and HOST_MODE the lanes H0, H2 to H14 carry their line lane: there the computed
value 0 stands (DESIGN CHOICE, log 145). -/
def Device.hostView (d : Device) (k : HLane) (base : Nat) (w : Word) : Word :=
  match base with
  | 0x40000 => putBits w 2 2 ((d.host.get k).due.contains 2 || (d.host.get k).session == 2).toNat
  | 0x40004 =>
    putBits (putBits (putBits (putBits w 19 16 (d.lget (F.HLN_CTRL_ENTRY k))) 15 15 (!d.hostUsed k).toNat) 14 14 (d.hostHiz k).toNat) 13 13
      (d.hostSubst k).toNat
  | _ => w

/-- A register that stands once and shows what its block holds. -/
def Device.deviceView (d : Device) (base : Nat) (w : Word) : Word :=
  match base with
  -- SEC runs while the hash engine works, which is open at the instant of a read, as HASH_BUSY is
  | 0x01004 => if d.get F.PWR_STATUS_STATE = 3 then d.domRunWord else putBits d.domRunWord 15 15 (d.domRunWord.getLsbD 15 || Config.freeBool d.draws).toNat
  | 0x02004 => putBits w 15 14 d.opMin
  | 0x04000 => putBits w 0 0 (d.get F.SEC_STATUS_SVN_BUSY)
  -- whether the SHAKE engine works at the instant of a read is open: its jobs are single steps here
  | 0x04004 => putBits w 5 5 (Config.freeBool d.draws).toNat
  | 0x05040 => d.intSrc
  | 0x05044 => d.intSrcB
  | 0x07000 => putBits w 1 1 (d.get F.PMU_STATUS_SNAP_BUSY)
  | 0x09004 => putBits w 15 0 d.bdacForcedBits
  | 0x0B02C =>
    let held := d.fab.requests.any (fun q => q.kind == 4) || (match d.fab.proposal with | some p => p.req.kind == 4 | none => false)
    putBits w 16 16 held.toNat
  | 0x30004 =>
    let avail := (engs.filter d.available).length
    putBits (putBits (putBits w 30 24 d.quarantineCount) 22 16 avail) 12 11 d.enf
  -- without coefficients of a calibration record the predictions read 0xFFFF (R114)
  | 0x3001C => if d.pool.coefs.isNone then BitVec.allOnes 32 else w
  | 0x34000 => putBits w 16 16 (d.flag F.BWK_NEG_CTRL_START && d.negRuns && d.neg.proposer).toNat
  | 0x34004 => d.negWord
  | 0x34010 => wordOf ((List.range 16).map fun j => d.native (Fin.ofNat 8 (j / 2)) && !d.streamLocked j)
  | 0x38000 => putBits w 1 1 d.lko.force.toNat
  | 0x48004 => putBits (putBits w 1 1 d.egrChoice.isNone.toNat) 0 0 (!(hlanes.any d.rxLocked)).toNat
  | _ => w

/-- The word that a register shows, before any bank: its stored word, with the fields that repeat what its block holds. -/
def Device.shown (d : Device) (base : Nat) (ix : List Nat) (w : Word) : Word :=
  match ix with
  | [] => d.deviceView base w
  | i :: rest =>
    if base = 0x30030 then wordOf ((List.range 32).map fun b => d.available (Fin.ofNat 64 (32 * i + b)))
    else if base = 0x30200 then
      let q := d.berth i
      BitVec.ofNat 32 ((match q with | x :: _ => x.requeued | [] => false).toNat * 256 + q.length)
    else if base = 0x31000 then BitVec.ofNat 32 (d.engWord (Fin.ofNat 64 i))
    else if base = 0x09200 then d.bdacOut i
    else if base = 0x10100 then
      -- the tap at CURSOR is the main tap (Table 2-7)
      (match rest with
        | [k] => if k = d.lget (F.LRX_FFE_CFG_CURSOR i) then BitVec.ofNat 32 (d.lget (F.LRX_FFE_CFG_MAIN i)) else w
        | _ => w)
    else if 0x40000 ≤ base then d.hostView (Fin.ofNat 32 i) base w
    else if 0x10000 ≤ base && base < 0x30000 then d.laneView (Fin.ofNat 8 i) base w
    else w

/-! ### Banks -/

/-- The index of a bank. -/
def bankIx : Bank → Fin 4
  | .proc => 0
  | .spi => 1
  | .twoWire => 2
  | .jtag => 3

/-- A requester's bank. -/
def Device.bankAt (d : Device) (rq : Requester) : BankSt := d.banks.get (bankIx (bankOf rq))

/-- Change a requester's bank. -/
def Device.modBank (d : Device) (rq : Requester) (f : BankSt → BankSt) : Device :=
  (d.modBanks fun _ => d.banks.set (bankIx (bankOf rq)) (f (d.bankAt rq)))

/-- The block of a register has no supply: in DORMANT the register answers from the bonded store (R434). -/
def Device.asleep (d : Device) (r : RegRow) : Bool := d.get F.PWR_STATUS_STATE == 2 && !r.on

/-- A word of the saved set, or zero (R434). -/
def Device.savedWord (d : Device) (r : RegRow) (a : Nat) (live : Bool) : Word :=
  match d.sup.saved with
  | some s => if r.bank < 8 then Sparse.get regReset (if live then s.live else s.regs) a else 0
  | none => 0

/-- A word as its register shows it: a signed 20-bit quantity alone in its register is sign-extended (R8). -/
def RegRow.extend (r : RegRow) (w : Word) : Word := if r.sext then BitVec.ofInt 32 (toSigned 20 w.toNat) else w

/-- The word of a mapped register, before banks: stored, saved, or its shadow copy under SNAP_VIEW (R434, R563). -/
def Device.plainWord (d : Device) (r : RegRow) (ix : List Nat) (a : Nat) : Word :=
  if d.asleep r then r.extend (d.savedWord r a false)
  else if r.ctr && d.flag F.PMU_CTRL_SNAP_VIEW then
    (if d.flag F.PMU_STATUS_SNAP_VALID then Sparse.get regReset d.snap a else 0)
  else
    r.extend (d.shown r.base ix (d.reg a))

/-- The value of a pair whose low word lies at `a`. -/
def Device.pairValue (d : Device) (r : RegRow) (ix : List Nat) (a : Nat) : Nat :=
  let hi := match findRow (a + 4) with
    | some (q, jx) => d.plainWord q jx (a + 4)
    | none => 0
  (d.plainWord r ix a).toNat + 2 ^ 32 * hi.toNat

/-- The domain of an external clock that the requester's own access toggles: MIF for SPI and two-wire, TCK for JTAG (R401). -/
def ownClock (rq : Requester) : Word :=
  match bankOf rq with
  | .spi | .twoWire => 0x10000
  | .jtag => 0x20000
  | .proc => 0

/-- The word that a requester's read of a mapped register returns. -/
def Device.readsAs (d : Device) (rq : Requester) (r : RegRow) (ix : List Nat) (a : Nat) : Word :=
  let b := d.bankAt rq
  if a = F.SYS_LIVE_ADDR.addr then b.live
  else if a = F.CLK_DOM_RUN.addr then d.plainWord r ix a ||| ownClock rq
  else
    match b.copy, b.info with
    | some (lo, v), info =>
      if lo + 4 = a then BitVec.ofNat 32 (v / 2 ^ 32)
      else (match info with
        | some (k, w) => if a = (F.MON_INFO k).addr then w else d.plainWord r ix a
        | none => d.plainWord r ix a)
    | none, some (k, w) => if a = (F.MON_INFO k).addr then w else d.plainWord r ix a
    | none, none => d.plainWord r ix a

/-- The word of the live view of a mapped register: ST fields from their live copies (R611). -/
def Device.liveWord (d : Device) (rq : Requester) (r : RegRow) (ix : List Nat) (a : Nat) : Word :=
  let m := r.maskOf .st
  let live := if d.asleep r then d.savedWord r a true else d.liveReg a
  r.extend ((d.readsAs rq r ix a &&& ~~~ m) ||| (live &&& m))

/-- What a read changes besides what it returns: the bank's copy of a pair (R407), and the channel of MON_RES (R483). -/
def Device.afterRead (d : Device) (rq : Requester) (r : RegRow) (ix : List Nat) (a : Nat) : Device :=
  let open_ := match ix with
    | [n] => (r.base == 0x10004 && d.dcOpen (Fin.ofNat 8 n)) || (r.base == 0x28004 && d.pilotDcOpen (Fin.ofNat 8 n))
    | _ => a == F.SEC_STATUS.addr || a == F.CLK_DOM_RUN.addr
  let d0 := if open_ then (d.draw) else d
  if r.pair then d0.modBank rq fun b => { b with copy := some (a, d.pairValue r ix a) }
  else
    match r.base, ix with
    | 0x08200, [k] => d0.modBank rq fun b => { b with info := some (k, d.reg (F.MON_INFO k).addr) }
    | 0x08204, [k] => d0.modBank rq fun b => { b with info := match b.info with | some (j, w) => if j = k then none else some (j, w) | none => none }
    | _, _ => d0

end Sys2Proof.Machine
end

