-- ==== Sys2Proof/Machine/Bus.lean ====
section
/-! DEFINITION. Accesses to the register space and the shared window by every requester: what a write changes in each register, what refuses an access, and what is recorded (chapter 19, Table 0-4), with the meanings of the register commands. -/

namespace Sys2Proof.Machine

/-! ### Fields of a write (R600) -/

/-- Bits of a register that a plain store may change now. The bits left out are stored by the operation that their write is, or are locked
(R191, R286, R287, R386, Table 16-5). -/
def Device.storable (d : Device) (base : Nat) (ix : List Nat) : Word :=
  let rings := d.flag F.MFT_CTRL_ENABLE || d.flag F.MFT_STATUS_DRAINING
  let none_ : Word := 0
  match base, ix with
  | 0x0000C, _ => if d.flag F.SYS_WDT_CTRL_LOCK then none_ else BitVec.allOnes 32
  | 0x02000, _ => fieldMask 5 4
  | 0x03000, _ => none_
  | 0x05000, _ => if rings then none_ else fieldMask 31 1
  | 0x05008, _ | 0x0500C, _ | 0x05010, _ => if rings then none_ else BitVec.allOnes 32
  | 0x05014, _ => none_
  | 0x06004, _ => if d.flag F.MEM_CODE_LIMIT_LOCK then none_ else BitVec.allOnes 32
  | 0x07000, _ => fieldMask 31 1
  | 0x09000, _ => fieldMask 31 1
  | 0x09100, _ => none_
  | 0x10040, _ | 0x20000, _ => fieldMask 31 3
  | 0x10100, [n, k] => if k = d.lget (F.LRX_FFE_CFG_CURSOR n) then none_ else BitVec.allOnes 32
  | 0x1100C, _ | 0x11100, _ | 0x20300, _ | 0x30008, _ => none_
  | 0x20008, _ => fieldMask 31 4
  | 0x2000C, _ => ~~~ fieldMask 2 2
  | 0x30000, _ => ~~~ fieldMask 8 8
  | 0x40008, _ => none_
  | _, _ => BitVec.allOnes 32

/-- The stored word after a write of `w`, reserved bits (R12) kept as they are: RW and ST bits take it, W1C bits clear where it is 1, W1S bits set (Table 0-4). -/
def RegRow.merge (r : RegRow) (keep old w : Word) : Word :=
  let st := (r.maskOf .rw ||| r.maskOf .st) &&& keep
  let clr := r.maskOf .w1c &&& w
  let set := r.maskOf .w1s &&& w &&& keep
  (((old &&& ~~~ st) ||| (w &&& st)) &&& ~~~ clr) ||| set

/-- A change of HWS_EN or LOOP (Table 9-11): the link may come up or go down. -/
def Device.hwsCtrl (d : Device) (p : Port) (was : Bool) : Device :=
  let i : Link := Fin.ofNat 16 (p.val + 8)
  let up := d.linkUp i
  if up && !was then d.raise (F.HWS_INT_STATUS_LINK_UP p)
  else if was && !up then
    let e := d.raise (F.HWS_INT_STATUS_LINK_DOWN p)
    if e.get F.PWR_STATUS_STATE = 2 && (e.fab.links.get i).adj.isSome then e.defer i none else e.adjDown i
  else d

/-- A write to MFT_CTRL: ENABLE changes after the sizes are stored (R287, R288). -/
def Device.mftCtrl (d : Device) (w : Word) : Device := if w.getLsbD 0 then d.ringEnable else d.ringDisable

/-- A write to LKO_CTRL: of several actions in one word, ARM comes first and STOP last. -/
def Device.lkoCtrl (d : Device) (w : Word) : Device :=
  let d1 := if w.getLsbD 0 then d.arm else d
  let d2 := if w.getLsbD 1 then d1.lkoForce else d1
  if w.getLsbD 2 then d2.lkoStop else d2

/-- A write to PMU_CTRL (R560, R562, R563). -/
def Device.pmuCtrl (d : Device) (w : Word) : Device :=
  let d1 := if w.getLsbD 3 then d.clearCounters else d
  let d2 := if w.getLsbD 1 then d1.snapReq else d1
  if w.getLsbD 0 == d2.flag F.PMU_CTRL_FREEZE then d2 else d2.freezeReq (w.getLsbD 0)

/-- What a write does to a register that stands once, after its plain fields are stored. -/
def Device.deviceWrite (d : Device) (base : Nat) (w : Word) : Device :=
  match base with
  | 0x00010 => d.wdtKick w
  | 0x00040 => if w.getLsbD 31 then d.set F.SYS_BUS_ERR_INFO_COUNT 0 else d
  | 0x02000 => (d.opReqWrite (bitsOf w 11 10) (bitsOf w 13 12)).powerRequest (bitsOf w 1 0)
  | 0x03000 => d.enfMinWrite (bitsOf w 1 0)
  | 0x04000 => if w.getLsbD 0 then d.svnAdv else d
  | 0x05000 => d.mftCtrl w
  | 0x05014 => d.doorbell (bitsOf w 7 0)
  | 0x0502C => if w.getLsbD 31 then d.commitRegister (bitsOf w 15 0) else d
  | 0x06028 => if w.getLsbD 31 then d.errorInject else d
  | 0x0602C => if w.getLsbD 31 then d.unpoison else d
  | 0x07000 => d.pmuCtrl w
  | 0x08000 | 0x08008 => d.monKick
  | 0x0800C => d.monInj (bitsOf w 4 0)
  | 0x08010 => if w.getLsbD 31 then d.calGo else d
  | 0x09000 =>
    let d1 := if w.getLsbD 0 == d.flag F.BDAC_CTRL_CLR_LATCH then d else d.clrLatchWrite (w.getLsbD 0)
    if w.getLsbD 8 then d1.clrRel else d1
  | 0x0B02C => d.islandSet w
  | 0x30000 => d.loopEnWrite (w.getLsbD 8) (d.get F.POOL_SUPPLY_CFG_LOOP_INT)
  | 0x30008 => d.supplyCfgWrite w
  | 0x34000 =>
    let d1 := if w.getLsbD 17 then d.negExit (d.reg F.BWK_NEG_CTRL.addr |>.extractLsb' 8 8) else d
    if w.getLsbD 16 then d1.negStart (d1.reg F.BWK_NEG_CTRL.addr |>.extractLsb' 0 8) true else d1
  | 0x38000 => d.lkoCtrl w
  | 0x48000 => d.egrUpdate
  | _ => d

/-- What a write does to a register of a line lane. -/
def Device.laneWrite (d : Device) (n : Lane) (base : Nat) (rest : List Nat) (w : Word) : Device :=
  let queue (kind k : Nat) : Device := d.modRx n fun r => { r with coefWrites := r.coefWrites ++ [(kind, k, w.toNat)] }
  match base, rest with
  | 0x10000, _ => if w.getLsbD 0 then d.reacq n else d
  | 0x10008, _ => d.gainSetWrite n (bitsOf w 3 0)
  | 0x1000C, _ => d.dcNoteCond n
  | 0x10040, _ => d.rxWrite n (bitsOf w 2 0)
  | 0x10100, [k] => if k = d.lget (F.LRX_FFE_CFG_CURSOR n) then d else queue 0 k
  | 0x101A0, [g] => queue 1 g
  | 0x101B0, [a] => queue 2 a
  | 0x10800, _ => if w.getLsbD 0 then d.rehunt n else d
  | 0x1100C, _ => d.trimWrite n .tia w
  | 0x11100, [j] => d.trimWrite n (.adc (Fin.ofNat 64 j)) w
  | 0x20000, _ => (((d.pinDeliver n).aimInject n).txWrite n (bitsOf w 2 0))
  | 0x20008, _ => if bitsOf w 3 0 = d.get (F.LTX_CFG_POWER_IDX n) then d else d.powerIdxWrite n (bitsOf w 3 0)
  | 0x2000C, _ =>
    let d1 := if w.getLsbD 2 == d.flag (F.LTX_DPD_CTRL_BYPASS n) then d else d.bypassWrite n (w.getLsbD 2)
    d1.tryHeld n
  | 0x20200, [e] => if e = d.get (F.LTX_CFG_POWER_IDX n) then d.rampCheck n else d
  | 0x20300, [i] => d.dpdLutWrite n i (bitsOf w 9 0)
  | 0x28000, _ => if w.getLsbD 8 then d.resync n else d
  | _, _ => d

/-- What a write does to a register of a host lane. -/
def Device.hostLaneWrite (d : Device) (k : HLane) (base : Nat) (w : Word) : Device :=
  match base with
  | 0x40000 => if w.getLsbD 2 then d.adaptRun k else d
  | 0x40008 => if bitsOf w 1 0 = 3 then d else d.lpWrite k (bitsOf w 1 0)
  | _ => d

/-- A write of a word to a mapped register whose block has its supply (R600 to R603). -/
def Device.regWrite (d : Device) (r : RegRow) (ix : List Nat) (a : Nat) (w : Word) : Device :=
  let was : Bool := match r.base, ix with
    | 0x0C000, [p] => d.linkUp (Fin.ofNat 16 (p + 8))
    | _, _ => false
  let d1 := d.setReg a (r.merge (d.storable r.base ix) (d.reg a) w)
  match ix with
  | [] => d1.deviceWrite r.base w
  | i :: rest =>
    if r.base = 0x0C000 then d1.hwsCtrl (Fin.ofNat 8 i) was
    else if r.base = 0x09100 then d1.bdacCodeWrite i w
    else if 0x40000 ≤ r.base && r.base < 0x48000 then d1.hostLaneWrite (Fin.ofNat 32 i) r.base w
    else if 0x10000 ≤ r.base && r.base < 0x30000 then d1.laneWrite (Fin.ofNat 8 i) r.base rest w
    else d1

/-! ### Access checks (Table 19-3, R566, R595 to R599) -/

/-- The address lies in the shared window. -/
def inWindow (a : Nat) : Bool := decide (0x80000 ≤ a ∧ a < 0xC0000)

/-- The requester reaches the window. -/
def reachesWindow : Requester → Bool
  | .procM | .procM8 | .procM16 | .spi | .jtag => true
  | _ => false

/-- The U-mode access is permitted (R566): loads of general and fixed counters, and the store of 1 to SNAP. -/
def Device.userMay (d : Device) (write : Bool) (a : Nat) (w : Word) : Bool :=
  if write then a == F.PMU_CTRL.addr && w == 2 && d.flag F.PMU_USER_EN_SNAP
  else match findRow a with
    | some (r, _) => r.ctr && d.flag (if r.base / 0x1000 = 7 then F.PMU_USER_EN_GEN else F.PMU_USER_EN_FIXED)
    | none => false

/-- The CAUSE code that refuses an access (R10, R597, R599, Table 19-6); 0 when it is served. A register access narrower than 32 bits, or any
access that is not aligned to its width, is refused; the window serves the processor at every width. -/
def Device.busCause (d : Device) (rq : Requester) (write : Bool) (a : Nat) (w : Word) : Nat :=
  if userAccess rq && !d.userMay write a w then 3
  else if a % accessBytes rq ≠ 0 || (accessBytes rq != 4 && !inWindow a) then 2
  else if inWindow a then (if reachesWindow rq then 0 else if rq == .twoWire then 1 else 5)
  else if (findRow a).isNone then 1
  else 0

/-- A host access met a poisoned block (Table 16-3, R521). -/
def Device.hostErr (d : Device) (rq : Requester) : Device := if rq == .spi || rq == .twoWire then d.raise F.MEM_INT_STATUS_HOST_ERR else d

/-- A write to the window: answers 4 where a poisoned block takes nothing (R521). -/
def Device.windowWrite (d : Device) (rq : Requester) (a : Nat) (w : Word) : Device × Nat :=
  let (e, ok) := d.hostWrite (windowAddr (a - 0x80000)) ((wordBytes w).take (accessBytes rq))
  if ok then (e, 0) else ((e.hostErr rq).busError (reqCode rq) true 4 a, 4)

/-- A read of the window (Table 16-3): the bytes from the address on. What a JTAG read of a poisoned block returns is not stated. -/
def Device.windowLoad (d : Device) (rq : Requester) (a : Nat) : Device × Nat × Word :=
  match d.readBytes (windowAddr (a - 0x80000)) (accessBytes rq) with
  | (e, some bs) => (e, 0, bytesWord (bs.getD 0 0) (bs.getD 1 0) (bs.getD 2 0) (bs.getD 3 0))
  | (e, none) =>
    let e1 := (e.hostErr rq).busError (reqCode rq) false 4 a
    if rq == .jtag then
      let (f, w) := e1.fresh
      (f, 4, w)
    else (e1, 4, BitVec.allOnes 32)

/-- A write by a requester: the device after it, and the CAUSE code that refused it, or 0. A write to a block that DORMANT powers off
is held (R434). -/
def Device.busWrite (d : Device) (rq : Requester) (a : Nat) (w : Word) : Device × Nat :=
  let c := d.busCause rq true a w
  if c ≠ 0 then (d.busError (reqCode rq) true c a, c)
  else if inWindow a then d.windowWrite rq a w
  else if a = F.SYS_LIVE_ADDR.addr then (d.modBank rq fun b => { b with live := w &&& fieldMask 19 2 }, 0)
  else match findRow a with
    | some (r, ix) => (if d.asleep r then d.offBlockWrite a w else d.regWrite r ix a w, 0)
    | none => (d, 1)

/-- A read of SYS_LIVE_DATA (R611). -/
def Device.liveData (d : Device) (rq : Requester) : Device × Word :=
  let a := (d.bankAt rq).live.toNat
  if a = F.SYS_LIVE_DATA.addr then (d, 0)
  else match findRow a with
    | some (r, ix) => (d, d.liveWord rq r ix a)
    | none => (d.busError (reqCode rq) false 1 a, 0)

/-- A read by a requester of a whole register as it stands at this command (R605): the device after it, the CAUSE code that refused it, or 0, and the word. -/
def Device.busRead (d : Device) (rq : Requester) (a : Nat) : Device × Nat × Word :=
  let c := d.busCause rq false a 0
  if c ≠ 0 then (d.busError (reqCode rq) false c a, c, 0)
  else if inWindow a then d.windowLoad rq a
  else if a = F.SYS_LIVE_DATA.addr then
    let (e, w) := d.liveData rq
    (e, 0, w)
  else match findRow a with
    | some (r, ix) =>
      let w := if r.pair then BitVec.ofNat 32 (d.pairValue r ix a) else d.readsAs rq r ix a
      (d.afterRead rq r ix a, 0, w)
    | none => (d, 1, 0)

/-- A read whose word the requester's bank shows afterwards. -/
def Device.readOut (d : Device) (rq : Requester) (a : Nat) : Device :=
  let (e, _, w) := d.busRead rq a
  e.modBank rq fun b => { b with out := [w] }

/-! ### Meanings -/

/-- REGISTER_WRITE (R600). -/
def execRegisterWrite (rq : Requester) (a : BitVec 20) (w : Word) (s : State) : Host.Outcome State Fault Refusal :=
  .next { s with dev := (s.dev.busWrite rq a.toNat w).1 }
/-- COUNTER_LOW_READ (R407). -/
def execCounterLowRead (rq : Requester) (a : BitVec 20) (s : State) : Host.Outcome State Fault Refusal :=
  .next { s with dev := s.dev.readOut rq a.toNat }
/-- SYS_LIVE_ADDR_WRITE (R610). -/
def execSysLiveAddrWrite (rq : Requester) (w : Word) (s : State) : Host.Outcome State Fault Refusal :=
  .next { s with dev := (s.dev.busWrite rq F.SYS_LIVE_ADDR.addr w).1 }
/-- LIVE_DATA_READ (R611). -/
def execLiveDataRead (rq : Requester) (s : State) : Host.Outcome State Fault Refusal :=
  .next { s with dev := s.dev.readOut rq F.SYS_LIVE_DATA.addr }
/-- MON_RES_READ (R483). -/
def execMonResRead (rq : Requester) (k : Fin 24) (s : State) : Host.Outcome State Fault Refusal :=
  .next { s with dev := s.dev.readOut rq (F.MON_RES k).addr }

end Sys2Proof.Machine
end

