-- ==== Sys2Proof/Machine/Opcodes.lean ====
section
/-! DEFINITION. Manifests: checks of a descriptor, starting in ring order and from the fabric queue, remote manifests as they leave, and what each opcode does (R291 to R310, Table 8-4), with the meanings of their commands. -/

namespace Sys2Proof.Machine

/-! ### Descriptors -/

/-- CRC-16 of R246 over bytes, least significant bit first. -/
def crc16 (bs : List Byte) : Nat :=
  (bs.foldl (fun c b => (List.range 8).foldl (fun x i => crc16Bit x (b.getLsbD i)) c) 0xFFFF) ^^^ 0xFFFF

/-- The opcodes of Table 8-4. -/
def opcodes : List Nat :=
  [0x01, 0x02, 0x03, 0x08, 0x09, 0x0A, 0x10, 0x11, 0x12, 0x13, 0x14, 0x20, 0x21, 0x22, 0x23, 0x24, 0x30, 0x31, 0x32, 0x33, 0x34, 0x35]

/-- Opcodes whose work takes the processor long enough for later manifests to start beside it. -/
def longOps : List Nat := [0x21, 0x24, 0x30, 0x31, 0x32, 0x33, 0x34]

/-- An address that REG_READ and REG_WRITE reach (R299, R598). -/
def regReachable (a : Nat) : Bool := (findRow a).isSome && !inWindow a

/-- The number of operand words that an opcode uses; those above are 0. -/
def opCount (op : Nat) : Nat :=
  match op with
  | 0x01 | 0x0A | 0x10 | 0x11 | 0x13 | 0x14 | 0x20 | 0x22 | 0x23 | 0x35 => 1
  | 0x08 | 0x32 | 0x33 | 0x34 => 2
  | 0x09 | 0x21 | 0x30 => 3
  | _ => 0

end Sys2Proof.Machine

namespace Sys2Proof

open Sys2Proof.Machine

/-- The CRC field agrees with bytes 0 to 27 (R291). -/
def Desc.crcOk (c : Desc) : Bool := crc16 (c.bytes.take 28) == c.crc

/-- OPERAND0 to OPERAND3 as numbers. -/
def Desc.op0 (c : Desc) : Nat := c.w3.toNat

def Desc.op1 (c : Desc) : Nat := c.w4.toNat

def Desc.op2 (c : Desc) : Nat := c.w5.toNat

def Desc.op3 (c : Desc) : Nat := c.w6.toNat

/-- KIND and INDEX that the opcode accepts. -/
def Desc.targetOk (c : Desc) : Bool :=
  match c.opcode with
  | 0x10 => c.kind == 1 && (decide (c.index < 8) || c.index == 0xFF)
  | 0x11 => c.kind == 2 && (decide (c.index < 32) || c.index == 0xFF)
  | 0x12 => c.kind == 2 && decide (c.index < 32)
  | _ => c.kind == 0 && c.index == 0

/-- The buffer that the operands name: window offset and length. -/
def Desc.buffer (c : Desc) : Option (Nat × Nat) :=
  match c.opcode with
  | 0x21 | 0x30 => some (c.op1, c.op2)
  | 0x32 | 0x33 | 0x34 => some (c.op0, c.op1)
  | _ => none

/-- The buffer brings input. -/
def Desc.hasInput (c : Desc) : Bool := [0x30, 0x32, 0x33, 0x34].contains c.opcode

/-- The buffer receives output. -/
def Desc.hasOutput (c : Desc) : Bool := [0x21, 0x32].contains c.opcode

/-- A buffer lies wholly inside the window. -/
def Desc.bufferOk (c : Desc) : Bool :=
  match c.buffer with
  | some (off, len) => decide (off + len ≤ windowSize)
  | none => true

/-- The operands lie in the ranges of Table 8-4. -/
def Desc.operandsOk (c : Desc) : Bool :=
  ([c.w3, c.w4, c.w5, c.w6].drop (opCount c.opcode)).all (· == 0) && c.bufferOk &&
    match c.opcode with
    | 0x01 => c.op0 == 0xA5C3
    | 0x08 => regReachable c.op0 && (c.w4 == BitVec.allOnes 32 || regReachable c.op1)
    | 0x09 => regReachable c.op0
    | 0x0A => decide (c.op0 < 2 ^ 16)
    | 0x10 =>
      decide (c.op0 < 2 ^ 9) && (!c.w3.getLsbD 3 || decide (bitsOf c.w3 2 0 ≤ 4)) && (!c.w3.getLsbD 7 || decide (bitsOf c.w3 6 4 ≤ 4))
    | 0x11 => decide (c.op0 < 3)
    | 0x13 => decide (c.op0 < 2 ^ 9)
    | 0x14 => decide (c.op0 < 4)
    | 0x20 => decide (c.op0 < 2)
    | 0x21 => decide (c.op0 + c.op2 ≤ 0x40000)
    | 0x22 => decide (c.op0 < 24)
    | 0x23 => bitsOf c.w3 31 9 == 0 && bitsOf c.w3 7 5 == 0 && decide (bitsOf c.w3 4 0 < 24)
    | 0x30 => c.op2 % 4 == 0 && decide (4 ≤ c.op2 ∧ c.op2 ≤ 65536 ∧ c.op0 + c.op2 ≤ 0xFF000)
    | 0x35 => decide (c.op0 < 8)
    | _ => true

/-- The status with which a bad descriptor completes (R291, R292); `seq` is the expected sequence byte, where one is expected. -/
def Desc.check (c : Desc) (seq : Option Nat) : Option Nat :=
  if !c.crcOk then some stBadCrc
  else if (match seq with | some n => c.seqByte != n | none => false) then some stBadSeq
  else if !opcodes.contains c.opcode then some stBadOpcode
  else if !c.rsvdOk then some stBadOperand
  else if !c.targetOk then some stBadTarget
  else if !c.operandsOk then some stBadOperand
  else none

/-- Class of an opcode: 0 O, 1 C, 2 A (Table 8-4); some fabric-origin manifests count as class A (R357). -/
def Desc.class (c : Desc) (fabric : Bool) : Nat :=
  let authority := [0x0B, 0x0C, 0x04].contains (c.op0 / 0x1000)
  if fabric && ((c.opcode == 0x09 && authority) || (c.opcode == 0x0A && c.op0 == 0x1000)) then 2
  else if [0x31, 0x33, 0x35].contains c.opcode then 2
  else if [0x02, 0x03, 0x08, 0x20, 0x21, 0x22, 0x32].contains c.opcode then 0 else 1

/-- The window offset of a ring manifest's buffer. -/
def Desc.bufOffset (c : Desc) : Nat :=
  match c.buffer with
  | some (off, _) => off
  | none => 0

/-- The units that INDEX names. -/
def Desc.laneUnits (c : Desc) : List Lane := if c.index = 0xFF then lanes else [Fin.ofNat 8 c.index]

/-- The host lanes that INDEX names. -/
def Desc.hostUnits (c : Desc) : List HLane := if c.index = 0xFF then hlanes else [Fin.ofNat 32 c.index]

end Sys2Proof

namespace Sys2Proof.Machine

/-! ### Who may run what -/

/-- A manifest came from the fabric. -/
def Manifest.ofFabric (m : Manifest) : Bool :=
  match m.origin with
  | .fabric _ _ _ _ => true
  | _ => false

/-- Boot recovery (R375). -/
def Device.inRecovery (d : Device) : Bool := d.sup.boot == .recovery

/-- The split-fabric refusal applies (R304, R366, R588). -/
def Device.readonlySide (d : Device) : Bool :=
  d.flag F.FAB_CFG_FAB_EN && d.keyed && !d.inRecovery && !d.flag F.FAB_STATUS_AUTH

/-- The status with which the state of the device refuses a good descriptor (R304, R310, R375, R391, R510). -/
def Device.refusal (d : Device) (m : Manifest) : Option Nat :=
  let c := m.desc
  let cls := c.class m.ofFabric
  if d.inRecovery && !([0x01, 0x02, 0x03, 0x30, 0x31].contains c.opcode) then some stNotReady
  else if cls = 2 && d.readonlySide then some stReadonly
  else if cls = 1 && d.flag F.SYS_SAFE_SAFE && !([0x01, 0x09, 0x24, 0x30].contains c.opcode) then some stBusy
  else if c.opcode = 0x24 && d.mft.begun.any (fun x => x.desc.opcode == 0x24) then some stBusy
  else none

/-! ### Remote manifests leave (R305 to R307, R359) -/

/-- Cut bytes into the parts that DATA messages carry, with their offsets. -/
def dataParts : Nat → Nat → List Byte → List (Nat × List Byte)
  | 0, _, _ => []
  | _, _, [] => []
  | fuel + 1, off, bs => (off, bs.take 1016) :: dataParts fuel (off + 1016) (bs.drop 1016)

/-- Send buffer bytes from an offset up. -/
def Device.sendData (d : Device) (dst rid : Nat) (output : Bool) (from_ : Nat) (bs : List Byte) : Device :=
  (dataParts (bs.length + 1) from_ (bs.drop from_)).foldl (fun (s : Device) p => (s.sendTo dst rid (.data output p.1 p.2)).1) d

/-- The input buffer of a manifest of this device's; none when its read meets poison. -/
def Device.inputOf (d : Device) (m : Manifest) : Device × Option (List Byte) :=
  match m.desc.buffer with
  | some (_, len) => if m.desc.hasInput then d.windowRead m.buf len else (d, some [])
  | none => (d, some [])

/-- Send the MANIFEST message of a remote manifest. -/
def Device.sendManifest (d : Device) (m : Manifest) (rid : Nat) (input : List Byte) : Device × Nat × Bool :=
  d.sendTo m.desc.target rid (.manifest m.desc input.length (crc32 input))

/-- The manifest goes to another device (R293). -/
def Device.isRemote (d : Device) (m : Manifest) : Bool :=
  m.ofRing && !m.desc.isLocal && d.ownAddr != some m.desc.target

/-- A remote manifest starts: its input goes ahead of it, and it stays pending. -/
def Device.sendRemote (d : Device) (m : Manifest) : Device :=
  if d.ownAddr.isNone || (d.hop m.desc.target).isNone then d.finish m stUnreachable
  else
    match d.inputOf m with
    | (e, none) => e.finish m stBusError
    | (e, some input) =>
      let rid := e.fab.nextRid
      let e1 := (e.modFab fun b => { b with nextRid := rid % 65535 + 1 }).sendData m.desc.target rid false 0 input
      let (e2, seq, held) := e1.sendManifest m rid input
      (e2.modFab fun b => { b with remotes := b.remotes ++ [{ rid := rid, man := m, held := held, seq := seq, entry := none, out := [] }] }).await
        m (.remote rid)

/-! ### Starting (R294 to R296, R303) -/

/-- Start a manifest whose descriptor is good. -/
def Device.beginManifest (d : Device) (m : Manifest) : Device :=
  if d.isRemote m && !d.inRecovery then d.sendRemote m
  else
    match d.refusal m with
    | some st => d.finish m st
    | none => d.modMft fun x => { x with begun := x.begun ++ [m] }

/-- A descriptor that its read could not deliver (R294): TAG reads 0; the other fields that a completion copies are open. -/
def lostDesc (a b : Word) : Desc := { w0 := a &&& 0x1FF, w1 := 0, w2 := 0, w3 := 0, w4 := 0, w5 := 0, w6 := 0, w7 := b &&& 0x00FF0000 }

/-- The processor, or the boot ROM, may start a manifest: it runs, nothing occupies it, and fewer than 16 are pending. -/
def Device.mayStart (d : Device) : Bool :=
  d.sup.procRun && (d.inRecovery || d.sup.boot == .running) && d.mft.begun.all (fun m => longOps.contains m.desc.opcode)
    && decide (d.mft.begun.length + d.mft.waiting.length < 16)

/-- The ring has a covered slot and a completion entry to reserve. -/
def Device.ringReady (d : Device) : Bool :=
  d.flag F.MFT_CTRL_ENABLE && d.get F.MFT_CMD_CI != d.get F.MFT_DB
    && decide (unconsumed d.cplSize (d.get F.MFT_CPL_PI_IDX) (d.get F.MFT_CPL_CI) + d.ringStarted + 1 < d.cplSize)

/-- Take the next slot of the ring; a FENCE holds it back until every earlier manifest has completed. -/
def Device.startRing (d : Device) : Option Device :=
  let slot := d.get F.MFT_CMD_CI
  let seq := d.mft.seq
  let advance (e : Device) : Device :=
    (e.set F.MFT_CMD_CI ((slot + 1) % e.cmdSize)).modMft fun x => { x with seq := (seq + 1) % 256, lastFabric := false }
  match d.windowRead (d.get F.MFT_CMD_BASE + 32 * slot) 32 with
  | (e, none) =>
    let (e1, a) := e.fresh
    let (e2, b) := e1.fresh
    some ((advance e2).finish { desc := lostDesc a b, origin := .ring slot, buf := 0 } stBusError)
  | (e, some bs) =>
    let c := descOf bs
    let m : Manifest := { desc := c, origin := .ring slot, buf := c.bufOffset }
    if c.crcOk && c.fence && d.ringStarted != 0 then none
    else
      match c.check (some seq) with
      | some st => some ((advance e).finish m st)
      | none => some ((advance e).beginManifest m)

/-- Take the oldest manifest of the fabric queue. -/
def Device.startQueued (d : Device) : Option Device :=
  match d.mft.fabricQueue with
  | [] => none
  | m :: rest => some ((d.modMft fun x => { x with fabricQueue := rest, lastFabric := true }).beginManifest m)

/-- Start the next manifest: ring and fabric queue in turn. -/
def Device.manifestStart (d : Device) : Device :=
  if !d.mayStart then d
  else
    let ring := if d.ringReady then d.startRing else none
    let queue := d.startQueued
    match ring, queue with
    | some r, some q => if d.mft.lastFabric then r else q
    | some r, none => r
    | none, some q => q
    | none, none => d

/-! ### Running an opcode -/

/-- Run the started manifest of an opcode, the oldest first. -/
def Device.runOp (d : Device) (op : Nat) (f : Device → Manifest → Device) : Device :=
  match d.mft.begun.find? fun m => m.desc.opcode == op with
  | some m => f (d.modMft fun x => { x with begun := x.begun.eraseP fun y => y.desc.opcode == op }) m
  | none => d

/-- Who a manifest accesses registers as. -/
def Manifest.requester (m : Manifest) : Requester := if m.ofFabric then .manifestFabric else .manifestLocal

/-- RESET (R309): the full reset follows its completion. -/
def Device.runReset (d : Device) (m : Manifest) : Device := d.finish m stOk

/-- STATUS (Table 8-5). -/
def Device.runStatus (d : Device) (m : Manifest) : Device :=
  let (e, hot) := d.wholeDegrees (d.sget F.THM_STATUS_HOTTEST)
  let live := (lanes.foldl (fun (w : BitVec 8) (n : Lane) => maskSet w n (e.flag (F.LTX_STATUS_LIVE n))) 0).toNat
  let low := (e.flag F.SYS_SAFE_SAFE).toNat * 128 + e.sup.procRun.toNat * 64 + e.enf * 16 + (e.flag F.THM_STATUS_WARNING).toNat * 8
    + (e.flag F.THM_STATUS_THROTTLE).toNat * 4 + e.get F.PWR_STATUS_STATE
  let r0 := ofSigned 8 hot * 2 ^ 24 + live * 2 ^ 16 + e.liveMask.toNat * 256 + low
  let r1 := e.get F.SYS_RST_CAUSE_CAUSE * 2 ^ 24 + e.quarantineCount % 256 * 2 ^ 16 + min 0xFFFF (e.now / 3600000000000)
  e.finish m stOk (BitVec.ofNat 32 r0) (BitVec.ofNat 32 r1)

/-- IDENTIFY (Table 8-5). -/
def Device.runIdentify (d : Device) (m : Manifest) : Device :=
  let r0 := 0x3208 * 2 ^ 16 + 0xB0 * 256 + d.get F.SYS_ID_GRADE
  let r1 := (d.flag F.FAB_STATUS_ADDR_VALID).toNat * 2 ^ 31 + d.keyed.toNat * 2 ^ 30 + (d.flag F.FAB_STATUS_QM).toNat * 2 ^ 29
    + (d.flag F.FAB_STATUS_HM).toNat * 2 ^ 28 + (d.ownAddr.getD 0)
  d.finish m stOk (BitVec.ofNat 32 r0) (BitVec.ofNat 32 r1)

/-- REG_READ (R598). -/
def Device.runRegRead (d : Device) (m : Manifest) : Device :=
  let (e, _, a) := d.busRead m.requester m.desc.op0
  if m.desc.w4 == BitVec.allOnes 32 then e.finish m stOk a
  else
    let (f, _, b) := e.busRead m.requester m.desc.op1
    f.finish m stOk a b

/-- The word that a REG_WRITE writes (R299): the current value under the mask, its W1C, W1S and RWSC bits taken as 0. -/
def Device.maskedWord (d : Device) (rq : Requester) (a : Nat) (v mask : Word) : Word :=
  match findRow a with
  | some (r, ix) =>
    let cur := d.readsAs rq r ix a &&& ~~~ (r.maskOf .w1c ||| r.maskOf .w1s ||| r.maskOf .rwsc)
    (cur &&& ~~~ mask) ||| (v &&& mask)
  | none => v

/-- REG_WRITE (R299). -/
def Device.runRegWrite (d : Device) (m : Manifest) : Device :=
  let a := m.desc.op0
  let (e, _) := d.busWrite m.requester a (d.maskedWord m.requester a m.desc.w4 m.desc.w5)
  let (f, _, w) := e.busRead m.requester a
  f.finish m stOk w

/-- COMMIT (R311). -/
def Device.runCommit (d : Device) (m : Manifest) : Device := d.commitManifest m m.desc.op0

/-- A line lane state that needs ACTIVE (R424). -/
def needsActive (v : Option Nat) : Bool := v == some 1 || v == some 2 || v == some 3

/-- LANE_STATE (R300, R424). -/
def Device.runLaneState (d : Device) (m : Manifest) : Device :=
  let c := m.desc
  let tx : Option Nat := if c.w3.getLsbD 3 then some (bitsOf c.w3 2 0) else none
  let rx : Option Nat := if c.w3.getLsbD 7 then some (bitsOf c.w3 6 4) else none
  if (needsActive tx || needsActive rx) && d.laneHeld true then d.finish m stBusy
  else
    let ask (s : Device) (n : Lane) : Device :=
      let s1 := match tx with | some v => s.txAsk n v | none => s
      match rx with | some v => s1.rxAsk n v | none => s1
    if tx.isNone && rx.isNone then d.finish m stOk (d.laneResult (Fin.ofNat 8 c.index))
    else
      let d1 := d.await m (.lane (c.laneUnits.map fun n => { lane := n, tx := tx, rx := rx, waitLock := c.w3.getLsbD 8 }))
      let d2 := c.laneUnits.foldl ask d1
      c.laneUnits.foldl (fun (s : Device) (n : Lane) => (s.txAdvance n).rxAdvance n) d2

/-- HOST_LP (R228, R229, R424): every named lane takes its own request; one lane that refuses ends the manifest with BUSY, and the
other lanes' requests stand (DEDUCED: R229 refuses the request of the one lane). -/
def Device.runHostLp (d : Device) (m : Manifest) : Device :=
  let c := m.desc
  let v := c.op0
  let refused := c.hostUnits.any fun (k : HLane) => d.lpRefused k v
  let ask (s : Device) : Device := c.hostUnits.foldl (fun (s : Device) (k : HLane) => s.lpAsk k v) s
  if v ≠ 2 && d.laneHeld true then d.finish m stBusy
  else if refused then (ask d).finish m stBusy
  else ask (d.await m (.hostLp c.hostUnits v))

/-- HOST_ADAPT (R222). -/
def Device.runHostAdapt (d : Device) (m : Manifest) : Device :=
  let k : HLane := Fin.ofNat 32 m.desc.index
  if d.testRefused k then (d.adaptRun k).finish m stBusy else (d.await m (.hostAdapt k)).adaptRun k

/-- NATIVE (R129, R135). -/
def Device.runNative (d : Device) (m : Manifest) : Device :=
  let mask := m.desc.w3.extractLsb' 0 8
  if m.desc.w3.getLsbD 8 then ((d.await m (.native mask true)).negExit mask).settleExit
  else (d.await m (.native mask false)).negStart mask false

/-- POWER_STATE (R428). -/
def Device.runPowerState (d : Device) (m : Manifest) : Device := (d.await m (.power m.desc.op0)).powerRequest m.desc.op0

/-- SNAPSHOT (R564). -/
def Device.runSnapshot (d : Device) (m : Manifest) : Device :=
  let d1 := if m.desc.op0 = 1 then d.freezeReq true else d
  (d1.snapReq).await m .snapshot

/-- Copy capture bytes into the window, block by block, up to one that is poisoned: the device, the bytes copied, and whether all were. -/
def Device.copyCapture (d : Device) : Nat → Nat → Nat → Nat → Nat → Device × Nat × Bool
  | 0, _, _, _, done => (d, done, true)
  | fuel + 1, off, buf, left, done =>
    if left = 0 then (d, done, true)
    else
      let k := min left (64 - off % 64)
      match d.readBytes (lookoutAddr off) k with
      | (e, some bs) => (e.windowPut buf bs).copyCapture fuel (off + k) (buf + k) (left - k) (done + k)
      | (e, none) => (e, done, false)

/-- LOOKOUT_READ (R554, Table 16-3). -/
def Device.runLookoutRead (d : Device) (m : Manifest) : Device :=
  let c := m.desc
  let st := d.get F.LKO_STATUS_STATE
  if st = 1 ∨ st = 2 then d.finish m stBusy
  else
    let (e, n, whole) := d.copyCapture (c.op2 / 64 + 2) c.op0 m.buf c.op2 0
    e.finish m (if whole then stOk else stBusError) (BitVec.ofNat 32 n)

/-- MON_CONVERT (R301). -/
def Device.runMonConvert (d : Device) (m : Manifest) : Device :=
  let (e, taken) := d.inject4 m.desc.op0 true
  if taken then e.await m (.monConvert m.desc.op0) else e.finish m stBusy

/-- MON_CAL (R474). -/
def Device.runMonCal (d : Device) (m : Manifest) : Device :=
  let ch := bitsOf m.desc.w3 4 0
  let full := m.desc.w3.getLsbD 8
  if d.mon.cal.isSome then d.finish m stBusy else (d.await m (.monCal ch full)).calStart ch full true

/-- REALM_SET (R347). -/
def Device.runRealmSet (d : Device) (m : Manifest) : Device :=
  if d.flag F.FAB_STATUS_HM then
    let q : HeldReq := { who := BitVec.ofNat 64 m.desc.op0, persisted := none, kind := 3, cluster := 0, back := 0 }
    (d.await m (.realm m.desc.op0)).holdReq q
  else d.finish m stFailed 1

/-! ### Firmware (R578, R579) -/

/-- The slot that FW_WRITE and FW_ACTIVATE act on. -/
def Device.targetSlot (d : Device) : Fin 2 :=
  if d.inRecovery then Fin.ofNat 2 (d.sec.tried.getD 0) else 1 - Fin.ofNat 2 d.sec.slot

/-- Replace a firmware slot. -/
def Device.setSlot (d : Device) (i : Fin 2) (s : FwSlot) : Device :=
  (d.modFlash fun (q0 : Flash) => { q0 with fw := d.flash.fw.set i s })

/-- The inactive slot may not be written at an offset: only offset 0 erases a slot, and later writes go up (R578). -/
def Device.writeOutOfOrder (d : Device) (off : Nat) : Bool :=
  let s := d.flash.fw.get d.targetSlot
  off != 0 && (s.commit || decide (off < s.written))

/-- Data goes into the inactive slot; `ok`: the flash took it. -/
def Device.slotWrite (d : Device) (m : Manifest) (off len : Nat) (ok : Bool) : Device :=
  let i := d.targetSlot
  let base := if off = 0 then FwSlot.erased else d.flash.fw.get i
  let e := d.setSlot i { base with written := off + len }
  if ok then e.finish m stOk (BitVec.ofNat 32 len) else e.finish m stFailed 0x07

/-- FW_WRITE. -/
def Device.runFwWrite (d : Device) (m : Manifest) (ok : Bool) : Device :=
  let c := m.desc
  if d.sec.activated then d.finish m stBusy
  else if d.writeOutOfOrder c.op0 then d.finish m stBadOperand
  else
    match d.windowRead m.buf c.op2 with
    | (e, none) => e.finish m stBusError
    | (e, some _) => e.slotWrite m c.op0 c.op2 ok

/-- FW_ACTIVATE; `found` is what the checks find in a slot that is not committed yet. -/
def Device.runFwActivate (d : Device) (m : Manifest) (found : FwSlot) : Device :=
  let i := d.targetSlot
  let j : Fin 2 := 1 - i
  let s := d.flash.fw.get i
  let cand := if s.commit then s else { found with commit := true, written := s.written }
  let reason := (d.setSlot i cand).slotReason i
  if d.zeroised then d.finish m stFailed 0x14
  else if reason ≠ 0 then d.finish m stFailed (BitVec.ofNat 32 reason)
  else
    let other := d.flash.fw.get j
    let done (e : Device) : Device := (e.modSec fun x => { x with activated := true }).finish m stOk (BitVec.ofNat 32 i.val)
    if s.commit && (!other.commit || newerSeq s.seq other.seq) then done d
    else
      let (e, free) := d.fresh
      -- with no valid COMMIT there is no newer SEQ to follow
      let seq :=
        if s.commit || other.commit then ((if other.commit && !(s.commit && newerSeq s.seq other.seq) then other.seq else s.seq) + 1) % 2 ^ 32
        else free.toNat
      done (e.setSlot i { cand with seq := seq })

/-! ### Attestation and owner envelopes (R581 to R590) -/

/-- Bytes of a 64-bit value, lowest first. -/
def idBytes (v : BitVec 64) : List Byte := wordBytes (v.extractLsb' 0 32) ++ wordBytes (v.extractLsb' 32 32)

/-- The report of Table 18-7; `reply` brings the image digest. -/
def Device.report (d : Device) (host reply : List Byte) : List Byte :=
  let flag (k : Nat) (b : Bool) : Nat := b.toNat * 2 ^ k
  let flags := flag 0 d.keyed + flag 1 d.zeroised + flag 2 (d.get F.SEC_STATUS_PERMS != 0) + flag 3 (d.flag F.SYS_SAFE_SAFE)
    + flag 4 (d.flag F.SYS_INT_STATUS_SLOT_FALLBACK) + flag 5 d.flash.cosign + flag 6 d.flash.vkRevoked
  wordBytes 0x0A7E3208 ++ wordBytes 0x32080001
    ++ [0xB0, byteOf (d.get F.SYS_ID_GRADE), byteOf d.sec.slot, byteOf d.sec.svnRun, byteOf d.flash.svn,
        byteOf (if d.flash.owners = 0 then 0xFF else d.flash.owners - 1), byteOf flags, 0]
    ++ idBytes Config.identity ++ wordBytes (d.reg F.SEC_FW_VERSION.addr) ++ wordBytes (d.reg F.SEC_KEY_EPOCH.addr)
    ++ wordBytes (d.reg F.FAB_ADDR.addr) ++ wordBytes (d.reg F.CAL_SEQ.addr) ++ host ++ (List.range 64).map (fun i => reply.getD i 0)
    ++ (d.flash.ownerKeys.getLast?.getD (List.replicate 32 0)) ++ List.replicate 88 0

/-- ATTEST (R582). `reply` brings the image digest and the signature of a report, or the certificate; nothing where the certificate is absent,
invalid or for another identity. -/
def Device.runAttest (d : Device) (m : Manifest) (reply : List Byte) : Device :=
  let len := m.desc.op1
  if len < 29920 then d.finish m stBadOperand
  else
    match d.windowRead m.buf 36 with
    | (e, none) => e.finish m stBusError
    | (e, some bs) =>
      let req := bytesWord (bs.getD 0 0) (bs.getD 1 0) (bs.getD 2 0) (bs.getD 3 0)
      if req.toNat > 1 || (req == 0 && decide (len < 50112)) then e.finish m stBadOperand
      else if e.zeroised then e.finish m stFailed 0x14
      else if reply.isEmpty then e.finish m stFailed 0x16
      else if req == 1 then
        (e.windowPut m.buf ((List.range 29920).map fun i => reply.getD i 0)).finish m stOk (BitVec.ofNat 32 29920)
      else
        let sig := (List.range 49856).map fun i => reply.getD (64 + i) 0
        (e.windowPut m.buf (e.report ((bs.drop 4).take 32) reply ++ sig)).finish m stOk (BitVec.ofNat 32 50112)

/-- BODY_LEN of an envelope's kind (Table 18-8). -/
def bodyLen (kind : Nat) : Nat :=
  match kind with
  | 1 => 48
  | 2 => 68
  | 3 => 36
  | _ => 0

/-- The form of an envelope (reason 0x10): MAGIC, KIND, BODY_LEN, buffer length, TARGET. -/
def envForm (bs : List Byte) (len : Nat) (kinds : List Nat) : Bool :=
  let kind := (bs.getD 4 0).toNat
  let body := (wordAt bs 4).toNat / 2 ^ 16
  wordAt bs 0 == 0x0E0A3208 && kinds.contains kind && body == bodyLen kind && len == 16 + body + 29792
    && wordAt bs 12 ++ wordAt bs 8 == Config.identity

/-- The reason that an envelope of KEY_INSTALL fails with, or 0 (R583 to R587). -/
def Device.keyReason (d : Device) (m : Manifest) (bs : List Byte) (c : EnvCheck) : Nat :=
  let kind := (bs.getD 4 0).toNat
  let epoch := (wordAt bs 16).toNat
  let k := d.sec.keys
  if !envForm bs m.desc.op1 [1, 2] then 0x10
  else if d.flash.owners = 0 && (kind = 1 || m.ofFabric) then 0x11
  else if !c.sigOk then 0x11
  else if kind = 1 then
    if (match k.key with | some (_, e) => decide (epoch ≤ e) | none => false) || (match k.pending with | some (_, e, _) => decide (epoch ≤ e) | none => false)
    then 0x12
    else if !keyCheckOk (unwrapKey d.tagKey bs) bs then 0x13
    else if !c.stored then 0x07 else 0
  else if d.flash.owners = 4 then 0x17
  else if (bs.getD 16 0).toNat ≠ d.flash.owners then 0x12 else 0

/-- An accepted envelope takes effect: a realm key that waits for its switch hour, or an owner key in the next slot. -/
def Device.acceptKey (d : Device) (bs : List Byte) : Device :=
  if bs.getD 4 0 = 1 then
    let keys : KeyStore := { d.sec.keys with pending := some (unwrapKey d.tagKey bs, (wordAt bs 16).toNat, (wordAt bs 20).toNat) }
    ((d.modFlash fun (q0 : Flash) => { q0 with keys := keys }).modSec fun s => { s with keys := keys }).secShow.keySwitch
  else (d.modFlash fun (q0 : Flash) => { q0 with ownerKeys := d.flash.ownerKeys ++ [keyDigest ((bs.drop 20).take 64)] }).secShow

/-- KEY_INSTALL (R583 to R587). While the device tags under the all-zero key, a realm key comes from the local ring only. -/
def Device.runKeyInstall (d : Device) (m : Manifest) (c : EnvCheck) : Device :=
  match d.windowRead m.buf m.desc.op1 with
  | (e, none) => e.finish m stBusError
  | (e, some bs) =>
    if e.zeroised then e.finish m stFailed 0x14
    else
      let r := e.keyReason m bs c
      if r ≠ 0 then e.finish m stFailed (BitVec.ofNat 32 r)
      else if bs.getD 4 0 = 1 && m.ofFabric && e.tagKey == 0 then e.finish m stNotAuthorised
      else ((e.acceptKey bs).raise F.SEC_INT_STATUS_KEY_INSTALLED).finish m stOk

/-- The challenge in SEC_CHALLENGE0 to 7. -/
def Device.challenge (d : Device) : List Byte := (List.range 8).flatMap fun i => wordBytes (d.reg (F.SEC_CHALLENGE i).addr)

/-- The reason that a DEBUG_UNLOCK fails with, or 0 (R583, R590). -/
def Device.unlockReason (d : Device) (m : Manifest) (bs : List Byte) (c : EnvCheck) : Nat :=
  if 8 ≤ d.get F.SEC_STATUS_UNLOCK_FAILS then 0x15
  else if !envForm bs m.desc.op1 [3] then 0x10
  else if d.flash.owners = 0 || !c.sigOk then 0x11
  else if (bs.drop 16).take 32 ≠ d.challenge then 0x12 else 0

/-- DEBUG_UNLOCK (R590): a new challenge follows, whether or not it passed. -/
def Device.runDebugUnlock (d : Device) (m : Manifest) (c : EnvCheck) : Device :=
  match d.windowRead m.buf m.desc.op1 with
  | (e, none) => e.drawChallenge.finish m stBusError
  | (e, some bs) =>
    let r := e.unlockReason m bs c
    if r = 0 then ((e.set F.SEC_STATUS_PERMS (bitsOf (wordAt bs 48) 2 0)).drawChallenge).finish m stOk
    else (((e.bumpSat F.SEC_STATUS_UNLOCK_FAILS).raise F.SEC_INT_STATUS_UNLOCK_FAIL).drawChallenge).finish m stFailed (BitVec.ofNat 32 r)

/-! ### Time limits (R300, Table 8-4) -/

/-- Result words of a manifest that has run out of time: the registers that its result names. -/
def Device.timeoutWords (d : Device) (w : Waiting) : Word × Word :=
  match w.goal with
  | .lane _ => (d.laneResult (Fin.ofNat 8 w.man.desc.index), 0)
  | .hostLp _ _ => (d.reg (F.HLN_LP w.man.desc.index).addr, 0)
  | .hostAdapt k => (d.reg (F.HLN_ADAPT_RPT k).addr, d.reg (F.HLN_ADAPT_DFE k 0).addr)
  | .native _ _ => (d.negWord, 0)
  | .commit g => (BitVec.ofNat 32 g, 0)
  | _ => (0, 0)

/-- The number by which MANIFEST_TIMEOUT names a manifest: its slot, or 256 and its RID. -/
def Manifest.number (m : Manifest) : Nat :=
  match m.origin with
  | .ring k => k
  | .fabric _ _ rid _ => 256 + rid
  | .register => 0

/-- What ends with the time of a pending manifest besides the manifest. -/
def Device.giveUp (d : Device) (g : Goal) : Device :=
  match g with
  | .commit k => (d.modMft fun (q0 : Mft) => { q0 with commits := d.mft.commits.filter fun x => x.group != k })
  | .monCal _ _ => d.monCalTimeout
  | .realm v =>
    let mine (q : HeldReq) : Bool := q.kind == 3 && q.who == BitVec.ofNat 64 v
    if (match d.fab.proposal with | some p => mine p.req | none => false) then d.proposalTimeout
    else d.modFab fun b => { b with requests := b.requests.filter fun q => !mine q }
  | .power _ => d.sleepTimeout
  | _ => d

/-- Table 8-4 gives the goal a limit that ends it here: a remote manifest has R307, a power state R427. -/
def limited : Goal → Bool
  | .power _ | .remote _ => false
  | _ => true

/-- A pending manifest, or one that runs, reaches its time limit. -/
def Device.manifestTimeout (d : Device) (slot : Nat) : Device :=
  match d.mft.waiting.find? (fun w => w.man.number == slot) with
  | some w =>
    let d1 := d.giveUp w.goal
    if limited w.goal && d1.mft.waiting.contains w then
      let (a, b) := d1.timeoutWords w
      (d1.modMft fun (q0 : Mft) => { q0 with waiting := d1.mft.waiting.eraseP fun x => x == w }).finish w.man stTimeout a b
    else d1
  | none =>
    match d.mft.begun.find? (fun m => m.number == slot) with
    | some m => (d.modMft fun x => { x with begun := x.begun.eraseP fun y => y == m }).finish m stTimeout
    | none => d

/-! ### Meanings -/

/-- MANIFEST_START (R295). -/
def execManifestStart (s : State) : Host.Outcome State Fault Refusal := .next { s with dev := s.dev.manifestStart }
/-- MANIFEST_TIMEOUT (R300). -/
def execManifestTimeout (slot : Nat) (s : State) : Host.Outcome State Fault Refusal := .next { s with dev := s.dev.manifestTimeout slot }
/-- RESET (R309). -/
def execReset (s : State) : Host.Outcome State Fault Refusal := .next { s with dev := s.dev.runOp 0x01 Device.runReset }
/-- STATUS (R308). -/
def execStatus (s : State) : Host.Outcome State Fault Refusal := .next { s with dev := s.dev.runOp 0x02 Device.runStatus }
/-- IDENTIFY (R308). -/
def execIdentify (s : State) : Host.Outcome State Fault Refusal := .next { s with dev := s.dev.runOp 0x03 Device.runIdentify }
/-- REG_READ (R598). -/
def execRegRead (s : State) : Host.Outcome State Fault Refusal := .next { s with dev := s.dev.runOp 0x08 Device.runRegRead }
/-- REG_WRITE (R299). -/
def execRegWrite (s : State) : Host.Outcome State Fault Refusal := .next { s with dev := s.dev.runOp 0x09 Device.runRegWrite }
/-- COMMIT (R311). -/
def execCommit (s : State) : Host.Outcome State Fault Refusal := .next { s with dev := s.dev.runOp 0x0A Device.runCommit }
/-- LANE_STATE (R300). -/
def execLaneState (s : State) : Host.Outcome State Fault Refusal := .next { s with dev := s.dev.runOp 0x10 Device.runLaneState }
/-- HOST_LP (R228). -/
def execHostLp (s : State) : Host.Outcome State Fault Refusal := .next { s with dev := s.dev.runOp 0x11 Device.runHostLp }
/-- HOST_ADAPT (R222). -/
def execHostAdapt (s : State) : Host.Outcome State Fault Refusal := .next { s with dev := s.dev.runOp 0x12 Device.runHostAdapt }
/-- NATIVE (R129). -/
def execNative (s : State) : Host.Outcome State Fault Refusal := .next { s with dev := s.dev.runOp 0x13 Device.runNative }
/-- POWER_STATE (R428). -/
def execPowerState (s : State) : Host.Outcome State Fault Refusal := .next { s with dev := s.dev.runOp 0x14 Device.runPowerState }
/-- SNAPSHOT (R564). -/
def execSnapshot (s : State) : Host.Outcome State Fault Refusal := .next { s with dev := s.dev.runOp 0x20 Device.runSnapshot }
/-- LOOKOUT_READ (R554). -/
def execLookoutRead (s : State) : Host.Outcome State Fault Refusal := .next { s with dev := s.dev.runOp 0x21 Device.runLookoutRead }
/-- MON_CONVERT (R301). -/
def execMonConvert (s : State) : Host.Outcome State Fault Refusal := .next { s with dev := s.dev.runOp 0x22 Device.runMonConvert }
/-- MON_CAL (R474). -/
def execMonCal (s : State) : Host.Outcome State Fault Refusal := .next { s with dev := s.dev.runOp 0x23 Device.runMonCal }
/-- CAL_SAVE (R510). -/
def execCalSave (ok : Bool) (s : State) : Host.Outcome State Fault Refusal :=
  .next { s with dev := s.dev.runOp 0x24 fun d m => d.calSave m ok }
/-- FW_WRITE (R578). -/
def execFwWrite (ok : Bool) (s : State) : Host.Outcome State Fault Refusal :=
  .next { s with dev := s.dev.runOp 0x30 fun d m => d.runFwWrite m ok }
/-- FW_ACTIVATE (R579). -/
def execFwActivate (slot : FwSlot) (s : State) : Host.Outcome State Fault Refusal :=
  .next { s with dev := s.dev.runOp 0x31 fun d m => d.runFwActivate m slot }
/-- ATTEST (R582). -/
def execAttest (reply : List Byte) (s : State) : Host.Outcome State Fault Refusal :=
  .next { s with dev := s.dev.runOp 0x32 fun d m => d.runAttest m reply }
/-- KEY_INSTALL (R583). -/
def execKeyInstall (c : EnvCheck) (s : State) : Host.Outcome State Fault Refusal :=
  .next { s with dev := s.dev.runOp 0x33 fun d m => d.runKeyInstall m c }
/-- DEBUG_UNLOCK (R590). -/
def execDebugUnlock (c : EnvCheck) (s : State) : Host.Outcome State Fault Refusal :=
  .next { s with dev := s.dev.runOp 0x34 fun d m => d.runDebugUnlock m c }
/-- REALM_SET (R347). -/
def execRealmSet (s : State) : Host.Outcome State Fault Refusal := .next { s with dev := s.dev.runOp 0x35 Device.runRealmSet }

end Sys2Proof.Machine
end

