-- ==== Sys2Proof/Machine/FabricMft.lean ====
section
/-! DEFINITION. Manifests over the fabric: authorisation, the destination's queue, agent and stored pairs, the originator's pending manifests, and completions as they are written or sent (R298, R302 to R310, R356 to R364), with the meanings of their commands. -/

namespace Sys2Proof.Machine

/-! ### Authorisation (R356) -/

/-- Entry k of the live authorisation matches a source. -/
def Device.aclMatches (d : Device) (m : FabMsg) (k : Nat) : Bool :=
  match d.lget (F.FAB_ACL_CFG_KIND k) with
  | 1 =>
    let cut := 25 - d.lget (F.FAB_ACL_CFG_PLEN k)
    m.src % 2 ^ 25 / 2 ^ cut == d.lget (F.FAB_ACL_LO k) % 2 ^ 25 / 2 ^ cut
  | 2 => d.liveReg (F.FAB_ACL_HI k).addr ++ d.liveReg (F.FAB_ACL_LO k).addr == m.srcId
  | _ => false

/-- The class set of a source: bit 0 O, bit 1 C, bit 2 A. -/
def Device.classSet (d : Device) (m : FabMsg) : Nat :=
  if m.noAddr then 0
  else match (List.range 16).find? (d.aclMatches m) with
    | some k => d.lget (F.FAB_ACL_CFG_CLASSES k)
    | none => d.lget F.FAB_ACL_DEF % 8

/-- The source may run the manifest (R29, R304, R357). -/
def Device.authorised (d : Device) (m : FabMsg) (c : Desc) : Bool := (d.classSet m).testBit (c.class true)

/-! ### Pairs of source and RID at the destination (R361, R362) -/

/-- The stored pair of a source identity and RID. -/
def Device.pairOf (d : Device) (id : BitVec 64) (rid : Nat) : Option Served := d.fab.served.find? fun s => s.srcId == id && s.rid == rid

/-- Change the stored pair. -/
def Device.modPair (d : Device) (id : BitVec 64) (rid : Nat) (f : Served → Served) : Device :=
  d.modFab fun b => { b with served := b.served.map fun s => if s.srcId == id && s.rid == rid then f s else s }

/-- A pair that nothing has come for yet. -/
def newPair (i : Link) (m : FabMsg) : Served :=
  { srcId := m.srcId, src := m.src, rid := m.rid, link := i.val, input := [], taken := false, entry := none, out := none,
    area := (0, 0), seq := 0, held := false }

/-- Store the pair unless it is stored; the last 64 are kept. -/
def Device.openPair (d : Device) (i : Link) (m : FabMsg) : Device :=
  if (d.pairOf m.srcId m.rid).isSome then d
  else d.modFab fun b => { b with served := (b.served ++ [newPair i m]).drop (b.served.length - 63) }

/-- Areas of the fabric buffer area that are in use. -/
def Device.usedAreas (d : Device) : List (Nat × Nat) := (d.fab.served.filter fun s => s.area.2 != 0).map (·.area)

/-- A free part of 0xB0000 to 0xBFFFF for a buffer, as a window offset: the lowest that fits. -/
def Device.freeArea (d : Device) (len : Nat) : Option Nat :=
  let used := d.usedAreas
  (0x30000 :: used.map fun a => a.1 + a.2).find? fun o => decide (o + len ≤ 0x40000) && !used.any (overlap (o, len))

/-! ### Completions (R298, R302, R305) -/

/-- Answer a pair's source with its stored completion, behind the output while it is held. -/
def Device.sendServed (d : Device) (s : Served) : Device :=
  match s.entry with
  | none => d
  | some (a, b, c, e) =>
    let d1 := match s.out with
      | some bs => d.sendData s.src s.rid true 0 bs
      | none => d
    let (d2, seq, held) := d1.sendTo s.src s.rid (.completion a b c e)
    d2.modPair s.srcId s.rid fun x => { x with seq := seq, held := held }

/-- The output bytes of a completed manifest: RESULT0 of them, where the opcode has output. -/
def outputLen (op status r0 : Nat) : Nat :=
  if (op = 0x21 ∧ (status = stOk ∨ status = stBusError)) ∨ (op = 0x32 ∧ status = stOk) then r0 else 0

/-- A fabric-origin manifest has completed: its output is taken from its buffer, which is then free, and the answer is sent. -/
def Device.replyFabric (d : Device) (x : DoneMan) (id : BitVec 64) (rid : Nat) : Device :=
  let n := outputLen x.man.desc.opcode x.status x.r0.toNat
  let (d1, y, out) := match d.windowRead x.man.buf n with
    | (e, some bs) => (e, x, bs)
    | (e, none) => (e, { x with status := stBusError, r0 := 0 }, [])
  let entry : Option (Word × Word × Word × Word) :=
    match y.words false with
    | [a, b, c, e] => some (a, b, c, e)
    | _ => none
  let d2 := d1.modPair id rid fun s => { s with entry := entry, out := if out.isEmpty then none else some out, area := if out.isEmpty then (0, 0) else s.area }
  match d2.pairOf id rid with
  | some s => d2.sendServed s
  | none => d2

/-- What a completion starts: the full reset of RESET (R309), and of FW_ACTIVATE in boot recovery (R375). -/
def Device.afterCompletion (d : Device) (x : DoneMan) : Device :=
  let cause : Option Byte :=
    if x.far || x.status != 0 then none
    else if x.man.desc.opcode = 0x01 then some (if x.man.ofFabric then 5 else 4)
    else if x.man.desc.opcode = 0x31 && d.inRecovery then some 7 else none
  if d.sup.due.isSome || cause.isNone then d else d.modSup fun s => { s with due := cause }

/-- The oldest completed manifest has its entry written, or its answer sent. -/
def Device.manifestComplete (d : Device) : Device :=
  match d.mft.done with
  | [] => d
  | x :: rest =>
    let d1 := d.modMft fun m => { m with done := rest }
    let d2 := match x.man.origin with
      | .ring _ => d1.writeCompletion x
      | .fabric _ id rid _ => d1.replyFabric x id rid
      | .register => d1.modMft fun m => { m with cdb := some (x.status, x.r0) }
    d2.afterCompletion x

/-! ### The destination (R302 to R304, R308, R310, R363) -/

/-- A fabric-origin manifest ends before it runs, or at once. -/
def Device.answer (d : Device) (m : Manifest) (id : BitVec 64) (rid : Nat) (status : Nat) : Device :=
  (d.modPair id rid fun s => { s with taken := true }).finish m status

/-- Buffer bytes that the manifest needs at the destination. -/
def bufferNeed (c : Desc) (input : List Byte) : Nat :=
  match c.buffer with
  | some (_, len) => max len input.length
  | none => input.length

/-- The manifest's input is whole and its buffers are placed: it joins the queue. -/
def Device.enqueue (d : Device) (x : Manifest) (id : BitVec 64) (rid : Nat) (input : List Byte) : Device :=
  let need := bufferNeed x.desc input
  if 16 ≤ d.mft.fabricQueue.length then d.answer x id rid stBusy
  else match d.freeArea need with
    | none => d.answer x id rid stBusy
    | some o =>
      let d1 := (d.windowPut o input).modPair id rid fun s => { s with taken := true, input := [], area := (o, need) }
      d1.modMft fun q => { q with fabricQueue := q.fabricQueue ++ [{ x with buf := o }] }

/-- A source that is not authorised (R304, R356): counted and flagged. -/
def Device.notAuthorised (d : Device) : Device := (d.bump F.FAB_ERR_D_NOT_AUTH).raise F.FAB_INT_STATUS_NOT_AUTH

/-- RESET, STATUS or IDENTIFY by the fabric agent (R30). -/
def Device.agentRun (d : Device) (x : Manifest) : Device :=
  match x.desc.opcode with
  | 0x01 => d.runReset x
  | 0x02 => d.runStatus x
  | _ => d.runIdentify x

/-- A MANIFEST message of a pair that is not stored as taken. -/
def Device.newManifest (d : Device) (i : Link) (m : FabMsg) (c : Desc) (len : Nat) (crc : Word) : Device :=
  let d1 := d.openPair i m
  let x : Manifest := { desc := c, origin := .fabric m.src m.srcId m.rid i.val, buf := 0 }
  let stop (s : Device) (st : Nat) : Device := s.answer x m.srcId m.rid st
  let agent := decide (1 ≤ c.opcode ∧ c.opcode ≤ 3)
  let input := match d1.pairOf m.srcId m.rid with
    | some s => s.input
    | none => []
  if !agent && !d1.sup.procRun then stop d1 stNotReady
  else if !agent && decide (input.length < len) then (d1.sendTo m.src m.rid (.resend false input.length)).1
  else if !agent && (decide (len < input.length) || crc32 input != crc) then
    ((d1.modPair m.srcId m.rid fun s => { s with input := [] }).sendTo m.src m.rid (.resend false 0)).1
  else match c.check none with
    | some st => stop d1 st
    | none =>
      if !d1.authorised m c then stop d1.notAuthorised stNotAuthorised
      else if agent then (d1.modPair m.srcId m.rid fun s => { s with taken := true }).agentRun x
      else d1.enqueue x m.srcId m.rid input

/-- A MANIFEST message that passed the checks of trust: executed at most once for its pair. -/
def Device.manifestIn (d : Device) (i : Link) (m : FabMsg) (c : Desc) (len : Nat) (crc : Word) : Device :=
  match d.pairOf m.srcId m.rid with
  | some s => if s.entry.isSome then d.sendServed s else if s.taken then d else d.newManifest i m c len crc
  | none => d.newManifest i m c len crc

/-! ### The originator (R305, R307, R359, R360, R363, R364) -/

/-- A remote manifest that waits for the device that sent a message. -/
def Device.remoteOf (d : Device) (rid src : Nat) : Option Remote := d.fab.remotes.find? fun r => r.rid == rid && r.man.desc.target == src

/-- A remote manifest leaves the pending set. -/
def Device.dropRemote (d : Device) (rid : Nat) : Device :=
  (d.modFab fun b => { b with remotes := b.remotes.filter fun r => r.rid != rid }).modMft fun m => { m with
    waiting := m.waiting.filter fun w => w.goal != .remote rid }

/-- A remote manifest ends with a status of this device's. -/
def Device.endRemote (d : Device) (r : Remote) (status : Nat) : Device := (d.dropRemote r.rid).finish r.man status

/-- A remote manifest's completion, once its output is whole: the output goes into the named buffer first, and the source is told. -/
def Device.tryRemote (d : Device) (r : Remote) : Device :=
  match r.entry with
  | none => d
  | some (a, b, c, _) =>
    let status := bitsOf a 31 24
    let n := outputLen r.man.desc.opcode status b.toNat
    if r.out.length < n then (d.sendTo r.man.desc.target r.rid (.resend true r.out.length)).1
    else
      let d1 := (d.dropRemote r.rid).windowPut r.man.buf (r.out.take n)
      let d2 := if n = 0 then d1 else (d1.sendTo r.man.desc.target r.rid (.ack n)).1
      d2.modMft fun m => { m with done := m.done ++ [{ man := r.man, status := status, r0 := b, r1 := c, far := true }] }

/-- Change a remote manifest. -/
def Device.modRemote (d : Device) (rid : Nat) (f : Remote → Remote) : Device :=
  d.modFab fun b => { b with remotes := b.remotes.map fun r => if r.rid == rid then f r else r }

/-- A COMPLETION is received; one that nothing waits for is late. -/
def Device.completionIn (d : Device) (m : FabMsg) (e : Word × Word × Word × Word) : Device :=
  match d.remoteOf m.rid m.src with
  | some r => (d.modRemote r.rid fun x => { x with entry := some e }).tryRemote { r with entry := some e }
  | none => d.bump F.MFT_REMOTE_LATE

/-- Bytes that continue what has come so far. -/
def append (have_ : List Byte) (off : Nat) (bs : List Byte) : List Byte := if off = have_.length then have_ ++ bs else have_

/-- A DATA message: output at the originator, input at the destination. -/
def Device.dataIn (d : Device) (i : Link) (m : FabMsg) (output : Bool) (off : Nat) (bs : List Byte) : Device :=
  if output then
    match d.remoteOf m.rid m.src with
    | some r =>
      let r1 := { r with out := append r.out off bs }
      let d1 := d.modRemote r.rid fun x => { x with out := r1.out }
      match r1.entry with
      | some (a, b, _, _) =>
        if outputLen r1.man.desc.opcode (bitsOf a 31 24) b.toNat ≤ r1.out.length then d1.tryRemote r1 else d1
      | none => d1
    | none => d
  else (d.openPair i m).modPair m.srcId m.rid fun s => if s.taken then s else { s with input := append s.input off bs }

/-- A RESEND: output again from the destination, input again from the originator. -/
def Device.resendIn (d : Device) (m : FabMsg) (output : Bool) (off : Nat) : Device :=
  if output then
    match d.fab.served.find? (fun s => s.src == m.src && s.out.isSome && s.rid == m.rid) with
    | some s => d.sendData s.src s.rid true off (s.out.getD [])
    | none => d
  else
    match d.fab.remotes.find? (fun r => r.man.desc.target == m.src && r.rid == m.rid) with
    | some r =>
      match d.inputOf r.man with
      | (e, some input) => e.sendData m.src r.rid false off input
      | (e, none) => e.endRemote r stBusError
    | none => d

/-- Hold the nonce of a destination; the last 64 are kept. -/
def Device.holdNonce (d : Device) (dst : Nat) (n : Word) : Device :=
  d.modFab fun b => { b with nonces := ((b.nonces.filter fun p => p.1 != dst) ++ [(dst, n)]).drop ((b.nonces.filter fun p => p.1 != dst).length - 63) }

/-- Forget the nonce of a destination. -/
def Device.dropNonce (d : Device) (dst : Nat) : Device := d.modFab fun b => { b with nonces := b.nonces.filter fun p => p.1 != dst }

/-- Send the MANIFEST of a pending manifest again, with a new SEQ and the same RID; `whole` sends its input ahead. -/
def Device.resendRemote (d : Device) (r : Remote) (whole : Bool) : Device :=
  match d.inputOf r.man with
  | (e, none) => e.endRemote r stBusError
  | (e, some input) =>
    let e1 := if whole then e.sendData r.man.desc.target r.rid false 0 input else e
    let (e2, seq, held) := e1.sendManifest r.man r.rid input
    e2.modRemote r.rid fun x => { x with seq := seq, held := held }

/-- A NONCE answer (R360). A message sent with 0 goes out again under the nonce learned. -/
def Device.nonceIn (d : Device) (m : FabMsg) (current : Word) (answered : Nat) : Device :=
  match d.fab.remotes.find? (fun r => r.man.desc.target == m.src && r.seq == answered) with
  | some r =>
    if r.held then (d.dropNonce m.src).endRemote r stRemoteTimeout else (d.holdNonce m.src current).resendRemote r true
  | none =>
    match d.fab.served.find? (fun s => s.src == m.src && s.seq == answered && s.entry.isSome) with
    | some s => if s.held then d.dropNonce m.src else (d.holdNonce m.src current).sendServed s
    | none => if (d.nonceOf m.src).isSome then d else d.holdNonce m.src current

/-- UNREACH for a destination: every manifest that waits for it ends. -/
def Device.unreachIn (d : Device) (dst : Nat) : Device :=
  (d.fab.remotes.filter fun r => r.man.desc.target == dst).foldl (fun (s : Device) r => s.endRemote r stUnreachable) d

/-- The held output of a pair is freed. -/
def Device.freeOutput (d : Device) (id : BitVec 64) (rid : Nat) : Device := d.modPair id rid fun s => { s with out := none, area := (0, 0) }

/-- Once per 1 s without completion. -/
def Device.manifestResend (d : Device) (rid : Nat) : Device :=
  match d.fab.remotes.find? (fun r => r.rid == rid && r.entry.isNone) with
  | some r => d.resendRemote r false
  | none => d

/-- R307. -/
def Device.remoteTimeout (d : Device) (rid : Nat) : Device :=
  match d.fab.remotes.find? (fun r => r.rid == rid) with
  | some r => d.endRemote r stRemoteTimeout
  | none => d

/-- 10 s after a COMPLETION without ACK: the oldest output held. -/
def Device.outputRelease (d : Device) : Device :=
  match d.fab.served.find? (fun s => s.out.isSome) with
  | some s => d.freeOutput s.srcId s.rid
  | none => d

/-- 60 s after a pair's completion. -/
def Device.ridExpiry (d : Device) (src rid : Nat) : Device :=
  d.modFab fun b => { b with served := b.served.filter fun s => !(s.srcId.toNat == src && s.rid == rid && s.entry.isSome) }

/-! ### Meanings -/

/-- MANIFEST_COMPLETE (R298). -/
def execManifestComplete (s : State) : Host.Outcome State Fault Refusal := .next { s with dev := s.dev.manifestComplete }
/-- MANIFEST_MESSAGE (R302). -/
def execManifestMessage (i : Link) (m : FabMsg) (s : State) : Host.Outcome State Fault Refusal :=
  .next { s with dev := match m.body with
    | .manifest c len crc => s.dev.fabReceive i m fun d => d.manifestIn i m c len crc
    | _ => s.dev }
/-- COMPLETION_MESSAGE (R305). -/
def execCompletionMessage (i : Link) (m : FabMsg) (s : State) : Host.Outcome State Fault Refusal :=
  .next { s with dev := match m.body with
    | .completion a b c e => s.dev.fabReceive i m fun d => d.completionIn m (a, b, c, e)
    | _ => s.dev }
/-- DATA_MESSAGE (R305). -/
def execDataMessage (i : Link) (m : FabMsg) (s : State) : Host.Outcome State Fault Refusal :=
  .next { s with dev := match m.body with
    | .data out off bs => s.dev.fabReceive i m fun d => d.dataIn i m out off bs
    | _ => s.dev }
/-- RESEND (R363). -/
def execResend (i : Link) (m : FabMsg) (s : State) : Host.Outcome State Fault Refusal :=
  .next { s with dev := match m.body with
    | .resend out off => s.dev.fabReceive i m fun d => d.resendIn m out off
    | _ => s.dev }
/-- NONCE (R360). -/
def execNonce (i : Link) (m : FabMsg) (s : State) : Host.Outcome State Fault Refusal :=
  .next { s with dev := match m.body with
    | .nonce cur ans => s.dev.fabReceive i m fun d => d.nonceIn m cur ans
    | _ => s.dev }
/-- UNREACH (R364). -/
def execUnreach (i : Link) (m : FabMsg) (s : State) : Host.Outcome State Fault Refusal :=
  .next { s with dev := match m.body with
    | .unreach dst _ => s.dev.fabReceive i m fun d => d.unreachIn dst
    | _ => s.dev }
/-- ACK (R363). -/
def execAck (i : Link) (m : FabMsg) (s : State) : Host.Outcome State Fault Refusal :=
  .next { s with dev := match m.body with
    | .ack _ => s.dev.fabReceive i m fun d => d.freeOutput m.srcId m.rid
    | _ => s.dev }
/-- MANIFEST_RESEND (R359). -/
def execManifestResend (rid : Nat) (s : State) : Host.Outcome State Fault Refusal := .next { s with dev := s.dev.manifestResend rid }
/-- REMOTE_TIMEOUT (R307). -/
def execRemoteTimeout (rid : Nat) (s : State) : Host.Outcome State Fault Refusal := .next { s with dev := s.dev.remoteTimeout rid }
/-- RID_EXPIRY (R361). -/
def execRidExpiry (src rid : Nat) (s : State) : Host.Outcome State Fault Refusal := .next { s with dev := s.dev.ridExpiry src rid }
/-- OUTPUT_RELEASE_TIMEOUT (R363). -/
def execOutputReleaseTimeout (s : State) : Host.Outcome State Fault Refusal := .next { s with dev := s.dev.outputRelease }

end Sys2Proof.Machine
end

