-- ==== Sys2Proof/Machine/Wake.lean ====
section
/-! DEFINITION. The ends of device state transitions and of the reload after a retention failure (R422 to R435, R443), with the meanings of their commands. -/

namespace Sys2Proof.Machine

/-- A device state is entered and reported, and the held request starts (R428, R429). -/
def Device.stateEntered (d : Device) (v : Nat) : Device :=
  let d1 := ((d.set F.PWR_STATUS_STATE v).set F.PWR_STATUS_TRANS 7).settle (fun g => g == .power v) stOk (BitVec.ofNat 32 v)
  let p := d1.get F.PWR_STATUS_PENDING
  if p = 7 then d1 else d1.powerRun p

/-- The lanes are where STANDBY takes them and the pool is empty (R423). -/
def Device.standbyReady (d : Device) : Bool :=
  let rest (v : Nat) : Bool := v == 0 || v == 4
  lanes.all (fun (n : Lane) =>
    rest (d.get (F.LTX_STATUS_STATE n)) && d.get (F.LTX_STATUS_TRANS n) == 7 && rest (d.get (F.LRX_STATE_RX_STATE n))
      && d.get (F.LRX_STATE_RX_TRANS n) == 7 && (d.pool.flights.get n).isEmpty)
    && hlanes.all fun (k : HLane) => !d.hostLive k || (d.get (F.HLN_LP_LP_STATE k) == 2 && d.get (F.HLN_LP_TRANS k) == 3)

/-- ACTIVE is entered: what STATE_REQ, RX_STATE_REQ and LP_REQ hold is requested (R425). -/
def Device.enterActive (d : Device) : Device :=
  let d1 := (d.modLaneHold fun _ => false).poolOn
  let d2 := lanes.foldl (fun (s : Device) (n : Lane) =>
    (s.txRequest n (s.get (F.LTX_CTRL_STATE_REQ n))).rxRequest n (s.get (F.LRX_STATE_RX_STATE_REQ n))) d1
  hlanes.foldl (fun (s : Device) (k : HLane) => s.lpRequest k (s.get (F.HLN_LP_LP_REQ k))) d2

/-- The writes that DORMANT held are applied (R434). -/
def Device.applyHeld (d : Device) : Device :=
  d.sup.heldWrites.foldl (fun (s : Device) w =>
    match findRow w.1 with
    | some (r, ix) => s.regWrite r ix w.1 w.2
    | none => s) (d.modSup fun x => { x with heldWrites := [] })

/-- STANDBY is reached by a wake (R432, R433): the processor runs, line lanes return to PILOT after HIBERNATE, and what waited is done. -/
def Device.awake (d : Device) (from_ : Nat) : Device :=
  let d1 := ((d.set F.PWR_STATUS_LAST_SLEEP (from_ - 1)).modSup fun x => { x with procRun := true }).raise F.PWR_INT_STATUS_WAKE
  if d1.inRecovery then d1
  else
    let d2 := lanes.foldl (fun (s : Device) (n : Lane) => if from_ = 3 then s.startLane n else s.pinDeliver n) d1
    -- a step that came while the blocks were off is in force on them from here (R31, R34)
    d2.takeStep.applyHeld.runDeferred.monKick

/-- A device state transition ends, where its conditions hold. -/
def Device.powerDone (d : Device) : Device :=
  let t := d.get F.PWR_STATUS_TRANS
  let s := d.get F.PWR_STATUS_STATE
  if t = 1 ∧ s = 0 then
    if d.standbyReady then ((d.poolOff.raise F.PWR_INT_STATUS_STATE_DONE).stateEntered 1) else d
  else if t = 0 then (d.enterActive.raise F.PWR_INT_STATUS_STATE_DONE).stateEntered 0
  else if t = 2 then (d.enterDormant.raise F.PWR_INT_STATUS_STATE_DONE).stateEntered 2
  -- the completion of a request for HIBERNATE is written before the window loses power (R427)
  else if t = 3 then (if d.mft.done.isEmpty then (d.raise F.PWR_INT_STATUS_STATE_DONE).enterHibernate.stateEntered 3 else d)
  else if t = 1 ∧ 2 ≤ s ∧ (d.sup.boot = .running ∨ d.sup.boot = .recovery) then
    let d1 := (d.set F.PWR_STATUS_STATE 1).set F.PWR_STATUS_TRANS 7
    ((d1.awake s).raise F.PWR_INT_STATUS_STATE_DONE).stateEntered 1
  else d

/-- The reload from flash ends (R443): the failed banks' calibrated values are loaded, and lanes that waited start. -/
def Device.reloadDone (d : Device) : Device :=
  let m := d.sup.reload
  if m = 0 then d
  else
    let d1 := match d.newestCal with
      | some c => d.applyCal c fun a => m.getLsbD (regBank a)
      | none => d
    let d2 := d1.modSup fun x => { x with reload := 0 }
    lanes.foldl (fun (s : Device) (n : Lane) =>
      let p : Nat := s.get (F.LTX_STATUS_PENDING n)
      let s1 := if s.get (F.LTX_STATUS_TRANS n) = 7 ∧ p ≠ 7 then s.txStart n p else s
      let q : Nat := s1.get (F.LRX_STATE_RX_PENDING n)
      if s1.get (F.LRX_STATE_RX_TRANS n) = 7 ∧ q ≠ 7 then s1.rxStart n q else s1) d2

/-- POWER_TRANSITION_DONE (R422). -/
def execPowerTransitionDone (s : State) : Host.Outcome State Fault Refusal := .next { s with dev := s.dev.powerDone }
/-- RETENTION_RELOAD_DONE (R443). -/
def execRetentionReloadDone (s : State) : Host.Outcome State Fault Refusal := .next { s with dev := s.dev.reloadDone }

end Sys2Proof.Machine
end

