-- ==== Sys2Proof/Machine/HostPorts.lean ====
section
/-! DEFINITION. The host's ports: SPI transfers, CMIS pages, the register port and CDB, and JTAG (R282 to R285, R319 to R321, R376, R463, R589 to R591), with the meanings of their commands. -/

namespace Sys2Proof.Machine

/-! ### Whether a port answers -/

/-- The SPI and two-wire targets are in full service: from step 12, or in boot recovery. -/
def Device.served (d : Device) : Bool := d.sup.boot == .running || d.inRecovery

/-- In HIBERNATE neither target answers: the access is a wake source (Table 12-3). -/
def Device.deaf (d : Device) : Bool := d.get F.PWR_STATUS_STATE == 3

/-- Serve an access of the host. -/
def Device.hostAccess (d : Device) (f : Device → Device) : Device :=
  if !d.served then d else if d.deaf then d.wakeBy 2 else f d

/-- The device is held by a failed self-test or by thermal shutdown (R376, R463). -/
def Device.heldUp (d : Device) : Bool := d.sup.boot == .failed || d.flag F.THM_STATUS_SHUTDOWN

/-- Registers that a held device shows. -/
def Device.heldShows (d : Device) (a : Nat) : Bool :=
  [F.SYS_ID.addr, F.SYS_RST_CAUSE.addr, F.SYS_BOOT_STATUS.addr].contains a || (d.flag F.THM_STATUS_SHUTDOWN && a == F.THM_STATUS.addr)

/-! ### SPI (R282, R283) -/

/-- Words of a transfer with their addresses. -/
def placed (a : Nat) : List Word → List (Nat × Word)
  | [] => []
  | w :: ws => (a, w) :: placed (a + 4) ws

/-- A write transfer. Bits [23:20] of an address must be zero (R595). -/
def Device.spiWrite (d : Device) (a : Nat) (ws : List Word) : Device :=
  if a % 4 ≠ 0 then d.busError (reqCode .spi) true 2 a
  else (placed a ws).foldl (fun (s : Device) p =>
    if p.1 < 2 ^ 20 then (s.busWrite .spi p.1 p.2).1 else s.busError (reqCode .spi) true 1 p.1) d

/-- The words of a read transfer. -/
def Device.spiWords (d : Device) : Nat → Nat → Device × List Word
  | _, 0 => (d, [])
  | a, n + 1 =>
    let (e, w) := if a < 2 ^ 20 then (let (x, _, v) := d.busRead .spi a; (x, v)) else (d.busError (reqCode .spi) false 1 a, 0)
    let (f, ws) := e.spiWords (a + 4) n
    (f, w :: ws)

/-- A read transfer; one that is not aligned returns 0xFF bytes. -/
def Device.spiRead (d : Device) (a n : Nat) : Device :=
  let (e, ws) := if a % 4 ≠ 0 then (d.busError (reqCode .spi) false 2 a, List.replicate n (BitVec.allOnes 32)) else d.spiWords a n
  e.modBank .spi fun b => { b with out := ws }

/-! ### CMIS memory (R284, R319, R454, Table 8-8) -/

/-- The 7-bit address at which the two-wire target answers (R284). -/
def cmisAddress : Nat := 0x50

/-- Where a monitor of Table 14-3 stands as (page, byte of its upper half), with 0 for the lower memory: supply voltage, Aux 1 and 2, and on page 11h
bias and input power of lanes 1 to 8 (PRESUMED: CMIS 5.2, log 147). -/
def cmisPlace (i : Nat) : Nat × Nat :=
  if i < 8 then (0x11, 170 + 2 * i) else if i < 16 then (0x11, 186 + 2 * (i - 8)) else (0, 16 + 2 * (i - 16))

/-- The 16 bits of a monitor in two bytes, most significant first: CMIS pages are big-endian (R7). -/
def monitorBytes (v : Int) : List Byte := beBytes 2 (ofSigned 16 v)

/-- The module state code: fault in the safe state, after a failed self-test and in thermal shutdown, else low power in STANDBY and ready in ACTIVE
(R319; the codes PRESUMED: CMIS 5.2, log 147). -/
def Device.moduleState (d : Device) : Nat :=
  if d.flag F.SYS_SAFE_SAFE || d.sup.boot == .failed || d.flag F.THM_STATUS_SHUTDOWN then 5
  else if d.get F.PWR_STATUS_STATE = 1 then 1 else if d.get F.PWR_STATUS_STATE = 0 then 3 else 4

/-- Temperature flags: high alarm follows throttle, high warning follows warning (R454). -/
def Device.temperatureFlags (d : Device) : Byte :=
  byteOf ((d.flag F.THM_STATUS_THROTTLE).toNat + 4 * (d.flag F.THM_STATUS_WARNING).toNat)

/-- A byte of a monitor that stands at a place. -/
def Device.monitorAt (d : Device) (page off : Nat) : Option Byte :=
  match (List.range 19).find? fun i => (cmisPlace i).1 == page && (off == (cmisPlace i).2 || off == (cmisPlace i).2 + 1) with
  | some i => some ((monitorBytes (d.mon.cmis.getD i 0)).getD (off - (cmisPlace i).2) 0)
  | none => none

/-- Eight lane bits of a control, for a bank. -/
def bankBits (m : BitVec 32) (bank : Nat) : Byte := (m >>> (8 * bank)).setWidth 8

/-- The data path state of a host lane: deactivated in DEEP, on its way there or back deinit or init, else activated (R320; the codes PRESUMED:
CMIS 5.2, log 147). -/
def Device.dataPathState (d : Device) (k : HLane) : Nat :=
  match d.get (F.HLN_LP_TRANS k), d.get (F.HLN_LP_LP_STATE k) with
  | 2, _ => 3
  | 0, 2 => 2
  | _, 2 => 1
  | _, _ => 4

/-- Two data path states of a bank as page 11h holds them, the lower lane in the lower half of the byte. -/
def Device.dataPathByte (d : Device) (bank i : Nat) : Byte :=
  let s (j : Nat) : Nat := d.dataPathState (Fin.ofNat 32 (8 * bank + 2 * i + j))
  byteOf (s 0 + 16 * s 1)

/-- A byte of CMIS memory as a read shows it, bytes 0 to 127 the lower memory and 128 to 255 a page (Table 8-8): module state, temperature and its
flags, monitors, bank and page select, the thresholds of page 02h, the lane controls of page 10h and the register port. The rest, and the
codes of the advertising pages, are the standard's: none. -/
def Device.cmisByte (d : Device) (bank page off : Nat) : Option Byte :=
  if off < 128 then
    let temp := monitorBytes (clampInt (-32768) 32767 (d.sget F.THM_STATUS_HOTTEST))
    match off with
    | 3 => some (byteOf (2 * d.moduleState))
    | 9 => some d.temperatureFlags
    | 14 => some (temp.getD 0 0)
    | 15 => some (temp.getD 1 0)
    | 126 => some d.mft.cmisBank
    | 127 => some d.mft.cmisPage
    | _ => d.monitorAt 0 off
  else match page, off with
    | 0x02, _ => d.mon.page02[off - 128]?
    | 0x10, 128 => some (bankBits d.mft.cmisDeinit bank)
    | 0x10, 130 => if bank = 0 then some (byteOf ((lanes.filter fun n => (d.tx.get n).cmisDis).foldl (fun (t : Nat) (n : Lane) => t + 2 ^ n.val) 0)) else none
    | 0x10, 138 => some (bankBits d.mft.cmisRxOff bank)
    | 0x11, _ => if off < 132 then some (d.dataPathByte bank (off - 128)) else if bank = 0 then d.monitorAt 0x11 off else none
    | 0xB8, 136 => some (byteOf d.mft.b8Status)
    | 0xB8, _ => if 132 ≤ off ∧ off < 136 then (wordBytes d.mft.b8Data)[off - 132]? else none
    | _, _ => none

/-- The command that a two-wire access to byte 128 + `b` of the selected page stands for, where the byte is one of the window's (R284). -/
def pageCommand (page bank : Byte) (b : Fin 128) (write : Option Byte) : Option Instr :=
  if h : 0xB0 ≤ page.toNat ∧ page.toNat < 0xB8 then some (.cmisWindowAccess ⟨page.toNat - 0xB0, by omega⟩ bank b write) else none

/-- Lower memory's bank and page select take the page that an access reaches. -/
def Device.selectPage (d : Device) (page bank : Byte) : Device := d.modMft fun m => { m with cmisPage := page, cmisBank := bank }

/-! ### CMIS pages B0h to B7h (R284) -/

/-- Window offset of byte 128 + `b` of page B0h + `p`, bank `k`. -/
def pageOffset (p k b : Nat) : Nat := (p * 256 + k) * 128 + b

/-- An access to one byte of the window over two-wire. -/
def Device.pageAccess (d : Device) (off : Nat) (write : Option Byte) : Device :=
  match write with
  | some v =>
    let (e, ok) := d.hostWrite (windowAddr off) [v]
    if ok then e else (e.hostErr .twoWire).busError (reqCode .twoWire) true 4 (0x80000 + off)
  | none =>
    match d.windowRead off 1 with
    | (e, some bs) => e.modBank .twoWire fun b => { b with out := [(bs.getD 0 0).zeroExtend 32] }
    | (e, none) =>
      ((e.hostErr .twoWire).busError (reqCode .twoWire) false 4 (0x80000 + off)).modBank .twoWire fun b => { b with out := [0xFF] }

/-! ### The register port, page B8h (R321) -/

/-- The port's status and data bytes after an access. -/
def Device.portEnds (d : Device) (cause : Nat) (w : Word) : Device :=
  d.modMft fun m => { m with b8Status := if cause = 0 then 0 else 0x80, b8Data := if cause = 0 then w else m.b8Data }

/-- 0x01 to byte 136. -/
def Device.portRead (d : Device) (a : Nat) : Device :=
  if d.heldUp then
    (if d.heldShows a then d.portEnds 0 (d.reg a) else d.portEnds 1 0)
  else d.hostAccess fun s =>
    let (e, c, w) := s.busRead .twoWire a
    e.portEnds c w

/-- 0x02 to byte 136. -/
def Device.portWrite (d : Device) (a : Nat) (w : Word) : Device :=
  let d0 := d.modMft fun m => { m with b8Data := w }
  if d.heldUp then d0.portEnds (if d.heldShows a then 0 else 1) w
  else d.hostAccess fun s =>
    let (e, c) := (s.modMft fun m => { m with b8Data := w }).busWrite .twoWire a w
    e.portEnds c w

/-! ### CMIS controls (R319, R320) -/

/-- A control of CMIS lower memory and its pages, in a device whose firmware runs. -/
def Device.cmis (d : Device) (f : Device → Device) : Device := if d.sup.boot == .running then d.hostAccess f else d

/-- A lane control that makes a host lane request; DORMANT holds it as a write of HLN_LP (R434). -/
def Device.cmisLane (d : Device) (k : HLane) (v : Nat) : Device :=
  if d.get F.PWR_STATUS_STATE = 2 then d.offBlockWrite (F.HLN_LP k).addr (BitVec.ofNat 32 v) else d.lpAsk k v

/-- Bit k of a control of the host lanes. -/
def laneBit (m : BitVec 32) (k : HLane) (b : Bool) : BitVec 32 :=
  if b then m ||| BitVec.ofNat 32 (2 ^ k.val) else m &&& ~~~ BitVec.ofNat 32 (2 ^ k.val)

/-- A CDB command on page 9Fh (R321): FW_WRITE and FW_ACTIVATE, without a descriptor. -/
def Device.cdb (d : Device) (c : CdbCmd) : Device :=
  let man (op : Nat) : Manifest :=
    { desc := { w0 := BitVec.ofNat 32 op, w1 := 0, w2 := 0, w3 := 0, w4 := 0, w5 := 0, w6 := 0, w7 := 0 }, origin := .register, buf := 0 }
  let run (op : Nat) (f : Device → Device) : Device :=
    match d.refusal (man op) with
    | some st => d.finish (man op) st
    | none => f d
  if !d.sup.procRun then d
  else match c with
    | .download off bs ok =>
      run 0x30 fun s =>
        if s.sec.activated then s.finish (man 0x30) stBusy
        else if s.writeOutOfOrder off || bs.length % 4 != 0 || bs.isEmpty || decide (0xFF000 < off + bs.length) then
          s.finish (man 0x30) stBadOperand
        else s.slotWrite (man 0x30) off bs.length ok
    | .activate found => run 0x31 fun s => s.runFwActivate (man 0x31) found

/-! ### JTAG (R589 to R591) -/

/-- JTAG rights granted: 0 debug module, 1 scan, 2 registers. -/
def Device.perm (d : Device) (k : Nat) : Bool := (d.get F.SEC_STATUS_PERMS).testBit k

/-- A word leaves the TAP. -/
def Device.jtagOut (d : Device) (w : Word) : Device := d.modBank .jtag fun b => { b with out := [w] }

/-- A register that a locked TAP reads. -/
def Device.tapShows (d : Device) (a : Nat) : Bool :=
  if d.heldUp then d.heldShows a
  else [F.SYS_ID.addr, F.SYS_RST_CAUSE.addr, F.SYS_BOOT_STATUS.addr, F.THM_STATUS.addr].contains a

/-- The processor's SRAM (macros 0 to 15). -/
def inSram (a : Nat) : Bool := decide (a + 4 ≤ 0x80000)

/-- A word of SRAM through the debug module. The bytes of the image are not part of the state. -/
def Device.debugRead (d : Device) (a : Nat) : Device :=
  if !inSram a then d
  else
    let (e, w) := d.readWord (sramAddr a)
    let (f, x) := e.fresh
    if a < d.get F.MEM_CODE_LIMIT_CODE_LIMIT then f.jtagOut x else f.jtagOut (w.getD x)

/-- An access of the TAP. -/
def Device.jtag (d : Device) (op : JtagOp) : Device :=
  match op with
  | .idcode =>
    -- the manual gives no IDCODE
    let (e, w) := d.fresh
    e.jtagOut w
  | .bypass => d
  | .readReg a =>
    if d.perm 2 then d.readOut .jtag a else if d.tapShows a then d.jtagOut (match findRow a with | some (r, ix) => d.readsAs .jtag r ix a | none => 0) else d
  | .writeReg a w => if d.perm 2 then (d.busWrite .jtag a w).1 else d
  | .halt => if d.perm 0 then d.zeroise.modSup fun s => { s with procRun := false } else d
  | .resume =>
    if d.perm 0 && d.served && d.sup.due.isNone && decide (d.get F.PWR_STATUS_STATE < 2) then d.modSup fun s => { s with procRun := true } else d
  | .readMem a => if d.perm 0 then d.zeroise.debugRead a else d
  | .writeMem a w => if d.perm 0 && inSram a then (d.zeroise.hostWrite (sramAddr a) (wordBytes w)).1 else d
  | .scanEnable => if d.perm 1 then d.zeroise else d

/-! ### Meanings -/

/-- SPI_WRITE (R282). -/
def execSpiWrite (a : BitVec 24) (ws : List Word) (s : State) : Host.Outcome State Fault Refusal :=
  .next { s with dev := s.dev.hostAccess fun d => d.spiWrite a.toNat ws }
/-- SPI_READ (R282). -/
def execSpiRead (a : BitVec 24) (n : Nat) (s : State) : Host.Outcome State Fault Refusal :=
  .next { s with dev := s.dev.hostAccess fun d => d.spiRead a.toNat n }
/-- CMIS_WINDOW_ACCESS (R284). -/
def execCmisWindowAccess (p : Fin 8) (k : Byte) (b : Fin 128) (w : Option Byte) (s : State) : Host.Outcome State Fault Refusal :=
  .next { s with dev := s.dev.hostAccess fun d => (d.selectPage (byteOf (0xB0 + p.val)) k).pageAccess (pageOffset p.val k.toNat b.val) w }
/-- REGISTER_PORT_READ (R321). -/
def execRegisterPortRead (a : BitVec 20) (s : State) : Host.Outcome State Fault Refusal := .next { s with dev := s.dev.portRead a.toNat }
/-- REGISTER_PORT_WRITE (R321). -/
def execRegisterPortWrite (a : BitVec 20) (w : Word) (s : State) : Host.Outcome State Fault Refusal :=
  .next { s with dev := s.dev.portWrite a.toNat w }
/-- CMIS_LOWPWR_REQUEST (R319). -/
def execCmisLowpwrRequest (s : State) : Host.Outcome State Fault Refusal :=
  .next { s with dev := s.dev.cmis fun d => (d.modMft fun m => { m with cmisLowPwr := true }).powerRequest 1 }
/-- CMIS_LOWPWR_RELEASE (R319). -/
def execCmisLowpwrRelease (s : State) : Host.Outcome State Fault Refusal :=
  .next { s with dev := s.dev.cmis fun d => (d.modMft fun m => { m with cmisLowPwr := false }).powerRequest 0 }
/-- CMIS_TX_DISABLE (R320). -/
def execCmisTxDisable (n : Lane) (v : Bool) (s : State) : Host.Outcome State Fault Refusal :=
  .next { s with dev := s.dev.cmis fun d => (d.modTx n fun t => { t with cmisDis := v }).disUpdate n }
/-- CMIS_DATAPATH_DEINIT (R320). -/
def execCmisDatapathDeinit (k : HLane) (s : State) : Host.Outcome State Fault Refusal :=
  .next { s with dev := s.dev.cmis fun d => (d.modMft fun m => { m with cmisDeinit := laneBit m.cmisDeinit k true }).cmisLane k 2 }
/-- CMIS_DATAPATH_INIT (R320). -/
def execCmisDatapathInit (k : HLane) (s : State) : Host.Outcome State Fault Refusal :=
  .next { s with dev := s.dev.cmis fun d => (d.modMft fun m => { m with cmisDeinit := laneBit m.cmisDeinit k false }).cmisLane k 0 }
/-- CMIS_RX_OUTPUT_DISABLE (R320). -/
def execCmisRxOutputDisable (k : HLane) (s : State) : Host.Outcome State Fault Refusal :=
  .next { s with dev := s.dev.cmis fun d => (d.modMft fun m => { m with cmisRxOff := laneBit m.cmisRxOff k true }).cmisLane k 1 }
/-- CMIS_RX_OUTPUT_ENABLE (R320). -/
def execCmisRxOutputEnable (k : HLane) (s : State) : Host.Outcome State Fault Refusal :=
  .next { s with dev := s.dev.cmis fun d => (d.modMft fun m => { m with cmisRxOff := laneBit m.cmisRxOff k false }).cmisLane k 0 }
/-- CDB_COMMAND (R321). -/
def execCdbCommand (c : CdbCmd) (s : State) : Host.Outcome State Fault Refusal := .next { s with dev := s.dev.hostAccess fun d => d.cdb c }
/-- JTAG_ACCESS (R589). -/
def execJtagAccess (op : JtagOp) (s : State) : Host.Outcome State Fault Refusal :=
  .next { s with dev := if s.dev.sup.aonGood then s.dev.jtag op else s.dev }

end Sys2Proof.Machine
end

