-- ==== Sys2Proof/Machine/Tick.lean ====
section
/-! DEFINITION. What happens with the passing of time whatever is commanded: one tick of the 1 ns timebase (R124, R325, R332, R349, R436, R559). -/

namespace Sys2Proof.Machine

/-- A level event of Table 17-5 is asserted on a unit. -/
def Device.levelOn (d : Device) (ev unit : Nat) : Bool :=
  let lane : Lane := Fin.ofNat 8 unit
  match ev with
  | 0x0001 => true
  | 0x0103 => decide (unit < 8) && d.flag (F.LRX_STATUS_LOS unit)
  | 0x0104 => decide (unit < 8) && d.dcFrozen lane
  | 0x0105 => decide (unit < 8) && d.tracking lane
  | 0x0208 => decide (unit < 64) && (match (d.pool.engines.get (Fin.ofNat 64 unit)).job with | .pass _ _ _ _ => true | _ => false)
  | 0x0209 => decide (unit < 16) && !(d.berth unit).isEmpty
  | 0x0400 => decide (unit < 32) && d.get (F.HLN_STATUS_ACQ_STEP unit) == 8
  | 0x0800 => d.flag F.THM_STATUS_THROTTLE
  | 0x0801 => d.enf != 0
  | _ => false

/-- Count events whose occurrences in one tick the manual leaves to clocks and to the program that runs (0x0002, 0x0010, 0x0011). -/
def openCount (ev : Nat) : Bool := ev == 0x0002 || ev == 0x0010 || ev == 0x0011

/-- One general counter's tick: level events by duration or by rising edge. -/
def Device.counterTick (d : Device) (i : Nat) : Device :=
  let ev := d.get (F.PMU_EVSEL_EVENT i)
  let unit := d.get (F.PMU_EVSEL_UNIT i)
  let on := d.levelOn ev unit
  let was := d.pmuPrev.contains i
  let d1 := (d.modPmuPrev fun _ => (d.pmuPrev.filter (· != i)) ++ (if on then [i] else []))
  let add (s : Device) (n : Nat) : Device :=
    if !s.flag (F.PMU_EVSEL_EN i) || s.flag F.PMU_STATUS_FROZEN || n == 0 then s
    else
      let v := s.pair (F.PMU_CNT i) + n
      let s1 := s.setPair (F.PMU_CNT i) v
      if v < 2 ^ 48 then s1
      else
        let s2 := s1.setReg (F.PMU_OVF (i / 32)).addr (s1.reg (F.PMU_OVF (i / 32)).addr ||| BitVec.ofNat 32 (2 ^ (i % 32)))
        if s2.flag (F.PMU_EVSEL_OVF_INT i) then s2.raise F.PMU_INT_STATUS_OVF (BitVec.ofNat 32 i) else s2
  if openCount ev then
    let (e, w) := d1.fresh
    add e w.toNat
  else if !on then d1
  else if d1.flag (F.PMU_EVSEL_EDGE i) then (if was then d1 else add d1 1) else add d1 1

/-- The counters' and the pool's tick, while their clocks run. -/
def Device.countTick (d : Device) : Device :=
  if 2 ≤ d.get F.PWR_STATUS_STATE || d.sup.boot != .running then d
  else
    let d1 := if d.pool.enabled then engs.foldl (fun (s : Device) (e : Eng) => s.slotTick e) d else d
    d1.pmuActive.foldl (fun (s : Device) i => s.counterTick i) d1

/-- Each hawser port sends its oldest waiting frame. -/
def Device.hawserTick (d : Device) : Device :=
  -- a frame that cannot be read as it is sent is discarded (R37, Table 16-3)
  let d1 := ports.foldl (fun (s : Device) (p : Port) =>
    if (s.hws.get p).txq.isEmpty then s
    else
      let (e, ok) := s.bufferRead (8 + p.val) 0
      if ok then e else e.bump F.FAB_ERR_D_BUF_DROP) d
  d1.modHwsAll fun _ => d1.hws.map fun h => { h with txq := h.txq.drop 1 }

/-- One tick of the timebase. -/
def Device.tick (d : Device) : Device :=
  if !d.sup.aonGood then d
  else
    let d1 := (d.modNow fun _ => d.now + 1).countTick.hawserTick
    if d1.sup.boot == .running then d1.opStart.fabTick else d1

end Sys2Proof.Machine
end

