-- ==== Sys2Proof/Machine/Dispatch.lean ====
section
/-! DEFINITION. One arm for each command: its meaning. -/

namespace Sys2Proof.Machine

/-- What a command does to the machine. -/
def exec (i : Instr) (s : State) : Host.Outcome State Fault Refusal :=
  match i with
  | .rxStateRequest n v => Sys2Proof.Machine.execRxStateRequest n v s
  | .rxTransitionDone n => Sys2Proof.Machine.execRxTransitionDone n s
  | .acquisitionTimeout n => Sys2Proof.Machine.execAcquisitionTimeout n s
  | .overrangeWindowEnd n w => Sys2Proof.Machine.execOverrangeWindowEnd n w s
  | .frequencyLock n seen => Sys2Proof.Machine.execFrequencyLock n seen s
  | .phaseLock seen => Sys2Proof.Machine.execPhaseLock seen s
  | .innerLock n tried zeros => Sys2Proof.Machine.execInnerLock n tried zeros s
  | .frameLock n tried zeros => Sys2Proof.Machine.execFrameLock n tried zeros s
  | .parityLock n phase => Sys2Proof.Machine.execParityLock n phase s
  | .lockLoss n cause mean => Sys2Proof.Machine.execLockLoss n cause mean s
  | .reacq n => Sys2Proof.Machine.execReacq n s
  | .adaptHold n hold => Sys2Proof.Machine.execAdaptHold n hold s
  | .gainSetWrite n g => Sys2Proof.Machine.execGainSetWrite n g s
  | .trimBoundary b => Sys2Proof.Machine.execTrimBoundary b s
  | .adaptUpdate n g => Sys2Proof.Machine.execAdaptUpdate n g s
  | .innerCodeword n hard soft => Sys2Proof.Machine.execInnerCodeword n hard soft s
  | .codewordArrival n k cw => Sys2Proof.Machine.execCodewordArrival n k cw s
  | .engineIdle e => Sys2Proof.Machine.execEngineIdle e s
  | .passEnd e r => Sys2Proof.Machine.execPassEnd e r s
  | .correctionRecordTaken e => Sys2Proof.Machine.execCorrectionRecordTaken e s
  | .codewordRelease n => Sys2Proof.Machine.execCodewordRelease n s
  | .tideGaugeWindow period => Sys2Proof.Machine.execTideGaugeWindow period s
  | .loopInterval => Sys2Proof.Machine.execLoopInterval s
  | .vgood => Sys2Proof.Machine.execVgood s
  | .poolSupplyCfgWrite w => Sys2Proof.Machine.execPoolSupplyCfgWrite w s
  | .loopEnWrite en interval => Sys2Proof.Machine.execLoopEnWrite en interval s
  | .negStart => Sys2Proof.Machine.execNegStart s
  | .negExit => Sys2Proof.Machine.execNegExit s
  | .capMessage n b => Sys2Proof.Machine.execCapMessage n b s
  | .proposeMessage n mask portMap => Sys2Proof.Machine.execProposeMessage n mask portMap s
  | .acceptMessage n mask portMap => Sys2Proof.Machine.execAcceptMessage n mask portMap s
  | .refuseMessage n reason => Sys2Proof.Machine.execRefuseMessage n reason s
  | .commitMessage n mask => Sys2Proof.Machine.execCommitMessage n mask s
  | .exitMessage n mask reason => Sys2Proof.Machine.execExitMessage n mask reason s
  | .stateMessage n native locked => Sys2Proof.Machine.execStateMessage n native locked s
  | .stateTimer => Sys2Proof.Machine.execStateTimer s
  | .negResponseTimeout => Sys2Proof.Machine.execNegResponseTimeout s
  | .liveTimeout => Sys2Proof.Machine.execLiveTimeout s
  | .hostCodeword j bits zero slip => Sys2Proof.Machine.execHostCodeword j bits zero slip s
  | .rehunt n => Sys2Proof.Machine.execRehunt n s
  | .groupRelease n => Sys2Proof.Machine.execGroupRelease n s
  | .txStateRequest n v => Sys2Proof.Machine.execTxStateRequest n v s
  | .txTransitionDone n => Sys2Proof.Machine.execTxTransitionDone n s
  | .txBoundary n sat => Sys2Proof.Machine.execTxBoundary n sat s
  | .txonTimeout n => Sys2Proof.Machine.execTxonTimeout n s
  | .txdisnFall => Sys2Proof.Machine.execTxdisnFall s
  | .txdisnRise => Sys2Proof.Machine.execTxdisnRise s
  | .txDisWrite n v => Sys2Proof.Machine.execTxDisWrite n v s
  | .powerIdxWrite n idx => Sys2Proof.Machine.execPowerIdxWrite n idx s
  | .dpdLutWrite n j v => Sys2Proof.Machine.execDpdLutWrite n j v s
  | .bypassWrite n v => Sys2Proof.Machine.execBypassWrite n v s
  | .dpdWindowEnd n seen => Sys2Proof.Machine.execDpdWindowEnd n seen s
  | .dpdReport n epoch window dev => Sys2Proof.Machine.execDpdReport n epoch window dev s
  | .dpdApplied n epoch => Sys2Proof.Machine.execDpdApplied n epoch s
  | .dpdPeriodExpiry n => Sys2Proof.Machine.execDpdPeriodExpiry n s
  | .pilotInjectionMove n => Sys2Proof.Machine.execPilotInjectionMove n s
  | .hostPllLock k => Sys2Proof.Machine.execHostPllLock k s
  | .signalDetect k => Sys2Proof.Machine.execSignalDetect k s
  | .cdrLock k => Sys2Proof.Machine.execCdrLock k s
  | .adaptSessionEnd k m => Sys2Proof.Machine.execAdaptSessionEnd k m s
  | .markerLock k inPlace => Sys2Proof.Machine.execMarkerLock k inPlace s
  | .hostLos k => Sys2Proof.Machine.execHostLos k s
  | .cdrLoss k => Sys2Proof.Machine.execCdrLoss k s
  | .amLoss k => Sys2Proof.Machine.execAmLoss k s
  | .freqMismatch k => Sys2Proof.Machine.execFreqMismatch k s
  | .recoveryDue k => Sys2Proof.Machine.execRecoveryDue k s
  | .adaptRun k => Sys2Proof.Machine.execAdaptRun k s
  | .lpRequest k v => Sys2Proof.Machine.execLpRequest k v s
  | .lpTransitionDone k => Sys2Proof.Machine.execLpTransitionDone k s
  | .pilotFrameStart n => Sys2Proof.Machine.execPilotFrameStart n s
  | .class4Handover n => Sys2Proof.Machine.execClass4Handover n s
  | .fabricFrameExpiry n => Sys2Proof.Machine.execFabricFrameExpiry n s
  | .syncDetection n metrics near => Sys2Proof.Machine.execSyncDetection n metrics near s
  | .headerReceived n header => Sys2Proof.Machine.execHeaderReceived n header s
  | .frameReceived n bytes crc buffered => Sys2Proof.Machine.execFrameReceived n bytes crc buffered s
  | .syncLoss n => Sys2Proof.Machine.execSyncLoss n s
  | .resync n => Sys2Proof.Machine.execResync n s
  | .evmUpdate n errs powers chain => Sys2Proof.Machine.execEvmUpdate n errs powers chain s
  | .loadmap n ident preset pq rec codes => Sys2Proof.Machine.execLoadmap n ident preset pq rec codes s
  | .loadreq n preset => Sys2Proof.Machine.execLoadreq n preset s
  | .loadmapTimeout n => Sys2Proof.Machine.execLoadmapTimeout n s
  | .thermal n level step hot grade => Sys2Proof.Machine.execThermal n level step hot grade s
  | .spiWrite addr words => Sys2Proof.Machine.execSpiWrite addr words s
  | .spiRead addr count => Sys2Proof.Machine.execSpiRead addr count s
  | .cmisWindowAccess page bank index write => Sys2Proof.Machine.execCmisWindowAccess page bank index write s
  | .registerPortRead addr => Sys2Proof.Machine.execRegisterPortRead addr s
  | .registerPortWrite addr w => Sys2Proof.Machine.execRegisterPortWrite addr w s
  | .ringEnable => Sys2Proof.Machine.execRingEnable s
  | .ringDisable => Sys2Proof.Machine.execRingDisable s
  | .drainComplete => Sys2Proof.Machine.execDrainComplete s
  | .doorbell v => Sys2Proof.Machine.execDoorbell v s
  | .manifestStart => Sys2Proof.Machine.execManifestStart s
  | .manifestComplete => Sys2Proof.Machine.execManifestComplete s
  | .manifestTimeout slot => Sys2Proof.Machine.execManifestTimeout slot s
  | .completionConsumed v => Sys2Proof.Machine.execCompletionConsumed v s
  | .eventConsumed v => Sys2Proof.Machine.execEventConsumed v s
  | .reset => Sys2Proof.Machine.execReset s
  | .status => Sys2Proof.Machine.execStatus s
  | .identify => Sys2Proof.Machine.execIdentify s
  | .regRead => Sys2Proof.Machine.execRegRead s
  | .regWrite => Sys2Proof.Machine.execRegWrite s
  | .commit => Sys2Proof.Machine.execCommit s
  | .laneState => Sys2Proof.Machine.execLaneState s
  | .hostLp => Sys2Proof.Machine.execHostLp s
  | .hostAdapt => Sys2Proof.Machine.execHostAdapt s
  | .native => Sys2Proof.Machine.execNative s
  | .powerState => Sys2Proof.Machine.execPowerState s
  | .snapshot => Sys2Proof.Machine.execSnapshot s
  | .lookoutRead => Sys2Proof.Machine.execLookoutRead s
  | .monConvert => Sys2Proof.Machine.execMonConvert s
  | .monCal => Sys2Proof.Machine.execMonCal s
  | .calSave ok => Sys2Proof.Machine.execCalSave ok s
  | .fwWrite ok => Sys2Proof.Machine.execFwWrite ok s
  | .fwActivate slot => Sys2Proof.Machine.execFwActivate slot s
  | .attest reply => Sys2Proof.Machine.execAttest reply s
  | .keyInstall c => Sys2Proof.Machine.execKeyInstall c s
  | .debugUnlock c => Sys2Proof.Machine.execDebugUnlock c s
  | .realmSet => Sys2Proof.Machine.execRealmSet s
  | .mftCommit group => Sys2Proof.Machine.execMftCommit group s
  | .stagedGroupLive group => Sys2Proof.Machine.execStagedGroupLive group s
  | .commitTimeout group => Sys2Proof.Machine.execCommitTimeout group s
  | .remoteTimeout rid => Sys2Proof.Machine.execRemoteTimeout rid s
  | .cmisLowpwrRequest => Sys2Proof.Machine.execCmisLowpwrRequest s
  | .cmisLowpwrRelease => Sys2Proof.Machine.execCmisLowpwrRelease s
  | .cmisTxDisable n v => Sys2Proof.Machine.execCmisTxDisable n v s
  | .cmisDatapathDeinit k => Sys2Proof.Machine.execCmisDatapathDeinit k s
  | .cmisDatapathInit k => Sys2Proof.Machine.execCmisDatapathInit k s
  | .cmisRxOutputDisable k => Sys2Proof.Machine.execCmisRxOutputDisable k s
  | .cmisRxOutputEnable k => Sys2Proof.Machine.execCmisRxOutputEnable k s
  | .hawserFrame p first body last => Sys2Proof.Machine.execHawserFrame p first body last s
  | .hawserSyncAcquired p => Sys2Proof.Machine.execHawserSyncAcquired p s
  | .hawserSyncLost p => Sys2Proof.Machine.execHawserSyncLost p s
  | .messageForward link msg => Sys2Proof.Machine.execMessageForward link msg s
  | .beacon link msg => Sys2Proof.Machine.execBeacon link msg s
  | .route link msg => Sys2Proof.Machine.execRoute link msg s
  | .hmAnnounce link msg => Sys2Proof.Machine.execHmAnnounce link msg s
  | .addrReq link msg => Sys2Proof.Machine.execAddrReq link msg s
  | .addrGrant link msg => Sys2Proof.Machine.execAddrGrant link msg s
  | .record link msg => Sys2Proof.Machine.execRecord link msg s
  | .recordAck link msg => Sys2Proof.Machine.execRecordAck link msg s
  | .recordPull link msg => Sys2Proof.Machine.execRecordPull link msg s
  | .manifestMessage link msg => Sys2Proof.Machine.execManifestMessage link msg s
  | .completionMessage link msg => Sys2Proof.Machine.execCompletionMessage link msg s
  | .dataMessage link msg => Sys2Proof.Machine.execDataMessage link msg s
  | .resend link msg => Sys2Proof.Machine.execResend link msg s
  | .nonce link msg => Sys2Proof.Machine.execNonce link msg s
  | .unreach link msg => Sys2Proof.Machine.execUnreach link msg s
  | .ack link msg => Sys2Proof.Machine.execAck link msg s
  | .beaconTimer => Sys2Proof.Machine.execBeaconTimer s
  | .adjacencyTimeout link => Sys2Proof.Machine.execAdjacencyTimeout link s
  | .quaymasterDeclare => Sys2Proof.Machine.execQuaymasterDeclare s
  | .harbourMasterDeclare => Sys2Proof.Machine.execHarbourMasterDeclare s
  | .hmAnnounceTimer => Sys2Proof.Machine.execHmAnnounceTimer s
  | .addrReqRetry => Sys2Proof.Machine.execAddrReqRetry s
  | .proposalTimeout => Sys2Proof.Machine.execProposalTimeout s
  | .hoursAdvance => Sys2Proof.Machine.execHoursAdvance s
  | .routeTimer => Sys2Proof.Machine.execRouteTimer s
  | .routeExpiry level number => Sys2Proof.Machine.execRouteExpiry level number s
  | .manifestResend rid => Sys2Proof.Machine.execManifestResend rid s
  | .ridExpiry src rid => Sys2Proof.Machine.execRidExpiry src rid s
  | .outputReleaseTimeout => Sys2Proof.Machine.execOutputReleaseTimeout s
  | .authorityLapse => Sys2Proof.Machine.execAuthorityLapse s
  | .islandSet v => Sys2Proof.Machine.execIslandSet v s
  | .oldKeyErase => Sys2Proof.Machine.execOldKeyErase s
  | .powerOnReset => Sys2Proof.Machine.execPowerOnReset s
  | .resetnFall width => Sys2Proof.Machine.execResetnFall width s
  | .resetnRise run => Sys2Proof.Machine.execResetnRise run s
  | .railGood r run => Sys2Proof.Machine.execRailGood r run s
  | .railFault r => Sys2Proof.Machine.execRailFault r s
  | .refclkAppear run => Sys2Proof.Machine.execRefclkAppear run s
  | .refclkLoss => Sys2Proof.Machine.execRefclkLoss s
  | .vddPoolFault => Sys2Proof.Machine.execVddPoolFault s
  | .wdtKick w => Sys2Proof.Machine.execWdtKick w s
  | .wdtHalf => Sys2Proof.Machine.execWdtHalf s
  | .watchdogExpiry pc => Sys2Proof.Machine.execWatchdogExpiry pc s
  | .wdtLock => Sys2Proof.Machine.execWdtLock s
  | .fullReset cause run => Sys2Proof.Machine.execFullReset cause run s
  | .crossingReopen dom => Sys2Proof.Machine.execCrossingReopen dom s
  | .islandStall x => Sys2Proof.Machine.execIslandStall x s
  | .clockGateWake dom => Sys2Proof.Machine.execClockGateWake dom s
  | .counterLowRead rq addr => Sys2Proof.Machine.execCounterLowRead rq addr s
  | .powerStateRequest v => Sys2Proof.Machine.execPowerStateRequest v s
  | .wfiSleep mMode => Sys2Proof.Machine.execWfiSleep mMode s
  | .powerTransitionDone => Sys2Proof.Machine.execPowerTransitionDone s
  | .sleepTimeout => Sys2Proof.Machine.execSleepTimeout s
  | .wakenFall => Sys2Proof.Machine.execWakenFall s
  | .wakeTimer => Sys2Proof.Machine.execWakeTimer s
  | .hostAccessWake => Sys2Proof.Machine.execHostAccessWake s
  | .offBlockWrite addr w => Sys2Proof.Machine.execOffBlockWrite addr w s
  | .wakeStart run => Sys2Proof.Machine.execWakeStart run s
  | .retentionReloadDone => Sys2Proof.Machine.execRetentionReloadDone s
  | .opReqWrite v floor => Sys2Proof.Machine.execOpReqWrite v floor s
  | .vgoodCore => Sys2Proof.Machine.execVgoodCore s
  | .thermalSample t => Sys2Proof.Machine.execThermalSample t s
  | .graceExpiry => Sys2Proof.Machine.execGraceExpiry s
  | .e2DelayExpiry => Sys2Proof.Machine.execE2DelayExpiry s
  | .releaseExpiry => Sys2Proof.Machine.execReleaseExpiry s
  | .thermalReportTimer => Sys2Proof.Machine.execThermalReportTimer s
  | .enfMinWrite v => Sys2Proof.Machine.execEnfMinWrite v s
  | .monInj ch => Sys2Proof.Machine.execMonInj ch s
  | .integrationBoundary a => Sys2Proof.Machine.execIntegrationBoundary a s
  | .resultWritten => Sys2Proof.Machine.execResultWritten s
  | .calGo => Sys2Proof.Machine.execCalGo s
  | .calStepComplete => Sys2Proof.Machine.execCalStepComplete s
  | .monCalTimeout => Sys2Proof.Machine.execMonCalTimeout s
  | .bdacCodeWrite k w => Sys2Proof.Machine.execBdacCodeWrite k w s
  | .bdacClrWrite k w => Sys2Proof.Machine.execBdacClrWrite k w s
  | .clrnFall => Sys2Proof.Machine.execClrnFall s
  | .clrnRise => Sys2Proof.Machine.execClrnRise s
  | .clrRel => Sys2Proof.Machine.execClrRel s
  | .estimationWindowEnd n est => Sys2Proof.Machine.execEstimationWindowEnd n est s
  | .trimWrite n t w => Sys2Proof.Machine.execTrimWrite n t w s
  | .scrubAccess m => Sys2Proof.Machine.execScrubAccess m s
  | .historyExpiry => Sys2Proof.Machine.execHistoryExpiry s
  | .unpoison => Sys2Proof.Machine.execUnpoison s
  | .errorInject => Sys2Proof.Machine.execErrorInject s
  | .bistSliceStart => Sys2Proof.Machine.execBistSliceStart s
  | .bistSliceEnd e pass => Sys2Proof.Machine.execBistSliceEnd e pass s
  | .nrSubslice b r => Sys2Proof.Machine.execNrSubslice b r s
  | .arm => Sys2Proof.Machine.execArm s
  | .force => Sys2Proof.Machine.execForce s
  | .stop => Sys2Proof.Machine.execStop s
  | .lookoutSample x => Sys2Proof.Machine.execLookoutSample x s
  | .holdoffEnd => Sys2Proof.Machine.execHoldoffEnd s
  | .lookoutRearm => Sys2Proof.Machine.execLookoutRearm s
  | .freeze v => Sys2Proof.Machine.execFreeze v s
  | .snap => Sys2Proof.Machine.execSnap s
  | .freezeInstant => Sys2Proof.Machine.execFreezeInstant s
  | .clrAll => Sys2Proof.Machine.execClrAll s
  | .evselWrite j w => Sys2Proof.Machine.execEvselWrite j w s
  | .svnAdv => Sys2Proof.Machine.execSvnAdv s
  | .jtagAccess op => Sys2Proof.Machine.execJtagAccess op s
  | .jtagZeroise => Sys2Proof.Machine.execJtagZeroise s
  | .sysLiveAddrWrite rq w => Sys2Proof.Machine.execSysLiveAddrWrite rq w s
  | .liveDataRead rq => Sys2Proof.Machine.execLiveDataRead rq s
  | .registerWrite rq addr w => Sys2Proof.Machine.execRegisterWrite rq addr w s
  | .porRelease => Sys2Proof.Machine.execPorRelease s
  | .trngFail => Sys2Proof.Machine.execTrngFail s
  | .trngOk => Sys2Proof.Machine.execTrngOk s
  | .svnDone => Sys2Proof.Machine.execSvnDone s
  | .codeReloadDone ok => Sys2Proof.Machine.execCodeReloadDone ok s
  | .cdbCommand c => Sys2Proof.Machine.execCdbCommand c s
  | .clockGateStop dom => Sys2Proof.Machine.execClockGateStop dom s
  | .hostTxHalfRun k => Sys2Proof.Machine.execHostTxHalfRun k s
  | .idleGroupBoundary n => Sys2Proof.Machine.execIdleGroupBoundary n s
  | .corePllUnlock pll => Sys2Proof.Machine.execCorePllUnlock pll s
  | .monResRead rq k => Sys2Proof.Machine.execMonResRead rq k s

end Sys2Proof.Machine
end

