-- ==== Sys2Proof/Safety.lean ====
section
/-! DEFINITION. What a safe step is, and the words in which statements say what a command does: its own changes, and at most the event entries that raising a flag posts beside them. -/

namespace Sys2Proof.Machine

/-- A step from `s` ends in a next state: no fault and no refusal. -/
def Safe (s : State) : Prop := ∃ t, step s = .next t

/-- A step that ends in a fault or a refusal. -/
def Stuck (s : State) : Prop := ¬ Safe s

/-- Registers that the posting of an event writes (R298, R316 to R318, R518): MFT_EVT_PI, MFT_INT_STATUS, MFT_EVT_LOST, and MEM_CORR_LO,
MEM_CORR_HI and MEM_LAST_CORR where the device's own store mends the block it meets. -/
def eventRegs : List Nat :=
  [F.MFT_EVT_PI.addr, F.MFT_INT_STATUS.addr, F.MFT_EVT_LOST.addr, F.MEM_CORR.addr, F.MEM_CORR.addr + 4, F.MEM_LAST_CORR.addr]

/-- Entries that the event ring has room for, its producer index included. -/
def Device.evtRoom (d : Device) : Nat := max d.evtSize (d.get F.MFT_EVT_PI_IDX + 1)

/-- A memory address lies in a block of the event ring. -/
def Device.inEventRing (d : Device) (a : Nat) : Prop :=
  blockOf a ∈ blocksOf (windowAddr (d.get F.MFT_EVT_BASE)) (16 * d.evtRoom)

/-- `e` is `d` with at most some events posted: the rings' event entries, indices and flags, and the queue of held events, may differ, and
nothing else. -/
structure Posted (d e : Device) : Prop where
  rest : ∃ regs mem errs poisoned evtPhase held lost,
    e = { d with regs := regs, mem := mem, errs := errs, poisoned := poisoned,
                 mft := { d.mft with evtPhase := evtPhase, held := held, lost := lost } }
  regs : ∀ a, a ∉ eventRegs → e.reg a = d.reg a
  /-- of MFT_INT_STATUS only EVT and EVT_OVERFLOW change -/
  flags : ∀ i, i ≠ 4 → i ≠ 5 → (e.reg F.MFT_INT_STATUS.addr).getLsbD i = (d.reg F.MFT_INT_STATUS.addr).getLsbD i
  bytes : ∀ a, ¬ d.inEventRing a → e.byte a = d.byte a
  room : e.evtRoom ≤ d.evtRoom

/-- The command completes, leaves the queue alone, and turns the device into `d'`, up to posted events. -/
def Does (c : Instr) (s : State) (d' : Device) : Prop :=
  ∃ t, exec c s = .next t ∧ t.pending = s.pending ∧ Posted d' t.dev

/-- The command completes, leaves the queue alone, and the device it leaves satisfies `P`. -/
def Gives (c : Instr) (s : State) (P : Device → Prop) : Prop :=
  ∃ t, exec c s = .next t ∧ t.pending = s.pending ∧ P t.dev

/-- A message that arrives on a link is accepted, and `e` is the device after its checks, a flood's onward copies sent (R330, R334, R352 to R354). -/
def Device.Received (d : Device) (i : Link) (m : FabMsg) (e : Device) : Prop :=
  d.fabUp = true ∧ d.linkUp i = true ∧
    ((m.link = true ∧ d.trustLink i m = (e, true)) ∨
     (m.link = false ∧ m.flood = false ∧ d.ownAddr = some m.dst ∧ d.trustUni m = (e, true)) ∨
     (m.link = false ∧ m.flood = true ∧ m.srcId ≠ Config.identity ∧ (d.forward i m).islBnd i = false ∧
       ∃ d1, (d.forward i m).tagCheck m (d.forward i m).acceptKeys = (d1, true) ∧ d1.replayCheck m = (e, true)))

/-- The started manifest of an opcode that its command runs, if one has started. -/
def Device.begunOf (d : Device) (op : Nat) : Option Manifest := d.mft.begun.find? fun m => m.desc.opcode == op

/-- The device with that manifest taken up. -/
def Device.takenUp (d : Device) (op : Nat) : Device :=
  d.modMft fun x => { x with begun := x.begun.eraseP fun y => y.desc.opcode == op }

/-- From `d` to `e` exactly one more manifest has completed: `m`, with this status. -/
def Device.ends (d e : Device) (m : Manifest) (status : Nat) : Prop :=
  ∃ r0 r1, e.mft.done = d.mft.done ++ [{ man := m, status := status, r0 := r0, r1 := r1 }]

/-- The same, with RESULT0. -/
def Device.endsWith (d e : Device) (m : Manifest) (status : Nat) (r0 : Word) : Prop :=
  ∃ r1, e.mft.done = d.mft.done ++ [{ man := m, status := status, r0 := r0, r1 := r1 }]

/-- The register space, its live copies, the counter shadows and memory are in canonical form. -/
structure Canonical (d : Device) : Prop where
  regs : Sparse.wf regReset d.regs = true
  live : Sparse.wf regReset d.live = true
  snap : Sparse.wf regReset d.snap = true
  mem : Memory.wf d.mem = true

end Sys2Proof.Machine
end

