-- ==== Sys2Proof/Certificates/Slice0/Obligations.lean ====
section
/-! DEFINITION. The statements for the provers, each a proposition about the model. -/

open Sys2Proof Sys2Proof.Machine

/-! ### The machine as a whole -/

/-- A step with a command in front of the queue is that command's effect, with the rest of the queue. -/
def Obligations.StepRunsFrontCommand : Prop :=
  ∀ (s : State) (c : Instr) (rest : List Instr), s.pending = c :: rest → step s = exec c { s with pending := rest }

/-- With nothing waiting a step is one tick of 1 ns of the REF timebase (the model's choice, log entry 1): time advances by one and the queue
stays empty; while VDD_AON is out of range nothing runs. -/
def Obligations.IdleStepTicks : Prop :=
  ∀ s : State, s.pending = [] →
    ∃ t, step s = .next t ∧ t.pending = [] ∧ (s.dev.sup.aonGood = true → t.dev.now = s.dev.now + 1) ∧
      (s.dev.sup.aonGood = false → t = s)

/-- Every command of the table completes in every state, whatever waits behind it: its effect on the device does not depend on the queue,
and the queue is left alone. -/
def Obligations.EveryCommandCompletes : Prop :=
  ∀ (c : Instr) (d : Device), ∃ e : Device, ∀ q : List Instr, exec c { dev := d, pending := q } = .next { dev := e, pending := q }

/-- A queue of commands is served to its end, first in first out, with no fault and no refusal: as many steps as there are commands empty
it, and the device then is what the commands' effects make one after another. -/
def Obligations.QueueIsServedInOrder : Prop :=
  ∀ (cs : List Instr) (d : Device), ∃ ds : List Device,
    ds.length = cs.length + 1 ∧ ds.head? = some d ∧
    (∀ i, ∀ c, cs[i]? = some c → ∃ a b, ds[i]? = some a ∧ ds[i + 1]? = some b ∧ exec c { dev := a, pending := [] } = .next { dev := b, pending := [] }) ∧
    ∃ e, ds.getLast? = some e ∧ Sys2Proof.core.run cs.length { dev := d, pending := cs } = .next { dev := e, pending := [] }

/-- A field of a register that is set reads back the value, to its width; every field that shares no bit with it reads as before, in every
register; and the live copies, the counter shadows and memory are as they were. -/
def Obligations.SetFieldReadsBack : Prop :=
  ∀ (d : Device) (f : Fld) (v : Nat), f.lo ≤ f.hi → f.hi < 32 →
    (d.set f v).get f = v % 2 ^ (f.hi - f.lo + 1) ∧
    (∀ g : Fld, g.lo ≤ g.hi → g.hi < 32 → (f.addr ≠ g.addr ∨ f.hi < g.lo ∨ g.hi < f.lo) → (d.set f v).get g = d.get g) ∧
    (∀ a, a ≠ f.addr → (d.set f v).reg a = d.reg a) ∧
    (d.set f v).live = d.live ∧ (d.set f v).snap = d.snap ∧ (d.set f v).mem = d.mem

/-- Raising a flag of an interrupt status register sets it, posts at most its event, and does nothing else; a flag that is 1 already posts
nothing (R316). -/
def Obligations.RaisingAFlag : Prop :=
  ∀ (d : Device) (f : Fld) (data : Word), f.hi = f.lo → f.hi < 32 →
    Posted (d.set f 1) (d.raise f data) ∧ (d.get f = 1 → d.raise f data = d)

/-- In every state the register file, its live copies, the counter shadows and memory stay in their canonical form over a step: addresses
strictly rising, and no entry equal to what an unlisted address reads as. -/
def Obligations.CanonicalFormIsKept : Prop :=
  ∀ s t : State, Canonical s.dev → step s = .next t → Canonical t.dev

/-- The canonical form holds at reset. -/
def Obligations.CanonicalFormAtReset : Prop := Canonical State.reset.dev

/-! ### Line receive (chapter 2) -/

/-- Frequency lock, phase lock, the adaptation hold and GAIN_SET: each sets its own registers and leaves everything else. Frequency lock
counts from step 3 to step 6 with LOS clear, an offset within ±300 ppm and a change below 2 ppm; phase lock at step 6 with a mean within
±1/32 UI; outside these bounds nothing changes. GAIN_SET waits for the trim boundary of a tracking lane, and is only stored under AUTO. -/
def Obligations.ReceiveLocksAndGain : Prop :=
  ∀ (s : State) (n : Lane),
    (∀ freq change : Int, 3 ≤ s.dev.get (F.LRX_STATUS_ACQ_STEP n) → s.dev.get (F.LRX_STATUS_ACQ_STEP n) ≤ 6 →
      (s.dev.get (F.LRX_STATUS_LOS n) = 0 → freq.natAbs ≤ 300000 → change.natAbs < 2000 →
        Does (.frequencyLock n ⟨freq, change⟩) s
          (((s.dev.set (F.LRX_CDR_FREQ n) (ofSigned 20 freq)).set (F.LRX_STATUS_FREQ_LOCK n) 1).set (F.LRX_STATUS_ACQ_STEP n) 6)) ∧
      ((300000 < freq.natAbs ∨ 2000 ≤ change.natAbs) → Does (.frequencyLock n ⟨freq, change⟩) s s.dev)) ∧
    (∀ mean : Int, s.dev.get (F.LRX_STATUS_ACQ_STEP n) = 6 →
      (mean.natAbs ≤ 128 →
        Does (.phaseLock ⟨n, mean⟩) s ((s.dev.set (F.LRX_STATUS_PHASE_LOCK n) 1).set (F.LRX_STATUS_ACQ_STEP n) 7)) ∧
      (128 < mean.natAbs → Does (.phaseLock ⟨n, mean⟩) s s.dev)) ∧
    (∀ h : Bool, Does (.adaptHold n h) s (s.dev.set (F.LRX_CTRL_ADAPT_HOLD n) h.toNat)) ∧
    (∀ g : BitVec 4, s.dev.get (F.LRX_TIA_AUTO n) = 1 → Does (.gainSetWrite n g) s (s.dev.set (F.LRX_TIA_GAIN_SET n) g.toNat)) ∧
    (∀ g : BitVec 4, s.dev.get (F.LRX_TIA_AUTO n) = 0 → s.dev.get (F.LRX_STATUS_ACQ_STEP n) = 8 →
      Does (.gainSetWrite n g) s
        ((s.dev.set (F.LRX_TIA_GAIN_SET n) g.toNat).modRx n fun r => { r with gainSet := some g.toNat }))

/-- R63. ADAPT_HOLD at 1 on a tracking lane leaves every coefficient where it is at an update interval; set during acquisition it changes
nothing about the updates that run then; and an update with the bit back at 0 starts from the coefficients that were held. -/
def Obligations.AdaptHoldStopsTheLoops : Prop :=
  ∀ (s : State) (n : Lane) (g : Gradients), (s.dev.rx.get n).coefWrites = [] →
    (s.dev.tracking n = true → s.dev.get (F.LRX_CTRL_ADAPT_HOLD n) = 1 →
      Gives (.adaptUpdate n g) s fun e => (e.rx.get n).coef = (s.dev.rx.get n).coef) ∧
    (s.dev.tracking n = false → ∀ h : Bool,
      ∃ a b, exec (.adaptUpdate n g) { s with dev := s.dev.set (F.LRX_CTRL_ADAPT_HOLD n) h.toNat } = .next a ∧
        exec (.adaptUpdate n g) s = .next b ∧ (a.dev.rx.get n).coef = (b.dev.rx.get n).coef) ∧
    (s.dev.tracking n = true → s.dev.get (F.LRX_CTRL_ADAPT_HOLD n) = 0 → s.dev.get (F.LRX_ADAPT_FFE_MU_TRK n) = 14 →
      s.dev.get (F.LRX_FFE_CFG_TAPS24 n) = 0 → ∀ k, k < 40 → k ≠ s.dev.lget (F.LRX_FFE_CFG_CURSOR n) →
      Gives (.adaptUpdate n g) s fun e => (e.rx.get n).coef.ffe.getD k 0 =
        clampInt (-(2 ^ 23)) (2 ^ 23 - 1) ((s.dev.rx.get n).coef.ffe.getD k 0 - g.ffe.getD k 0))

/-- Acquisition. A step of Table 2-6 that runs out of time restarts at step 3, counts ACQ_RETRY and one failed attempt (R75); REACQ
restarts at step 3 with every coefficient 0 and counts nothing (R76); alignment takes a standard lane into tracking, with the codeword count
at 0. Of the 64 symbol offsets a native lane locks at the first with 128 zero syndromes (R148), and of the 272 starts at the first with 8
(R149), which starts its hunt for the group phase. -/
def Obligations.AcquisitionSteps : Prop :=
  ∀ (s : State) (n : Lane),
    (2 ≤ s.dev.get (F.LRX_STATUS_ACQ_STEP n) → s.dev.get (F.LRX_STATUS_ACQ_STEP n) < 8 → s.dev.get (F.LRX_STATUS_LOS n) = 0 →
      Gives (.acquisitionTimeout n) s fun e => e.get (F.LRX_STATUS_ACQ_STEP n) = 3 ∧
        e.get (F.LRX_LOCK_EVENTS_ACQ_RETRY n) = (s.dev.get (F.LRX_LOCK_EVENTS_ACQ_RETRY n) + 1) % 2 ^ 16 ∧
        (e.rx.get n).attempts = (s.dev.rx.get n).attempts + 1) ∧
    (2 ≤ s.dev.get (F.LRX_STATUS_ACQ_STEP n) → s.dev.get (F.LRX_STATUS_LOS n) = 0 →
      Gives (.reacq n) s fun e => e.get (F.LRX_STATUS_ACQ_STEP n) = 3 ∧ (e.rx.get n).coef = Coefs.reset ∧
        e.get (F.LRX_LOCK_EVENTS_ACQ_RETRY n) = s.dev.get (F.LRX_LOCK_EVENTS_ACQ_RETRY n) ∧
        (e.rx.get n).attempts = (s.dev.rx.get n).attempts) ∧
    (∀ (tried : List Nat) (z : Nat), s.dev.get (F.LRX_STATUS_ACQ_STEP n) = 7 → s.dev.rate n = 1 → s.dev.blockTxRun n = true →
      Gives (.innerLock n tried z) s fun e => e.tracking n = true ∧ e.get (F.LRX_STATUS_INNER_LOCK n) = 1 ∧
        (e.rx.get n).cwCount = 0 ∧ (e.rx.get n).attempts = 0) ∧
    (∀ (tried zeros : List Nat) (z o : Nat), tried ++ [z] = zeros → s.dev.get (F.LRX_STATUS_ACQ_STEP n) = 7 → s.dev.rate n = 2 → s.dev.blockTxRun n = true →
      (o < 64 → o < zeros.length → 128 ≤ zeros.getD o 0 → (∀ i, i < o → zeros.getD i 0 < 128) →
        Does (.innerLock n tried z) s ((s.dev.set (F.LRX_STATUS_INNER_LOCK n) 1).modRx n fun r => { r with innerOffset := o })) ∧
      ((∀ x ∈ zeros, x < 128) → Does (.innerLock n tried z) s s.dev)) ∧
    (∀ (tried zeros : List Nat) (z p : Nat), tried ++ [z] = zeros → s.dev.get (F.LRX_STATUS_ACQ_STEP n) = 8 → s.dev.rate n = 2 →
      s.dev.get (F.LRX_STATUS_INNER_LOCK n) = 1 → s.dev.get (F.LRX_BW_STATUS_FRAME_LOCK n) = 0 →
      (p < 272 → p < zeros.length → 8 ≤ zeros.getD p 0 → (∀ i, i < p → zeros.getD i 0 < 8) →
        Gives (.frameLock n tried z) s fun e => e.get (F.LRX_BW_STATUS_FRAME_LOCK n) = 1 ∧ e.get (F.LRX_BW_STATUS_PARITY_HUNT n) = 1 ∧
          e.get (F.LRX_BW_STATUS_PHASE n) = 0 ∧ (e.rx.get n).frameStart = p) ∧
      ((∀ x ∈ zeros, x < 8) → Does (.frameLock n tried z) s s.dev))

/-- Requests to a receive half. One that arrives during a transition is recorded and replaces the queued request, and one that is not for
RXON ends any acquisition at once; on an idle half in OFF a request for SYNTH starts towards REF with SYNTH queued; the value the field
holds, and a code above 4, make no request; a transition reports its state before the queued request starts (R70). -/
def Obligations.ReceiveHalfRequests : Prop :=
  ∀ (s : State) (n : Lane), s.dev.mft.waiting = [] → s.dev.laneHold = false → s.dev.get F.PWR_STATUS_STATE ≤ 1 →
    s.dev.get F.PWR_STATUS_TRANS ≠ 1 → s.dev.sup.reload = 0 →
    (∀ v : BitVec 3, v.toNat ≤ 4 → v.toNat ≠ 3 → v.toNat ≠ s.dev.get (F.LRX_STATE_RX_STATE_REQ n) →
      s.dev.get (F.LRX_STATE_RX_TRANS n) ≠ 7 →
      Does (.rxStateRequest n v) s (((s.dev.set (F.LRX_STATE_RX_STATE_REQ n) v.toNat).set (F.LRX_STATUS_ACQ_STEP n) 0).set
        (F.LRX_STATE_RX_PENDING n) (if s.dev.get (F.LRX_STATE_RX_TRANS n) = v.toNat then 7 else v.toNat))) ∧
    (s.dev.get (F.LRX_STATE_RX_STATE_REQ n) ≠ 2 → s.dev.get (F.LRX_STATE_RX_STATE n) = 0 → s.dev.get (F.LRX_STATE_RX_TRANS n) = 7 →
      Does (.rxStateRequest n 2) s ((((s.dev.set (F.LRX_STATE_RX_STATE_REQ n) 2).set (F.LRX_STATUS_ACQ_STEP n) 0).set
        (F.LRX_STATE_RX_TRANS n) 1).set (F.LRX_STATE_RX_PENDING n) 2)) ∧
    (∀ v : BitVec 3, (v.toNat = s.dev.get (F.LRX_STATE_RX_STATE_REQ n) ∨ 4 < v.toNat) → Does (.rxStateRequest n v) s s.dev) ∧
    (s.dev.get (F.LRX_STATE_RX_STATE n) = 0 → s.dev.get (F.LRX_STATE_RX_TRANS n) = 1 → s.dev.get (F.LRX_STATE_RX_PENDING n) = 2 →
      Gives (.rxTransitionDone n) s fun e => e.get (F.LRX_STATE_RX_STATE n) = 1 ∧ e.get (F.LRX_STATE_RX_TRANS n) = 2 ∧
        e.get (F.LRX_STATE_RX_PENDING n) = 7) ∧
    (s.dev.get (F.LRX_STATE_RX_STATE n) = 0 → s.dev.get (F.LRX_STATE_RX_TRANS n) = 1 → s.dev.get (F.LRX_STATE_RX_PENDING n) = 7 →
      Gives (.rxTransitionDone n) s fun e => e.get (F.LRX_STATE_RX_STATE n) = 1 ∧ e.get (F.LRX_STATE_RX_TRANS n) = 7 ∧
        e.get (F.LRX_STATE_RX_PENDING n) = 7)

/-- A tracking lane. A window over the clip limit under AUTO leaves a step down to wait for the trim boundary (R77); loss of lock is counted,
holds the frequency given as the mean, takes up the saved coefficients and restarts at step 3 (R74); an inner codeword is counted, as
failed when none of the 16 candidates decodes, and as corrected when the chosen one differs from the hard decisions (R66); parity lock at the
phase under test takes a native lane to step 0xA and starts the DPD measurement. -/
def Obligations.TrackingLaneEvents : Prop :=
  ∀ (s : State) (n : Lane),
    (∀ w : WindowCount, s.dev.tracking n = true → s.dev.get (F.LRX_TIA_AUTO n) = 1 →
      (s.dev.rx.get n).stepInWindow = false → clipLimit (s.dev.rate n) < w.clips →
      Gives (.overrangeWindowEnd n w) s fun e => (e.rx.get n).step = some false ∧
        e.get (F.LRX_STATUS_GAIN_CUR n) = s.dev.get (F.LRX_STATUS_GAIN_CUR n)) ∧
    (∀ (c : LockCause) (mean : Int), s.dev.tracking n = true → s.dev.lossHolds n c = true → s.dev.get (F.LRX_STATUS_LOS n) = 0 →
      (s.dev.rx.get n).gainSet = none →
      Gives (.lockLoss n c mean) s fun e => e.get (F.LRX_STATUS_ACQ_STEP n) = 3 ∧ (e.rx.get n).coef = s.dev.usable n (s.dev.savedSet n) ∧
        e.get (F.LRX_CDR_FREQ n) = ofSigned 20 mean ∧
        e.get (F.LRX_LOCK_EVENTS_LOCK_LOSS n) = (s.dev.get (F.LRX_LOCK_EVENTS_LOCK_LOSS n) + 1) % 2 ^ 16) ∧
    (∀ (hard : BitVec 128) (soft : List Int), s.dev.get (F.LRX_STATUS_INNER_LOCK n) = 1 → s.dev.rate n ≠ 0 →
      s.dev.get F.PMU_STATUS_FROZEN = 0 →
      Gives (.innerCodeword n hard soft) s fun e =>
        e.pair (F.LRX_ICW_TOTAL n) = (s.dev.pair (F.LRX_ICW_TOTAL n) + 1) % 2 ^ 48 ∧
        (innerResult hard soft = none →
          e.pair (F.LRX_ICW_FAIL n) = (s.dev.pair (F.LRX_ICW_FAIL n) + 1) % 2 ^ 48 ∧
            e.pair (F.LRX_ICW_CORR n) = s.dev.pair (F.LRX_ICW_CORR n)) ∧
        (∀ flips, innerResult hard soft = some flips →
          e.pair (F.LRX_ICW_FAIL n) = s.dev.pair (F.LRX_ICW_FAIL n) ∧
            e.pair (F.LRX_ICW_CORR n) = (s.dev.pair (F.LRX_ICW_CORR n) + if flips = [] then 0 else 1) % 2 ^ 48)) ∧
    (∀ p : Fin 33, s.dev.get (F.LRX_STATUS_ACQ_STEP n) ≠ 0 → s.dev.rate n = 2 → s.dev.get (F.LRX_BW_STATUS_PARITY_HUNT n) = 1 → 4 ≤ (s.dev.bw.get n).goodRun →
      s.dev.get (F.LRX_BW_STATUS_PHASE n) = p.val → s.dev.get F.BWK_NEG_STATUS_STATE ≠ 3 → s.dev.mft.waiting = [] →
      Gives (.parityLock n p) s fun e => e.get (F.LRX_BW_STATUS_PARITY_LOCK n) = 1 ∧ e.get (F.LRX_BW_STATUS_PARITY_HUNT n) = 0 ∧
        e.get (F.LRX_STATUS_ACQ_STEP n) = 0xA ∧ (e.tx.get n).measuring = true)

/-! ### Correction pool and Breakwater (chapters 3 and 4) -/

/-- A codeword whose last syndrome is complete is held with its deadline t_a + W, its stream index the count of codewords since alignment
(Table 3-1). A zero syndrome is CLEAN and enters no berth; a nonzero
one whose berth holds four items ends as a deadline miss and enters no berth. -/
def Obligations.CodewordArrival : Prop :=
  ∀ (s : State) (n : Lane) (k : Fin 2) (cw : CwIn), s.dev.tracking n = true → s.dev.rate n = 1 → s.dev.poolUse n = true →
    (cw.zero = true →
      Gives (.codewordArrival n k cw) s fun e => ∃ f : Flight,
        e.pool.flights.get n = s.dev.pool.flights.get n ++ [f] ∧ f.time = cw.time ∧ f.deadline = cw.time + s.dev.window ∧
        f.k.val = (s.dev.rx.get n).cwCount % 2 ∧ f.bits = cw.bits ∧ f.outcome = some .clean ∧ e.pool.berths = s.dev.pool.berths) ∧
    (cw.zero = false → 4 ≤ (s.dev.berth (streamOf n (s.dev.streamIndex n k))).length → (∀ f ∈ s.dev.pool.flights.get n, f.tag ≠ s.dev.pool.nextTag) →
      Gives (.codewordArrival n k cw) s fun e => ∃ f : Flight,
        e.pool.flights.get n = s.dev.pool.flights.get n ++ [f] ∧ f.deadline = cw.time + s.dev.window ∧
        f.outcome = some .miss ∧ e.pool.berths = s.dev.pool.berths)

/-- R100. A pass succeeds exactly when its locator of degree v has v distinct roots, all at positions 0 to 543, and 2v + e is at most 30,
with e erasures: the engine then waits with its correction record. Any other result ends the pass: the engine no longer holds this pass. -/
def Obligations.PassSucceedsExactly : Prop :=
  ∀ (s : State) (e : Eng) (r : PassResult) (x : WorkItem) (b : Nat) (stolen : Bool) (num : Nat) (f : Flight),
    (s.dev.pool.engines.get e).job = .pass x b stolen num → s.dev.flight? x.lane x.tag = some f → (s.dev.pool.engines.get e).chosen = false →
    Gives (.passEnd e r) s fun t =>
      ((r.roots.length = r.degree ∧ r.roots.Nodup ∧ (∀ p ∈ r.roots, p < 544) ∧ 2 * r.degree + erasures num ≤ 30) →
        (t.pool.engines.get e).job = .waiting x b stolen num (recordOf num x.short r)) ∧
      (¬ (r.roots.length = r.degree ∧ r.roots.Nodup ∧ (∀ p ∈ r.roots, p < 544) ∧ 2 * r.degree + erasures num ≤ 30) →
        ∀ rec, (t.pool.engines.get e).job ≠ .pass x b stolen num ∧ (t.pool.engines.get e).job ≠ .waiting x b stolen num rec)

/-- An engine that becomes idle takes the oldest head of its home berths, leaves that berth without the item and counts it; with every
berth empty it stays idle (R94). A record that the reorder buffer's input takes makes its codeword CORR with that record. -/
def Obligations.EnginesAndRecords : Prop :=
  ∀ (s : State) (e : Eng),
    (∀ (b : Nat) (x : WorkItem), s.dev.idleEngine e = true → s.dev.oldestHead [2 * (e.val / 8), 2 * (e.val / 8) + 1] = some (b, x) →
      Gives (.engineIdle e) s fun t =>
        (t.pool.engines.get e).job = .pass x b false (if x.requeued then 2 else 1) ∧ x ∉ t.berth b ∧
        (∀ c, c ≠ b → t.berth c = s.dev.berth c) ∧ t.get (F.ENG_CW e) = (s.dev.get (F.ENG_CW e) + 1) % 2 ^ 32) ∧
    ((∀ b, s.dev.berth b = []) → Does (.engineIdle e) s s.dev) ∧
    (∀ (x : WorkItem) (b : Nat) (stolen : Bool) (num : Nat) (rec : List (Nat × BitVec 10)) (f : Flight),
      (s.dev.pool.engines.get e).job = .waiting x b stolen num rec → s.dev.recordsHeld x.lane < 32 →
      s.dev.flight? x.lane x.tag = some f → s.dev.errs = [] → s.dev.poisoned = [] →
      Gives (.correctionRecordTaken e) s fun t => ∃ g, t.flight? x.lane x.tag = some g ∧ g.outcome = some (.corr num) ∧ g.record = rec)

/-- The release of a lane's oldest codeword, and of a group (R103, R161): a CLEAN codeword of a standard lane leaves as it was received, in
the order of arrival; the two streams of a native lane put out the slots of the oldest decided group. -/
def Obligations.ReleasesInOrder : Prop :=
  ∀ (s : State) (n : Lane), s.dev.errs = [] → s.dev.poisoned = [] → s.dev.get F.SYS_SAFE_SAFE = 0 →
    (∀ (f : Flight) (rest : List Flight), s.dev.pool.flights.get n = f :: rest → s.dev.rate n = 1 → f.outcome = some .clean →
      f.record = [] → f.lost = false → f.poisoned = false →
      Gives (.codewordRelease n) s fun e => e.pool.flights.get n = rest ∧
        e.out.toList.getD (2 * n.val) [] = [{ bits := f.bits, how := .asReceived, k := f.k, place := f.place }]) ∧
    (∀ (g : ReadyGroup) (rest : List ReadyGroup), (s.dev.bw.get n).ready = g :: rest → (s.dev.rx.get n).draining = false →
      Gives (.groupRelease n) s fun e => (e.bw.get n).ready = rest ∧
        e.out.toList.getD (2 * n.val) [] = g.a ∧ e.out.toList.getD (2 * n.val + 1) [] = g.b) ∧
    (s.dev.get (F.LRX_BW_STATUS_FRAME_LOCK n) = 1 → s.dev.rehunting n = false →
      Gives (.rehunt n) s fun e => e.get (F.LRX_BW_STATUS_PARITY_LOCK n) = 0 ∧ e.get (F.LRX_BW_STATUS_PARITY_HUNT n) = 1 ∧
        e.get (F.LRX_BW_STATUS_PHASE n) = 0 ∧ e.get (F.LRX_BW_CTRL_REHUNT n) = 1) ∧
    (s.dev.rehunting n = true → Does (.rehunt n) s s.dev)

/-- The pool's supply. The tide gauge takes the ring period and, with no coefficients, predicts 0xFFFF (R114); an interval with more misses
than the target raises VDD_CODE by one under its upper limit while VGOOD is 1 (R118, R120); VGOOD applies the cap of the band; a write of
the limits that holds VDD_CODE inside them moves nothing; turning LOOP_EN on restarts the count quiet. -/
def Obligations.PoolSupplyLoop : Prop :=
  ∀ s : State,
    (∀ period : Nat, period < 2 ^ 16 → s.dev.pool.enabled = true → s.dev.pool.coefs = none → s.dev.get F.POOL_CTRL_LOOP_EN = 0 →
      Gives (.tideGaugeWindow period) s fun e => e.get F.POOL_TIDE = period ∧ e.get F.POOL_TIDE_PRED_TP_EO = 0xFFFF ∧
        e.get F.POOL_TIDE_PRED_TP_ER = 0xFFFF ∧ e.pool.windowAdmits = 0) ∧
    (s.dev.get F.POOL_CTRL_LOOP_EN = 1 → s.dev.pool.enabled = true → s.dev.get F.POOL_STATUS_VGOOD = 1 →
      s.dev.get F.POOL_STATUS_VDD_CODE < s.dev.vddUpper →
      s.dev.get F.POOL_LOOP_CFG_MISS_TGT * s.dev.pool.admits < s.dev.pool.misses * 2 ^ 20 →
      Gives .loopInterval s fun e => e.get F.POOL_STATUS_VDD_CODE = s.dev.get F.POOL_STATUS_VDD_CODE + 1 ∧ e.pool.admits = 0 ∧
        e.pool.misses = 0 ∧ e.get F.POOL_STATUS_BELOW_TGT = 0) ∧
    (s.dev.pool.enabled = true →
      Gives .vgood s fun e => e.get F.POOL_STATUS_VGOOD = 1 ∧ e.pool.capBand = s.dev.get F.POOL_STATUS_BAND) ∧
    (∀ w : Word, s.dev.enf = 0 → bitsOf w 5 0 ≤ s.dev.get F.POOL_STATUS_VDD_CODE →
      s.dev.get F.POOL_STATUS_VDD_CODE ≤ min 40 (bitsOf w 13 8) →
      Gives (.poolSupplyCfgWrite w) s fun e => e.get F.POOL_SUPPLY_CFG_VMIN = bitsOf w 5 0 ∧ e.get F.POOL_SUPPLY_CFG_VMAX = bitsOf w 13 8 ∧
        e.get F.POOL_STATUS_VDD_CODE = s.dev.get F.POOL_STATUS_VDD_CODE) ∧
    (∀ i : BitVec 7, s.dev.get F.POOL_CTRL_LOOP_EN = 0 →
      Gives (.loopEnWrite true i) s fun e => e.get F.POOL_CTRL_LOOP_EN = 1 ∧ e.get F.POOL_SUPPLY_CFG_LOOP_INT = i.toNat ∧ e.pool.quiet = 0)

/-- The exchange that starts native mode (R128 to R132). START sends a CAP on every lane of the mask and waits for theirs, and does nothing
while a negotiation runs; a CAP is kept and answered; a PROPOSE that meets R130 by the far CAPs and by its own port map is answered with
ACCEPT, one that fails it with REFUSE and the reason, and of two that cross, the one of the end with the lower identity goes on; the proposer answers ACCEPT with COMMIT. -/
def Obligations.NegotiationExchange : Prop :=
  ∀ (s : State) (n : Lane),
    (s.dev.negRuns = false → s.dev.get F.BWK_NEG_CTRL_LANE_MASK ≠ 0 →
      Gives .negStart s fun e => e.get F.BWK_NEG_STATUS_STATE = 1 ∧ e.get F.BWK_NEG_STATUS_REASON = 0 ∧ e.neg.proposer = true ∧
        e.neg.mask.toNat = s.dev.get F.BWK_NEG_CTRL_LANE_MASK ∧
        ∀ k : Lane, (∃ b, (k, 1, b) ∈ e.neg.awaiting) ↔ maskHas e.neg.mask k = true) ∧
    (s.dev.negRuns = true → Does .negStart s s.dev) ∧
    (∀ b : CapBody, s.dev.get F.BWK_NEG_STATUS_STATE ≠ 1 → maskHas s.dev.neg.capSent n = false → (s.dev.plt.get n).ctl.length < 8 →
      Gives (.capMessage n b) s fun e => e.neg.farCap.get n = some b ∧ e.reg F.BWK_FAR_ID.addr = b.identity.extractLsb' 0 32 ∧
        (e.plt.get n).ctl = (s.dev.plt.get n).ctl ++ [{ cls := 2, typ := 1, seq := 0, body := .cap s.dev.ownCap }] ∧
        e.get F.BWK_NEG_STATUS_STATE = s.dev.get F.BWK_NEG_STATUS_STATE) ∧
    (∀ m pm : BitVec 8, s.dev.get F.BWK_NEG_STATUS_STATE ≠ 3 → s.dev.get F.BWK_NEG_STATUS_STATE ≠ 2 →
      (s.dev.negCheck m s.dev.capPorts = 0 → s.dev.negCheck m (fun _ => pm) = 0 →
        Gives (.proposeMessage n m pm) s fun e => e.get F.BWK_NEG_STATUS_STATE = 2 ∧ e.neg.mask = m ∧ e.neg.portMap = pm ∧
          e.neg.proposer = false ∧ e.neg.awaiting = [(n, 3, .accept m pm)]) ∧
      (∀ r : Nat, r ≠ 0 → (s.dev.negCheck m s.dev.capPorts = r ∨ (s.dev.negCheck m s.dev.capPorts = 0 ∧ s.dev.negCheck m (fun _ => pm) = r)) →
        Gives (.proposeMessage n m pm) s fun e => e.get F.BWK_NEG_STATUS_STATE = 5 ∧
          e.get F.BWK_NEG_STATUS_REASON = r ∧ e.get F.BWK_INT_STATUS_REFUSED = 1 ∧ e.neg.awaiting = [])) ∧
    (∀ (m pm : BitVec 8) (b : CapBody), s.dev.get F.BWK_NEG_STATUS_STATE = 2 → s.dev.neg.proposer = true → s.dev.neg.farCap.get n = some b →
      s.dev.negCheck m s.dev.capPorts = 0 → s.dev.negCheck m (fun _ => pm) = 0 →
      if Config.identity.toNat < b.identity.toNat then Does (.proposeMessage n m pm) s s.dev
      else Gives (.proposeMessage n m pm) s fun e => e.get F.BWK_NEG_STATUS_STATE = 2 ∧ e.neg.proposer = false ∧ e.neg.mask = m ∧
        e.neg.awaiting = [(n, 3, .accept m pm)]) ∧
    (s.dev.get F.BWK_NEG_STATUS_STATE = 2 → s.dev.neg.proposer = true →
      Gives (.acceptMessage n s.dev.neg.mask s.dev.ownCap.portMap) s fun e =>
        e.get F.BWK_NEG_STATUS_STATE = 2 ∧ e.neg.awaiting = [(n, 5, .commit s.dev.neg.mask)])

/-- How a negotiation ends (R130, R131, R133, R134). COMMIT takes the answering end to STATE 3, or to STATE 4 where every lane of the mask is
live already, with the mask agreed, and is echoed, also a second time; REFUSE, the last RESP_TO, LIVE_TO with a lane not live, and an EXIT of
all lanes before parity lock fail it with the reasons of Table 4-3; an EXIT of some lanes leaves it to the others (the model's choice, log
entry 137); a RESP_TO with resends left resends and changes nothing else of the state. -/
def Obligations.NegotiationEnds : Prop :=
  ∀ (s : State) (n : Lane),
    (s.dev.get F.BWK_NEG_STATUS_STATE = 2 → s.dev.neg.proposer = false →
      Gives (.commitMessage n s.dev.neg.mask) s fun e =>
        ((∃ k : Lane, maskHas s.dev.neg.mask k = true ∧ s.dev.get (F.LRX_BW_STATUS_PARITY_LOCK k) = 0) → e.get F.BWK_NEG_STATUS_STATE = 3) ∧
        (s.dev.neg.mask &&& ~~~ s.dev.liveMask = 0 → e.get F.BWK_NEG_STATUS_STATE = 4) ∧ e.neg.awaiting = [] ∧
        ∀ k < 8, (BitVec.ofNat 8 (e.get F.BWK_NEG_STATUS_AGREED_MASK)).getLsbD k =
          ((BitVec.ofNat 8 (s.dev.get F.BWK_NEG_STATUS_AGREED_MASK)).getLsbD k || maskHas s.dev.neg.mask k)) ∧
    ((s.dev.get F.BWK_NEG_STATUS_STATE = 3 ∨ s.dev.get F.BWK_NEG_STATUS_STATE = 4) → s.dev.neg.proposer = false →
      (s.dev.plt.get n).ctl.length < 8 →
      Does (.commitMessage n s.dev.neg.mask) s (s.dev.modPlt n fun p =>
        { p with ctl := p.ctl ++ [{ cls := 2, typ := 5, seq := 0, body := .commit s.dev.neg.mask }] })) ∧
    (∀ reason : Nat, reason < 16 → s.dev.negRuns = true → s.dev.get F.BWK_NEG_STATUS_STATE ≠ 3 → s.dev.neg.proposer = true →
      Gives (.refuseMessage n reason) s fun e => e.get F.BWK_NEG_STATUS_STATE = 5 ∧ e.get F.BWK_NEG_STATUS_REASON = reason ∧
        e.get F.BWK_INT_STATUS_REFUSED = 1 ∧ e.get F.BWK_INT_STATUS_NEG_FAIL = 1) ∧
    (s.dev.negRuns = true → s.dev.neg.awaiting ≠ [] →
      (s.dev.neg.resends < s.dev.get F.BWK_NEG_TIMING_RETRIES →
        Gives .negResponseTimeout s fun e => e.neg.resends = s.dev.neg.resends + 1 ∧ e.neg.awaiting = s.dev.neg.awaiting ∧
          e.get F.BWK_NEG_STATUS_STATE = s.dev.get F.BWK_NEG_STATUS_STATE) ∧
      (s.dev.get F.BWK_NEG_TIMING_RETRIES ≤ s.dev.neg.resends →
        Gives .negResponseTimeout s fun e => e.get F.BWK_NEG_STATUS_STATE = 5 ∧ e.get F.BWK_NEG_STATUS_REASON = 6 ∧ e.neg.awaiting = [])) ∧
    (s.dev.get F.BWK_NEG_STATUS_STATE = 3 → s.dev.neg.mask &&& ~~~ s.dev.liveMask ≠ 0 →
      Gives .liveTimeout s fun e => e.get F.BWK_NEG_STATUS_STATE = 5 ∧ e.get F.BWK_NEG_STATUS_REASON = 7 ∧
        e.get F.BWK_INT_STATUS_NEG_FAIL = 1) ∧
    (s.dev.neg.mask &&& ~~~ s.dev.liveMask = 0 → Does .liveTimeout s s.dev) ∧
    (∀ (m : BitVec 8) (reason : Nat), s.dev.get F.BWK_NEG_STATUS_STATE = 3 → m &&& s.dev.nativeMask = 0 → m &&& s.dev.neg.mask ≠ 0 →
      (s.dev.neg.mask &&& ~~~ m = 0 →
        Gives (.exitMessage n m reason) s fun e => e.get F.BWK_NEG_STATUS_STATE = 5 ∧ e.get F.BWK_NEG_STATUS_REASON = 8 ∧
          e.get F.BWK_INT_STATUS_NEG_FAIL = 1) ∧
      (s.dev.neg.mask &&& ~~~ m ≠ 0 →
        Gives (.exitMessage n m reason) s fun e => e.neg.mask = s.dev.neg.mask &&& ~~~ m ∧
          e.get F.BWK_NEG_STATUS_STATE = if s.dev.neg.mask &&& ~~~ m &&& ~~~ s.dev.liveMask = 0 then 4 else 3)) ∧
    (∀ (m : BitVec 8) (reason : Nat), s.dev.get F.BWK_NEG_STATUS_STATE ≠ 3 → m &&& s.dev.nativeMask = 0 →
      Does (.exitMessage n m reason) s s.dev)

/-- R136. While a lane is native, or the negotiation is in STATE 1 to 3, a commit of the pool's group whose WINDOW is above 1 is rejected whole, by register
and by manifest: every live copy stays and the group does not become pending. -/
def Obligations.WindowCommitsWhileNative : Prop :=
  ∀ s : State, ((∃ n : Lane, s.dev.native n = true) ∨ (1 ≤ s.dev.get F.BWK_NEG_STATUS_STATE ∧ s.dev.get F.BWK_NEG_STATUS_STATE ≤ 3)) →
    1 < s.dev.get F.POOL_CTRL_WINDOW →
    (s.dev.get F.MFT_COMMIT_GO = 0 →
      Gives (.mftCommit 0x0800) s fun e => e.get F.MFT_COMMIT_STATUS_STATUS = stStageReject ∧
        e.get F.MFT_COMMIT_STATUS_FAIL_ADDR = F.POOL_CTRL.addr ∧ e.live = s.dev.live ∧ e.mft.commits = s.dev.mft.commits) ∧
    (∀ m : Manifest, s.dev.begunOf 0x0A = some m → m.desc.op0 = 0x0800 →
      Gives .commit s fun e => s.dev.endsWith e m stStageReject 0x0800 ∧ e.live = s.dev.live ∧ e.mft.commits = s.dev.mft.commits)

/-- Native lanes (R128, R135, R138 to R147, R212). A write of EXIT takes native lanes out with reason 9, and does nothing for a mask without
one; a first STATE message that shows a lane not native is only counted, and a second in a row ends native mode on it with reason 8; the state
timer queues the own STATE message on a native lane, and does nothing without one. A host codeword of a standard lane goes to the inner
encoder's grid, or a substitute in its place while its stream is not locked; that of a native lane fills its slot of the frame; the one that
completes data slot 31 sends the parity frame behind it and starts a new group; a slip is counted, and an early codeword leaves the framer as
it was. -/
def Obligations.NativeLanes : Prop :=
  ∀ (s : State) (n : Lane),
    (BitVec.ofNat 8 (s.dev.get F.BWK_NEG_CTRL_EXIT_MASK) &&& s.dev.nativeMask ≠ 0 →
      Gives .negExit s fun e => e.get F.BWK_NEG_STATUS_REASON = 9 ∧ e.get F.BWK_INT_STATUS_NATIVE_EXIT = 1 ∧
        BitVec.ofNat 8 (e.get F.BWK_NEG_STATUS_AGREED_MASK) &&& (BitVec.ofNat 8 (s.dev.get F.BWK_NEG_CTRL_EXIT_MASK) &&& s.dev.nativeMask) = 0) ∧
    (BitVec.ofNat 8 (s.dev.get F.BWK_NEG_CTRL_EXIT_MASK) &&& s.dev.nativeMask = 0 → Does .negExit s s.dev) ∧
    (∀ far locked : BitVec 8, s.dev.native n = true → (∀ k : Lane, k ≠ n → s.dev.native k = false) → maskHas far n = false →
      s.dev.get F.BWK_NEG_STATUS_STATE ≠ 3 →
      (s.dev.neg.notNative.get n = 0 →
        Does (.stateMessage n far locked) s (s.dev.modNeg fun g => { g with notNative := g.notNative.set n 1 })) ∧
      (s.dev.neg.notNative.get n = 1 →
        Gives (.stateMessage n far locked) s fun e => e.get F.BWK_NEG_STATUS_REASON = 8 ∧ e.get F.BWK_INT_STATUS_NATIVE_EXIT = 1)) ∧
    (∀ far locked : BitVec 8, s.dev.nativeMask = 0 → Does (.stateMessage n far locked) s s.dev) ∧
    (s.dev.native n = true → (s.dev.plt.get n).ctl.length < 8 →
      Gives .stateTimer s fun e => (e.plt.get n).ctl =
        (s.dev.plt.get n).ctl ++ [{ cls := 2, typ := 7, seq := 0, body := .state s.dev.nativeMask s.dev.liveMask }]) ∧
    (s.dev.nativeMask = 0 → Does .stateTimer s s.dev) ∧
    (∀ (j : Berth) (bits : Cw) (zero : Bool) (slip : Slip), j.val / 2 = n.val → s.dev.native n = false →
      Does (.hostCodeword j bits zero slip) s (s.dev.modEgr fun v => v.set n { v.get n with
        grid := some (if s.dev.streamLocked j.val = true then bits else s.dev.egressSubstitute n) })) ∧
    (∀ (j : Berth) (bits : Cw), j.val / 2 = n.val → s.dev.native n = true →
      (j.val % 2 = 0 → s.dev.streamLocked j.val = true → (s.dev.egr.get n).have1 = none →
        Does (.hostCodeword j bits true .inTime) s (s.dev.modEgr fun v => v.set n { v.get n with have0 := some bits, sub0 := false })) ∧
      (∀ b : Cw, j.val % 2 = 0 → s.dev.streamLocked j.val = true → (s.dev.egr.get n).have1 = some b →
        ((s.dev.egr.get n).slot < 31 →
          Gives (.hostCodeword j bits true .inTime) s fun e => (e.egr.get n).slot = (s.dev.egr.get n).slot + 1 ∧
            (e.egr.get n).acc0 = (s.dev.egr.get n).acc0 ^^^ (frameSlots (s.dev.widePort n) bits b).1 ∧
            (e.egr.get n).sent.length = 1 ∧ (e.egr.get n).have0 = none ∧ (e.egr.get n).have1 = none) ∧
        ((s.dev.egr.get n).slot = 31 →
          Gives (.hostCodeword j bits true .inTime) s fun e => (e.egr.get n).slot = 0 ∧ (e.egr.get n).acc0 = 0 ∧ (e.egr.get n).acc1 = 0 ∧
            (e.egr.get n).sent.length = 2)) ∧
      Gives (.hostCodeword j bits true .early) s fun e => e.egr = s.dev.egr ∧
        e.get (F.BWK_EGR_SLIP j) = (s.dev.get (F.BWK_EGR_SLIP j) + 1) % 2 ^ 16 ∧ e.get F.BWK_INT_STATUS_EGR_SLIP = 1)

/-! ### Line transmit (chapter 5) -/

/-- Requests to a transmit half (R190, R191, R194): as on receive, a request during a transition replaces the queued one, a step towards a
distant state is taken one state at a time, and the value STATE_REQ holds makes no request; a TXON whose output is not live after 5 ms
sets TIMEOUT and, with no manifest waiting, nothing else. -/
def Obligations.TransmitHalfRequests : Prop :=
  ∀ (s : State) (n : Lane), s.dev.mft.waiting = [] → s.dev.laneHold = false → s.dev.get F.PWR_STATUS_STATE ≤ 1 → s.dev.sup.reload = 0 →
    (∀ v : BitVec 3, v.toNat ≤ 4 → v.toNat ≠ s.dev.get (F.LTX_CTRL_STATE_REQ n) → s.dev.get (F.LTX_STATUS_TRANS n) ≠ 7 →
      Does (.txStateRequest n v) s ((s.dev.set (F.LTX_CTRL_STATE_REQ n) v.toNat).set
        (F.LTX_STATUS_PENDING n) (if s.dev.get (F.LTX_STATUS_TRANS n) = v.toNat then 7 else v.toNat))) ∧
    (s.dev.get (F.LTX_CTRL_STATE_REQ n) ≠ 2 → s.dev.get (F.LTX_STATUS_STATE n) = 0 → s.dev.get (F.LTX_STATUS_TRANS n) = 7 →
      Does (.txStateRequest n 2) s (((s.dev.set (F.LTX_CTRL_STATE_REQ n) 2).set (F.LTX_STATUS_TRANS n) 1).set (F.LTX_STATUS_PENDING n) 2)) ∧
    (∀ v : BitVec 3, (v.toNat = s.dev.get (F.LTX_CTRL_STATE_REQ n) ∨ 4 < v.toNat) → Does (.txStateRequest n v) s s.dev) ∧
    (s.dev.get (F.LTX_STATUS_STATE n) = 0 → s.dev.get (F.LTX_STATUS_TRANS n) = 1 → s.dev.get (F.LTX_STATUS_PENDING n) = 2 →
      Gives (.txTransitionDone n) s fun e => e.get (F.LTX_STATUS_STATE n) = 1 ∧ e.get (F.LTX_STATUS_TRANS n) = 2 ∧
        e.get (F.LTX_STATUS_PENDING n) = 7 ∧ e.get (F.LTX_STATUS_PLL_LOCK n) = 0) ∧
    (s.dev.get (F.LTX_STATUS_STATE n) = 3 → s.dev.get (F.LTX_STATUS_TRANS n) = 7 → s.dev.get (F.LTX_STATUS_LIVE n) = 0 →
      Does (.txonTimeout n) s (s.dev.set (F.LTX_INT_STATUS_TIMEOUT n) 1)) ∧
    (s.dev.get (F.LTX_STATUS_LIVE n) = 1 → Does (.txonTimeout n) s s.dev)

/-- A transmit boundary (R167, R172, R185, R193): outside TXON it only counts the samples that saturated; in TXON, with nothing squelching
the lane, it takes a heading lane live at the swing of the table entry in force. A new POWER_IDX is only stored on a lane that is not live
and starts a ramp on a live one; a table entry and BYPASS wait for the boundary in TXON and take effect at once elsewhere; the pilot's
injection point moves when a move is due. -/
def Obligations.TransmitBoundary : Prop :=
  ∀ (s : State) (n : Lane),
    (s.dev.get (F.LTX_STATUS_STATE n) ≠ 3 → Does (.txBoundary n 0) s s.dev) ∧
    (∀ sat : Nat, s.dev.get (F.LTX_STATUS_STATE n) ≠ 3 → 0 < sat → s.dev.get F.PMU_STATUS_FROZEN = 0 →
      Gives (.txBoundary n sat) s fun e => e.pair (F.LTX_TX_SAT n) = (s.dev.pair (F.LTX_TX_SAT n) + sat) % 2 ^ 48 ∧
        e.get (F.LTX_INT_STATUS_TX_SAT n) = 1) ∧
    (s.dev.get (F.LTX_STATUS_STATE n) = 3 → s.dev.get (F.LTX_STATUS_TRANS n) = 7 → (s.dev.tx.get n).heading = true →
      (s.dev.tx.get n).ending = false → s.dev.get (F.LTX_STATUS_SQ_DIS n) = 0 → s.dev.get (F.LTX_STATUS_SQ_SAFE n) = 0 →
      s.dev.get (F.LTX_STATUS_SQ_SHUTDOWN n) = 0 → (s.dev.tx.get n).biasWait ≤ s.dev.now → s.dev.mft.commits = [] →
      (s.dev.tx.get n).dpdWrites = [] → (s.dev.tx.get n).dpdUpdate = none → (s.dev.tx.get n).bypassDue = none → (s.dev.tx.get n).held = none →
      Gives (.txBoundary n 0) s fun e => e.get (F.LTX_STATUS_LIVE n) = 1 ∧ (e.tx.get n).heading = false ∧
        (e.tx.get n).swing = s.dev.get (F.LTX_PWR_TBL_SWING n (s.dev.get (F.LTX_CFG_POWER_IDX n)))) ∧
    (∀ i : BitVec 4,
      (s.dev.get (F.LTX_STATUS_LIVE n) = 0 → Does (.powerIdxWrite n i) s (s.dev.set (F.LTX_CFG_POWER_IDX n) i.toNat)) ∧
      (s.dev.get (F.LTX_STATUS_LIVE n) = 1 → Gives (.powerIdxWrite n i) s fun e => e.get (F.LTX_CFG_POWER_IDX n) = i.toNat ∧
        (e.get (F.LTX_STATUS_RAMP n) = 1 ↔ (s.dev.tx.get n).swing ≠ s.dev.get (F.LTX_PWR_TBL_SWING n i.toNat)))) ∧
    (∀ (i : Fin 64) (v : BitVec 10),
      (s.dev.get (F.LTX_STATUS_STATE n) = 3 →
        Does (.dpdLutWrite n i v) s ((s.dev.set (F.LTX_DPD_LUT n i) v.toNat).modTx n fun t =>
          { t with dpdWrites := t.dpdWrites ++ [(i.val, toSigned 10 v.toNat)] })) ∧
      (s.dev.get (F.LTX_STATUS_STATE n) ≠ 3 → i.val < (s.dev.tx.get n).dpd.length → (s.dev.tx.get n).dpdUpdate = none →
        Gives (.dpdLutWrite n i v) s fun e => (e.tx.get n).dpd.getD i 0 = toSigned 10 v.toNat)) ∧
    (∀ b : Bool,
      (s.dev.get (F.LTX_STATUS_STATE n) = 3 →
        Does (.bypassWrite n b) s ((s.dev.set (F.LTX_DPD_CTRL_BYPASS n) b.toNat).modTx n fun t => { t with bypassDue := some b })) ∧
      (s.dev.get (F.LTX_STATUS_STATE n) ≠ 3 →
        Does (.bypassWrite n b) s ((s.dev.set (F.LTX_DPD_CTRL_BYPASS n) b.toNat).modTx n fun t => { t with bypass := b, bypassDue := none }))) ∧
    ((s.dev.tx.get n).pilotDue = some 2 → Gives (.pilotInjectionMove n) s fun e => e.get (F.LTX_STATUS_PILOT_LVL n) = 1 ∧
      e.get (F.LTX_STATUS_PILOT_LF n) = 0 ∧ (e.tx.get n).pilotDue = none) ∧
    ((s.dev.tx.get n).pilotDue = none → Does (.pilotInjectionMove n) s s.dev)

/-- TX disable (R197). TXDISn low squelches every lane with PIN_EN at once and ends its data swing where the front-end die's copy of PIN_EN is set; high, with no other disable, lifts it
from every lane; a write of TX_DIS to a live lane squelches it and leaves the swing to end at the next boundary. -/
def Obligations.TransmitDisable : Prop :=
  ∀ (s : State) (n : Lane),
    (s.dev.get (F.LTX_CTRL_PIN_EN n) = 1 → s.dev.get (F.LTX_STATUS_SQ_DIS n) = 0 →
      Gives .txdisnFall s fun e => e.txdisLow = true ∧ e.get (F.LTX_STATUS_SQ_DIS n) = 1 ∧ e.get (F.LTX_INT_STATUS_SQUELCH n) = 1 ∧
        ((s.dev.tx.get n).pinCopy = true → e.get (F.LTX_STATUS_LIVE n) = 0)) ∧
    (s.dev.get (F.LTX_CTRL_TX_DIS n) = 0 → (s.dev.tx.get n).cmisDis = false →
      Gives .txdisnRise s fun e => e.txdisLow = false ∧ e.get (F.LTX_STATUS_SQ_DIS n) = 0) ∧
    (s.dev.get (F.LTX_STATUS_SQ_DIS n) = 0 → s.dev.get (F.LTX_STATUS_LIVE n) = 1 →
      Gives (.txDisWrite n true) s fun e => e.get (F.LTX_CTRL_TX_DIS n) = 1 ∧ e.get (F.LTX_STATUS_SQ_DIS n) = 1 ∧
        e.get (F.LTX_STATUS_LIVE n) = 1 ∧ (e.tx.get n).ending = true) ∧
    (s.dev.txdisLow = false → (s.dev.tx.get n).cmisDis = false →
      Gives (.txDisWrite n false) s fun e => e.get (F.LTX_CTRL_TX_DIS n) = 0 ∧ e.get (F.LTX_STATUS_SQ_DIS n) = 0)

/-- Training of the pre-distortion (R177 to R179). A report of another epoch is counted as stale and leaves the table's update alone; one of
this epoch ends a pause once the pilot is in sync, is used where the lane may then train and is held where it may not; APPLIED starts a new measurement; a window that ends reports 64
deviations once, −128 for an entry seen fewer than 4,096 times, and does nothing on a lane that measures nothing. -/
def Obligations.DpdTraining : Prop :=
  ∀ (s : State) (n : Lane),
    (∀ (epoch : BitVec 8) (w : Nat) (dev : List Int),
      (epoch.toNat ≠ s.dev.get (F.LTX_DPD_STATUS_EPOCH n) →
        Does (.dpdReport n epoch w dev) s ((s.dev.set (F.LTX_DPD_STATUS_LAST_RPT_EPOCH n) epoch.toNat).bump (F.LTX_DPD_EVENTS_DPD_STALE n))) ∧
      (epoch.toNat = s.dev.get (F.LTX_DPD_STATUS_EPOCH n) →
        ((s.dev.modTx n fun t => { t with resumeDue := t.resumeDue && !s.dev.pilotSync n }).mayTrain n = true →
          Gives (.dpdReport n epoch w dev) s fun e => (e.tx.get n).dpdUpdate = some dev ∧ (e.tx.get n).held = none) ∧
        ((s.dev.modTx n fun t => { t with resumeDue := t.resumeDue && !s.dev.pilotSync n }).mayTrain n = false →
          Does (.dpdReport n epoch w dev) s ((s.dev.set (F.LTX_DPD_STATUS_LAST_RPT_EPOCH n) epoch.toNat).modTx n fun t =>
            { t with held := some (epoch.toNat, dev), resumeDue := t.resumeDue && !s.dev.pilotSync n })))) ∧
    (∀ epoch : BitVec 8, Does (.dpdApplied n epoch) s (s.dev.modTx n fun t => { t with farEpoch := epoch.toNat, measuring := true })) ∧
    ((s.dev.tx.get n).held = none → Does (.dpdPeriodExpiry n) s (s.dev.modTx n fun t => { t with periodOver := true })) ∧
    (∀ dev : List Int, (s.dev.tx.get n).held = some (s.dev.get (F.LTX_DPD_STATUS_EPOCH n), dev) →
      (s.dev.modTx n fun t => { t with periodOver := true }).mayTrain n = true →
      Gives (.dpdPeriodExpiry n) s fun e => (e.tx.get n).dpdUpdate = some dev ∧ (e.tx.get n).held = none) ∧
    (∀ seen : List (Int × Nat), s.dev.native n = true → s.dev.get (F.LRX_STATUS_ACQ_STEP n) = 0xA → (s.dev.tx.get n).measuring = true →
      (s.dev.plt.get n).ctl.length < 8 →
      Gives (.dpdWindowEnd n seen) s fun e => (e.tx.get n).measuring = false ∧ ∃ dev : List Int, dev.length = 64 ∧
        (e.plt.get n).ctl = (s.dev.plt.get n).ctl ++ [{ cls := 3, typ := 1, seq := 0, body := .report n (s.dev.tx.get n).farEpoch 256 dev }] ∧
        ∀ i, i < 64 → (seen.getD i (0, 0)).2 < 4096 → dev.getD i 0 = -128) ∧
    (∀ seen : List (Int × Nat), (s.dev.tx.get n).measuring = false → Does (.dpdWindowEnd n seen) s s.dev)

/-! ### Host lanes (chapter 6) -/

/-- Acquisition of a host RX lane, step by step (R211, R217, R220): PLL lock, signal detect, CDR lock, the session that has been due longest, its end with
the report and both margins, and marker lock, which takes the lane into service. -/
def Obligations.HostAcquisition : Prop :=
  ∀ (s : State) (k : HLane), s.dev.hostRxActive k = true → s.dev.markerNeeded k = true →
    (s.dev.get (F.HLN_STATUS_ACQ_STEP k) = 1 →
      Does (.hostPllLock k) s ((s.dev.set (F.HLN_STATUS_PLL_LOCK k) 1).set (F.HLN_STATUS_ACQ_STEP k) 2)) ∧
    (s.dev.get (F.HLN_STATUS_ACQ_STEP k) = 2 →
      Does (.signalDetect k) s ((s.dev.set (F.HLN_STATUS_SD k) 1).set (F.HLN_STATUS_ACQ_STEP k) 3)) ∧
    (s.dev.get (F.HLN_STATUS_ACQ_STEP k) = 3 → (s.dev.host.get k).due = [] →
      Gives (.cdrLock k) s fun e => e.get (F.HLN_STATUS_CDR_LOCK k) = 1 ∧ e.get (F.HLN_STATUS_ACQ_STEP k) = 4 ∧
        e.get F.HLN_EGR_STATUS_NONE = 0 ∧ e.get (F.HLN_STATUS_ADAPTING k) = s.dev.get (F.HLN_STATUS_ADAPTING k)) ∧
    (∀ (c : Nat) (rest : List Nat), s.dev.get (F.HLN_STATUS_ACQ_STEP k) = 3 → (s.dev.host.get k).due = c :: rest →
      Gives (.cdrLock k) s fun e => e.get (F.HLN_STATUS_ADAPTING k) = 1 ∧ e.get (F.HLN_STATUS_AM_LOCK k) = 0 ∧
        (e.host.get k).session = c ∧ (e.host.get k).due = rest) ∧
    (∀ m : AdaptMeasure, s.dev.get (F.HLN_STATUS_ADAPTING k) = 1 → (s.dev.host.get k).session = 2 → (s.dev.host.get k).due = [] →
      (s.dev.host.get k).heldLp = none → s.dev.mft.waiting = [] →
      Gives (.adaptSessionEnd k m) s fun e => e.get (F.HLN_STATUS_ADAPTING k) = 0 ∧ e.get (F.HLN_STATUS_ACQ_STEP k) = 6 ∧
        e.get (F.HLN_ADAPT_RPT_VALID k) = 1 ∧ e.get (F.HLN_ADAPT_RPT_CAUSE k) = 2 ∧
        e.get (F.HLN_ADAPT_RPT_MARGIN_ADAPT k) = marginOf m.nearAdapt ∧ e.get (F.HLN_ADAPT_RPT_MARGIN_TABLE k) = marginOf m.nearTable) ∧
    (s.dev.get (F.HLN_STATUS_ADAPTING k) = 0 → ∀ m : AdaptMeasure, Does (.adaptSessionEnd k m) s s.dev) ∧
    (∀ inPlace : Bool, 4 ≤ s.dev.get (F.HLN_STATUS_ACQ_STEP k) → s.dev.get (F.HLN_STATUS_ACQ_STEP k) < 8 →
      s.dev.get (F.HLN_STATUS_ADAPTING k) = 0 →
      Does (.markerLock k inPlace) s (((s.dev.set (F.HLN_STATUS_ACQ_STEP k) 8).set (F.HLN_STATUS_AM_LOCK k) 1).modHost k fun h =>
        { h with recFails := 0, recovering := false, recRan := false, rxDone := true })) ∧
    ((s.dev.host.get k).checkMarker = true → s.dev.get (F.HLN_STATUS_ACQ_STEP k) = 8 →
      Does (.markerLock k true) s (s.dev.modHost k fun h => { h with checkMarker := false }))

/-- Losses of a host RX lane that holds its signal and CDR lock and runs no session (R208, R221): each is counted and flagged and restarts
acquisition, loss of signal where the signal is awaited and the others behind it; a lane that is itself the EGR source has no mismatch; REC_TO
makes a recovery session due, at once on a lane with CDR lock. -/
def Obligations.HostLosses : Prop :=
  ∀ (s : State) (k : HLane), s.dev.hostRxActive k = true → s.dev.get (F.HLN_STATUS_SD k) = 1 → s.dev.get (F.HLN_STATUS_ADAPTING k) = 0 →
    (Gives (.hostLos k) s fun e => e.get (F.HLN_STATUS_SD k) = 0 ∧ e.get (F.HLN_STATUS_CDR_LOCK k) = 0 ∧ e.get (F.HLN_STATUS_ACQ_STEP k) = 2 ∧
      e.get (F.HLN_LOS_EVENTS k) = (s.dev.get (F.HLN_LOS_EVENTS k) + 1) % 2 ^ 16 ∧ e.get (F.HLN_INT_STATUS_LOS_SET k) = 1) ∧
    (s.dev.get (F.HLN_STATUS_CDR_LOCK k) = 1 →
      Gives (.cdrLoss k) s fun e => e.get (F.HLN_STATUS_CDR_LOCK k) = 0 ∧ e.get (F.HLN_STATUS_AM_LOCK k) = 0 ∧
        e.get (F.HLN_STATUS_ACQ_STEP k) = 3 ∧ e.get (F.HLN_LOCK_EVENTS_CDR k) = (s.dev.get (F.HLN_LOCK_EVENTS_CDR k) + 1) % 2 ^ 16 ∧
        e.get (F.HLN_INT_STATUS_CDR_LOSS k) = 1) ∧
    (s.dev.get (F.HLN_STATUS_AM_LOCK k) = 1 →
      Gives (.amLoss k) s fun e => e.get (F.HLN_STATUS_AM_LOCK k) = 0 ∧ e.get (F.HLN_STATUS_ACQ_STEP k) = 3 ∧
        e.get (F.HLN_STATUS_CDR_LOCK k) = s.dev.get (F.HLN_STATUS_CDR_LOCK k) ∧
        e.get (F.HLN_LOCK_EVENTS_AM k) = (s.dev.get (F.HLN_LOCK_EVENTS_AM k) + 1) % 2 ^ 16) ∧
    (s.dev.get (F.HLN_STATUS_CDR_LOCK k) = 1 → s.dev.get F.HLN_EGR_STATUS_SRC ≠ k.val →
      Gives (.freqMismatch k) s fun e => e.get (F.HLN_STATUS_FREQ_MISMATCH k) = 1 ∧ e.get (F.HLN_STATUS_CDR_LOCK k) = 0 ∧
        e.get (F.HLN_INT_STATUS_FREQ_MISMATCH k) = 1) ∧
    (s.dev.get F.HLN_EGR_STATUS_SRC = k.val → Does (.freqMismatch k) s s.dev) ∧
    (s.dev.get (F.HLN_STATUS_CDR_LOCK k) = 1 → s.dev.get (F.HLN_ADAPT_CFG_REC_ADAPT k) = 1 → (s.dev.host.get k).recovering = true →
      s.dev.get (F.HLN_STATUS_ACQ_STEP k) ≠ 8 → (s.dev.host.get k).due = [] →
      Gives (.recoveryDue k) s fun e => e.get (F.HLN_STATUS_ADAPTING k) = 1 ∧ (e.host.get k).session = 3 ∧ (e.host.get k).recovering = false)

/-- Low power and test sessions of a host lane (R222, R228 to R230). A request for QUIET from RUN starts the transition; one that R229
refuses sets LP_REFUSED and starts none; the value LP_REQ holds and code 3 make no request; a completed transition is reported; a test
session that is not refused starts on a lane with CDR lock, and one that is refused only sets its flag. -/
def Obligations.HostLowPower : Prop :=
  ∀ (s : State) (k : HLane), s.dev.mft.waiting = [] → s.dev.laneHold = false → s.dev.get F.PWR_STATUS_STATE ≤ 1 →
    (s.dev.get (F.HLN_LP_LP_REQ k) ≠ 1 → s.dev.get (F.HLN_STATUS_ADAPTING k) = 0 → s.dev.get (F.HLN_LP_TRANS k) = 3 →
      s.dev.get (F.HLN_LP_LP_STATE k) = 0 →
      (s.dev.lpBlocked k = false → s.dev.lget (F.HLN_CTRL_TX_EN k) = 1 →
        Gives (.lpRequest k 1) s fun e => e.get (F.HLN_LP_LP_REQ k) = 1 ∧ e.get (F.HLN_LP_TRANS k) = 1 ∧ e.get (F.HLN_LP_PENDING k) = 3 ∧
          e.get (F.HLN_LP_LP_STATE k) = 0) ∧
      (s.dev.lpBlocked k = true →
        Does (.lpRequest k 1) s ((s.dev.set (F.HLN_LP_LP_REQ k) 1).set (F.HLN_INT_STATUS_LP_REFUSED k) 1))) ∧
    (∀ v : BitVec 2, (v.toNat = 3 ∨ v.toNat = s.dev.get (F.HLN_LP_LP_REQ k)) → Does (.lpRequest k v) s s.dev) ∧
    (s.dev.get (F.HLN_LP_TRANS k) = 1 → s.dev.get (F.HLN_LP_LP_STATE k) = 0 → s.dev.get (F.HLN_LP_PENDING k) = 3 →
      Gives (.lpTransitionDone k) s fun e => e.get (F.HLN_LP_LP_STATE k) = 1 ∧ e.get (F.HLN_LP_TRANS k) = 3 ∧
        e.get (F.HLN_INT_STATUS_LP_DONE k) = 1 ∧ (e.host.get k).txRun = false) ∧
    (s.dev.get (F.HLN_LP_TRANS k) = 0 → Does (.hostTxHalfRun k) s (s.dev.modHost k fun h => { h with txDone := true, txRun := true })) ∧
    (s.dev.get (F.HLN_LP_TRANS k) ≠ 0 → Does (.hostTxHalfRun k) s s.dev) ∧
    (s.dev.testRefused k = false → s.dev.get (F.HLN_STATUS_CDR_LOCK k) = 1 → 4 ≤ s.dev.get (F.HLN_STATUS_ACQ_STEP k) →
      Gives (.adaptRun k) s fun e => e.get (F.HLN_STATUS_ADAPTING k) = 1 ∧ (e.host.get k).session = 2) ∧
    (s.dev.testRefused k = true → Does (.adaptRun k) s (s.dev.set (F.HLN_INT_STATUS_ADAPT_REFUSED k) 1))

/-! ### Clocks (chapter 11) -/

/-- Clock domains (R409, R412, R419, R420): a crossing that reopens clears its own CLOSED bit and no other; the clock of a gated domain
starts with a handshake and is stopped again, no other domain's with it; a transfer to the fabric that stalls is dropped and counted; a core
PLL that loses lock shows it. -/
def Obligations.ClockDomains : Prop :=
  ∀ (s : State) (dom : Fin 18),
    (Gives (.crossingReopen dom) s fun e => e.bit F.CLK_DOM_CLOSED dom = false ∧ ∀ i, i < 32 → i ≠ dom.val → e.bit F.CLK_DOM_CLOSED i = s.dev.bit F.CLK_DOM_CLOSED i) ∧
    (Gives (.clockGateWake dom) s fun e => e.domRunWord.getLsbD dom.val = true ∧
      ∀ i, i < 18 → i ≠ dom.val → e.clkWake.getLsbD i = s.dev.clkWake.getLsbD i) ∧
    (Gives (.clockGateStop dom) s fun e => e.domRunWord.getLsbD dom.val = s.dev.domRuns dom.val ∧
      ∀ i, i < 18 → i ≠ dom.val → e.clkWake.getLsbD i = s.dev.clkWake.getLsbD i) ∧
    Does (.islandStall .fabric) s ((s.dev.set F.CLK_INT_STATUS_ISLAND_STALL 1).bump F.FAB_ERR_D_BUF_DROP) ∧
    Does (.corePllUnlock .a) s ((s.dev.set F.CLK_STATUS_CPLLA_LOCK 0).set F.CLK_INT_STATUS_PLL_UNLOCK 1) ∧
    Does (.corePllUnlock .b) s ((s.dev.set F.CLK_STATUS_CPLLB_LOCK 0).set F.CLK_INT_STATUS_PLL_UNLOCK 1)

/-! ### Pilot channel (chapter 7) -/

/-- The pilot transmitter (R252, R253, R256, R257, R260, R261). With the preset in force, a frame start sends the one waiting class 0x02
message under the next number of its class, or, with no message, the oldest fabric frame; with nothing waiting it does nothing. A waiting
fabric frame moves into a free buffer of the lane, or is dropped after 100 ms and counted; an idle-group boundary with nothing waiting takes
the effective preset; a LOADMAP is kept only when every code is one its preset allows; without one for 2 s the recommendation is Anchor. -/
def Obligations.PilotTransmit : Prop :=
  ∀ (s : State) (n : Lane),
    (∀ m : CtlMsg, (s.dev.plt.get n).txOn = true → (s.dev.plt.get n).idled = true → (s.dev.plt.get n).ctl = [m] → m.cls = 2 →
      s.dev.preset n = s.dev.get (F.PLT_STATUS_TX_PRESET n) → s.dev.get F.PMU_STATUS_FROZEN = 0 →
      Gives (.pilotFrameStart n) s fun e => (∃ h, (e.plt.get n).sending = some (h, .ctl { m with seq := (s.dev.plt.get n).seq2 })) ∧
        (e.plt.get n).ctl = [] ∧ (e.plt.get n).seq2 = (s.dev.plt.get n).seq2 + 1 ∧ (e.plt.get n).idled = false ∧
        e.pair (F.PLT_FRM_TX n) = (s.dev.pair (F.PLT_FRM_TX n) + 1) % 2 ^ 48) ∧
    (∀ (m : FabMsg) (rest : List FabMsg), (s.dev.plt.get n).txOn = true → (s.dev.plt.get n).idled = true → (s.dev.plt.get n).ctl = [] →
      (s.dev.plt.get n).fab = m :: rest → s.dev.preset n = s.dev.get (F.PLT_STATUS_TX_PRESET n) → s.dev.errs = [] → s.dev.poisoned = [] →
      Gives (.pilotFrameStart n) s fun e => (∃ h, (e.plt.get n).sending = some (h, .fab m)) ∧ (e.plt.get n).fab = rest) ∧
    ((s.dev.plt.get n).ctl = [] → (s.dev.plt.get n).fab = [] → Does (.pilotFrameStart n) s s.dev) ∧
    (∀ (m : FabMsg) (rest : List FabMsg), (s.dev.plt.get n).wait = m :: rest →
      ((s.dev.plt.get n).fab.length < 2 → s.dev.errs = [] → s.dev.poisoned = [] →
        Does (.class4Handover n) s (s.dev.modPlt n fun q => { q with wait := rest, fab := q.fab ++ [m] })) ∧
      (2 ≤ (s.dev.plt.get n).fab.length → Does (.class4Handover n) s s.dev) ∧
      Gives (.fabricFrameExpiry n) s fun e => (e.plt.get n).wait = rest ∧ (e.plt.get n).fab = (s.dev.plt.get n).fab ∧
        e.get (F.PLT_ERR_C_TXQ_DROP n) = (s.dev.get (F.PLT_ERR_C_TXQ_DROP n) + 1) % 2 ^ 16) ∧
    ((s.dev.plt.get n).txOn = true → (s.dev.plt.get n).ctl = [] → (s.dev.plt.get n).fab = [] →
      Gives (.idleGroupBoundary n) s fun e => (e.plt.get n).idled = true ∧ e.get (F.PLT_STATUS_TX_PRESET n) = s.dev.preset n) ∧
    (∀ (ident preset pq rec : Nat) (codes : List Nat), preset ≠ 0 →
      ((∀ c ∈ codes, (c = 0 ∨ c = 1 ∨ c = 2 ∨ c = 4 ∨ c = 6) ∧ c ≤ topBits preset) →
        Gives (.loadmap n ident preset pq rec codes) s fun e => (e.plt.get n).recPreset = rec ∧ (e.plt.get n).recValid = true ∧
          e.mapFor n preset = ident) ∧
      (¬ (∀ c ∈ codes, (c = 0 ∨ c = 1 ∨ c = 2 ∨ c = 4 ∨ c = 6) ∧ c ≤ topBits preset) →
        Does (.loadmap n ident preset pq rec codes) s s.dev)) ∧
    (∀ p : Nat, Does (.loadreq n p) s (s.dev.modPlt n fun q => { q with loadreq := true })) ∧
    (s.dev.get (F.PLT_CTRL_PRESET_AUTO n) = 1 → Gives (.loadmapTimeout n) s fun e => e.recommended n = 0 ∧
      (e.plt.get n).maps = (s.dev.plt.get n).maps)

/-- The pilot receiver (R273 to R280). The largest of a sample's four metrics, above SYNC_TH and with none larger near it, starts a reception in
its preset; one at or below SYNC_TH, below one near it, or during a committed reception is ignored; a header whose CRC fails ends the reception and is counted, one that passes commits it; a committed frame of class 1
to 3 whose CRC passes is counted as received; sync is lost after 256 symbols and counted, or dropped by RESYNC; an EVM update on a running
receiver sets PQ from the powers measured and the recommendation with its hysteresis. -/
def Obligations.PilotReceive : Prop :=
  ∀ (s : State) (n : Lane),
    (∀ (ms : List Nat) (near : Nat),
      (∀ p, p < ms.length → (∀ m ∈ ms, m ≤ ms.getD p 0) → (∀ i, i < p → ms.getD i 0 < ms.getD p 0) →
        (s.dev.pilotRxRuns n = true → s.dev.get (F.PLT_RX_CFG_SYNC_TH n) < ms.getD p 0 → near ≤ ms.getD p 0 →
          (s.dev.plt.get n).reception = none →
          Gives (.syncDetection n ms near) s fun e =>
            (∃ r, (e.plt.get n).reception = some r ∧ r.preset = p ∧ r.metric = ms.getD p 0 ∧ r.committed = false) ∧
            e.get (F.PLT_STATUS_RX_BUSY n) = 1 ∧ e.get (F.PLT_STATUS_AGC_FROZEN n) = 1) ∧
        (ms.getD p 0 < near → Does (.syncDetection n ms near) s s.dev)) ∧
      ((∀ m ∈ ms, m ≤ s.dev.get (F.PLT_RX_CFG_SYNC_TH n)) → Does (.syncDetection n ms near) s s.dev) ∧
      (∀ r : Reception, (s.dev.plt.get n).reception = some r → r.committed = true → Does (.syncDetection n ms near) s s.dev)) ∧
    (∀ (h : Word) (r : Reception), (s.dev.plt.get n).reception = some r → r.committed = false →
      (headerCrc (bitsOf h 15 0) ≠ bitsOf h 31 16 →
        Gives (.headerReceived n h) s fun e => (e.plt.get n).reception = none ∧ e.get (F.PLT_STATUS_RX_BUSY n) = 0 ∧
          e.get (F.PLT_ERR_A_HDR_ERR n) = (s.dev.get (F.PLT_ERR_A_HDR_ERR n) + 1) % 2 ^ 16 ∧
          e.get (F.PLT_STATUS_SYNC n) = s.dev.get (F.PLT_STATUS_SYNC n)) ∧
      (headerCrc (bitsOf h 15 0) = bitsOf h 31 16 → s.dev.get (F.PLT_STATUS_SYNC n) = 1 → 1 ≤ bitsOf h 10 0 → bitsOf h 10 0 ≤ 1152 →
        bitsOf h 14 11 = 0 →
        Gives (.headerReceived n h) s fun e => e.get (F.PLT_STATUS_COMMITTED n) = 1 ∧
          ∃ q, (e.plt.get n).reception = some q ∧ q.committed = true ∧ q.len = bitsOf h 10 0 ∧ q.map = 0)) ∧
    (∀ (bytes : List Byte) (crc : Word) (buffered : Bool) (r : Reception), (s.dev.plt.get n).reception = some r → r.committed = true →
      s.dev.get F.PMU_STATUS_FROZEN = 0 →
      (bytes.length = r.len → crc32 bytes = crc → 1 ≤ (bytes.headD 0).toNat → (bytes.headD 0).toNat ≤ 3 →
        Gives (.frameReceived n bytes crc buffered) s fun e => e.pair (F.PLT_FRM_RX n) = (s.dev.pair (F.PLT_FRM_RX n) + 1) % 2 ^ 48 ∧
          (e.plt.get n).reception = none ∧ e.get (F.PLT_STATUS_COMMITTED n) = 0) ∧
      (crc32 bytes ≠ crc →
        Gives (.frameReceived n bytes crc buffered) s fun e => e.pair (F.PLT_FRM_RX n) = s.dev.pair (F.PLT_FRM_RX n) ∧
          e.get (F.PLT_ERR_A_CRC_ERR n) = (s.dev.get (F.PLT_ERR_A_CRC_ERR n) + 1) % 2 ^ 16 ∧ (e.plt.get n).reception = none)) ∧
    ((s.dev.plt.get n).reception = none → s.dev.get (F.PLT_STATUS_SYNC n) = 1 →
      Gives (.syncLoss n) s fun e => e.get (F.PLT_STATUS_SYNC n) = 0 ∧
        e.get (F.PLT_ERR_D_SYNC_LOSS n) = (s.dev.get (F.PLT_ERR_D_SYNC_LOSS n) + 1) % 2 ^ 16) ∧
    (s.dev.get (F.PLT_STATUS_SYNC n) = 0 → Does (.syncLoss n) s s.dev) ∧
    (Gives (.resync n) s fun e => e.get (F.PLT_STATUS_SYNC n) = 0 ∧ (e.plt.get n).reception = none ∧ e.get (F.PLT_STATUS_RX_BUSY n) = 0 ∧
      e.get (F.PLT_ERR_D_SYNC_LOSS n) = s.dev.get (F.PLT_ERR_D_SYNC_LOSS n)) ∧
    (∀ (errs : List (List (PilotSym × Nat))) (powers : List CarrierPower) (ms : List CarrierMeas) (c : PilotChain),
      s.dev.pilotRxRuns n = true → errs.length = 64 → powers.length = 64 → carriersOf errs powers = ms →
      Gives (.evmUpdate n errs powers c) s fun e => e.get (F.PLT_QUAL_PQ n) = s.dev.measuredPq n ms ∧
        e.get (F.PLT_QUAL_REC_PRESET n) = recommend (s.dev.get (F.PLT_QUAL_REC_PRESET n)) (s.dev.measuredPq n ms))

/-! ### Staged groups, calibration and monitoring (chapters 8, 14 and 15) -/

/-- Staged groups (R311 to R314, R500, R603, R608). A commit by register of a group that does not exist, or that its block rejects, answers
at once and leaves every live copy as it was; one with no boundary to wait for makes the shadow live at once, as the port map shows; one that waits
keeps GO at 1 and the set as it was when committed; a pending set of the pool or of the port map goes live whole at its boundary; after 50 ms it is
withdrawn. A trim boundary of a tracking lane takes up the gain that waits for it, and means nothing to another lane. -/
def Obligations.StagedGroups : Prop :=
  ∀ s : State,
    (∀ g : BitVec 16,
      (s.dev.get F.MFT_COMMIT_GO = 1 → Does (.mftCommit g) s s.dev) ∧
      (s.dev.get F.MFT_COMMIT_GO = 0 → groupExists g.toNat = false →
        Gives (.mftCommit g) s fun e => e.live = s.dev.live ∧ e.get F.MFT_COMMIT_STATUS_STATUS = 7 ∧ e.get F.MFT_COMMIT_GO = 0 ∧
          e.get F.MFT_COMMIT_GROUP = g.toNat ∧ e.get F.MFT_INT_STATUS_COMMIT_DONE = 1) ∧
      (∀ a, s.dev.get F.MFT_COMMIT_GO = 0 → groupExists g.toNat = true →
        ((s.dev.set F.MFT_COMMIT_GROUP g.toNat).set F.MFT_COMMIT_GO 1).commitReject g.toNat (s.dev.shadowOf g.toNat) = some a →
        Gives (.mftCommit g) s fun e => e.live = s.dev.live ∧ e.get F.MFT_COMMIT_STATUS_STATUS = 3 ∧
          e.get F.MFT_COMMIT_STATUS_FAIL_ADDR = a % 2 ^ 20 ∧ e.get F.MFT_COMMIT_GO = 0) ∧
      (∀ c : PendCommit, s.dev.pendingCommit g.toNat = some c → c.group = g.toNat → c.origin = .register →
        Gives (.commitTimeout g) s fun e => e.live = s.dev.live ∧ e.pendingCommit g.toNat = none ∧ e.get F.MFT_COMMIT_STATUS_STATUS = 1 ∧
          e.get F.MFT_COMMIT_GO = 0) ∧
      (s.dev.pendingCommit g.toNat = none → Does (.commitTimeout g) s s.dev ∧ Does (.stagedGroupLive g) s s.dev)) ∧
    (s.dev.get F.MFT_COMMIT_GO = 0 → s.dev.negRuns = false → s.dev.nativeMask = 0 → s.dev.pendingCommit 0x0900 = none →
      Gives (.mftCommit 0x0900) s fun e => bitsOf (e.liveReg F.BWK_PORT_MAP.addr) 7 0 = s.dev.get F.BWK_PORT_MAP ∧
        e.get F.MFT_COMMIT_STATUS_STATUS = 0 ∧ e.get F.MFT_COMMIT_GO = 0 ∧ ∀ a, a ≠ F.BWK_PORT_MAP.addr → e.liveReg a = s.dev.liveReg a) ∧
    (s.dev.get F.MFT_COMMIT_GO = 0 → s.dev.pendingCommit 0x0600 = none →
      ((s.dev.set F.MFT_COMMIT_GROUP 0x0600).set F.MFT_COMMIT_GO 1).commitReject 0x0600 (s.dev.shadowOf 0x0600) = none →
      Gives (.mftCommit 0x0600) s fun e => e.live = s.dev.live ∧ e.get F.MFT_COMMIT_GO = 1 ∧
        e.pendingCommit 0x0600 = some { group := 0x0600, words := s.dev.shadowOf 0x0600, origin := .register }) ∧
    (∀ (g : BitVec 16) (c : PendCommit), (g = 0x0800 ∨ g = 0x0900) → s.dev.pendingCommit g.toNat = some c → c.group = g.toNat →
      c.origin = .register → (s.dev.makeLive c.words).opShort = false →
      Gives (.stagedGroupLive g) s fun e => e.live = (s.dev.makeLive c.words).live ∧ e.pendingCommit g.toNat = none ∧
        e.get F.MFT_COMMIT_STATUS_STATUS = 0) ∧
    (∀ (n : Lane) (start : Bool),
      (s.dev.tracking n = false → Does (.trimBoundary ⟨n, start⟩) s s.dev) ∧
      (∀ g : Nat, g < 16 → s.dev.tracking n = true → s.dev.mft.commits = [] → s.dev.get (F.LRX_TIA_AUTO n) = 0 →
        (s.dev.rx.get n).gainSet = some g →
        Gives (.trimBoundary ⟨n, start⟩) s fun e => e.get (F.LRX_STATUS_GAIN_CUR n) = g ∧ (e.rx.get n).gainSet = none) ∧
      (s.dev.tracking n = true → s.dev.mft.commits = [] → s.dev.get (F.LRX_TIA_AUTO n) = 1 → (s.dev.rx.get n).step = some true →
        s.dev.get (F.LRX_STATUS_GAIN_CUR n) < 15 →
        Gives (.trimBoundary ⟨n, start⟩) s fun e => e.get (F.LRX_STATUS_GAIN_CUR n) = s.dev.get (F.LRX_STATUS_GAIN_CUR n) + 1 ∧
          e.get (F.LRX_GAIN_STEPS_UP n) = (s.dev.get (F.LRX_GAIN_STEPS_UP n) + 1) % 2 ^ 16 ∧ (e.rx.get n).step = none))

/-- Estimation windows and trim writes (R495, R496, R503). With estimation off, or before step 2, a window means nothing; a spoiled one leaves no
first window; the first of two is kept to be compared with the next. A written trim shows at once; it is in force at once on a lane outside
RXON, and on one in RXON it waits while the value in force stays. -/
def Obligations.EstimationAndTrims : Prop :=
  ∀ (s : State) (n : Lane),
    (∀ x : Estimates,
      ((s.dev.get (F.LRX_CAL_CTRL_EST_EN n) = 0 ∨ s.dev.get (F.LRX_STATUS_ACQ_STEP n) < 2) → Does (.estimationWindowEnd n x) s s.dev) ∧
      (s.dev.get (F.LRX_CAL_CTRL_EST_EN n) = 1 → 2 ≤ s.dev.get (F.LRX_STATUS_ACQ_STEP n) →
        ((s.dev.rx.get n).estSpoiled = true →
          Gives (.estimationWindowEnd n x) s fun e => (e.rx.get n).firstEst = none ∧ (e.rx.get n).estSpoiled = false ∧
            e.get (F.LRX_CAL_STATUS_SECOND n) = 0 ∧ (e.rx.get n).trimSets = (s.dev.rx.get n).trimSets) ∧
        ((s.dev.rx.get n).estSpoiled = false → (s.dev.rx.get n).estRule.1 ≠ 1 → (s.dev.rx.get n).firstEst = none →
          Gives (.estimationWindowEnd n x) s fun e => (e.rx.get n).firstEst = some (candidate x) ∧
            e.get (F.LRX_CAL_STATUS_SECOND n) = 1 ∧ (e.rx.get n).trimSets = (s.dev.rx.get n).trimSets))) ∧
    (∀ (j : Fin 64) (w : Word),
      (s.dev.rxInRxon n = true →
        Gives (.trimWrite n (.adc j) w) s fun e => e.reg (F.LRX_ADC_TRIM n j).addr = w &&& fieldMask 25 0 ∧
          (e.rx.get n).trimLive = (s.dev.rx.get n).trimLive ∧ (j.val, w &&& fieldMask 25 0) ∈ (e.rx.get n).trimWrites ∧
          (e.rx.get n).trimSets = []) ∧
      (s.dev.rxInRxon n = false →
        Gives (.trimWrite n (.adc j) w) s fun e => e.reg (F.LRX_ADC_TRIM n j).addr = w &&& fieldMask 25 0 ∧
          (e.rx.get n).trimLive.get j = w &&& fieldMask 25 0 ∧ (e.rx.get n).trimWrites = []))

/-- The monitor converter (R467 to R470, R474 to R479). An injected conversion joins the queue of four, or sets INJ_FULL when it is full, or
names no channel; a conversion that ends becomes a readout; the oldest readout is written, clamped, into its result register and counted; GO
starts a step of 2^CAL_AVG phases or is refused; a step whose phases are done writes its coefficient or its reason; MON_CAL is abandoned
after 2 s, and a step by register is not. -/
def Obligations.MonitorConversions : Prop :=
  ∀ s : State,
    (∀ ch : BitVec 5,
      (24 ≤ ch.toNat → Does (.monInj ch) s s.dev) ∧
      (ch.toNat < 24 → 4 ≤ s.dev.mon.queue.length → Does (.monInj ch) s (s.dev.set F.MON_INT_STATUS_INJ_FULL 1)) ∧
      (ch.toNat < 24 → s.dev.mon.queue.length < 4 → s.dev.mon.work ≠ .idle →
        Gives (.monInj ch) s fun e => e.mon.queue = s.dev.mon.queue ++ [(ch.toNat, false)] ∧
          e.get F.MON_STATUS_INJ_Q = s.dev.mon.queue.length + 1)) ∧
    (∀ (ch : Nat) (a : Analog), s.dev.mon.work = .regular ch →
      Gives (.integrationBoundary a) s fun e => e.mon.readouts =
        s.dev.mon.readouts ++ [{ ch := ch, analog := a, ofs := s.dev.mon.ofs, gain := s.dev.mon.gain, inj := false, man := false }]) ∧
    (s.dev.mon.readouts = [] → Does .resultWritten s s.dev) ∧
    (∀ (r : Readout) (rest : List Readout), s.dev.mon.readouts = r :: rest → r.ch < 24 →
      Gives .resultWritten s fun e => e.mon.readouts = rest ∧ e.reg (F.MON_RES r.ch).addr = s.dev.monAlign r.ch r.result.1 ∧
        e.get (F.MON_INFO_COUNT r.ch) = (s.dev.get (F.MON_INFO_COUNT r.ch) + 1) % 2 ^ 16 ∧ e.get (F.MON_INFO_OVR r.ch) = r.result.2.toNat ∧
        (monRange r.ch).1 ≤ r.result.1 ∧ r.result.1 ≤ (monRange r.ch).2) ∧
    ((s.dev.mon.cal.isSome = true ∨ 24 ≤ s.dev.get F.MON_CAL_CTRL_CHANNEL ∨ s.dev.madcRuns = false) →
      Does .calGo s (s.dev.set F.MON_INT_STATUS_CAL_REFUSED 1)) ∧
    (s.dev.mon.cal = none → s.dev.get F.MON_CAL_CTRL_CHANNEL < 24 → s.dev.madcRuns = true →
      Gives .calGo s fun e => e.get F.MON_CAL_CTRL_GO = 1 ∧ ∃ c, e.mon.cal = some c ∧ c.ch = s.dev.get F.MON_CAL_CTRL_CHANNEL ∧
        c.left = 2 ^ s.dev.get F.MON_CAL_CTRL_CAL_AVG ∧ c.done = 0 ∧ c.man = false ∧ c.full = s.dev.flag F.MON_CAL_CTRL_STEP) ∧
    (∀ c : CalStep, s.dev.mon.cal = some c →
      (0 < c.left → Does .calStepComplete s s.dev) ∧
      (c.left = 0 → c.man = false → c.ch < 24 →
        (∀ v, calCoef c (s.dev.sget (F.MON_OFS c.ch)) = .ok v →
          Gives .calStepComplete s fun e => e.get (if c.full then F.MON_GAIN c.ch else F.MON_OFS c.ch) = v ∧ e.mon.cal = none ∧
            e.get F.MON_CAL_CTRL_GO = 0 ∧ e.get F.MON_CAL_CTRL_REASON = 0 ∧ e.get F.MON_INT_STATUS_CAL_DONE = 1) ∧
        (∀ r, calCoef c (s.dev.sget (F.MON_OFS c.ch)) = .error r →
          Gives .calStepComplete s fun e => e.get (F.MON_GAIN c.ch) = s.dev.get (F.MON_GAIN c.ch) ∧
            e.get (F.MON_OFS c.ch) = s.dev.get (F.MON_OFS c.ch) ∧ e.mon.cal = none ∧ e.get F.MON_CAL_CTRL_REASON = r)) ∧
      (c.man = true → Gives .monCalTimeout s fun e => e.mon.cal = none) ∧
      (c.man = false → Does .monCalTimeout s s.dev))

/-- The bias DACs (R487 to R490). While CLRn is low every ladder holds its clear code, whatever is written to its code; a code written to
a channel that nothing else forces reaches its ladder and no other; a clear code reaches a forced ladder at once; CLRn going high ends the
clear unless it is latched, and then CLR_REL ends it, but not while CLRn is low. -/
def Obligations.BiasDacs : Prop :=
  ∀ s : State,
    (∀ (k : Berth) (w : Word),
      (s.dev.get F.BDAC_STATUS_CLRN_LOW = 1 →
        Gives (.bdacCodeWrite k w) s fun e => e.bdacOut k = s.dev.bdacOut k ∧ e.reg (F.BDAC_CODE k).addr = w &&& fieldMask 16 0) ∧
      (s.dev.get F.BDAC_STATUS_CLRN_LOW = 0 → s.dev.get F.BDAC_STATUS_LATCHED = 0 → s.dev.get F.SYS_SAFE_SAFE = 0 →
        s.dev.get F.THM_STATUS_SHUTDOWN = 0 → (k.val < 8 → s.dev.get (F.LTX_STATUS_SQ_DIS k) = 0) →
        Gives (.bdacCodeWrite k w) s fun e => e.bdacOut k = w &&& fieldMask 16 0 ∧ ∀ j : Berth, j ≠ k → e.bdacOut j = s.dev.bdacOut j) ∧
      (s.dev.bdacForced k = true →
        Gives (.bdacClrWrite k w) s fun e => e.bdacOut k = w &&& fieldMask 16 0 ∧ ∀ j : Berth, j ≠ k → e.bdacOut j = s.dev.bdacOut j) ∧
      (s.dev.bdacForced k = false → Gives (.bdacClrWrite k w) s fun e => ∀ j : Berth, e.bdacOut j = s.dev.bdacOut j)) ∧
    (Gives .clrnFall s fun e => e.get F.BDAC_STATUS_CLRN_LOW = 1 ∧ e.get F.BDAC_STATUS_LATCHED = s.dev.get F.BDAC_CTRL_CLR_LATCH ∧
      e.bdacForcedBits = 0xFFFF ∧ e.get F.BDAC_INT_STATUS_CLR_PIN = 1) ∧
    (s.dev.get F.BDAC_STATUS_CLRN_LOW = 1 →
      (s.dev.get F.BDAC_CTRL_CLR_LATCH = 1 →
        Gives .clrnRise s fun e => e.get F.BDAC_STATUS_CLRN_LOW = 0 ∧ e.get F.BDAC_STATUS_LATCHED = 1 ∧ e.bdacForcedBits = 0xFFFF) ∧
      (s.dev.get F.BDAC_CTRL_CLR_LATCH = 0 →
        Does .clrnRise s (((s.dev.set F.BDAC_STATUS_CLRN_LOW 0).set F.BDAC_STATUS_LATCHED 0).set F.BDAC_INT_STATUS_CLR_RELEASED 1)) ∧
      Does .clrRel s s.dev) ∧
    (s.dev.get F.BDAC_STATUS_CLRN_LOW = 0 → s.dev.get F.BDAC_CTRL_CLR_LATCH = 1 → s.dev.get F.BDAC_STATUS_LATCHED = 1 →
      Does .clrRel s ((s.dev.set F.BDAC_STATUS_LATCHED 0).set F.BDAC_INT_STATUS_CLR_RELEASED 1))

/-- R490. A write of 1 to CLR_REL while CLRn is low, or while CLR_LATCH is 0, has no effect: as a command, and as a write of the register that leaves
CLR_LATCH as it is. -/
def Obligations.ClearReleaseWithoutEffect : Prop :=
  ∀ s : State, (s.dev.get F.BDAC_STATUS_CLRN_LOW = 1 ∨ s.dev.get F.BDAC_CTRL_CLR_LATCH = 0) →
    Does .clrRel s s.dev ∧
    ∀ (rq : Requester) (w : Word), userAccess rq = false → accessBytes rq = 4 → w.getLsbD 8 = true →
      bitsOf w 0 0 = s.dev.get F.BDAC_CTRL_CLR_LATCH → Does (.registerWrite rq 0x09000 w) s s.dev

/-! ### Lookout and the counters (chapter 17) -/

/-- Lookout (R543 to R545, R553, R555). ARM is refused under step E2, and else starts a fresh capture from sample 0 with its status zeroed; FORCE
counts only in ARMED; STOP ends a capture with cause 2, or cancels a re-arm; a sample is taken only while armed, from SOURCE and with its
domain's clock running: one that FORCE triggers is
the trigger index, one that nothing triggers only advances it; re-arming follows the hold-off. The counters (R559, R560, R562, R563). FREEZE and SNAP are requests; at instant T the counters freeze, after which no fixed counter
moves, and a snapshot copies every counter as it then stands, with the time, and is reported; CLR_ALL zeroes the general counters and their
overflow bits; a selection register takes the written fields and no other register changes. -/
def Obligations.LookoutAndCounters : Prop :=
  (∀ s : State,
    (s.dev.enf = 2 → Does .arm s (s.dev.set F.LKO_INT_STATUS_ARM_REFUSED 1)) ∧
    (s.dev.enf ≠ 2 → s.dev.lget F.LKO_RED_HIST = 0 → s.dev.lget F.LKO_RED_EMAP = 0 →
      Gives .arm s fun e => e.get F.LKO_STATUS_STATE = 1 ∧ e.get F.LKO_STATUS_STOP_CAUSE = 0 ∧ e.get F.LKO_STATUS_HITS = 0 ∧
        e.get F.LKO_STATUS_CAPTURES = 0 ∧ e.lko = Lko.fresh ∧ (∀ k < 4, e.get (F.LKO_TU_CNT k) = 0) ∧ e.mem = s.dev.mem) ∧
    (s.dev.get F.LKO_STATUS_STATE = 1 → Does .force s (s.dev.modLko fun l => { l with force := true })) ∧
    (s.dev.get F.LKO_STATUS_STATE ≠ 1 → Does .force s s.dev) ∧
    (s.dev.capturing = true →
      Gives .stop s fun e => e.get F.LKO_STATUS_STATE = 3 ∧ e.get F.LKO_STATUS_STOP_CAUSE = 2 ∧ e.get F.LKO_INT_STATUS_STOPPED = 1) ∧
    (s.dev.get F.LKO_STATUS_STATE = 4 → Does .stop s ((s.dev.set F.LKO_STATUS_STOP_CAUSE 2).set F.LKO_STATUS_STATE 3)) ∧
    (∀ x : LkoSample,
      ((s.dev.get F.LKO_STATUS_STATE = 0 ∨ s.dev.get F.LKO_STATUS_STATE = 3) → Does (.lookoutSample x) s s.dev) ∧
      ((s.dev.lkoClocked = false ∨ sourceOf x.word ≠ s.dev.lget F.LKO_SRC_SOURCE) → Does (.lookoutSample x) s s.dev) ∧
      (s.dev.get F.LKO_STATUS_STATE = 1 → s.dev.lkoClocked = true → sourceOf x.word = s.dev.lget F.LKO_SRC_SOURCE → (∀ k < 4, s.dev.lget (F.LKO_TU_CFG_EN k) = 0) →
        (s.dev.lko.force = true → 2 ≤ (s.dev.liveReg F.LKO_POST.addr).toNat →
          Gives (.lookoutSample x) s fun e => e.get F.LKO_STATUS_STATE = 2 ∧ e.get F.LKO_STATUS_CAUSE = 4 ∧ e.get F.LKO_STATUS_HITS = 0 ∧
            e.pair F.LKO_TRIG_IDX = s.dev.lko.idx % 2 ^ 48 ∧ e.lko.idx = (s.dev.lko.idx + 1) % 2 ^ 48 ∧ e.lko.force = false) ∧
        (s.dev.lko.force = false →
          Gives (.lookoutSample x) s fun e => e.get F.LKO_STATUS_STATE = 1 ∧ e.lko.idx = (s.dev.lko.idx + 1) % 2 ^ 48 ∧
            e.pair F.LKO_TRIG_IDX = s.dev.pair F.LKO_TRIG_IDX))) ∧
    (s.dev.get F.LKO_HOLD_KIND = 0 → Does .holdoffEnd s (s.dev.modLko fun l => { l with holdEnded := true })) ∧
    (s.dev.get F.LKO_HOLD_KIND = 1 → Does .holdoffEnd s s.dev) ∧
    (s.dev.get F.LKO_STATUS_STATE = 4 → s.dev.lko.holdEnded = true → s.dev.enf ≠ 2 → s.dev.mft.begun = [] →
      Gives .lookoutRearm s fun e => e.get F.LKO_STATUS_STATE = 1 ∧
        e.get F.LKO_STATUS_CAPTURES = (s.dev.get F.LKO_STATUS_CAPTURES + 1) % 2 ^ 16) ∧
    (s.dev.get F.LKO_STATUS_STATE ≠ 4 → Does .lookoutRearm s s.dev)) ∧
  (∀ s : State,
    (∀ v : Bool, Gives (.freeze v) s fun e => e.get F.PMU_CTRL_FREEZE = v.toNat ∧ e.pmuReq.freeze = some v ∧
      e.get F.PMU_STATUS_FROZEN = s.dev.get F.PMU_STATUS_FROZEN) ∧
    (Gives .snap s fun e => e.get F.PMU_STATUS_SNAP_BUSY = 1 ∧ e.pmuReq.snap = true ∧ e.snap = s.dev.snap) ∧
    (s.dev.pmuReq.freeze = some true →
      Gives .freezeInstant s fun e => e.get F.PMU_STATUS_FROZEN = 1 ∧ e.pmuReq.freeze = none ∧ ∀ f n, e.count f n = e) ∧
    (s.dev.pmuReq.snap = true → s.dev.pmuReq.freeze = none →
      Gives .freezeInstant s fun e => (∀ a, Sparse.get regReset e.snap a = s.dev.reg a) ∧ e.get F.PMU_STATUS_SNAP_VALID = 1 ∧
        e.get F.PMU_STATUS_SNAP_BUSY = 0 ∧ e.pair F.PMU_SNAP_TIME = s.dev.now % 2 ^ 48 ∧ e.get F.PMU_INT_STATUS_SNAP_DONE = 1) ∧
    (Gives .clrAll s fun e => (∀ i < 64, e.pair (F.PMU_CNT i) = 0) ∧ e.get (F.PMU_OVF 0) = 0 ∧ e.get (F.PMU_OVF 1) = 0) ∧
    (∀ (i : Fin 64) (w : Word), Gives (.evselWrite i w) s fun e =>
      (∀ f ∈ [F.PMU_EVSEL_EN i, F.PMU_EVSEL_EDGE i, F.PMU_EVSEL_OVF_INT i, F.PMU_EVSEL_UNIT i, F.PMU_EVSEL_EVENT i],
        e.get f = bitsOf w f.hi f.lo) ∧ ∀ a, a ≠ (F.PMU_EVSEL i).addr → e.reg a = s.dev.reg a))

/-! ### Start-up, reset and the safe state (chapter 10) -/

/-- What a reset leaves. A POR and a full reset held by RESETn or by a rail return every register to its reset value but those that survive
(R13, R382, R397), empty the rings and hold the device; RESETn and a rail fault name themselves as the cause and keep the one before; a pulse
under 100 ns does nothing but draw an open value (the model's choice, log entry 70); a reset whose source is absent does not happen. -/
def Obligations.ResetsAndSurvivors : Prop :=
  ∀ s : State,
    (Gives .powerOnReset s fun e => e.sup.aonGood = false ∧ e.mft = Mft.fresh ∧
      ∀ a, a ∉ [F.SYS_ID.addr, F.THM_LIMITS.addr, F.BDAC_STATUS.addr] → e.reg a = regReset a) ∧
    (s.dev.sup.aonGood = true → ∀ width : Nat, 1000 ≤ width →
      Gives (.resetnFall width) s fun e => e.sup.resetnLow = true ∧ e.sup.boot = .held ∧ e.mft = Mft.fresh ∧ e.flash.fw = s.dev.flash.fw ∧
        e.get F.SYS_RST_CAUSE_CAUSE = 2 ∧ e.get F.SYS_RST_CAUSE_PREV = s.dev.get F.SYS_RST_CAUSE_CAUSE ∧
        e.reg F.SYS_WDT_CAPTURE.addr = s.dev.reg F.SYS_WDT_CAPTURE.addr ∧ (∀ k < 64, e.quarantined k = s.dev.quarantined k) ∧
        ∀ a, a ∉ [F.SYS_ID.addr, F.SYS_RST_CAUSE.addr, F.THM_LIMITS.addr, F.BDAC_STATUS.addr, F.SYS_WDT_CAPTURE.addr, (F.POOL_QUAR 0).addr,
          (F.POOL_QUAR 1).addr, F.THM_STATUS.addr] → (∀ k < 64, a ≠ (F.ENG_BIST k).addr) → e.reg a = regReset a) ∧
    (∀ width : Nat, width < 100 → Does (.resetnFall width) s s.dev.draw) ∧
    (s.dev.sup.aonGood = true → ∀ r : Rail,
      Gives (.railFault r) s fun e => r ∈ e.sup.railsBad ∧ e.sup.boot = .held ∧ e.get F.SYS_RST_CAUSE_CAUSE = 6 ∧
        e.get F.SYS_RST_CAUSE_PREV = s.dev.get F.SYS_RST_CAUSE_CAUSE ∧ e.mft = Mft.fresh) ∧
    (s.dev.sup.aonGood = false → Does .porRelease s ((s.dev.modSup fun q => { q with aonGood := true }).set F.SYS_BOOT_STATUS_STEP 1)) ∧
    (∀ run : BootRun,
      (s.dev.sup.due = none → Does (.fullReset 3 run) s s.dev) ∧
      (s.dev.sup.due = some 3 → s.dev.sup.railsBad ≠ [] →
        Gives (.fullReset 3 run) s fun e => e.sup.due = none ∧ e.sup.boot = .held ∧ e.get F.SYS_RST_CAUSE_CAUSE = 3 ∧
          e.get F.SYS_RST_CAUSE_COUNT = min 255 (s.dev.get F.SYS_RST_CAUSE_COUNT + 1)))

/-- The start-up sequence (Table 10-1, R372, R375 to R378). With every self-test passed and no REFCLK it waits at step 4; a failing memory
checker holds it at step 7; without a committed slot it ends in boot recovery; with a slot whose checks pass it boots that image and is
ready. -/
def Obligations.StartUpSequence : Prop :=
  ∀ (s : State) (run : BootRun), s.dev.sup.boot = .held → s.dev.sup.railsBad = [] → s.dev.sup.aonGood = true → s.dev.get F.THM_STATUS_SHUTDOWN = 0 →
    (s.dev.sup.refOk = false →
      Gives (.resetnRise run) s fun e => e.sup.boot = .waitRef ∧ e.get F.SYS_BOOT_STATUS_FAIL_CODE = 6 ∧ e.get F.SYS_BOOT_STATUS_STEP = 4) ∧
    (run.logic = [] → (∀ m < 49, run.spares.getD m 0 ≤ 8) → s.dev.sup.refOk = true →
      (run.checkerOk = false →
        Gives (.resetnRise run) s fun e => e.sup.boot = .failed ∧ e.get F.SYS_BOOT_STATUS_FAIL_CODE = 3 ∧ e.get F.SYS_BOOT_STATUS_STEP = 7) ∧
      (run.checkerOk = true → s.dev.firstSlot = none →
        Gives (.resetnRise run) s fun e => e.sup.boot = .recovery ∧ e.get F.SYS_BOOT_STATUS_RECOVERY = 1 ∧ e.get F.SYS_BOOT_STATUS_FAIL_CODE = 4 ∧
          e.faultLow = true) ∧
      (∀ i : Fin 2, run.checkerOk = true → s.dev.firstSlot = some i → s.dev.slotReason i = 0 →
        Gives (.resetnRise run) s fun e => e.sup.boot = .running ∧ e.sup.procRun = true ∧ e.get F.SYS_BOOT_STATUS_READY = 1 ∧
          e.get F.SYS_BOOT_STATUS_STEP = 0xC ∧ e.sec.slot = i.val ∧ e.sec.svnRun = (s.dev.flash.fw.get i).svn)) ∧
    (∀ r : Rail, s.dev.sup.resetnLow = true → Does (.railGood r run) s s.dev) ∧
    (∀ r : Rail, s.dev.sup.resetnLow = false → s.dev.sup.refOk = false →
      Gives (.railGood r run) s fun e => e.sup.boot = .waitRef ∧ e.get F.SYS_BOOT_STATUS_FAIL_CODE = 6)

/-- REFCLK, the pool's supply and the safe state (R378, R389, R400). REFCLK that appears clears REF_LOSS, and continues only a start-up that
waited for it; its loss holds the PLLs and puts an operating device into the safe state with cause 3, every lane squelched; so does VDD_POOL
out of VGOOD while the pool serves a lane, with cause 4, and not otherwise. -/
def Obligations.SafeStateCauses : Prop :=
  ∀ s : State,
    (∀ run : BootRun,
      (s.dev.sup.boot ≠ .waitRef →
        Does (.refclkAppear run) s ((((s.dev.modSup fun q => { q with refOk := true }).set F.CLK_STATUS_REF_PRESENT 1).set F.CLK_STATUS_REF_LOSS 0).set
          F.CLK_STATUS_HOLDOVER 0)) ∧
      (s.dev.sup.boot = .waitRef → run.logic = [] → (∀ m < 49, run.spares.getD m 0 ≤ 8) → run.checkerOk = false →
        Gives (.refclkAppear run) s fun e => e.sup.refOk = true ∧ e.sup.boot = .failed ∧ e.get F.SYS_BOOT_STATUS_FAIL_CODE = 3)) ∧
    (s.dev.sup.refOk = true → s.dev.get F.SYS_SAFE_SAFE = 0 →
      Gives .refclkLoss s fun e => e.sup.refOk = false ∧ e.get F.CLK_STATUS_REF_LOSS = 1 ∧ e.get F.CLK_STATUS_HOLDOVER = 1 ∧
        e.get F.CLK_INT_STATUS_REF_LOSS = 1 ∧ e.get F.SYS_SAFE_SAFE = (if s.dev.sup.boot = .running then 1 else 0) ∧
        (s.dev.sup.boot = .running → e.get F.SYS_SAFE_SAFE_CAUSE = 3 ∧
          ∀ n : Lane, e.get (F.LTX_STATUS_SQ_SAFE n) = 1 ∧ e.get (F.LTX_STATUS_LIVE n) = 0)) ∧
    (s.dev.sup.boot = .running → s.dev.get F.POOL_STATUS_VGOOD = 0 → s.dev.poolServes = true → s.dev.get F.SYS_SAFE_SAFE = 0 →
      Gives .vddPoolFault s fun e => e.get F.SYS_SAFE_SAFE = 1 ∧ e.get F.SYS_SAFE_SAFE_CAUSE = 4 ∧
        ∀ n : Lane, e.get (F.LTX_STATUS_SQ_SAFE n) = 1 ∧ e.get (F.LTX_STATUS_LIVE n) = 0) ∧
    (s.dev.poolServes = false → Does .vddPoolFault s s.dev)

/-- The watchdog (R383 to R386). The key restarts the period and changes nothing else; another value, or a whole period without a kick, stops
the processor and schedules a full reset with cause 3, capturing the program counter; half a period sets WDT_HALF; a watchdog that does not
run does none of it; LOCK is set and nothing else. -/
def Obligations.Watchdog : Prop :=
  ∀ s : State,
    Does (.wdtKick 0x0000C35A) s s.dev ∧
    (∀ w : Word, w ≠ 0x0000C35A → s.dev.wdtRuns = true → s.dev.sup.due = none →
      Gives (.wdtKick w) s fun e => e.sup.procRun = false ∧ e.sup.due = some 3) ∧
    (∀ pc : Word, s.dev.wdtRuns = true → s.dev.sup.due = none →
      Gives (.watchdogExpiry pc) s fun e => e.sup.procRun = false ∧ e.sup.due = some 3 ∧ e.reg F.SYS_WDT_CAPTURE.addr = pc ∧
        ∀ a, a ≠ F.SYS_WDT_CAPTURE.addr → e.reg a = s.dev.reg a) ∧
    (∀ pc : Word, s.dev.wdtRuns = false → Does (.watchdogExpiry pc) s s.dev) ∧
    (s.dev.wdtRuns = true → Does .wdtHalf s (s.dev.set F.SYS_INT_STATUS_WDT_HALF 1)) ∧
    (s.dev.wdtRuns = false → Does .wdtHalf s s.dev) ∧
    Does .wdtLock s (s.dev.set F.SYS_WDT_CTRL_LOCK 1)

/-! ### Power (chapter 12) -/

/-- Requests for a device state, and their ends (R422 to R429). One made during a transition is held; from STANDBY a request for ACTIVE starts
the transition, and one for DORMANT waits for the WFI; from ACTIVE one for STANDBY starts it and holds the lanes' requests back. WFI starts the
entry only in machine mode from STANDBY, and is refused elsewhere; without it the request ends after 100 ms. A transition that ends shows
its state. The operating point (R436 to R440). A write that asks for more raises VDD_CORE first and leaves the live point until VGOOD_CORE; one that
asks for less takes effect at once; VGOOD_CORE makes the goal live. -/
def Obligations.PowerStatesAndOperatingPoint : Prop :=
  (∀ s : State, s.dev.mft.waiting = [] → s.dev.mft.begun = [] →
    (∀ v : BitVec 2,
      (s.dev.get F.PWR_STATUS_TRANS ≠ 7 → s.dev.get F.PWR_STATUS_TRANS ≠ v.toNat →
        Gives (.powerStateRequest v) s fun e => e.get F.PWR_CTRL_STATE_REQ = v.toNat ∧ e.get F.PWR_STATUS_PENDING = v.toNat ∧
          e.get F.PWR_STATUS_TRANS = s.dev.get F.PWR_STATUS_TRANS) ∧
      (s.dev.get F.PWR_STATUS_TRANS = 7 → s.dev.get F.PWR_STATUS_STATE = v.toNat →
        Gives (.powerStateRequest v) s fun e => e.get F.PWR_STATUS_PENDING = 7 ∧ e.get F.PWR_STATUS_TRANS = 7 ∧
          e.get F.PWR_STATUS_STATE = v.toNat ∧ e.sup.sleepFor = none)) ∧
    (s.dev.get F.PWR_STATUS_TRANS = 7 → s.dev.get F.PWR_STATUS_STATE = 1 →
      (Gives (.powerStateRequest 0) s fun e => e.get F.PWR_STATUS_TRANS = 0 ∧ e.get F.PWR_STATUS_PENDING = 7) ∧
      (Gives (.powerStateRequest 2) s fun e => e.sup.sleepFor = some 2 ∧ e.get F.PWR_STATUS_PENDING = 2 ∧ e.get F.PWR_STATUS_TRANS = 7) ∧
      (s.dev.get F.PWR_CTRL_SLEEP = 1 →
        Gives (.wfiSleep true) s fun e => e.get F.PWR_STATUS_TRANS = 2 ∧ e.sup.procRun = false ∧ e.mon.work = .idle ∧ e.mon.queue = [])) ∧
    (s.dev.get F.PWR_STATUS_TRANS = 7 → s.dev.get F.PWR_STATUS_STATE = 0 →
      Gives (.powerStateRequest 1) s fun e => e.get F.PWR_STATUS_TRANS = 1 ∧ e.laneHold = true) ∧
    (1 ≤ s.dev.get F.PWR_CTRL_SLEEP → s.dev.get F.PWR_CTRL_SLEEP ≤ 2 → Does (.wfiSleep false) s (s.dev.set F.PWR_INT_STATUS_SLEEP_REFUSED 1)) ∧
    (∀ m : Bool, s.dev.get F.PWR_CTRL_SLEEP = 0 → Does (.wfiSleep m) s s.dev) ∧
    (∀ v, s.dev.sup.sleepFor = some v → Gives .sleepTimeout s fun e => e.sup.sleepFor = none ∧ e.get F.PWR_STATUS_PENDING = 7) ∧
    (s.dev.sup.sleepFor = none → Does .sleepTimeout s s.dev) ∧
    (s.dev.get F.PWR_STATUS_TRANS = 0 → s.dev.get F.PWR_STATUS_PENDING = 7 →
      Gives .powerTransitionDone s fun e => e.get F.PWR_STATUS_STATE = 0 ∧ e.get F.PWR_STATUS_TRANS = 7 ∧ e.laneHold = false ∧
        e.get F.PWR_INT_STATUS_STATE_DONE = 1) ∧
    (s.dev.get F.PWR_STATUS_TRANS = 1 → s.dev.get F.PWR_STATUS_STATE = 0 → s.dev.standbyReady = false → Does .powerTransitionDone s s.dev) ∧
    (s.dev.get F.PWR_STATUS_TRANS = 2 → s.dev.get F.PWR_STATUS_PENDING = 7 → s.dev.get F.MFT_CTRL_ENABLE = 0 →
      Gives .powerTransitionDone s fun e => e.get F.PWR_STATUS_STATE = 2 ∧ e.get F.PWR_STATUS_TRANS = 7 ∧
        ∀ a, macroOff (a / 0x8000) = true → e.byte a = 0)) ∧
  (∀ s : State, s.dev.get F.PWR_STATUS_STATE < 2 →
    (∀ v f : BitVec 2, s.dev.sup.opGoal = none →
      (s.dev.get F.PWR_STATUS_OP_LIVE < max v.toNat (max f.toNat s.dev.opMin) →
        Gives (.opReqWrite v f) s fun e => e.get F.PWR_STATUS_OP_BUSY = 1 ∧ e.get F.PWR_STATUS_VGOOD_CORE = 0 ∧
          e.sup.opGoal = some (max v.toNat (max f.toNat s.dev.opMin)) ∧ e.get F.PWR_STATUS_OP_LIVE = s.dev.get F.PWR_STATUS_OP_LIVE) ∧
      (max v.toNat (max f.toNat s.dev.opMin) < s.dev.get F.PWR_STATUS_OP_LIVE →
        Gives (.opReqWrite v f) s fun e => e.get F.PWR_STATUS_OP_LIVE = max v.toNat (max f.toNat s.dev.opMin) ∧ e.sup.opGoal = none ∧
          e.get F.PWR_INT_STATUS_OP_DONE = 1)) ∧
    (s.dev.sup.opGoal = some s.dev.opTarget → s.dev.mft.commits = [] →
      Gives .vgoodCore s fun e => e.get F.PWR_STATUS_OP_LIVE = s.dev.opTarget ∧ e.get F.PWR_STATUS_OP_BUSY = 0 ∧
        e.get F.PWR_STATUS_VGOOD_CORE = 1 ∧ e.sup.opGoal = none ∧ e.get F.PWR_INT_STATUS_OP_DONE = 1))

/-- Wakes and the reload (R430 to R435, R441 to R443). A wake source of DORMANT that is enabled makes the wake due and names itself, one that
is not does nothing, and the host's access is a source in HIBERNATE only; a write to a block without supply is held, with the register as it
was; a wake that is due starts, restoring every register and live copy of a bank that does not fail, and showing the banks that do; a
reload that ends lets the halves that waited start. -/
def Obligations.Wakes : Prop :=
  ∀ s : State,
    (s.dev.get F.PWR_STATUS_TRANS = 7 → s.dev.get F.PWR_STATUS_STATE = 2 →
      ((s.dev.reg F.PWR_WAKE_EN.addr).getLsbD 0 = true →
        Gives .wakenFall s fun e => e.sup.wakeDue = true ∧ (e.reg F.PWR_WAKE_SRC.addr).getLsbD 0 = true) ∧
      ((s.dev.reg F.PWR_WAKE_EN.addr).getLsbD 0 = false → Does .wakenFall s s.dev) ∧
      ((s.dev.reg F.PWR_WAKE_EN.addr).getLsbD 3 = true → s.dev.get F.PWR_WAKE_TIMER ≠ 0 →
        Gives .wakeTimer s fun e => e.sup.wakeDue = true ∧ (e.reg F.PWR_WAKE_SRC.addr).getLsbD 3 = true) ∧
      Does .hostAccessWake s s.dev) ∧
    (s.dev.get F.PWR_WAKE_TIMER = 0 → Does .wakeTimer s s.dev) ∧
    (s.dev.get F.PWR_STATUS_TRANS = 7 → s.dev.get F.PWR_STATUS_STATE = 3 → (s.dev.reg F.PWR_WAKE_EN.addr).getLsbD 2 = true →
      Gives .hostAccessWake s fun e => e.sup.wakeDue = true ∧ (e.reg F.PWR_WAKE_SRC.addr).getLsbD 2 = true) ∧
    (∀ (a : BitVec 20) (w : Word),
      (s.dev.get F.PWR_STATUS_STATE = 2 → regOn a.toNat = false →
        Gives (.offBlockWrite a w) s fun e => e.sup.heldWrites = s.dev.sup.heldWrites ++ [(a.toNat, w)] ∧ e.reg a.toNat = s.dev.reg a.toNat) ∧
      (s.dev.get F.PWR_STATUS_STATE ≠ 2 → Does (.offBlockWrite a w) s s.dev)) ∧
    (∀ run : WakeRun,
      (s.dev.sup.wakeDue = false → Does (.wakeStart run) s s.dev) ∧
      (s.dev.sup.wakeDue = true → s.dev.get F.PWR_STATUS_STATE = 2 → s.dev.get F.PWR_STATUS_TRANS = 7 → s.dev.errs = [] → s.dev.poisoned = [] →
        (s.dev.sup.saved = none →
          Gives (.wakeStart run) s fun e => e.get F.PWR_STATUS_TRANS = 1 ∧ e.get F.PWR_STATUS_VGOOD_CORE = 1 ∧ e.sup.wakeDue = false) ∧
        (∀ v : Saved, s.dev.sup.saved = some v → v.deep = false → (v.regs.map (·.1)).Nodup → (v.live.map (·.1)).Nodup →
          (∀ x ∈ v.regs, 3 ≤ regBank x.1 ∧ regBank x.1 ≤ 7) →
          Gives (.wakeStart run) s fun e => e.get F.PWR_STATUS_TRANS = 1 ∧ e.sup.saved = none ∧ e.sup.wakeDue = false ∧
            (∀ x ∈ v.regs, run.failed.getLsbD (regBank x.1) = false → e.reg x.1 = x.2) ∧
            (∀ x ∈ v.live, 3 ≤ regBank x.1 → regBank x.1 ≤ 7 → run.failed.getLsbD (regBank x.1) = false → e.liveReg x.1 = x.2) ∧
            (∀ b : Nat, 3 ≤ b → b ≤ 7 → run.failed.getLsbD b = true →
              (e.reg F.PWR_RETAIN.addr).getLsbD b = true ∧ e.get F.PWR_INT_STATUS_RETAIN_FAIL = 1)))) ∧
    (s.dev.sup.reload = 0 → Does .retentionReloadDone s s.dev) ∧
    (s.dev.sup.reload ≠ 0 → Gives .retentionReloadDone s fun e => e.sup.reload = 0) ∧
    (∀ n : Lane, s.dev.sup.reload ≠ 0 → s.dev.newestCal = none → s.dev.get (F.LTX_STATUS_STATE n) = 0 → s.dev.get (F.LTX_STATUS_TRANS n) = 7 →
      s.dev.get (F.LTX_STATUS_PENDING n) = 1 →
      Gives .retentionReloadDone s fun e => e.sup.reload = 0 ∧ e.get (F.LTX_STATUS_TRANS n) = 1 ∧ e.get (F.LTX_STATUS_PENDING n) = 7)

/-! ### Thermal management (chapter 13) -/

/-- Thermal levels (R447 to R454, R462). With no sensor suspect and every sensor reading the same value, that value is the hottest; at the
shutdown threshold the latch sets and the device is held in reset; at the warning threshold WARNING sets and is flagged; at the throttle threshold
THROTTLE sets and the grace time runs. Enforcement (R455 to R460). The grace time's end orders E1 while THROTTLE is set, E2_DELAY's end orders E2, and each release period with
THROTTLE clear lifts one step; the step in force is never below ENF_MIN; THERMAL goes out once a second while THROTTLE is set, and a received
one sets FAR_THERMAL only. -/
def Obligations.ThermalManagement : Prop :=
  (∀ (s : State) (v : Int), -(2 ^ 19) ≤ v → v < 2 ^ 19 → s.dev.reg F.THM_SUSPECT.addr = 0 → s.dev.get F.THM_STATUS_SHUTDOWN = 0 →
    s.dev.get F.THM_STATUS_THROTTLE = 0 →
    (s.dev.shutAt * 256 ≤ v →
      Gives (.thermalSample (List.replicate 24 (some v))) s fun e => e.get F.THM_STATUS_SHUTDOWN = 1 ∧ e.sup.boot = .held ∧ e.mft = Mft.fresh ∧
        e.sget F.THM_STATUS_HOTTEST = v) ∧
    (s.dev.get F.THM_STATUS_WARNING = 0 → s.dev.warnAt * 256 ≤ v → v < s.dev.throtAt * 256 → v < s.dev.shutAt * 256 →
      Gives (.thermalSample (List.replicate 24 (some v))) s fun e => e.get F.THM_STATUS_WARNING = 1 ∧ e.get F.THM_STATUS_THROTTLE = 0 ∧
        e.get F.THM_INT_STATUS_WARN_SET = 1 ∧ e.sget F.THM_STATUS_HOTTEST = v) ∧
    (s.dev.throtAt * 256 ≤ v → v < s.dev.shutAt * 256 → s.dev.enf = 0 →
      Gives (.thermalSample (List.replicate 24 (some v))) s fun e => e.get F.THM_STATUS_THROTTLE = 1 ∧ e.get F.THM_STATUS_GRACE_RUN = 1 ∧
        e.get F.THM_INT_STATUS_THROT_SET = 1 ∧ e.get F.THM_STATUS_ENF = 0) ∧
    (s.dev.get F.THM_STATUS_WARNING = 0 → v < s.dev.warnAt * 256 → v < s.dev.throtAt * 256 → v < s.dev.shutAt * 256 →
      Gives (.thermalSample (List.replicate 24 (some v))) s fun e => e.get F.THM_STATUS_WARNING = 0 ∧ e.get F.THM_STATUS_THROTTLE = 0 ∧
        e.sget F.THM_STATUS_HOTTEST = v)) ∧
  (∀ s : State,
    (s.dev.get F.THM_STATUS_GRACE_RUN = 0 → Does .graceExpiry s s.dev) ∧
    (s.dev.get F.THM_STATUS_GRACE_RUN = 1 → s.dev.get F.THM_STATUS_THROTTLE = 1 → s.dev.thm.ordered = 0 → s.dev.get F.THM_CTRL_ENF_MIN = 0 →
      Gives .graceExpiry s fun e => e.get F.THM_STATUS_ENF = 1 ∧ e.get F.THM_STATUS_GRACE_RUN = 0 ∧ e.thm.e2Run = true) ∧
    (s.dev.thm.e2Run = true → s.dev.get F.THM_STATUS_THROTTLE = 1 →
      Gives .e2DelayExpiry s fun e => e.get F.THM_STATUS_ENF = 2 ∧ e.thm.ordered = 2 ∧ e.thm.e2Run = false) ∧
    (s.dev.thm.e2Run = false → Does .e2DelayExpiry s s.dev) ∧
    (s.dev.get F.THM_STATUS_THROTTLE = 0 → s.dev.thm.ordered ≤ 2 →
      Gives .releaseExpiry s fun e => e.thm.ordered = s.dev.thm.ordered - 1 ∧
        e.get F.THM_STATUS_ENF = max (s.dev.thm.ordered - 1) (min 2 (s.dev.get F.THM_CTRL_ENF_MIN))) ∧
    (s.dev.get F.THM_STATUS_THROTTLE = 1 → Does .releaseExpiry s s.dev) ∧
    (∀ v : BitVec 2, s.dev.thm.ordered ≤ 2 →
      Gives (.enfMinWrite v) s fun e => e.get F.THM_CTRL_ENF_MIN = v.toNat ∧ e.get F.THM_STATUS_ENF = max s.dev.thm.ordered (min 2 v.toNat) ∧
        e.thm.ordered = s.dev.thm.ordered) ∧
    (∀ n : Lane, s.dev.get F.THM_STATUS_THROTTLE = 1 → s.dev.pilotSync n = true → (s.dev.plt.get n).ctl.length < 8 →
      Gives .thermalReportTimer s fun e => ∃ m : CtlMsg, (e.plt.get n).ctl = (s.dev.plt.get n).ctl ++ [m] ∧ m.cls = 1 ∧ m.typ = 3) ∧
    (s.dev.get F.THM_STATUS_THROTTLE = 0 → Does .thermalReportTimer s s.dev) ∧
    (∀ (n : Lane) (level step : Nat) (hot : Int) (grade : Nat), Does (.thermal n level step hot grade) s (s.dev.set F.THM_INT_STATUS_FAR_THERMAL 1)))

/-! ### Memories and self-test (chapter 16) -/

/-- The protected memories (R516, R522 to R527, R531). A scrub access to a clean row goes on to the next row and changes no byte, and at the last
row of macro 0 counts a pass; a row with one flipped data bit is mended and counted; a block is flipped by injection, twice is none; unpoison
zero-fills its block and no other byte; a reloaded code page is clean of flips and poison. -/
def Obligations.ProtectedMemories : Prop :=
  ∀ s : State,
    (∀ m : Fin 49, s.dev.get F.MEM_CTRL_SCRUB_EN = 0 → Does (.scrubAccess m) s s.dev) ∧
    (∀ m : Fin 49, s.dev.get F.MEM_CTRL_SCRUB_EN = 1 → s.dev.get F.PWR_STATUS_STATE < 2 → s.dev.writeBack = [] →
      (s.dev.blockClass (512 * m.val + s.dev.scrubRow.get m) = .clean →
        (s.dev.scrubRow.get m + 1 < macroRows m.val →
          Gives (.scrubAccess m) s fun e => e.scrubRow.get m = s.dev.scrubRow.get m + 1 ∧ e.errs = s.dev.errs ∧
            e.poisoned = s.dev.poisoned ∧ e.mem = s.dev.mem ∧ e.regs = s.dev.regs) ∧
        (macroRows m.val ≤ s.dev.scrubRow.get m + 1 →
          Gives (.scrubAccess m) s fun e => e.scrubRow.get m = 0 ∧
            (m.val = 0 → e.get F.MEM_SCRUB_PASS = (s.dev.get F.MEM_SCRUB_PASS + 1) % 2 ^ 16))) ∧
      (∀ x : Nat, x < 512 → s.dev.poisoned = [] → s.dev.errs = [(512 * m.val + s.dev.scrubRow.get m, [x])] → s.dev.get F.PMU_STATUS_FROZEN = 0 →
        Gives (.scrubAccess m) s fun e => e.errs = [] ∧ e.pair F.MEM_CORR = (s.dev.pair F.MEM_CORR + 1) % 2 ^ 48 ∧
          e.get F.MEM_INT_STATUS_CORR = 1)) ∧
    Does .historyExpiry s (s.dev.modMemHist fun l => l.drop 1) ∧
    (s.dev.get F.MEM_UNPOISON_MACRO < 16 →
      Gives .unpoison s fun e => (512 * s.dev.get F.MEM_UNPOISON_MACRO + s.dev.get F.MEM_UNPOISON_ROW) ∉ e.poisoned ∧
        e.flips (512 * s.dev.get F.MEM_UNPOISON_MACRO + s.dev.get F.MEM_UNPOISON_ROW) = [] ∧
        ∀ a, e.byte a = if blockOf a = 512 * s.dev.get F.MEM_UNPOISON_MACRO + s.dev.get F.MEM_UNPOISON_ROW then 0 else s.dev.byte a) ∧
    (16 ≤ s.dev.get F.MEM_UNPOISON_MACRO → s.dev.get F.MEM_UNPOISON_MACRO < 36 → Does .unpoison s s.dev) ∧
    (s.dev.get F.MEM_INJECT_MACRO < 16 → s.dev.get F.MEM_INJECT_DOUBLE = 0 → s.dev.errs = [] →
      Gives .errorInject s fun e =>
        e.errs = [(512 * s.dev.get F.MEM_INJECT_MACRO + s.dev.get F.MEM_INJECT_ROW, [64 * s.dev.get F.MEM_INJECT_WORD + s.dev.get F.MEM_INJECT_BIT])] ∧
        e.mem = s.dev.mem ∧ ∃ t, exec .errorInject { s with dev := e } = .next t ∧ t.dev.errs = []) ∧
    (49 ≤ s.dev.get F.MEM_INJECT_MACRO → Does .errorInject s s.dev) ∧
    (s.dev.sup.pages = [] → ∀ ok : Bool, Does (.codeReloadDone ok) s s.dev) ∧
    (∀ (blk : Nat) (rest : List Nat), s.dev.sup.pages = blk :: rest → s.dev.get F.MFT_CTRL_ENABLE = 0 →
      (Gives (.codeReloadDone true) s fun e => ∀ b, b / 64 = blk / 64 → b ∉ e.poisoned ∧ e.flips b = []) ∧
      (Gives (.codeReloadDone false) s fun e => e.poisoned = s.dev.poisoned ∧ e.get F.MEM_INT_STATUS_RELOAD_FAIL = 1))

/-- In-field BIST (R35, R536 to R538). A slice that falls due while the pool is not below its target, or under enforcement, is deferred and
counted; else the next engine, when idle, starts its slice. An engine that passes returns to the rotation and counts the pass, one that fails is
quarantined; a failing block without redundancy puts the device into the safe state with cause 2, a passing one changes nothing. -/
def Obligations.InFieldBist : Prop :=
  ∀ s : State,
    (s.dev.get F.BIST_CTRL_ENG_EN = 0 → Does .bistSliceStart s s.dev) ∧
    (s.dev.get F.BIST_CTRL_ENG_EN = 1 → s.dev.get F.PWR_STATUS_STATE = 0 → (∀ e : Eng, (s.dev.pool.engines.get e).chosen = false) →
      ((s.dev.get F.POOL_STATUS_BELOW_TGT = 0 ∨ s.dev.enf ≠ 0) →
        Does .bistSliceStart s ((s.dev.set F.BIST_STATUS_DEFERRED 1).bump F.BIST_EVENTS_DEFERRED)) ∧
      (∀ i : Eng, s.dev.get F.POOL_STATUS_BELOW_TGT = 1 → s.dev.enf = 0 → s.dev.nextEngine (s.dev.get F.BIST_STATUS_NEXT_ENG) = some i.val →
        (s.dev.pool.engines.get i).job = .idle →
        Gives .bistSliceStart s fun e => (e.pool.engines.get i).job = .slice ∧ e.get F.BIST_STATUS_SLICE_RUN = 1 ∧
          e.get F.BIST_STATUS_DEFERRED = 0 ∧ e.get F.BIST_EVENTS_RUN = (s.dev.get F.BIST_EVENTS_RUN + 1) % 2 ^ 16)) ∧
    (∀ i : Eng,
      (s.dev.pool.engines.get i).job ≠ .slice → ∀ pass : Bool, Does (.bistSliceEnd i pass) s s.dev) ∧
    (∀ i : Eng, (s.dev.pool.engines.get i).job = .slice →
      (Gives (.bistSliceEnd i true) s fun e => (e.pool.engines.get i).chosen = false ∧ e.get (F.ENG_BIST_TESTED i) = 1 ∧
        e.get (F.ENG_BIST_PASSES i) = (s.dev.get (F.ENG_BIST_PASSES i) + 1) % 2 ^ 16 ∧ ∀ k < 64, e.quarantined k = s.dev.quarantined k) ∧
      (Gives (.bistSliceEnd i false) s fun e => e.quarantined i.val = true ∧ e.get (F.ENG_BIST_FIELD_FAIL i) = 1 ∧
        e.get F.POOL_INT_STATUS_QUARANTINE = 1 ∧ ∀ k < 64, k ≠ i.val → e.quarantined k = s.dev.quarantined k)) ∧
    (∀ b : NrBlock, Does (.nrSubslice b .passed) s s.dev) ∧
    (s.dev.get F.BIST_CTRL_NR_EN = 1 → s.dev.get F.SYS_SAFE_SAFE = 0 →
      Gives (.nrSubslice .fft .failed) s fun e => e.get F.BIST_STATUS_NR_FAIL % 2 = 1 ∧ e.get F.MEM_INT_STATUS_BIST_FAIL = 1 ∧
        e.get F.SYS_SAFE_SAFE = 1 ∧ e.get F.SYS_SAFE_SAFE_CAUSE = 2)

/-! ### Security (chapter 18) -/

/-- Fuses, keys and the random generator (R573, R580, R586, R591). SVN_ADV starts only when the running image's SVN is above the fuses', and its end
raises them to it; zeroisation erases the keys in use and not those in flash, and needs granted rights; a failing generator makes draws wait, and when it
passes again the nonce is drawn, never 0; an hour after a switch the old key is gone and the key in use stays. -/
def Obligations.KeysAndFuses : Prop :=
  ∀ s : State,
    (s.dev.get F.SEC_STATUS_SVN_BUSY = 0 → s.dev.flash.svn < s.dev.sec.svnRun → Does .svnAdv s (s.dev.set F.SEC_STATUS_SVN_BUSY 1)) ∧
    (s.dev.sec.svnRun ≤ s.dev.flash.svn → Does .svnAdv s s.dev) ∧
    (s.dev.get F.SEC_STATUS_SVN_BUSY = 1 →
      Gives .svnDone s fun e => e.flash.svn = max s.dev.flash.svn s.dev.sec.svnRun ∧ e.get F.SEC_STATUS_SVN_BUSY = 0 ∧
        e.get F.SEC_INT_STATUS_SVN_DONE = 1 ∧ e.flash.keys = s.dev.flash.keys) ∧
    (s.dev.get F.SEC_STATUS_SVN_BUSY = 0 → Does .svnDone s s.dev) ∧
    (s.dev.get F.SEC_STATUS_PERMS % 4 = 0 → Does .jtagZeroise s s.dev) ∧
    (s.dev.get F.SEC_STATUS_PERMS % 4 ≠ 0 → s.dev.get F.SEC_STATUS_ZEROISED = 0 →
      Gives .jtagZeroise s fun e => e.get F.SEC_STATUS_ZEROISED = 1 ∧ e.sec.keys = KeyStore.none ∧ e.flash = s.dev.flash ∧ e.tagKey = 0 ∧
        e.get F.SEC_STATUS_KEYED = 0 ∧ e.get F.SEC_INT_STATUS_ZEROISE = 1) ∧
    Does .trngFail s ((s.dev.set F.SEC_STATUS_TRNG_OK 0).set F.SEC_INT_STATUS_TRNG_FAIL 1) ∧
    (s.dev.sec.wantNonce = false → s.dev.sec.wantChallenge = false → Does .trngOk s (s.dev.set F.SEC_STATUS_TRNG_OK 1)) ∧
    (s.dev.sec.wantNonce = true → Gives .trngOk s fun e => e.sec.wantNonce = false ∧ e.sec.wantChallenge = false ∧ e.fab.nonce ≠ 0 ∧
      e.get F.SEC_STATUS_TRNG_OK = 1) ∧
    (Gives .oldKeyErase s fun e => e.sec.keys.old = none ∧ e.flash.keys.old = none ∧ e.sec.keys.key = s.dev.sec.keys.key ∧
      e.get F.SEC_STATUS_OLD_KEY = 0 ∧ e.tagKey = s.dev.tagKey)

/-! ### Rings (chapter 8) -/

/-- The rings (R286 to R289, R296, R317). A bad configuration sets CFG_ERR only; a good one zeroes indices and the sequence byte and starts both phases
at 1; a stop with nothing started stops at once and else drains; the doorbell takes a slot that covers no less than before, inside an enabled ring,
and is an error otherwise; a consumed index frees the event ring. -/
def Obligations.Rings : Prop :=
  ∀ s : State,
    (s.dev.get F.MFT_CTRL_ENABLE = 1 → Does .ringEnable s s.dev) ∧
    (s.dev.get F.MFT_CTRL_ENABLE = 0 → s.dev.ringsOk = false → Does .ringEnable s (s.dev.set F.MFT_STATUS_CFG_ERR 1)) ∧
    (s.dev.get F.MFT_CTRL_ENABLE = 0 → s.dev.get F.MFT_STATUS_DRAINING = 0 → s.dev.ringsOk = true → s.dev.mft.held = [] →
      Gives .ringEnable s fun e => e.get F.MFT_CTRL_ENABLE = 1 ∧ e.get F.MFT_STATUS_RUNNING = 1 ∧ e.get F.MFT_CMD_CI = 0 ∧ e.get F.MFT_DB = 0 ∧
        e.get F.MFT_CPL_PI_IDX = 0 ∧ e.get F.MFT_EVT_PI_IDX = 0 ∧ e.get F.MFT_CPL_PI_PHASE = 1 ∧ e.mft.seq = 0 ∧ e.mft.cplPhase = true ∧
        e.mft.evtPhase = true ∧ e.mem = s.dev.mem) ∧
    (s.dev.get F.MFT_CTRL_ENABLE = 1 →
      Gives .ringDisable s fun e => e.get F.MFT_CTRL_ENABLE = 0 ∧ (e.get F.MFT_STATUS_DRAINING = 1 ↔ s.dev.ringStarted ≠ 0) ∧
        (s.dev.ringStarted = 0 → e.get F.MFT_STATUS_RUNNING = 0)) ∧
    (s.dev.get F.MFT_CTRL_ENABLE = 0 → Does .ringDisable s s.dev) ∧
    (s.dev.get F.MFT_STATUS_DRAINING = 1 → s.dev.ringStarted = 0 →
      Does .drainComplete s ((s.dev.set F.MFT_STATUS_DRAINING 0).set F.MFT_STATUS_RUNNING 0)) ∧
    (s.dev.ringStarted ≠ 0 → Does .drainComplete s s.dev) ∧
    (∀ v : Byte,
      ((s.dev.get F.MFT_CTRL_ENABLE = 0 ∨ s.dev.cmdSize ≤ v.toNat) → Does (.doorbell v) s (s.dev.set F.MFT_INT_STATUS_DB_ERR 1)) ∧
      (s.dev.get F.MFT_CTRL_ENABLE = 1 → v.toNat < s.dev.cmdSize → s.dev.get F.MFT_DB = s.dev.get F.MFT_CMD_CI → s.dev.get F.PWR_STATUS_STATE ≤ 1 →
        s.dev.get F.PWR_STATUS_TRANS = 7 → s.dev.get F.MFT_CMD_CI < s.dev.cmdSize → Does (.doorbell v) s (s.dev.set F.MFT_DB v.toNat)) ∧
      Does (.completionConsumed v) s (s.dev.set F.MFT_CPL_CI v.toNat)) ∧
    (∀ v : BitVec 7, v.toNat = s.dev.get F.MFT_EVT_PI_IDX → v.toNat < s.dev.evtSize →
      Gives (.eventConsumed v) s fun e => e.get F.MFT_EVT_CI = v.toNat ∧ e.evtFull = false)

/-! ### Fabric (chapter 9) -/

/-- Links and messages (R324, R325, R330, R331, R352, R353). The code groups of any message's frame give back its bytes and count it; a frame with
a bad CRC or with invalid code groups is counted and flagged, each such group apart; synchronisation brings an
enabled link up, and its loss brings the link, its adjacency and its routes down. A unicast message for another address goes on by its route with one more
hop; at 32 hops it is dropped. A message whose tag no key verifies, and one that is too old, is counted and has no other effect. -/
def Obligations.FabricLinks : Prop :=
  ∀ s : State,
    (∀ p : Port,
      ((s.dev.hws.get p).sync = true → s.dev.get (F.HWS_CTRL_HWS_EN p) = 1 → s.dev.get F.PWR_STATUS_STATE ≠ 3 →
        (∀ bs : List Byte, hawserBytes (hawserWire bs) = some bs ∧ 
          Does (.hawserFrame p (.ctl 0xFB) (hawserBody bs) (.ctl 0xFD)) s (s.dev.count (F.HWS_FRM_RX p))) ∧
        (∀ (a b : CodeGroup) (l gs : List CodeGroup), a :: (l ++ [b]) = gs → hawserBytes gs = none →
          (CodeGroup.invalid ∉ gs →
            Does (.hawserFrame p a l b) s ((s.dev.bump (F.HWS_ERR_CRC_ERR p)).set (F.HWS_INT_STATUS_CRC_ERR p) 1)) ∧
          Gives (.hawserFrame p a l b) s fun e =>
            e.get (F.HWS_ERR_CODE p) = (s.dev.get (F.HWS_ERR_CODE p) + gs.count .invalid) % 2 ^ 16 ∧
            e.get (F.HWS_ERR_CRC_ERR p) = (s.dev.get (F.HWS_ERR_CRC_ERR p) + 1) % 2 ^ 16 ∧
            e.get (F.HWS_INT_STATUS_CRC_ERR p) = 1 ∧ e.pair (F.HWS_FRM_RX p) = s.dev.pair (F.HWS_FRM_RX p))) ∧
      (((s.dev.hws.get p).sync = false ∨ s.dev.get (F.HWS_CTRL_HWS_EN p) = 0) →
        ∀ (a b : CodeGroup) (l : List CodeGroup), Does (.hawserFrame p a l b) s s.dev)) ∧
    (∀ p : Port,
      (s.dev.get (F.HWS_CTRL_HWS_EN p) = 0 →
        Does (.hawserSyncAcquired p) s
          (((s.dev.modHws p fun h => { h with sync := true }).set (F.HWS_STATUS_SYNC p) 1).set (F.HWS_STATUS_SIGNAL p) 1)) ∧
      (s.dev.get (F.HWS_CTRL_HWS_EN p) = 1 → s.dev.get (F.HWS_CTRL_LOOP p) = 0 →
        ((s.dev.hws.get p).sync = false →
          Does (.hawserSyncAcquired p) s
            ((((s.dev.modHws p fun h => { h with sync := true }).set (F.HWS_STATUS_SYNC p) 1).set (F.HWS_STATUS_SIGNAL p) 1).set
              (F.HWS_INT_STATUS_LINK_UP p) 1)) ∧
        ((s.dev.hws.get p).sync = true → (s.dev.fab.links.get (Fin.ofNat 16 (p.val + 8))).adj = none →
          Does (.hawserSyncLost p) s
            (((s.dev.modHws p fun h => { h with sync := false }).set (F.HWS_STATUS_SYNC p) 0).set (F.HWS_INT_STATUS_LINK_DOWN p) 1)) ∧
        ((s.dev.hws.get p).sync = true → s.dev.get F.PWR_STATUS_STATE ≠ 2 →
          Gives (.hawserSyncLost p) s fun e => (e.fab.links.get (Fin.ofNat 16 (p.val + 8))).adj = none ∧
            e.get (F.HWS_INT_STATUS_LINK_DOWN p) = 1 ∧
            ((s.dev.fab.links.get (Fin.ofNat 16 (p.val + 8))).adj ≠ none → ∀ r ∈ e.fab.routes, r.link ≠ p.val + 8)))) ∧
    (∀ (i : Link) (m : FabMsg), s.dev.fabUp = true → s.dev.linkUp i = true →
      (m.link = true → Does (.messageForward i m) s s.dev) ∧
      (m.link = false → m.flood = true → s.dev.fab.floods.contains (m.srcId, m.seq) = true → Does (.messageForward i m) s s.dev) ∧
      (m.link = false → m.flood = false → s.dev.ownAddr ≠ some m.dst →
        (m.hops < 32 → ∀ r : RouteIn, s.dev.hop m.dst = some r → 8 ≤ r.link → r.link < 16 →
          Does (.messageForward i m) s
            ((s.dev.modHws (Fin.ofNat 8 (r.link - 8)) fun h => { h with txq := h.txq ++ [{ m with hops := m.hops + 1 }] }).count F.FAB_FWD)) ∧
        (32 ≤ m.hops → m.noAddr = true → Does (.messageForward i m) s (s.dev.bump F.FAB_ERR_B_HOP_LIMIT))) ∧
      (∀ n : Nat, m.body = .ack n → m.link = false → m.flood = false → s.dev.ownAddr = some m.dst →
        ((∀ k, m.tagKey = some k → k ∉ s.dev.acceptKeys) →
          Does (.ack i m) s ((s.dev.bump F.FAB_ERR_A_TAG_FAIL).set F.FAB_INT_STATUS_TAG_FAIL 1)) ∧
        (∀ (k : BitVec 256) (h : Nat) (w : BitVec 64), m.tagKey = some k → k ∈ s.dev.acceptKeys → m.dnonce = s.dev.fab.nonce → m.dnonce ≠ 0 →
          s.dev.fab.replay.find? (fun p => p.1 == m.srcId) = some (m.srcId, h, w) → m.seq + 63 < h →
          Does (.ack i m) s (s.dev.bump F.FAB_ERR_A_REPLAY)))) ∧
    (∀ (i : Link) (m : FabMsg) (e : Device), s.dev.Received i m e →
      (m.link = true → e = s.dev.modLink i fun x => { x with seqs := (e.fab.links.get i).seqs }) ∧
      (m.link = false → m.flood = false → e = s.dev.modFab fun b => { b with replay := e.fab.replay }))

/-- Beacons and routes (R332, R333, R349 to R351). A beacon that repeats this device's identity brings the adjacency up, one that does not leaves it down;
a route of the own cluster is entered for its link in place of the link's earlier one, and withdrawn; the beacon timer puts FAB_CFG into effect and
with FAB_EN at 0 takes the device out of the fabric; an adjacency that runs out goes down with its routes; each route is sent again every 30 s and
expires alone. -/
def Obligations.BeaconsAndRoutes : Prop :=
  ∀ s : State,
    (∀ (i : Link) (m : FabMsg) (d : Device) (heard qm hm : BitVec 64) (epoch : Nat) (flags : BitVec 8),
      s.dev.Received i m d → m.link = true → m.body = .beacon heard qm hm epoch flags → s.dev.get F.PWR_STATUS_STATE ≠ 2 →
      epoch ≤ s.dev.get F.FAB_EPOCH →
      (heard = Config.identity → (s.dev.fab.links.get i).adj = none →
        Gives (.beacon i m) s fun e => (e.fab.links.get i).adj = some m.srcId ∧ (e.fab.links.get i).heard = m.srcId ∧
          (e.fab.links.get i).farEpoch = epoch ∧ (e.reg F.FAB_ADJ.addr).getLsbD i = true) ∧
      (((s.dev.fab.links.get i).adj = some m.srcId ∨ ((s.dev.fab.links.get i).adj = none ∧ heard ≠ Config.identity)) →
        Does (.beacon i m) s (d.modLink i fun x => { x with
          heard := m.srcId, flags := flags, farQm := qm, farHm := hm, farEpoch := epoch, farAddr := m.src }))) ∧
    (∀ (i : Link) (m : FabMsg) (d : Device) (x : RouteEntry) (a : Nat),
      s.dev.Received i m d → m.link = true → m.body = .route [x] → s.dev.get F.PWR_STATUS_STATE ≠ 2 → 8 ≤ i.val → s.dev.ownAddr = some a →
      x.level = 0 → x.number < 64 → x.number ≠ aDevice a → aDevice a ∉ x.path → x.path.length ≤ 31 →
      (x.withdraw = false → (bestRoute s.dev.fab.routes 0 x.number ≠ none ∨ s.dev.routeCount 0 < 64) →
        Gives (.route i m) s fun e => ({ entry := x, link := i.val, at_ := s.dev.now } : RouteIn) ∈ e.fab.routes ∧
          (∀ r ∈ e.fab.routes, r.entry.level = 0 → r.entry.number = x.number → r.link = i.val → r.entry = x) ∧
          ∀ r : RouteIn, (r.entry.level ≠ 0 ∨ r.entry.number ≠ x.number ∨ r.link ≠ i.val) → (r ∈ e.fab.routes ↔ r ∈ s.dev.fab.routes)) ∧
      (x.withdraw = true →
        Gives (.route i m) s fun e =>
          ∀ r : RouteIn, r ∈ e.fab.routes ↔ (r ∈ s.dev.fab.routes ∧ ¬ (r.entry.level = 0 ∧ r.entry.number = x.number ∧ r.link = i.val)))) ∧
    (s.dev.sup.boot = .running → s.dev.get F.PWR_STATUS_STATE ≠ 3 →
      (s.dev.get F.FAB_CFG_FAB_EN = 1 →
        Gives .beaconTimer s fun e => e.get F.FAB_STATUS_RUN = 1 ∧ ∀ i : Link, (e.fab.links.get i).cfg = s.dev.reg F.FAB_CFG.addr) ∧
      (s.dev.get F.FAB_CFG_FAB_EN = 0 →
        Gives .beaconTimer s fun e => e.get F.FAB_STATUS_RUN = 0 ∧ ∀ i : Link, (e.fab.links.get i).adj = none)) ∧
    (s.dev.sup.boot ≠ .running → Does .beaconTimer s s.dev) ∧
    (∀ i : Link,
      ((s.dev.fab.links.get i).adj = none → Does (.adjacencyTimeout i) s s.dev) ∧
      ((s.dev.fab.links.get i).adj ≠ none → s.dev.get F.PWR_STATUS_STATE ≠ 2 →
        Gives (.adjacencyTimeout i) s fun e => (e.fab.links.get i).adj = none ∧ (e.reg F.FAB_ADJ.addr).getLsbD i = false ∧
          ∀ r : RouteIn, r ∈ e.fab.routes ↔ (r ∈ s.dev.fab.routes ∧ r.link ≠ i.val))) ∧
    (Gives .routeTimer s fun e => (∀ (i : Link), ∀ r ∈ s.dev.fab.routes, (r.entry.level, r.entry.number) ∈ (e.fab.links.get i).dirty) ∧
      e.fab.routes = s.dev.fab.routes ∧ e.regs = s.dev.regs) ∧
    (∀ level number : Nat,
      ((∀ r ∈ s.dev.fab.routes, ¬ (r.entry.level = level ∧ r.entry.number = number)) → Does (.routeExpiry level number) s s.dev) ∧
      (∀ r : RouteIn, (s.dev.fab.routes.filter fun x => x.entry.level == level && x.entry.number == number) = [r] →
        Gives (.routeExpiry level number) s fun e => e.fab.routes = s.dev.fab.routes.filter fun x => x != r))

/-- Roles (R338, R339, R341, R345, R347, R365, R366). A device declares itself quaymaster while its identity is the lowest of its cluster, and harbour
master while it is capable and the lowest of the island; with no record and no harbour master known it founds one, with itself at cluster 0, device 0. A
harbour master announces its authority; it holds requests, the hours and a new island number while it has none. A device without an address asks its
addressed neighbour. Without an announcement authority lapses, and after 3 s the harbour master is forgotten. -/
def Obligations.RolesOfTheFabric : Prop :=
  ∀ s : State,
    (s.dev.get F.FAB_STATUS_QM = 1 → Does .quaymasterDeclare s s.dev) ∧
    (s.dev.fabUp = true → s.dev.get F.FAB_STATUS_QM = 0 → s.dev.clusterLow = Config.identity →
      Gives .quaymasterDeclare s fun e => e.get F.FAB_STATUS_QM = 1 ∧ e.id64 F.FAB_QM_ID = Config.identity) ∧
    (s.dev.capable = false → Does .harbourMasterDeclare s s.dev) ∧
    (s.dev.fabUp = true → s.dev.capable = true → s.dev.islandLac = Config.identity → s.dev.get F.FAB_STATUS_HM = 0 → s.dev.flash.record = none →
      s.dev.get F.FAB_STATUS_HM_KNOWN = 0 →
      Gives .harbourMasterDeclare s fun e => e.get F.FAB_STATUS_HM = 1 ∧ e.id64 F.FAB_HM_ID = Config.identity ∧
        e.ownAddr = some (fabAddr 0 (s.dev.get F.FAB_ISL_ISL_DEFAULT) 0 0) ∧
        e.flash.record = some {
          epoch := 1, realm := 0, island := s.dev.get F.FAB_ISL_ISL_DEFAULT, hours := 0
          entries := [{ identity := Config.identity, cluster := 0, device := 0, seen := 0 }] }) ∧
    (s.dev.get F.FAB_STATUS_HM = 0 → Does .hmAnnounceTimer s s.dev ∧ Does .hoursAdvance s s.dev) ∧
    (∀ r : IslandRec, s.dev.fabUp = true → s.dev.get F.FAB_STATUS_HM = 1 → s.dev.get F.FAB_STATUS_PULLING = 0 → s.dev.flash.record = some r →
      s.dev.fab.requests = [] →
      Gives .hmAnnounceTimer s fun e => e.get F.FAB_MEMBERS_R = s.dev.reachedCount % 2 ^ 16 ∧ e.get F.FAB_STATUS_HM_KNOWN = 1 ∧ e.fab.hmAt = s.dev.now ∧
        (r.entries.length < 2 * s.dev.reachedCount → e.get F.FAB_STATUS_AUTH = 1) ∧
        (2 * s.dev.reachedCount < r.entries.length → e.get F.FAB_STATUS_AUTH = 0)) ∧
    (Gives .authorityLapse s fun e => e.get F.FAB_STATUS_AUTH = 0 ∧
      (s.dev.fab.hmAt + 3000000000 ≤ s.dev.now → e.get F.FAB_STATUS_HM_KNOWN = 0 ∧ e.fab.hmAddr = none) ∧
      (s.dev.now < s.dev.fab.hmAt + 3000000000 → e.get F.FAB_STATUS_HM_KNOWN = s.dev.get F.FAB_STATUS_HM_KNOWN)) ∧
    (∀ w : Word, (w.getLsbD 16 = false ∨ s.dev.get F.FAB_STATUS_HM = 0) →
      Does (.islandSet w) s ((s.dev.set F.FAB_ISL_ISL_DEFAULT (bitsOf w 15 8)).set F.FAB_ISL_ISL_SET (bitsOf w 7 0))) ∧
    (s.dev.get F.FAB_STATUS_HM = 1 → s.dev.get F.FAB_STATUS_AUTH = 0 → s.dev.fab.requests.length < 16 →
      (Gives .hoursAdvance s fun e => ∃ q : HeldReq, e.fab.requests = s.dev.fab.requests ++ [q] ∧ q.kind = 2) ∧
      (∀ w : Word, w.getLsbD 16 = true →
        Gives (.islandSet w) s fun e => ∃ q : HeldReq, e.fab.requests = s.dev.fab.requests ++ [q] ∧ q.kind = 4 ∧ q.who.toNat = bitsOf w 7 0) ∧
      (∀ (i : Link) (m : FabMsg) (d : Device) (who : BitVec 64) (p : Option Nat), s.dev.Received i m d → m.link = true →
        m.body = .addrReq who p 1 →
        Does (.addrReq i m) s (d.modFab fun b => { b with
          requests := b.requests ++ [{ who := who, persisted := p, kind := 1, cluster := 0, back := i.val }] }))) ∧
    (s.dev.fabUp = false → Does .addrReqRetry s s.dev) ∧
    (∀ p : Port, s.dev.fabUp = true → s.dev.ownAddr = none → s.dev.get F.FAB_STATUS_QM = 0 → s.dev.flash.record = none →
      (fabLinks.filter fun i => !isPilot i && (s.dev.fab.links.get i).adj.isSome && (s.dev.fab.links.get i).flags.getLsbD 0 && s.dev.linkUp i) =
        [Fin.ofNat 16 (p.val + 8)] →
      Gives .addrReqRetry s fun e => ∃ m : FabMsg, (e.hws.get p).txq = (s.dev.hws.get p).txq ++ [m] ∧ m.link = true ∧ m.noAddr = true ∧
        m.body = .addrReq Config.identity s.dev.flash.addr 0 ∧ m.srcId = Config.identity) ∧
    (∀ (i : Link) (m : FabMsg) (d : Device) (epoch n r hours : Nat) (low : BitVec 64) (island realm : Nat) (auth : Bool),
      s.dev.Received i m d → m.body = .hmAnnounce epoch n r hours low island realm auth → epoch ≤ s.dev.get F.FAB_EPOCH →
      (s.dev.flash.record = none → s.dev.fab.stored = none →
        Gives (.hmAnnounce i m) s fun e => e.id64 F.FAB_HM_ID = m.srcId ∧ e.get F.FAB_STATUS_HM_KNOWN = 1 ∧ e.fab.hmAt = s.dev.now) ∧
      (∀ c : IslandRec, s.dev.flash.record = some c → (c.realm ≠ realm ∨ c.island ≠ island) → Does (.hmAnnounce i m) s d) ∧
      (∀ c : IslandRec, s.dev.flash.record = some c → c.realm = realm → c.island = island → s.dev.fab.stored = none → auth = true →
        epoch = s.dev.get F.FAB_EPOCH → s.dev.get F.FAB_STATUS_PULLING = 0 →
        Gives (.hmAnnounce i m) s fun e => e.get F.FAB_STATUS_AUTH = 1 ∧ e.id64 F.FAB_HM_ID = m.srcId))

/-- Addresses and the island record (R340 to R343, R366, R367). A granted address is taken and kept in flash; a proposal of the next epoch is stored, of any other
has no effect; a whole record ends a pull; acknowledgements commit a proposal once there are enough; a pull with an older epoch is answered and no
other; a proposal that runs out of time is abandoned. -/
def Obligations.IslandRecord : Prop :=
  ∀ s : State,
    (∀ (i : Link) (m : FabMsg) (d : Device) (who : BitVec 64) (a epoch : Nat), s.dev.Received i m d → m.body = .addrGrant who a epoch →
      (who = Config.identity →
        Gives (.addrGrant i m) s fun e => e.ownAddr = some (a % 2 ^ 25) ∧ e.flash.addr = some (a % 2 ^ 25) ∧ e.fab.newCluster = false) ∧
      (who ≠ Config.identity → (∀ r ∈ s.dev.fab.relays, r.1 ≠ who) → Does (.addrGrant i m) s d)) ∧
    (∀ (i : Link) (m : FabMsg) (d : Device) (epoch : Nat) (full : Bool) (realm island hours : Option Nat) (ds : List RecEntry) (r : IslandRec),
      s.dev.Received i m d → m.body = .record epoch full realm island hours ds → s.dev.flash.record = some r →
      (full = false → epoch = r.epoch + 1 →
        Gives (.record i m) s fun e => e.flash.record = some r ∧
          e.fab.stored = some { epoch := epoch, realm := realm.getD r.realm, island := island.getD r.island, hours := hours.getD r.hours,
                                entries := applyDeltas r.entries ds }) ∧
      (full = false → epoch ≠ r.epoch + 1 → Does (.record i m) s d) ∧
      (full = true → s.dev.get F.FAB_STATUS_PULLING = 0 → Does (.record i m) s d) ∧
      (full = true → s.dev.get F.FAB_STATUS_PULLING = 1 → s.dev.get F.FAB_EPOCH < epoch →
        Gives (.record i m) s fun e => e.get F.FAB_STATUS_PULLING = 0 ∧ e.fab.stored = none ∧ e.get F.FAB_EPOCH = epoch % 2 ^ 32 ∧
          e.flash.record = some { epoch := epoch, realm := realm.getD r.realm, island := island.getD r.island, hours := hours.getD r.hours,
                                  entries := applyDeltas [] ds })) ∧
    (∀ (i : Link) (m : FabMsg) (d : Device) (epoch : Nat), s.dev.Received i m d → m.body = .recordAck epoch →
      (s.dev.fab.proposal = none → Does (.recordAck i m) s d) ∧
      (∀ (p : Proposal) (r : IslandRec), s.dev.fab.proposal = some p → s.dev.flash.record = some r → p.next.epoch = epoch → m.srcId ∉ p.acks →
        (enough r (p.acks ++ [m.srcId]) = false →
          Does (.recordAck i m) s (d.modFab fun b => { b with proposal := some { p with acks := p.acks ++ [m.srcId] } })) ∧
        (enough r (p.acks ++ [m.srcId]) = true → s.dev.fab.requests = [] →
          Gives (.recordAck i m) s fun e => e.flash.record = some p.next ∧ e.fab.proposal = none))) ∧
    (∀ (i : Link) (m : FabMsg) (d : Device) (epoch : Nat) (r : IslandRec), s.dev.Received i m d → m.body = .recordPull epoch →
      s.dev.flash.record = some r →
      (r.epoch ≤ epoch → Does (.recordPull i m) s d) ∧
      (∀ h : RouteIn, epoch < r.epoch → s.dev.hop m.src = some h → 8 ≤ h.link → h.link < 16 →
        Gives (.recordPull i m) s fun e => ∃ x : FabMsg,
          (e.hws.get (Fin.ofNat 8 (h.link - 8))).txq = (d.hws.get (Fin.ofNat 8 (h.link - 8))).txq ++ [x] ∧ x.dst = m.src ∧
            x.body = .record r.epoch true (some r.realm) (some r.island) (some r.hours) r.entries)) ∧
    (s.dev.fab.proposal = none → Does .proposalTimeout s s.dev) ∧
    (∀ p : Proposal, s.dev.fab.proposal = some p → p.req.kind ≠ 3 → s.dev.fab.requests = [] →
      Does .proposalTimeout s (s.dev.modFab fun b => { b with proposal := none }))

/-- Manifests from the fabric, at their destination (R302 to R304, R308, R356, R361 to R363). A pair that has been accepted is not run again; the fabric agent
answers IDENTIFY without the queue; an authorised manifest joins the queue with its place in the fabric buffer area, and one of a source that is not
authorised completes with NOT_AUTHORISED and is counted; input is kept from offset 0 on; a held output is sent again, and is freed by ACK or after
10 s; a completed pair is forgotten after 60 s. -/
def Obligations.ManifestsOfTheFabric : Prop :=
  ∀ s : State,
    (∀ (i : Link) (m : FabMsg) (d : Device) (c : Desc) (len : Nat) (crc : Word), s.dev.Received i m d → m.body = .manifest c len crc →
      (∀ p : Served, d.pairOf m.srcId m.rid = some p → p.entry = none → p.taken = true → Does (.manifestMessage i m) s d) ∧
      (d.pairOf m.srcId m.rid = none → c.check none = none →
        (c.opcode = 3 → d.authorised m c = true →
          Gives (.manifestMessage i m) s fun e => d.ends e { desc := c, origin := .fabric m.src m.srcId m.rid i.val, buf := 0 } stOk ∧
            ∃ p : Served, e.pairOf m.srcId m.rid = some p ∧ p.taken = true) ∧
        (3 < c.opcode → s.dev.sup.procRun = true → len = 0 → crc = crc32 [] → c.buffer = none →
          (d.authorised m c = true → d.mft.fabricQueue.length < 16 → (∀ p ∈ d.fab.served, p.area.2 = 0) →
            Gives (.manifestMessage i m) s fun e => e.mft.fabricQueue = d.mft.fabricQueue ++
              [{ desc := c, origin := .fabric m.src m.srcId m.rid i.val, buf := 0x30000 }]) ∧
          (d.authorised m c = false →
            Gives (.manifestMessage i m) s fun e =>
              d.ends e { desc := c, origin := .fabric m.src m.srcId m.rid i.val, buf := 0 } stNotAuthorised ∧
                e.get F.FAB_ERR_D_NOT_AUTH = (d.get F.FAB_ERR_D_NOT_AUTH + 1) % 2 ^ 16 ∧ e.get F.FAB_INT_STATUS_NOT_AUTH = 1 ∧
                e.mft.fabricQueue = d.mft.fabricQueue)))) ∧
    (∀ (i : Link) (m : FabMsg) (d : Device) (off : Nat) (bs : List Byte), s.dev.Received i m d → m.body = .data false off bs →
      (d.pairOf m.srcId m.rid = none →
        Gives (.dataMessage i m) s fun e => ∃ p : Served, e.pairOf m.srcId m.rid = some p ∧ p.taken = false ∧ p.entry = none ∧
          p.input = if off = 0 then bs else []) ∧
      (∀ p : Served, d.pairOf m.srcId m.rid = some p → p.taken = false → off = p.input.length →
        Gives (.dataMessage i m) s fun e => e.pairOf m.srcId m.rid = some { p with input := p.input ++ bs })) ∧
    (∀ (i : Link) (m : FabMsg) (d : Device) (p : Served) (bs : List Byte) (h : RouteIn), s.dev.Received i m d → m.body = .resend true 0 →
      d.fab.served.find? (fun x => x.src == m.src && x.out.isSome && x.rid == m.rid) = some p → p.out = some bs → bs ≠ [] → bs.length ≤ 1016 →
      d.hop m.src = some h → 8 ≤ h.link → h.link < 16 →
      Gives (.resend i m) s fun e => ∃ x : FabMsg,
        (e.hws.get (Fin.ofNat 8 (h.link - 8))).txq = (d.hws.get (Fin.ofNat 8 (h.link - 8))).txq ++ [x] ∧ x.dst = m.src ∧ x.rid = m.rid ∧
          x.body = .data true 0 bs) ∧
    (∀ (i : Link) (m : FabMsg) (d : Device) (n : Nat) (p : Served), s.dev.Received i m d → m.body = .ack n → d.pairOf m.srcId m.rid = some p →
      Gives (.ack i m) s fun e => e.pairOf m.srcId m.rid = some { p with out := none, area := (0, 0) }) ∧
    ((∀ p ∈ s.dev.fab.served, p.out = none) → Does .outputReleaseTimeout s s.dev) ∧
    (∀ p : Served, s.dev.fab.served = [p] → p.out ≠ none →
      Does .outputReleaseTimeout s (s.dev.modFab fun b => { b with served := [{ p with out := none, area := (0, 0) }] })) ∧
    (∀ src rid : Nat, Gives (.ridExpiry src rid) s fun e =>
      (∀ p : Served, p ∈ e.fab.served ↔ (p ∈ s.dev.fab.served ∧ ¬ (p.srcId.toNat = src ∧ p.rid = rid ∧ p.entry ≠ none))) ∧ e.mft = s.dev.mft)

/-- Remote manifests, at their originator (R305, R307, R359, R360, R363). A completion without output ends its manifest with the far status and words; one that
nothing waits for counts as late; output is kept from offset 0 on; a nonce is learned, and a device that rejects a nonce it was sent ends the manifest;
each pending manifest is sent again, and ends with REMOTE_TIMEOUT. -/
def Obligations.RemoteManifests : Prop :=
  ∀ s : State,
    (∀ (i : Link) (m : FabMsg) (d : Device) (a b c f : Word), s.dev.Received i m d → m.body = .completion a b c f →
      (d.remoteOf m.rid m.src = none → Does (.completionMessage i m) s (d.bump F.MFT_REMOTE_LATE)) ∧
      (∀ r : Remote, d.remoteOf m.rid m.src = some r → outputLen r.man.desc.opcode (bitsOf a 31 24) b.toNat = 0 →
        Gives (.completionMessage i m) s fun e =>
          e.mft.done = d.mft.done ++ [{ man := r.man, status := bitsOf a 31 24, r0 := b, r1 := c, far := true }] ∧
            ∀ x ∈ e.fab.remotes, x.rid ≠ m.rid)) ∧
    (∀ (i : Link) (m : FabMsg) (d : Device) (off : Nat) (bs : List Byte) (r : Remote), s.dev.Received i m d → m.body = .data true off bs →
      d.remoteOf m.rid m.src = some r → r.entry = none →
      Gives (.dataMessage i m) s fun e => e.remoteOf m.rid m.src = some { r with out := if off = r.out.length then r.out ++ bs else r.out }) ∧
    (∀ (i : Link) (m : FabMsg) (d : Device) (cur : Word) (ans : Nat), s.dev.Received i m d → m.body = .nonce cur ans →
      ((∀ r ∈ d.fab.remotes, ¬ (r.man.desc.target = m.src ∧ r.seq = ans)) →
        (∀ p ∈ d.fab.served, ¬ (p.src = m.src ∧ p.seq = ans)) →
        (d.nonceOf m.src = none → Gives (.nonce i m) s fun e => e.nonceOf m.src = some cur) ∧
        (d.nonceOf m.src ≠ none → Does (.nonce i m) s d)) ∧
      (∀ r : Remote, d.fab.remotes.find? (fun x => x.man.desc.target == m.src && x.seq == ans) = some r →
        (r.held = true → Gives (.nonce i m) s fun e => d.ends e r.man stRemoteTimeout ∧ e.nonceOf m.src = none) ∧
        (r.held = false → r.man.desc.buffer = none → Gives (.nonce i m) s fun e => e.nonceOf m.src = some cur ∧ e.mft.done = d.mft.done))) ∧
    (∀ rid : Nat,
      ((∀ r ∈ s.dev.fab.remotes, r.rid ≠ rid) → Does (.manifestResend rid) s s.dev ∧ Does (.remoteTimeout rid) s s.dev) ∧
      (∀ r : Remote, s.dev.fab.remotes.find? (fun x => x.rid == rid) = some r →
        (Gives (.remoteTimeout rid) s fun e => s.dev.ends e r.man stRemoteTimeout ∧ ∀ x ∈ e.fab.remotes, x.rid ≠ rid) ∧
        (∀ h : RouteIn, r.entry = none → r.man.desc.buffer = none → s.dev.hop r.man.desc.target = some h → 8 ≤ h.link → h.link < 16 →
          Gives (.manifestResend rid) s fun e => ∃ x : FabMsg,
            (e.hws.get (Fin.ofNat 8 (h.link - 8))).txq = (s.dev.hws.get (Fin.ofNat 8 (h.link - 8))).txq ++ [x] ∧
              x.dst = r.man.desc.target ∧ x.rid = rid ∧ x.body = .manifest r.man.desc 0 (crc32 []))))

/-- R364. UNREACH for a destination completes each manifest that waits for that destination with UNREACHABLE, and no other; where none waits for it nothing
changes. -/
def Obligations.UnreachCompletesPending : Prop :=
  ∀ s : State,
    ∀ (i : Link) (m : FabMsg) (d : Device) (dst why : Nat), s.dev.Received i m d → m.body = .unreach dst why →
        ((∀ r ∈ d.fab.remotes, r.man.desc.target ≠ dst) → Does (.unreach i m) s d) ∧
        (Gives (.unreach i m) s fun e => (∀ r ∈ e.fab.remotes, r.man.desc.target ≠ dst) ∧
          ∃ xs : List DoneMan, e.mft.done = d.mft.done ++ xs ∧ (∀ x ∈ xs, x.status = stUnreachable) ∧
            xs.map (fun x => x.man) = (d.fab.remotes.filter fun r => r.man.desc.target == dst).map fun r => r.man)

/-! ### Registers and ports (chapters 8, 18 and 19) -/

/-- Register accesses (R299, R386, R407, R483, R566, R595 to R600, R609 to R611). A refused access, one narrower than a register among them, records its cause and
changes nothing else; a flag written with 1
clears and one written with 0 stays; with LOCK set a write leaves SYS_WDT_CTRL; a read of a low counter word keeps the pair for the upper; a read of a result keeps its
channel's MON_INFO; SYS_LIVE_ADDR and SYS_LIVE_DATA show the requester's own live view. -/
def Obligations.RegisterAccess : Prop :=
  ∀ s : State,
    (∀ (rq : Requester) (w : Word), s.dev.get F.SYS_WDT_CTRL_LOCK = 1 →
      Gives (.registerWrite rq 0x0000C w) s fun e => e.reg 0x0000C = s.dev.reg 0x0000C) ∧
    (∀ (rq : Requester) (a : BitVec 20) (w : Word), userAccess rq = true → s.dev.userMay true a.toNat w = false →
      Does (.registerWrite rq a w) s (s.dev.busError 1 true 3 a.toNat)) ∧
    (∀ (rq : Requester) (a : BitVec 20) (w : Word), userAccess rq = false → accessBytes rq ≠ 4 → inWindow a.toNat = false →
      Does (.registerWrite rq a w) s (s.dev.busError 0 true 2 a.toNat)) ∧
    (∀ (rq : Requester) (w : Word), userAccess rq = false → accessBytes rq = 4 →
      (∀ a : BitVec 20, a.toNat % 4 ≠ 0 → Does (.registerWrite rq a w) s (s.dev.busError (reqCode rq) true 2 a.toNat)) ∧
      (∀ a : BitVec 20, a.toNat % 4 = 0 → a.toNat < 0x80000 → findRow a.toNat = none →
        Does (.registerWrite rq a w) s (s.dev.busError (reqCode rq) true 1 a.toNat)) ∧
      (∀ a : BitVec 20, 0x80000 ≤ a.toNat → a.toNat < 0xC0000 → a.toNat % 4 = 0 → rq = .manifestLocal →
        Does (.registerWrite rq a w) s (s.dev.busError (reqCode rq) true 5 a.toNat)) ∧
      Does (.registerWrite rq 0x00018 w) s (s.dev.setReg 0x00018 (s.dev.reg 0x00018 &&& ~~~ (w &&& 0xF))) ∧
      Does (.registerWrite rq 0x0001C w) s (s.dev.setReg 0x0001C ((s.dev.reg 0x0001C &&& ~~~ 0xF) ||| (w &&& 0xF))) ∧
      Does (.sysLiveAddrWrite rq w) s (s.dev.modBank rq fun b => { b with live := w &&& fieldMask 19 2 }) ∧
      (∀ (a : BitVec 20) (r : RegRow) (ix : List Nat), a.toNat % 4 = 0 → a.toNat < 0x80000 → findRow a.toNat = some (r, ix) → r.pair = true →
        a.toNat + 4 ≠ F.SYS_LIVE_ADDR.addr → a.toNat ≠ F.SYS_LIVE_DATA.addr →
        Gives (.counterLowRead rq a) s fun e => (e.bankAt rq).out = [BitVec.ofNat 32 (s.dev.pairValue r ix a.toNat)] ∧ e.regs = s.dev.regs ∧
          ∀ (d : Device) (r2 : RegRow) (ix2 : List Nat), d.bankAt rq = e.bankAt rq →
            d.readsAs rq r2 ix2 (a.toNat + 4) = BitVec.ofNat 32 (s.dev.pairValue r ix a.toNat / 2 ^ 32)) ∧
      (∀ (r : RegRow) (ix : List Nat), findRow (s.dev.bankAt rq).live.toNat = some (r, ix) → (s.dev.bankAt rq).live.toNat ≠ F.SYS_LIVE_DATA.addr →
        Does (.liveDataRead rq) s (s.dev.modBank rq fun b => { b with out := [s.dev.liveWord rq r ix (s.dev.bankAt rq).live.toNat] })) ∧
      (findRow (s.dev.bankAt rq).live.toNat = none →
        Does (.liveDataRead rq) s
          ((s.dev.busError (reqCode rq) false 1 (s.dev.bankAt rq).live.toNat).modBank rq fun b => { b with out := [0] })) ∧
      (∀ k : Fin 24, Gives (.monResRead rq k) s fun e => (e.bankAt rq).info = some (k.val, s.dev.reg (F.MON_INFO k).addr) ∧
        (∃ v, (e.bankAt rq).out = [v]) ∧ e.regs = s.dev.regs))

/-- The host's ports (R282 to R284, R319 to R321, R376, R589). Before step 12 nothing is served; an SPI transfer acts as the accesses of its words, and a misaligned one
writes nothing and reads 0xFF bytes; a window byte is written and read through its page; the register port shows how its access ended; CMIS controls
request what the registers would; CDB downloads into the inactive slot; a locked TAP reaches its named registers and nothing else. -/
def Obligations.HostPorts : Prop :=
  ∀ s : State,
    (s.dev.served = false → (∀ a ws, Does (.spiWrite a ws) s s.dev) ∧ (∀ a n, Does (.spiRead a n) s s.dev) ∧
      (∀ p k b w, Does (.cmisWindowAccess p k b w) s s.dev) ∧ (∀ c, Does (.cdbCommand c) s s.dev)) ∧
    (s.dev.served = true → s.dev.get F.PWR_STATUS_STATE ≠ 3 →
      (∀ a : BitVec 24, a.toNat % 4 ≠ 0 →
        (∀ ws, Does (.spiWrite a ws) s (s.dev.busError 2 true 2 a.toNat)) ∧
        (∀ n, Gives (.spiRead a n) s fun e => (e.bankAt .spi).out = List.replicate n (BitVec.allOnes 32) ∧ e.mem = s.dev.mem)) ∧
      (∀ a : BitVec 24, a.toNat % 4 = 0 → a.toNat < 2 ^ 20 →
        (∀ w : Word, Does (.spiWrite a [w]) s (s.dev.busWrite .spi a.toNat w).1) ∧
        Gives (.spiRead a 1) s fun e => (e.bankAt .spi).out = [(s.dev.busRead .spi a.toNat).2.2]) ∧
      (∀ a : BitVec 24, Does (.spiWrite a []) s (if a.toNat % 4 = 0 then s.dev else s.dev.busError 2 true 2 a.toNat)) ∧
      (s.dev.errs = [] → s.dev.poisoned = [] → ∀ (p : Fin 8) (k : Byte) (b : Fin 128),
        (∀ v : Byte, Does (.cmisWindowAccess p k b (some v)) s
          ((s.dev.selectPage (byteOf (0xB0 + p.val)) k).setByte (windowAddr (pageOffset p.val k.toNat b.val)) v)) ∧
        Does (.cmisWindowAccess p k b none) s ((s.dev.selectPage (byteOf (0xB0 + p.val)) k).modBank .twoWire fun x => { x with
          out := [(s.dev.byte (windowAddr (pageOffset p.val k.toNat b.val))).zeroExtend 32] })) ∧
      (s.dev.heldUp = false →
        (∀ a : BitVec 20, Gives (.registerPortRead a) s fun e =>
          ((s.dev.busRead .twoWire a.toNat).2.1 = 0 → e.mft.b8Status = 0 ∧ e.mft.b8Data = (s.dev.busRead .twoWire a.toNat).2.2) ∧
          ((s.dev.busRead .twoWire a.toNat).2.1 ≠ 0 → e.mft.b8Status = 0x80)) ∧
        (∀ (a : BitVec 20) (w : Word), a.toNat % 4 ≠ 0 → Gives (.registerPortWrite a w) s fun e => e.mft.b8Status = 0x80 ∧ e.mft.b8Data = w) ∧
        (∀ w : Word, Gives (.registerPortWrite 0x0001C w) s fun e => e.mft.b8Status = 0 ∧ e.mft.b8Data = w ∧
          e.reg 0x0001C = (s.dev.reg 0x0001C &&& ~~~ 0xF) ||| (w &&& 0xF)))) ∧
    (s.dev.sup.boot = .failed → ∀ a : BitVec 20,
      (s.dev.heldShows a.toNat = true →
        Does (.registerPortRead a) s (s.dev.modMft fun m => { m with b8Status := 0, b8Data := s.dev.reg a.toNat })) ∧
      (s.dev.heldShows a.toNat = false → Does (.registerPortRead a) s (s.dev.modMft fun m => { m with b8Status := 0x80 }))) ∧
    (s.dev.sup.boot = .running → s.dev.get F.PWR_STATUS_STATE ≤ 1 →
      (s.dev.get F.PWR_STATUS_TRANS = 7 →
        (Gives .cmisLowpwrRequest s fun e => e.mft.cmisLowPwr = true ∧ e.get F.PWR_CTRL_STATE_REQ = 1 ∧
          (s.dev.get F.PWR_STATUS_STATE = 0 → e.get F.PWR_STATUS_TRANS = 1)) ∧
        (Gives .cmisLowpwrRelease s fun e => e.mft.cmisLowPwr = false ∧ e.get F.PWR_CTRL_STATE_REQ = 0 ∧
          (s.dev.get F.PWR_STATUS_STATE = 1 → e.get F.PWR_STATUS_TRANS = 0))) ∧
      (∀ n : Lane,
        (Gives (.cmisTxDisable n true) s fun e => (e.tx.get n).cmisDis = true ∧ e.get (F.LTX_STATUS_SQ_DIS n) = 1) ∧
        (s.dev.txdisLow = false → s.dev.get (F.LTX_CTRL_TX_DIS n) = 0 →
          Gives (.cmisTxDisable n false) s fun e => (e.tx.get n).cmisDis = false ∧ e.get (F.LTX_STATUS_SQ_DIS n) = 0)) ∧
      (∀ k : HLane,
        (Gives (.cmisDatapathDeinit k) s fun e => e.mft.cmisDeinit.getLsbD k = true ∧ e.get (F.HLN_LP_LP_REQ k) = 2) ∧
        (Gives (.cmisDatapathInit k) s fun e => e.mft.cmisDeinit.getLsbD k = false ∧ e.get (F.HLN_LP_LP_REQ k) = 0) ∧
        (Gives (.cmisRxOutputDisable k) s fun e => e.mft.cmisRxOff.getLsbD k = true ∧ e.get (F.HLN_LP_LP_REQ k) = 1) ∧
        (Gives (.cmisRxOutputEnable k) s fun e => e.mft.cmisRxOff.getLsbD k = false ∧ e.get (F.HLN_LP_LP_REQ k) = 0)) ∧
      (s.dev.sup.procRun = true → s.dev.sec.activated = false → ∀ bs : List Byte, bs ≠ [] → bs.length % 4 = 0 → bs.length ≤ 0xFF000 →
        Gives (.cdbCommand (.download 0 bs true)) s fun e =>
          (e.flash.fw.get s.dev.targetSlot).written = bs.length ∧ (e.flash.fw.get s.dev.targetSlot).commit = false ∧
            ∃ x : DoneMan, e.mft.done = s.dev.mft.done ++ [x] ∧ x.status = stOk)) ∧
    (s.dev.sup.aonGood = true →
      Does (.jtagAccess .bypass) s s.dev ∧
      (s.dev.perm 2 = false →
        (∀ a : Nat, s.dev.tapShows a = false → Does (.jtagAccess (.readReg a)) s s.dev) ∧
        (s.dev.heldUp = false → Gives (.jtagAccess (.readReg 0)) s fun e => ∃ v, (e.bankAt .jtag).out = [v] ∧ e.regs = s.dev.regs) ∧
        ∀ (a : Nat) (w : Word), Does (.jtagAccess (.writeReg a w)) s s.dev) ∧
      (s.dev.perm 2 = true → ∀ (a : Nat) (w : Word), Does (.jtagAccess (.writeReg a w)) s (s.dev.busWrite .jtag a w).1))

/-! ### Manifests and their opcodes (chapter 8) -/

/-- The command ring in motion, and manifests that act on state the device holds (R291 to R300, R308, R309, R311, R598). A covered slot with a good local descriptor starts; one with a
bad CRC completes with BAD_CRC; each takes the next slot and sequence byte. The oldest completion is written to its entry with the phase; that of RESET starts
the full reset. A running manifest that is out of time completes with TIMEOUT. Each opcode's effect and result are as Table 8-4 has them; a command
of an opcode with no manifest started has no effect. -/
def Obligations.ManifestsOfTheRing : Prop :=
  ∀ s : State,
    (s.dev.mayStart = false → Does .manifestStart s s.dev) ∧
    (s.dev.mayStart = true → s.dev.ringReady = true → s.dev.mft.fabricQueue = [] → s.dev.errs = [] → s.dev.poisoned = [] →
      ∀ (c : Desc) (m : Manifest),
        c = descOf (s.dev.bytes (windowAddr (s.dev.get F.MFT_CMD_BASE + 32 * s.dev.get F.MFT_CMD_CI)) 32) →
        m = { desc := c, origin := .ring (s.dev.get F.MFT_CMD_CI), buf := c.bufOffset } →
        (c.check (some s.dev.mft.seq) = none → c.fence = false → c.isLocal = true → s.dev.refusal m = none →
          Gives .manifestStart s fun e => e.mft.begun = s.dev.mft.begun ++ [m] ∧ e.mft.seq = (s.dev.mft.seq + 1) % 256 ∧
            e.mft.done = s.dev.mft.done ∧ (s.dev.get F.MFT_CMD_CI + 1 < s.dev.cmdSize → s.dev.get F.MFT_CMD_CI + 1 < 256 →
              e.get F.MFT_CMD_CI = s.dev.get F.MFT_CMD_CI + 1)) ∧
        (c.crcOk = false → Gives .manifestStart s fun e => s.dev.ends e m stBadCrc ∧ e.mft.begun = s.dev.mft.begun ∧
          e.mft.seq = (s.dev.mft.seq + 1) % 256)) ∧
    (s.dev.mft.done = [] → Does .manifestComplete s s.dev) ∧
    (∀ (x : DoneMan) (rest : List DoneMan) (k : Nat), s.dev.mft.done = x :: rest → x.man.origin = .ring k → x.status = 0 →
      (x.man.desc.irq = false → s.dev.errs = [] → s.dev.poisoned = [] →
        Gives .manifestComplete s fun e => e.mft.done = rest ∧
          e.bytes (windowAddr (s.dev.get F.MFT_CPL_BASE + 16 * s.dev.get F.MFT_CPL_PI_IDX)) 16 = (x.words s.dev.mft.cplPhase).flatMap wordBytes ∧
          ∀ a, (a < windowAddr (s.dev.get F.MFT_CPL_BASE + 16 * s.dev.get F.MFT_CPL_PI_IDX) ∨
              windowAddr (s.dev.get F.MFT_CPL_BASE + 16 * s.dev.get F.MFT_CPL_PI_IDX) + 16 ≤ a) → e.byte a = s.dev.byte a) ∧
      (x.far = false → x.man.desc.opcode = 1 → s.dev.sup.due = none → Gives .manifestComplete s fun e => e.sup.due = some 4)) ∧
    (∀ slot : Nat, (∀ w ∈ s.dev.mft.waiting, w.man.number ≠ slot) →
      ((∀ m ∈ s.dev.mft.begun, m.number ≠ slot) → Does (.manifestTimeout slot) s s.dev) ∧
      (∀ m : Manifest, s.dev.mft.begun = [m] → m.number = slot →
        Gives (.manifestTimeout slot) s fun e => s.dev.ends e m stTimeout ∧ e.mft.begun = [])) ∧
    (s.dev.mft.begun = [] →
      Does .reset s s.dev ∧ Does .status s s.dev ∧ Does .identify s s.dev ∧ Does .regRead s s.dev ∧ Does .regWrite s s.dev ∧ Does .commit s s.dev ∧
      Does .laneState s s.dev ∧ Does .hostLp s s.dev ∧ Does .hostAdapt s s.dev ∧ Does .native s s.dev ∧ Does .powerState s s.dev) ∧
    (∀ m : Manifest,
      (s.dev.begunOf 0x01 = some m → Gives .reset s fun e => s.dev.ends e m stOk ∧ e.mft.begun = (s.dev.takenUp 0x01).mft.begun) ∧
      (s.dev.begunOf 0x02 = some m → Gives .status s fun e => ∃ r0 : Word, e.mft.done = s.dev.mft.done ++ [{
        man := m, status := stOk, r0 := r0
        r1 := BitVec.ofNat 32 (s.dev.get F.SYS_RST_CAUSE_CAUSE * 2 ^ 24 + s.dev.quarantineCount % 256 * 2 ^ 16
          + min 0xFFFF (s.dev.now / 3600000000000)) }]) ∧
      (s.dev.begunOf 0x03 = some m → Gives .identify s fun e => ∃ r1 : Word, e.mft.done = s.dev.mft.done ++ [{
        man := m, status := stOk, r0 := BitVec.ofNat 32 (0x3208B000 + s.dev.get F.SYS_ID_GRADE), r1 := r1 }] ∧
        r1.getLsbD 31 = s.dev.flag F.FAB_STATUS_ADDR_VALID ∧ r1.getLsbD 30 = s.dev.keyed ∧ r1.getLsbD 29 = s.dev.flag F.FAB_STATUS_QM ∧
        r1.getLsbD 28 = s.dev.flag F.FAB_STATUS_HM ∧ r1.toNat % 2 ^ 25 = s.dev.ownAddr.getD 0) ∧
      (s.dev.begunOf 0x08 = some m → m.desc.w4 = BitVec.allOnes 32 → Gives .regRead s fun e =>
        s.dev.endsWith e m stOk ((s.dev.takenUp 0x08).busRead m.requester m.desc.op0).2.2) ∧
      (s.dev.begunOf 0x09 = some m → m.desc.op0 = 0x0001C → (s.dev.bankAt m.requester).copy = none → (s.dev.bankAt m.requester).info = none →
        Gives .regWrite s fun e =>
          (∀ i < 4, (e.reg 0x0001C).getLsbD i = if m.desc.w5.getLsbD i then m.desc.w4.getLsbD i else (s.dev.reg 0x0001C).getLsbD i) ∧
            s.dev.endsWith e m stOk (e.reg 0x0001C)) ∧
      (s.dev.begunOf 0x0A = some m →
        (groupExists m.desc.op0 = false → Gives .commit s fun e => s.dev.endsWith e m stBadOperand (BitVec.ofNat 32 m.desc.op0) ∧
          e.mft.commits = s.dev.mft.commits) ∧
        (∀ a : Nat, groupExists m.desc.op0 = true →
          (s.dev.takenUp 0x0A).commitReject m.desc.op0 ((s.dev.takenUp 0x0A).shadowOf m.desc.op0) = some a →
          Gives .commit s fun e => e.mft.commits = s.dev.mft.commits ∧ e.mft.done = s.dev.mft.done ++ [{
            man := m, status := stStageReject, r0 := BitVec.ofNat 32 m.desc.op0, r1 := BitVec.ofNat 32 a }]) ∧
        (groupExists m.desc.op0 = true → (s.dev.takenUp 0x0A).commitReject m.desc.op0 ((s.dev.takenUp 0x0A).shadowOf m.desc.op0) = none →
          s.dev.pendingCommit m.desc.op0 = none → s.dev.boundaryNow m.desc.op0 = false →
          Gives .commit s fun e => e.mft.waiting = s.dev.mft.waiting ++ [{ man := m, goal := .commit m.desc.op0 }] ∧
            e.mft.commits = s.dev.mft.commits ++ [{ group := m.desc.op0, words := s.dev.shadowOf m.desc.op0, origin := m.origin }] ∧
            e.live = s.dev.live)) ∧
      (∀ n : Lane, s.dev.begunOf 0x10 = some m → m.desc.index = n.val → m.desc.w3.getLsbD 7 = false →
        (m.desc.w3.getLsbD 3 = false → Gives .laneState s fun e => s.dev.endsWith e m stOk (s.dev.laneResult n)) ∧
        (m.desc.w3.getLsbD 3 = true → bitsOf m.desc.w3 2 0 ≤ 4 → s.dev.laneHold = false → s.dev.get F.PWR_STATUS_STATE ≤ 1 →
          Gives .laneState s fun e => e.get (F.LTX_CTRL_STATE_REQ n) = bitsOf m.desc.w3 2 0) ∧
        (m.desc.w3.getLsbD 3 = true → bitsOf m.desc.w3 2 0 = 2 → s.dev.laneHold = true → Gives .laneState s fun e =>
          s.dev.ends e m stBusy ∧ e.regs = s.dev.regs)) ∧
      (∀ k : HLane, s.dev.begunOf 0x11 = some m → m.desc.index = k.val → m.desc.op0 ≤ 2 → s.dev.laneHold = false → s.dev.get F.PWR_STATUS_STATE ≤ 1 →
        Gives .hostLp s fun e => e.get (F.HLN_LP_LP_REQ k) = m.desc.op0 ∧ (s.dev.lpRefused k m.desc.op0 = true → ∃ x ∈ e.mft.done, x.man = m ∧
          x.status = stBusy)) ∧
      (∀ k : HLane, s.dev.begunOf 0x12 = some m → m.desc.index = k.val →
        (s.dev.testRefused k = true → Gives .hostAdapt s fun e => s.dev.ends e m stBusy ∧ e.get (F.HLN_INT_STATUS_ADAPT_REFUSED k) = 1) ∧
        (s.dev.testRefused k = false → s.dev.get (F.HLN_STATUS_CDR_LOCK k) = 0 →
          Does .hostAdapt s (((s.dev.takenUp 0x12).await m (.hostAdapt k)).modHost k fun h => { h with due := [2] }))) ∧
      (s.dev.begunOf 0x13 = some m → m.desc.w3.getLsbD 8 = false → m.desc.w3.toNat % 256 ≠ 0 → s.dev.negRuns = false →
        Gives .native s fun e => e.get F.BWK_NEG_STATUS_STATE = 1 ∧
          e.mft.waiting = s.dev.mft.waiting ++ [{ man := m, goal := .native (m.desc.w3.extractLsb' 0 8) false }]) ∧
      (s.dev.begunOf 0x14 = some m → m.desc.op0 < 4 →
        (Gives .powerState s fun e => e.get F.PWR_CTRL_STATE_REQ = m.desc.op0) ∧
        (s.dev.get F.PWR_STATUS_STATE = m.desc.op0 → s.dev.get F.PWR_STATUS_TRANS = 7 → s.dev.mft.waiting = [] →
          Gives .powerState s fun e => s.dev.endsWith e m stOk (BitVec.ofNat 32 m.desc.op0) ∧ e.mft.waiting = [])))

/-- Manifests that measure, store and prove (R301, R347, R474, R510, R554, R564, R578, R579, R582, R583, R587, R590). A snapshot and a calibration step wait for their end; a capture is
copied whole into its buffer; a save writes the older slot with the next SEQ; firmware goes into the inactive slot, and a committed, good and newer one is
activated; zeroised keys refuse; a failed unlock is counted; a harbour master holds a new realm number. -/
def Obligations.ManifestsThatStore : Prop :=
  ∀ s : State,
    (s.dev.mft.begun = [] →
      Does .snapshot s s.dev ∧ Does .lookoutRead s s.dev ∧ Does .monConvert s s.dev ∧ Does .monCal s s.dev ∧ (∀ ok, Does (.calSave ok) s s.dev) ∧
      (∀ ok, Does (.fwWrite ok) s s.dev) ∧ (∀ f, Does (.fwActivate f) s s.dev) ∧ (∀ r, Does (.attest r) s s.dev) ∧ (∀ c, Does (.keyInstall c) s s.dev) ∧
      (∀ c, Does (.debugUnlock c) s s.dev) ∧ Does .realmSet s s.dev) ∧
    (∀ m : Manifest,
      (s.dev.begunOf 0x20 = some m → Gives .snapshot s fun e => e.get F.PMU_STATUS_SNAP_BUSY = 1 ∧ e.pmuReq.snap = true ∧
        e.mft.waiting = s.dev.mft.waiting ++ [{ man := m, goal := .snapshot }] ∧ (m.desc.op0 = 1 → e.pmuReq.freeze = some true)) ∧
      (s.dev.begunOf 0x21 = some m →
        ((s.dev.get F.LKO_STATUS_STATE = 1 ∨ s.dev.get F.LKO_STATUS_STATE = 2) → Gives .lookoutRead s fun e => s.dev.ends e m stBusy) ∧
        (s.dev.get F.LKO_STATUS_STATE ≠ 1 → s.dev.get F.LKO_STATUS_STATE ≠ 2 → s.dev.errs = [] → s.dev.poisoned = [] →
          m.desc.op0 + m.desc.op2 ≤ 0x40000 →
          Gives .lookoutRead s fun e => s.dev.endsWith e m stOk (BitVec.ofNat 32 m.desc.op2) ∧
            ∀ i < m.desc.op2, e.byte (windowAddr (m.buf + i)) = s.dev.byte (lookoutAddr (m.desc.op0 + i)))) ∧
      (s.dev.begunOf 0x22 = some m →
        (4 ≤ s.dev.mon.queue.length → Gives .monConvert s fun e => s.dev.ends e m stBusy ∧ e.mon = s.dev.mon) ∧
        (s.dev.mon.queue.length < 4 → Gives .monConvert s fun e =>
          e.mft.waiting = s.dev.mft.waiting ++ [{ man := m, goal := .monConvert m.desc.op0 }])) ∧
      (s.dev.begunOf 0x23 = some m →
        (s.dev.mon.cal ≠ none → Gives .monCal s fun e => s.dev.ends e m stBusy ∧ e.mon = s.dev.mon) ∧
        (s.dev.mon.cal = none → Gives .monCal s fun e =>
          e.mft.waiting = s.dev.mft.waiting ++ [{ man := m, goal := .monCal (bitsOf m.desc.w3 4 0) (m.desc.w3.getLsbD 8) }])) ∧
      (s.dev.begunOf 0x24 = some m →
        (Gives (.calSave true) s fun e => e.get F.CAL_INT_STATUS_SAVE_DONE = 1 ∧ s.dev.ends e m stOk ∧
          ∀ c : CalRec, s.dev.newestCal = some c → e.get F.CAL_SEQ = (c.seq + 1) % 2 ^ 32 ∧ ∃ n : CalRec,
            e.flash.cal.get (if c.slot = 0 then 1 else 0) = some n ∧ n.seq = (c.seq + 1) % 2 ^ 32) ∧
        (Gives (.calSave false) s fun e => e.get F.CAL_INT_STATUS_SAVE_FAIL = 1 ∧ s.dev.endsWith e m stFailed 1 ∧
          e.get F.CAL_SEQ = s.dev.get F.CAL_SEQ)) ∧
      (s.dev.begunOf 0x30 = some m →
        (s.dev.sec.activated = true → ∀ ok : Bool, Gives (.fwWrite ok) s fun e => s.dev.ends e m stBusy ∧ e.flash = s.dev.flash) ∧
        (s.dev.sec.activated = false → m.desc.op0 = 0 → s.dev.errs = [] → s.dev.poisoned = [] →
          Gives (.fwWrite true) s fun e => s.dev.endsWith e m stOk (BitVec.ofNat 32 m.desc.op2) ∧
            (e.flash.fw.get s.dev.targetSlot).written = m.desc.op2 ∧ (e.flash.fw.get s.dev.targetSlot).commit = false ∧
            e.flash.fw.get (1 - s.dev.targetSlot) = s.dev.flash.fw.get (1 - s.dev.targetSlot))) ∧
      (s.dev.begunOf 0x31 = some m → ∀ f : FwSlot,
        (s.dev.zeroised = true → Gives (.fwActivate f) s fun e => s.dev.endsWith e m stFailed 0x14 ∧ e.flash = s.dev.flash) ∧
        (s.dev.zeroised = false → (s.dev.flash.fw.get s.dev.targetSlot).commit = true → s.dev.slotReason s.dev.targetSlot = 0 →
          (s.dev.flash.fw.get (1 - s.dev.targetSlot)).commit = false →
          Gives (.fwActivate f) s fun e => s.dev.endsWith e m stOk (BitVec.ofNat 32 s.dev.targetSlot.val) ∧ e.sec.activated = true ∧
            e.flash = s.dev.flash)) ∧
      (s.dev.begunOf 0x32 = some m → s.dev.errs = [] → s.dev.poisoned = [] →
        (m.desc.op1 < 29920 → ∀ r : List Byte, Gives (.attest r) s fun e => s.dev.ends e m stBadOperand ∧ e.mem = s.dev.mem) ∧
        (29920 ≤ m.desc.op1 → s.dev.word (windowAddr m.buf) = 1 → s.dev.zeroised = false →
          (Gives (.attest []) s fun e => s.dev.endsWith e m stFailed 0x16 ∧ e.mem = s.dev.mem) ∧
          (∀ r : List Byte, r ≠ [] → Gives (.attest r) s fun e => s.dev.endsWith e m stOk 29920 ∧
            ∀ i < 29920, e.byte (windowAddr (m.buf + i)) = r.getD i 0))) ∧
      (s.dev.begunOf 0x33 = some m → s.dev.errs = [] → s.dev.poisoned = [] → ∀ c : EnvCheck,
        (s.dev.zeroised = true → Gives (.keyInstall c) s fun e => s.dev.endsWith e m stFailed 0x14 ∧ e.flash = s.dev.flash ∧ e.sec = s.dev.sec) ∧
        (s.dev.zeroised = false → ∀ bs : List Byte, bs = s.dev.bytes (windowAddr m.buf) m.desc.op1 →
          (s.dev.keyReason m bs c ≠ 0 → Gives (.keyInstall c) s fun e =>
            s.dev.endsWith e m stFailed (BitVec.ofNat 32 (s.dev.keyReason m bs c)) ∧ e.flash = s.dev.flash) ∧
          (s.dev.keyReason m bs c = 0 → bs.getD 4 0 = 2 → Gives (.keyInstall c) s fun e => s.dev.ends e m stOk ∧
            e.flash.owners = s.dev.flash.owners + 1 ∧ e.get F.SEC_INT_STATUS_KEY_INSTALLED = 1))) ∧
      (s.dev.begunOf 0x34 = some m → s.dev.errs = [] → s.dev.poisoned = [] → ∀ (c : EnvCheck) (bs : List Byte),
        bs = s.dev.bytes (windowAddr m.buf) m.desc.op1 →
        (s.dev.unlockReason m bs c = 0 → Gives (.debugUnlock c) s fun e => s.dev.ends e m stOk ∧
          e.get F.SEC_STATUS_PERMS = bitsOf (wordAt bs 48) 2 0) ∧
        (s.dev.unlockReason m bs c ≠ 0 → Gives (.debugUnlock c) s fun e =>
          s.dev.endsWith e m stFailed (BitVec.ofNat 32 (s.dev.unlockReason m bs c)) ∧
            e.get F.SEC_STATUS_UNLOCK_FAILS = min 255 (s.dev.get F.SEC_STATUS_UNLOCK_FAILS + 1) ∧ e.get F.SEC_INT_STATUS_UNLOCK_FAIL = 1 ∧
            e.get F.SEC_STATUS_PERMS = s.dev.get F.SEC_STATUS_PERMS)) ∧
      (s.dev.begunOf 0x35 = some m →
        (s.dev.get F.FAB_STATUS_HM = 0 → Gives .realmSet s fun e => s.dev.endsWith e m stFailed 1) ∧
        (s.dev.get F.FAB_STATUS_HM = 1 → s.dev.get F.FAB_STATUS_AUTH = 0 → s.dev.fab.requests.length < 16 →
          Gives .realmSet s fun e => e.mft.waiting = s.dev.mft.waiting ++ [{ man := m, goal := .realm m.desc.op0 }] ∧
            ∃ q : HeldReq, e.fab.requests = s.dev.fab.requests ++ [q] ∧ q.kind = 3 ∧ q.who = BitVec.ofNat 64 m.desc.op0)))
end

