-- ==== Sys2Proof/Machine/Outputs.lean ====
section
/-! DEFINITION. What the device's outputs carry in a state: line and host transmitters, hawsers, bias DACs, the interrupt and fault lines and the regulator set points (R225, R387, R390, R444, Tables 5-6, 6-5, 10-3, 10-4 and 12-8), and the scale of the analogue quantities. They are functions of the state: a command changes them through it. -/

namespace Sys2Proof.Machine

/-! ### Line transmitters (R196, R199, Table 5-6) -/

/-- What the driver of a line lane does. -/
inductive Driver where
  /-- data swing, the pilot on the levels -/
  | active
  /-- no swing, at the normal common mode -/
  | commonMode
  /-- no swing, the pilot on the low-frequency path -/
  | pilotOnly
  /-- undriven: the front end has no supply -/
  | floating
  deriving DecidableEq, Repr

/-- The front-end supply is off, or its domain is powered off (HIBERNATE). -/
def Device.frontEndOff (d : Device) : Bool := d.sup.railsBad.contains .afe || d.get F.PWR_STATUS_STATE == 3

/-- The output of a line transmitter: the row of Table 5-6 nearest its end decides; in DORMANT, Table 12-8. -/
def Device.lineOutput (d : Device) (n : Lane) : Driver :=
  if d.frontEndOff then .floating
  else if d.squelchedByReset n then .commonMode
  else if d.flag (F.LTX_STATUS_LIVE n) && d.get F.PWR_STATUS_STATE < 2 then .active
  else if d.inject n != 0 then .pilotOnly
  else .commonMode

/-! ### Host transmitters (R225, R232, Tables 6-5, 10-3, 10-4 and 12-8) -/

/-- What a host TX output carries. -/
inductive HostOutput where
  | highImpedance | commonMode | substitute | data
  deriving DecidableEq, Repr

/-- The output of a host transmitter: the row of Table 6-5 nearest its top decides; outside ACTIVE and STANDBY, and until
start-up is over, high-impedance. -/
def Device.hostOutput (d : Device) (k : HLane) : HostOutput :=
  if d.sup.boot != .running || 2 ≤ d.get F.PWR_STATUS_STATE || d.sup.railsBad.contains .hs || d.hostHiz k then .highImpedance
  else if d.hostQuiet k then .commonMode
  else if d.hostSubst k then .substitute
  else .data

/-- The 100 Ω termination of a host RX input is present (R203, R232). -/
def Device.hostTerminated (d : Device) (k : HLane) : Bool :=
  !d.sup.railsBad.contains .hs && d.hostUsed k && d.lget (F.HLN_CTRL_RX_EN k) == 1

/-- Host RX FFE taps of a preset in 1/100: pre-cursor, main, post-cursor (R213, Table 6-3). -/
def hostFfe (preset : Nat) : Int × Int × Int :=
  match preset with
  | 0 => (0, 100, 0)
  | 1 => (0, 95, -5)
  | 2 => (0, 90, -10)
  | 3 => (-5, 90, -5)
  | 4 => (-5, 85, -10)
  | 5 => (-5, 80, -15)
  | 6 => (-10, 80, -10)
  | _ => (-10, 70, -20)

/-- What a host RX lane receives with. -/
structure HostRx where
  /-- boost in units of 0.5 dB -/
  ctle : Nat
  ffe : Int × Int × Int
  /-- the twelve DFE taps, LSB 2^-8 of the main-cursor amplitude -/
  dfe : List Int
  invert : Bool
  deriving DecidableEq, Repr

/-- What a host lane in service receives with: the CTLE code, preset and frozen taps of its entry, never an adapted value (R214), and
the polarity that RX_INV gives (Table 6-12). -/
def Device.hostReceives (d : Device) (k : HLane) : HostRx :=
  let e := d.lget (F.HLN_CTRL_ENTRY k)
  { ctle := d.lget (F.CHT_RX_CTLE e), ffe := hostFfe (d.lget (F.CHT_RX_PRESET e)), dfe := d.entryTaps k,
    invert := d.flag (F.HLN_CTRL_RX_INV k) }

/-- The level that a host RX lane takes from one PAM4 level at its input: RX_INV turns the polarity over. -/
def Device.hostLevelIn (d : Device) (k : HLane) (a : Nat) : Nat := if (d.hostReceives k).invert then 3 - a else a

/-- The level that a host TX drives, in 450 mV ÷ 189: the coefficients of its entry on s(n+2) to s(n−1), which are −3 to +3 thirds;
TX_INV turns it (R224). -/
def Device.hostDrive (d : Device) (k : HLane) (a2 a1 a0 b1 : Nat) : Int :=
  let e := d.lget (F.HLN_CTRL_ENTRY k)
  let c (f : Fld) : Int := toSigned (f.hi - f.lo + 1) (d.lget f)
  let s (a : Nat) : Int := 2 * (a : Int) - 3
  let v := c (F.CHT_TX_CM2 e) * s a2 + c (F.CHT_TX_CM1 e) * s a1 + (d.lget (F.CHT_TX_C0 e) : Int) * s a0 + c (F.CHT_TX_C1 e) * s b1
  if d.flag (F.HLN_CTRL_TX_INV k) then -v else v

/-! ### The other outputs (Tables 10-3, 10-4 and 12-8) -/

/-- A hawser transmitter: high-impedance until step 12, then running while HWS_EN is 1; floating in HIBERNATE. -/
def Device.hawserDrives (d : Device) (p : Port) : Bool :=
  d.sup.boot == .running && d.get F.PWR_STATUS_STATE != 3 && d.flag (F.HWS_CTRL_HWS_EN p)

/-- A bias DAC output: none while it floats in HIBERNATE or with the front-end supply off, else its word in force (R444, R485). -/
def Device.biasOutput (d : Device) (k : Nat) : Option Word := if d.frontEndOff then none else some (d.bdacOut k)

/-- INTn is low: a block asserts it, outside HIBERNATE (Table 12-8). -/
def Device.intnLow (d : Device) : Bool := d.intAsserted && d.get F.PWR_STATUS_STATE != 3

/-- FAULTn is low: R388, outside HIBERNATE (Table 12-8). -/
def Device.faultnLow (d : Device) : Bool := d.faultLow && d.get F.PWR_STATUS_STATE != 3

/-- SPI_MISO may be driven while SPI_CSn is low: after step 12, or in boot recovery; not in HIBERNATE. -/
def Device.misoMayDrive (d : Device) : Bool := (d.sup.boot == .running || d.sup.boot == .recovery) && d.get F.PWR_STATUS_STATE != 3

/-! ### Regulator set points (R116, R120, R436, R619, R620, Table 12-7) -/

/-- VDD_CORE set point in mV of an operating point (Table 12-7). -/
def coreMv (op : Nat) : Nat := 650 + 50 * op

/-- MCU clock in MHz of an operating point (Table 12-7). -/
def mcuMhz (op : Nat) : Nat := if op = 0 then 150 else if op = 1 then 300 else 600

/-- VDD_POOL target in mV of a code (R116). -/
def poolMv (code : Nat) : Nat := 600 + 5 * code

/-- Current in 0.1 µA that CORE_VADJ and POOL_VADJ source: (V_NOM − V_TARGET) ÷ 10 kΩ, 0 while VDD_AON is not good (R620). -/
def Device.vadj (d : Device) : Int × Int :=
  if d.sup.aonGood then (750 - (coreMv (d.get F.PWR_STATUS_OP_LIVE) : Int), 700 - (poolMv (d.get F.POOL_STATUS_VDD_CODE) : Int)) else (0, 0)

/-- Good window of VDD_CORE in mV: 5 % about the set point, about the lower and the higher while a change runs (R618, R619). -/
def Device.coreWindow (d : Device) : Nat × Nat :=
  let now := coreMv (d.get F.PWR_STATUS_OP_LIVE)
  let goal := match d.sup.opGoal with
    | some g => coreMv g
    | none => now
  (95 * min now goal / 100, 105 * max now goal / 100)

/-- The longest pass in ns at a VDD_POOL of Table 3-5: errors-only and erasure-assisted (R113). -/
def passMax (mv : Nat) : Nat × Nat :=
  if mv < 620 then (30, 40) else if mv < 700 then (28, 37) else if mv < 800 then (20, 27) else (14, 19)

/-! ### Names of fabric addresses (R3 to R5) -/

/-- A fabric address as text: realm.island.cluster.device in decimal (R3, R4). -/
def addressText (a : BitVec 25) : String :=
  toString (bitsOf (a.zeroExtend 32) 24 22) ++ "." ++ toString (bitsOf (a.zeroExtend 32) 21 14) ++ "." ++
    toString (bitsOf (a.zeroExtend 32) 13 6) ++ "." ++ toString (bitsOf (a.zeroExtend 32) 5 0)

/-- A part of a device that a sub-address names (R5). -/
inductive SubUnit where
  | line (n : Fin 8) | host (k : Fin 32) | hawser (p : Fin 8) | engine (e : Fin 64)
  deriving DecidableEq, Repr

/-- A sub-address: the device's address, a colon, and the name of the part (R5). -/
def subAddressText (a : BitVec 25) : SubUnit → String
  | .line n => addressText a ++ ":L" ++ toString n.val
  | .host k => addressText a ++ ":H" ++ toString k.val
  | .hawser p => addressText a ++ ":HW" ++ toString p.val
  | .engine e => addressText a ++ ":S" ++ toString e.val

/-! ### Analogue scales (R466, R486) -/

/-- Nominal full scale of a monitor channel in µV, or in nA for the photocurrents (Table 14-1). -/
def monFullScale (ch : Nat) : Nat :=
  if 8 ≤ ch ∧ ch < 16 then 4000000 else if ch = 18 then 2500000 else if ch = 19 then 5000000 else 1250000

/-- The raw result of an input in the units of the full scale: input ÷ full scale × 2^20, × 2^19 for a signed channel (R466). -/
def monRaw (ch : Nat) (v : Int) : Int := v * ((if monSigned ch then 2 ^ 19 else 2 ^ 20 : Nat) : Int) / (monFullScale ch : Int)

/-- Output of a bias DAC word in µV × 65,536: 1.25 V × G × CODE (R486). -/
def biasMicrovolts (gain2 : Bool) (code : Nat) : Nat := 1250000 * (if gain2 then 2 else 1) * code

/-- The output of channel Dk, where it does not float. -/
def Device.biasVolts (d : Device) (k : Nat) : Option Nat := (d.biasOutput k).map fun w => biasMicrovolts (bitsOf w 16 16 == 1) (bitsOf w 15 0)

end Sys2Proof.Machine
end

