-- ==== Sys2Proof/Machine/Timing.lean ====
section
/-! DEFINITION. The times, rates and powers the manual states as bounds: latency (R23, R24, R39, Tables 1-5, 1-6 and 3-4), the rates of Tables 1-2, 1-3 and 11-2, the longest times of state transitions, acquisition, start-up and conversion (Tables 2-4, 2-6, 5-5, 6-4, 6-6, 10-1, 12-2, 12-5 and 14-2), and power (Tables 1-7, 1-8 and 12-9). A command here is the instant it names; these functions say how late that instant may be. -/

namespace Sys2Proof.Machine

/-! ### Latency, in tenths of a nanosecond (R23, R24) -/

/-- How a lane carries the line-to-host codewords, at its line rate class (R17, Table 1-4). -/
inductive PathKind where
  | transparent | terminated200 | terminated100 | native
  deriving DecidableEq, Repr

/-- The path of a line lane: native at RATE 2 or 3, else by TERM (R17, R38, R127). -/
def Device.pathKind (d : Device) (n : Lane) : PathKind :=
  match d.lget (F.LRX_CTRL_RATE n), d.lget (F.LRX_SYN_CTRL_TERM n) == 1 with
  | 2, _ | 3, _ => .native
  | _, false => .transparent
  | 0, true => .terminated100
  | _, true => .terminated200

/-- The correction window W of WINDOW in tenths of a ns: 32 ns × (WINDOW + 1) (R102, Table 3-4). -/
def windowTenths (window : Nat) : Nat := 320 * (window + 1)

/-- The stages of Table 1-5 in its order: front end, inner decoding, assembly, window, Breakwater group, mapping, host TX. At
100 Gb/s per lane assembly takes 51.2 ns (Table 1-6). -/
def latencyBudget (k : PathKind) (w : Nat) : List Nat :=
  match k with
  | .transparent => [420, 120, 0, 0, 0, 210, 100]
  | .terminated200 => [420, 120, 256, w, 0, 464, 100]
  | .terminated100 => [420, 120, 512, w, 0, 464, 100]
  | .native => [420, 120, 256, w, 8448, 0, 100]

/-- The line-to-host bound of Table 1-6. -/
def latencyBound (k : PathKind) (w : Nat) : Nat :=
  match k with
  | .transparent => 850
  | .terminated200 => 1360 + w
  | .terminated100 => 1616 + w
  | .native => 9344 + w

/-- The host-to-line bound of Table 1-6. -/
def hostToLineBound (k : PathKind) : Nat := if k == .native then 750 else 400

/-- From a group's t0 to the first bit of its host output: D = 910.3 ns + W (R161). -/
def groupRelease (w : Nat) : Nat := 9103 + w

/-- The bound of a lane as its registers stand: it reads no codeword's outcome (R24). -/
def Device.lineToHostBound (d : Device) (n : Lane) : Nat := latencyBound (d.pathKind n) (windowTenths (d.lget F.POOL_CTRL_WINDOW))

/-! ### Rates, in MBd or Mb/s, and clocks in kHz (Tables 1-2, 1-3, 2-1 and 11-2) -/

/-- Line signalling in tenths of a MBd by RATE: 53.125, 113.4375 and 233.75 GBd (Table 2-1). -/
def lineTenthMbd (rate : Nat) : Nat := if rate = 0 then 531250 else if rate = 1 then 1134375 else 2337500

/-- The 1 µs overrange window of a rate in 64-symbol blocks, and its clip limit (Table 2-1). -/
def overrange (rate : Nat) : Nat × Nat := if rate = 0 then (830, 3) else if rate = 1 then (1772, 6) else (3652, 14)

/-- The native line clock from the host's baud rate: 2.2 times it (R146). -/
def nativeTenthMbd (hostMbd : Nat) : Nat := 22 * hostMbd

/-- A PMD type of standard mode: line lanes per port, host lanes per port in the mode of 212.5 Gb/s and in that of 106.25 Gb/s lanes
(0: not in that mode), ports per device (R16, Table 1-2). -/
structure PmdType where
  name : String
  rate : Nat
  lineLanes : Nat
  host200 : Nat
  host100 : Nat
  ports : Nat
  deriving DecidableEq, Repr

def pmdTypes : List PmdType :=
  [⟨"1.6TBASE-DR8", 1, 8, 8, 16, 1⟩, ⟨"800GBASE-DR4", 1, 4, 4, 8, 2⟩, ⟨"400GBASE-DR2", 1, 2, 2, 4, 4⟩,
   ⟨"200GBASE-DR1", 1, 1, 1, 2, 8⟩, ⟨"800GBASE-DR8", 0, 8, 0, 8, 1⟩, ⟨"400GBASE-DR4", 0, 4, 0, 4, 2⟩]

/-- The clock of a domain by its index in kHz, at a receive rate, a host rate class and an operating point (Table 11-2): LRXn runs at
signalling ÷ 128, EGR at host signalling ÷ 64. -/
def domainKHz (index rate : Nat) (half : Bool) (op : Nat) : Nat :=
  if index = 0 then 4000
  else if index = 1 then 156250
  else if index ≤ 9 then lineTenthMbd rate * 100 / 128
  else if index = 10 then (if half then 53125000 else 106250000) / 64
  else if index = 11 then 1000 * mcuMhz op
  else if index = 12 then 131072
  else if index = 13 then 131072 / 32
  else if index = 14 then 312500
  else if index = 15 then 375000
  else if index = 16 then 50000
  else 25000

/-! ### Longest times, in ns -/

/-- Lane transitions of the RX half, by state codes OFF 0, REF 1, SYNTH 2, RXON 3 and PILOT 4 (Table 2-4). -/
def rxHalfMax (src dst : Nat) : Option Nat :=
  match src, dst with
  | 0, 1 | 4, 1 => some 5000
  | 1, 2 => some 400000
  | 2, 3 => some 50000
  | 0, 4 => some 300000
  | 3, 2 | 3, 4 | 2, 1 | 1, 0 | 4, 0 => some 1000
  | _, _ => none

/-- Lane transitions of the TX half, up to the TX boundary where the table names one (Table 5-5). -/
def txHalfMax (src dst : Nat) : Option Nat :=
  match src, dst with
  | 0, 1 | 4, 1 => some 5000
  | 1, 2 => some 400000
  | 2, 3 => some 20000
  | 0, 4 => some 300000
  | 3, 2 => some 100
  | 3, 4 => some 313000
  | 2, 1 | 1, 0 | 4, 0 => some 1000
  | _, _ => none

/-- An acquisition step after the one before it, in standard or native mode (R71, Table 2-6). -/
def acqMax (native : Bool) (st : Nat) : Option Nat :=
  match st with
  | 2 | 3 => some 50000
  | 4 => some 300000
  | 5 => some 20000
  | 6 => some (if native then 2000000 else 1500000)
  | 7 => some (if native then 7500000 else 5000000)
  | 8 => some (if native then 2010000 else 1130000)
  | 9 => if native then some 120000 else none
  | _ => none

/-- From step 2 to step 8, and to parity lock, of R71. -/
def acqTotal (native : Bool) : Nat := if native then 11880000 else 8000000
def acqToParity : Nat := 12000000

/-- A step of host RX acquisition; step 5 takes the session length of R219 (Table 6-4). -/
def hostAcqMax (session : Nat) (st : Nat) : Option Nat :=
  match st with
  | 2 => some 400000
  | 3 => some 10000
  | 4 => some 500000
  | 5 => some session
  | 6 => some 50000
  | 7 => some 1000000
  | _ => none

/-- Low-power transitions of a host lane's TX and RX half, by LP codes RUN 0, QUIET 1, DEEP 2; DEEP to QUIET goes through RUN (Table 6-6). -/
def hostLpMax (session src dst : Nat) : Option (Nat × Nat) :=
  match src, dst with
  | 0, 1 => some (1000, 1000)
  | 1, 0 => some (2000, 2000)
  | 0, 2 | 1, 2 => some (10000, 10000)
  | 2, 0 => some (450000, 1960000 + session)
  | _, _ => none

/-- A start-up step after the one before it, where the table gives an upper bound (Table 10-1). -/
def bootStepMax (st : Nat) : Option Nat :=
  match st with
  | 1 => some 50000
  | 4 => some 1000000
  | 5 => some 28000000
  | 6 | 12 => some 10000000
  | 7 => some 2000000
  | 8 => some 20000000
  | 9 | 11 => some 15000000
  | 10 => some 35000000
  | _ => none

/-- VDD_AON is good this long before RESETn rises (R370). -/
def aonBeforeReset : Nat := 100000

/-- Changes of device state by STATE codes ACTIVE 0, STANDBY 1, DORMANT 2, HIBERNATE 3 (Table 12-2). -/
def deviceStateMax (src dst : Nat) : Option Nat :=
  match src, dst with
  | 0, 1 => some 1000000
  | 1, 0 | 1, 2 => some 100000
  | 2, 1 => some 150000
  | 1, 3 => some 2000000
  | 3, 1 => some 40000000
  | _, _ => none

/-- A step of a wake from HIBERNATE after the one before it (Table 12-5). -/
def hibWakeMax (st : Nat) : Option Nat :=
  match st with
  | 2 => some 1000000
  | 3 => some 2000000
  | 4 => some 200000
  | 5 => some 20000000
  | 6 => some 15000000
  | 7 => some 1800000
  | _ => none

/-- Integration period by INT: MADC cycles, and a conversion's time in 100 ns (Table 14-2). -/
def integration (int : Nat) : Nat × Nat :=
  if int = 0 then (81920, 200250) else if int = 1 then (68267, 166920) else if int = 2 then (4096, 10250) else (410, 1251)

/-- The bound on an injected conversion of R472 in 100 ns: the phase in progress, the entries ahead, its own conversion and 5 µs, and
120.1 µs where a recovery conversion is due before it. -/
def injectedMax (phase : Nat) (ahead : List Nat) (own : Nat) (recovery : Bool) : Nat :=
  phase + (ahead.map fun i => (integration i).2).sum + (integration own).2 + 50 + if recovery then 1201 else 0

/-- A tag job pre-empts the other jobs of the hash engine within this (R592); signing takes at most 0.6 s (R582). -/
def tagPreempt : Nat := 50
def signingMax : Nat := 600000000

/-! ### Power, in mW (R25) -/

/-- The budget of Table 1-7, by contributor in its order. -/
def powerBudget : List (String × Nat) :=
  [("Host SerDes", 10200), ("Line RX ADC and DSP", 7600), ("Line TX DAC and DSP", 3600), ("Drivers", 2400), ("TIAs", 800),
   ("Inner decoders, syndromes and correction pool", 2200), ("Breakwater", 400), ("PLLs", 1200),
   ("Pilot, hawsers, management and monitors", 800)]

/-- The largest power in native full load at the top junction temperature in °C; the H grade alone runs to 115 °C (Table 1-8). -/
def nativePowerMax (hGrade : Bool) (tj : Int) : Option Nat :=
  if tj ≤ 110 then some 34000 else if hGrade && tj ≤ 115 then some 35000 else none

/-- Typical power of STANDBY, DORMANT and HIBERNATE (Table 1-8). -/
def statePower (state : Nat) : Option Nat :=
  match state with
  | 1 => some 900
  | 2 => some 350
  | 3 => some 25
  | _ => none

/-- Typical power of a line lane half, RX or TX, by its state; PILOT is for both halves (Table 12-9). -/
def halfPower (tx : Bool) (state : Nat) : Nat :=
  match state with
  | 1 => 10
  | 2 => 60
  | 3 => if tx then 750 else 1050
  | 4 => 35
  | _ => 0

/-- Typical power of a host lane by its LP state (Table 12-9). -/
def hostPower (lp : Nat) : Nat := if lp = 0 then 640 else if lp = 1 then 240 else 5

/-! ### Subsystems and crossings (R26, R27, Tables 1-10 and 11-3) -/

/-- What crosses between two domains, and the mechanism that carries it (R26, Table 11-3). -/
inductive SignalKind where
  | level | pulse | counter | value | stream | island
  deriving DecidableEq, Repr

inductive Mechanism where
  | twoFlop | toggle | gray | requestAcknowledge | asyncFifo | fourPhase
  deriving DecidableEq, Repr

def crossingMechanism : SignalKind → Mechanism
  | .level => .twoFlop
  | .pulse => .toggle
  | .counter => .gray
  | .value => .requestAcknowledge
  | .stream => .asyncFifo
  | .island => .fourPhase

/-- The memories of Table 1-11 in KiB. -/
def protectedMemories : List (String × Nat) :=
  [("Management SRAM", 512), ("Breakwater group buffers", 384), ("Lookout capture", 256), ("Shared window", 256),
   ("Pool reorder buffer", 64), ("Pilot and fabric buffers", 48), ("Bonded store", 8)]

end Sys2Proof.Machine
end

