-- ==== Sys2Proof/Machine/Crossing.lean ====
section
/-! DEFINITION. The mechanisms that carry signals between clock domains and into the clockless islands, cycle by cycle (R26, R27, R402 to R406, R408, R409, R412, R414, R416, Tables 11-3 and 11-4). No row of the table is one destination cycle, so each is a small machine of its own beside the step: the commands see a crossing as open, closed, stalled or flushed (CROSSING_REOPEN, ISLAND_STALL, CLK_CDC_FLUSH). -/

namespace Sys2Proof.Machine

/-! ### A level through two flip-flops (R403) -/

structure TwoFlop where
  first : Bool
  second : Bool
  deriving DecidableEq, Repr

/-- One destination cycle: the destination sees `second`. -/
def TwoFlop.clock (f : TwoFlop) (source : Bool) : TwoFlop := ⟨source, f.first⟩

/-- Destination cycles that a source must hold a level (R403). -/
def levelHold : Nat := 3

/-! ### An event pulse as a toggle (R404) -/

/-- The source's toggle and counter, the synchroniser, what the destination saw last and its flag, and the toggle acknowledged. -/
structure PulseCross where
  toggle : Bool
  acked : Bool
  count : Nat
  sync : TwoFlop
  seen : Bool
  pulses : Nat
  deriving DecidableEq, Repr

/-- An event at the source: always counted; it toggles only where the previous toggle has been acknowledged. -/
def PulseCross.event (c : PulseCross) : PulseCross :=
  { c with count := c.count + 1, toggle := if c.toggle == c.acked then !c.toggle else c.toggle }

/-- One destination cycle: a toggle seen makes one pulse. -/
def PulseCross.clock (c : PulseCross) : PulseCross :=
  let s := c.sync.clock c.toggle
  { c with sync := s, seen := s.second, pulses := if s.second != c.seen then c.pulses + 1 else c.pulses }

/-- The acknowledge of what the destination saw reaches the source. -/
def PulseCross.acknowledge (c : PulseCross) : PulseCross := { c with acked := c.seen }

/-! ### A counter as Gray code (R405) -/

/-- The Gray code of a count. -/
def grayOf (n : Nat) : Nat := n ^^^ (n / 2)

/-- The count of a 48-bit Gray code: bit i is the parity of the bits from i up. -/
def grayCount (g : BitVec 48) : BitVec 48 :=
  let a := g ^^^ (g >>> 1)
  let b := a ^^^ (a >>> 2)
  let c := b ^^^ (b >>> 4)
  let e := c ^^^ (c >>> 8)
  let f := e ^^^ (e >>> 16)
  f ^^^ (f >>> 32)

/-! ### A value by request and acknowledge (R406) -/

structure ValueCross where
  /-- the value the source holds from its request to the acknowledge -/
  held : Option Word
  taken : Word
  deriving DecidableEq, Repr

/-- A request, where none is outstanding. -/
def ValueCross.request (c : ValueCross) (w : Word) : ValueCross := if c.held.isNone then { c with held := some w } else c

/-- The destination takes the whole value in one cycle and acknowledges it. -/
def ValueCross.take (c : ValueCross) : ValueCross :=
  match c.held with
  | some w => ⟨none, w⟩
  | none => c

/-! ### A FIFO (R408) -/

/-- Whole frames or codewords in an asynchronous FIFO, with what it dropped or repeated. -/
structure AsyncFifo where
  depth : Nat
  queue : List Nat
  last : Nat
  slips : Nat
  deriving DecidableEq, Repr

/-- A write: into a full FIFO the whole unit is dropped and counted. -/
def AsyncFifo.push (f : AsyncFifo) (x : Nat) : AsyncFifo :=
  if f.queue.length < f.depth then { f with queue := f.queue ++ [x] } else { f with slips := f.slips + 1 }

/-- A read: from an empty FIFO the last whole unit is repeated and counted. -/
def AsyncFifo.pop (f : AsyncFifo) : Nat × AsyncFifo :=
  match f.queue with
  | x :: rest => (x, { f with queue := rest, last := x })
  | [] => (f.last, { f with slips := f.slips + 1 })

/-! ### The four-phase handshake of an island (R27, R416, R419) -/

structure FourPhase where
  req : Bool
  ack : Bool
  data : Option Nat
  delivered : List Nat
  deriving DecidableEq, Repr

/-- What one side does. -/
inductive HandMove where
  | raise (x : Nat) | accept | lower | release | withdraw
  deriving DecidableEq, Repr

/-- Request up, acknowledge up, request down, acknowledge down; a request not acknowledged may be withdrawn (R419). A move out of turn
is none. -/
def FourPhase.move (h : FourPhase) : HandMove → Option FourPhase
  | .raise x => if !h.req && !h.ack then some { h with req := true, data := some x } else none
  | .accept =>
    match h.data with
    | some x => if h.req && !h.ack then some { h with ack := true, delivered := h.delivered ++ [x] } else none
    | none => none
  | .lower => if h.req && h.ack then some { h with req := false, data := none } else none
  | .release => if !h.req && h.ack then some { h with ack := false } else none
  | .withdraw => if h.req && !h.ack then some { h with req := false, data := none } else none

/-! ### A coordinated reset (R412, R414, Table 11-4) -/

/-- The longest closure in ns of a crossing, from the periods in ps of its two sides and whether a side's clock was gated: 1 µs where
both run at 100 MHz or more, else 12 cycles of the slower side where that is longer; a gated clock adds 200 ns (R409, R412). -/
def closureMax (periodA periodB : Nat) (gated : Bool) : Nat :=
  let slow := max periodA periodB
  let base := if slow ≤ 10000 then 1000 else max 1000 (12 * slow / 1000)
  if gated then base + 200 else base

/-- The steps of Table 11-4 that each side has done: reset-notify up, the other side ready, the resetting side ready. -/
structure Closure where
  notified : Bool
  otherReady : Bool
  ownReady : Bool
  flushes : Nat
  deriving DecidableEq, Repr

/-- Step 1; on a crossing still closed it extends the closure (R414). -/
def Closure.notify (c : Closure) : Closure := { c with notified := true, ownReady := false, otherReady := false }

/-- Steps 2 and 3: the other side flushes once and reports ready. -/
def Closure.flush (c : Closure) : Closure :=
  if c.notified && !c.otherReady then { c with otherReady := true, flushes := c.flushes + 1 } else c

/-- Step 4, 16 of its cycles after step 1. -/
def Closure.leave (c : Closure) : Closure := if c.notified then { c with ownReady := true } else c

/-- Step 5: the crossing reopens when both report ready. -/
def Closure.reopened (c : Closure) : Bool := c.notified && c.otherReady && c.ownReady

/-! ### Glitch-free clock change (R402) -/

/-- The shortest phase in ps that a change between two clocks may show: the shorter of the two half-periods. -/
def shortestPhase (periodA periodB : Nat) : Nat := min periodA periodB / 2

end Sys2Proof.Machine
end

