-- ==== Sys2Proof/Machine/Package.lean ====
section
/-! DEFINITION. The package and its electrical limits (R1, R2, R15, R445, R613 to R633, Tables 0-1, 20-1 to 20-15): positions of balls and pads, good windows of the rails, conditions on the board, ratings and ordering codes, as functions and predicates on plain values. Units: mV, µA, ns, mW, tenths of °C where a docstring says no other. -/

namespace Sys2Proof.Machine

/-! ### Balls (R614, Tables 20-1 and 20-2) -/

/-- The ball rows in order. -/
def ballRows : List String :=
  ["A", "B", "C", "D", "E", "F", "G", "H", "J", "K", "L", "M", "N", "P", "T", "U", "V", "W", "Y",
   "AA", "AB", "AC", "AD", "AE", "AF", "AG", "AH", "AJ", "AK", "AL", "AM", "AN", "AP"]

/-- A position of the array: row by its place in ballRows, and column 1 to 33. -/
structure Ball where
  row : Nat
  col : Nat
  deriving DecidableEq, Repr

/-- The ball's name, as A1. -/
def Ball.name (b : Ball) : String := ballRows.getD b.row "?" ++ toString b.col

/-- The negative or positive half of a pair. -/
inductive Half where
  | p | n
  deriving DecidableEq, Repr

/-- A signal that has a ball. -/
inductive Pin where
  | hrx (k : HLane) (h : Half) | htx (k : HLane) (h : Half)
  | hwTx (p : Port) (h : Half) | hwRx (p : Port) (h : Half)
  | refclk (h : Half)
  | resetn | intn | faultn | waken | txdisn | clrn | scl | sda
  | spiCsn | spiSck | spiMosi | spiMiso
  | flCsn | flSck | flIo (i : Fin 4)
  | tck | tms | tdi | tdo | trstn
  | coreVadj | poolVadj
  | test (i : Fin 4)
  | monIn (k : Fin 8) | vinSns | therm (i : Fin 2) | monD (i : Fin 2) (h : Half)
  | bdac (k : Fin 16)
  | dnc (i : Fin 6)
  deriving DecidableEq, Repr

/-- Two columns of a pair: P at 2j + 1, N at 2j + 2. -/
def pairCol (j : Nat) : Half → Nat
  | .p => 2 * j + 1
  | .n => 2 * j + 2

/-- The ball of a signal (Table 20-2). -/
def Pin.ball : Pin → Ball
  | .hrx k h => ⟨if k.val < 16 then 32 else 30, pairCol (k.val % 16) h⟩
  | .htx k h => ⟨if k.val < 16 then 28 else 26, pairCol (k.val % 16) h⟩
  | .hwTx k h => ⟨22, pairCol k.val h⟩
  | .hwRx k h => ⟨20, pairCol k.val h⟩
  | .refclk .p => ⟨0, 13⟩
  | .refclk .n => ⟨0, 14⟩
  | .resetn => ⟨0, 3⟩
  | .intn => ⟨0, 4⟩
  | .faultn => ⟨0, 5⟩
  | .waken => ⟨0, 6⟩
  | .txdisn => ⟨0, 7⟩
  | .clrn => ⟨0, 8⟩
  | .scl => ⟨0, 9⟩
  | .sda => ⟨0, 10⟩
  | .spiCsn => ⟨2, 3⟩
  | .spiSck => ⟨2, 4⟩
  | .spiMosi => ⟨2, 5⟩
  | .spiMiso => ⟨2, 6⟩
  | .flCsn => ⟨2, 8⟩
  | .flSck => ⟨2, 9⟩
  | .flIo i => ⟨2, 10 + i.val⟩
  | .tck => ⟨4, 3⟩
  | .tms => ⟨4, 4⟩
  | .tdi => ⟨4, 5⟩
  | .tdo => ⟨4, 6⟩
  | .trstn => ⟨4, 7⟩
  | .coreVadj => ⟨4, 9⟩
  | .poolVadj => ⟨4, 10⟩
  | .test i => ⟨4, 12 + i.val⟩
  | .monIn k => ⟨5, k.val + 3⟩
  | .vinSns => ⟨5, 12⟩
  | .therm i => ⟨5, 13 + i.val⟩
  | .monD i .p => ⟨6, 3 + 2 * i.val⟩
  | .monD i .n => ⟨6, 4 + 2 * i.val⟩
  | .bdac k => if k.val < 8 then ⟨8, k.val + 3⟩ else ⟨9, k.val - 5⟩
  | .dnc i => ⟨6, 8 + i.val⟩

/-- What a board does with a ball that it does not use (R615). -/
inductive Tie where
  | toVss | unconnected | pullHigh10k | perInternalPull
  deriving DecidableEq, Repr

/-- The tie of R615, for an unused input, and always for TEST and DNC. -/
def Pin.tie : Pin → Option Tie
  | .test _ => some .toVss
  | .dnc _ => some .unconnected
  | .resetn | .waken | .txdisn | .clrn | .scl | .sda => some .pullHigh10k
  | .spiCsn | .spiSck | .spiMosi | .tck | .tms | .tdi | .trstn => some .perInternalPull
  | _ => none

/-- The internal pull while VDD_IO is good, up or down, 50 kΩ (Table 20-7). -/
def Pin.pullUp : Pin → Option Bool
  | .tms | .tdi | .spiCsn => some true
  | .trstn | .tck => some false
  | _ => none

/-- Supply balls by rail (Table 20-2). -/
def supplyBalls : List (String × Nat) :=
  [("VDD_CORE", 180), ("VDD_POOL", 24), ("VDD_ANA", 60), ("VDD_HS", 96), ("VDD_AFE", 32), ("VDD_IO", 8), ("VDD_AON", 4), ("VSS", 457)]

/-! ### Photonic attach edge (R15, R617, Table 20-4) -/

/-- What a pad of the edge carries: the only contacts of the line signals (R15). -/
inductive Pad where
  | ground | drv (n : Nat) (h : Half) | tia (n : Nat) (h : Half) | pdb (n : Nat)
  deriving DecidableEq, Repr

/-- The content of pads 1 to 58. -/
def padContent (i : Nat) : Option Pad :=
  if i = 0 ∨ 58 < i then none
  else if i ≤ 25 then
    some (if i % 3 = 1 then .ground else .drv ((i - 1) / 3) (if i % 3 = 2 then .p else .n))
  else if i ≤ 50 then
    some (if (i - 26) % 3 = 0 then .ground else .tia ((i - 26) / 3) (if (i - 26) % 3 = 1 then .p else .n))
  else some (.pdb (i - 51))

/-- Centre of a pad from the row-A corner in µm: 100 µm pitch within each of the three groups. -/
def padCentre (i : Nat) : Nat :=
  if i ≤ 25 then 6000 + 100 * (i - 1) else if i ≤ 50 then 9900 + 100 * (i - 26) else 13300 + 100 * (i - 51)

/-! ### Supplies (R618 to R622, R631, Tables 20-5 and 20-13) -/

/-- A supply rail of Table 20-5. -/
inductive Supply where
  | core | pool | ana | hs | afe | io | aon
  deriving DecidableEq, Repr

/-- The recommended range in mV at the live set points (R618). -/
def Device.recommendedRange (d : Device) : Supply → Nat × Nat
  | .core => (98 * coreMv (d.get F.PWR_STATUS_OP_LIVE) / 100, 102 * coreMv (d.get F.PWR_STATUS_OP_LIVE) / 100)
  | .pool => (poolMv (d.get F.POOL_STATUS_VDD_CODE) - 10, poolMv (d.get F.POOL_STATUS_VDD_CODE) + 10)
  | .ana => (873, 927)
  | .hs => (1164, 1236)
  | .afe => (2425, 2575)
  | .io => (1710, 1890)
  | .aon => (776, 824)

/-- The good window in mV: the on-die detector reports the rail good inside it; VDD_POOL has no detector (R618, R619). -/
def Device.goodWindow (d : Device) : Supply → Option (Nat × Nat)
  | .core => some d.coreWindow
  | .pool => none
  | .ana => some (855, 945)
  | .hs => some (1140, 1260)
  | .afe => some (2375, 2625)
  | .io => some (1620, 1980)
  | .aon => some (760, 840)

/-- The detector's answer for a voltage: the commands RAIL_BAD and RAIL_GOOD report its changes (R370, Table 10-2). -/
def Device.detects (d : Device) (r : Supply) (mv : Nat) : Option Bool :=
  (d.goodWindow r).map fun w => w.1 ≤ mv && mv ≤ w.2

/-- Ripple and noise to 100 MHz in mVpp, and the load step in mA that the regulator must hold within 1 µs (Table 20-5). -/
def supplyLimits : Supply → Nat × Option Nat
  | .core => (10, some 4000)
  | .pool => (10, some 1000)
  | .ana => (5, some 1000)
  | .hs => (10, some 2000)
  | .afe => (10, some 500)
  | .io => (50, none)
  | .aon => (10, none)

/-- Largest current in mA in any mode, and the typical one (R631, Table 20-13). -/
def supplyMax : Supply → Nat
  | .core => 17000
  | .pool => 2500
  | .ana => 6500
  | .hs => 10000
  | .afe => 1600
  | .io | .aon => 100

def supplyTypical : Supply → Nat
  | .core => 13200
  | .pool => 1430
  | .ana => 5330
  | .hs => 8500
  | .afe => 1280
  | .io => 30
  | .aon => 60

/-- Rise of a rail from 10 % to 90 % that R622 allows, in µs: monotonic; falls are free, in any order. -/
def riseOk (monotonic : Bool) (us : Nat) : Bool := monotonic && 20 ≤ us && us ≤ 20000

/-- The set point of a regulator that R621 asks of the board: V_NOM − I × 10 kΩ, with I in 0.1 µA, is the voltage in mV. -/
def regulatorMv (vnom : Nat) (i : Int) : Int := (vnom : Int) - i

/-- Slew and settling of R621: at least 1 mV/µs, and 50 µs for each 50 mV begun. -/
def settleUs (change : Nat) : Nat := 50 * ((change + 49) / 50)

/-! ### What the board gives (R445, R615, R621, R624, R626, R627, R632) -/

/-- The conditions on a board and its parts that the manual sets. -/
structure Board where
  laserPullDowns : Bool
  modulatorsSafeWhenFloating : Bool
  hawsersQuietWhenFloating : Bool
  testToVss : Bool
  dncOpen : Bool
  /-- upper feedback resistor of each regulator in Ω -/
  upperFeedback : Nat
  /-- pull-ups on INTn, FAULTn, SCL and SDA in Ω -/
  pullUps : Nat
  refclkCoupledNf : Nat
  hawsersCoupledNf : Nat
  rfBondUm : Nat
  flashMiB : Nat
  flashSectorKiB : Nat
  flashPage : Nat
  flashCommands : List Nat
  deriving DecidableEq, Repr

/-- The SPI NOR commands that the flash must have (R626). -/
def flashCommandsNeeded : List Nat := [0xEC, 0x12, 0x21, 0x06, 0x05, 0x9F]

/-- FL_SCK in MHz: 100 for reads, 50 for every other command (R626). -/
def flashClock (cmd : Nat) : Nat := if cmd = 0xEC then 100 else 50

/-- A board that meets the manual. -/
def Board.meets (b : Board) : Bool :=
  b.laserPullDowns && b.modulatorsSafeWhenFloating && b.hawsersQuietWhenFloating && b.testToVss && b.dncOpen &&
  decide (9900 ≤ b.upperFeedback ∧ b.upperFeedback ≤ 10100) && decide (1000 ≤ b.pullUps ∧ b.pullUps ≤ 10000) &&
  b.refclkCoupledNf == 100 && b.hawsersCoupledNf == 100 && decide (b.rfBondUm ≤ 200) &&
  decide (16 ≤ b.flashMiB ∧ b.flashMiB ≤ 64) && b.flashSectorKiB == 4 && b.flashPage == 256 &&
  flashCommandsNeeded.all b.flashCommands.contains

/-- A part taken from dry pack: hours to its reflow, at °C and % RH, without a bake (R613). -/
def reflowOk (hours temp rh : Nat) (baked : Bool) : Bool := baked || (decide (hours ≤ 168) && decide (temp ≤ 30) && decide (rh ≤ 60))

/-! ### Ratings (R623, Table 20-6) and operating conditions (R1, Tables 0-1, 20-7) -/

/-- Absolute limits in mV. -/
def absoluteMv : List (String × Int × Int) :=
  [("VDD_CORE", -300, 900), ("VDD_POOL", -300, 900), ("VDD_AON", -300, 900), ("VDD_ANA", -300, 1000), ("VDD_HS", -300, 1350),
   ("VDD_AFE", -300, 2800), ("VDD_IO", -300, 2000), ("3.3 V-tolerant signals", -300, 3600), ("SPI, flash and JTAG signals", -300, 2000),
   ("HRXk, HWk_RX, REFCLK", -300, 1200), ("CORE_VADJ, POOL_VADJ", -300, 1000), ("MON_IN, THERM, MON_DP, MON_DN", -300, 2800),
   ("VIN_SNS", -300, 6000)]

/-- TIA_Ln average input and PDB_Ln in µA; junction and storage in °C. -/
def tiaCurrentMax : Nat := 6000
def pdbCurrentMax : Nat := 10000
def junctionAbsolute : Int := 130
def storageRange : Int × Int := (-55, 150)

/-- ESD in V: human body and charged device, for a ball or for a pad of the edge. -/
def esd (pad : Bool) : Nat × Nat := if pad then (100, 50) else (1000, 250)

/-- Junction range of a grade in °C: outside it the manual states nothing (R1). -/
def junctionRange (hGrade : Bool) : Int × Int := if hGrade then (-40, 115) else (-5, 110)

def Device.inGrade (d : Device) (tj : Int) : Bool :=
  let r := junctionRange d.gradeH
  decide (r.1 ≤ tj) && decide (tj ≤ r.2)

/-! ### Inputs and outputs (R624 to R630) -/

/-- The level an input reads, where the manual states one: the 3.3 V-tolerant group by fixed thresholds, the 1.8 V group by VDD_IO
(Table 20-8). -/
def inputLevel (tolerant : Bool) (vddIo mv : Nat) : Option Bool :=
  let hi := if tolerant then 1260 * 100 else 65 * vddIo
  let lo := if tolerant then 540 * 100 else 35 * vddIo
  if hi ≤ 100 * mv then some true else if 100 * mv ≤ lo then some false else none

/-- A low pulse of TXDISn, CLRn or WAKEn in ns: ignored, always acted on, or the manual states neither (Table 20-9). -/
def lowPulse (wake : Bool) (ns : Nat) : Option Bool :=
  if 1000 ≤ ns then some true
  else if (if wake then ns ≤ 100 else ns < 50) then some false
  else none

/-- Clocks of the management interfaces in kHz that they take (R284, Table 20-9). -/
def spiClockOk (khz duty : Nat) : Bool := decide (khz ≤ 50000) && decide (45 ≤ duty ∧ duty ≤ 55)
def sclClockOk (khz : Nat) : Bool := khz == 100 || khz == 400 || khz == 1000
def tckClockOk (khz : Nat) : Bool := decide (khz ≤ 25000)

/-- A reference clock within Tables 11-1 and 20-10: offset in ppm, jitter in fs, duty in %, no spread spectrum, swing in mVppd, slew in
mV/ns (R627). -/
def refclkOk (ppm : Int) (jitter duty : Nat) (spread : Bool) (swing slew : Nat) : Bool :=
  decide (-100 ≤ ppm ∧ ppm ≤ 100) && decide (jitter ≤ 150) && decide (40 ≤ duty ∧ duty ≤ 60) && !spread &&
  decide (300 ≤ swing ∧ swing ≤ 1600) && decide (1000 ≤ slew)

/-- The 100 Ω termination of the reference clock is present while VDD_HS is good (R627). -/
def Device.refclkTerminated (d : Device) : Bool := !d.sup.railsBad.contains .hs

/-- The line input is within its operating range: modulation peak to peak and average photocurrent in µA (R628, step 3 of Table 2-6). -/
def lineInputOk (modulation average : Nat) : Bool := decide (50 ≤ modulation ∧ modulation ≤ 2000) && decide (20 ≤ average ∧ average ≤ 3000)

/-- PDB_Ln in mV: 2.0 V, off while the lane's RX half is OFF (R628). -/
def Device.pdbMv (d : Device) (n : Lane) : Nat := if d.get (F.LRX_STATE_RX_STATE n) = 0 then 0 else 2000

/-- A host signal in mVppd asserts the detector, deasserts it, or lies in the band between (Table 20-11). -/
def hostDetect (mv : Nat) : Option Bool := if 80 ≤ mv then some true else if mv ≤ 40 then some false else none

/-- A hawser input that a receiver resolves, in mVppd; the transmitter swings 500 to 800 (Table 20-11). -/
def hawserSensitivity : Nat := 100
def hawserSwing : Nat × Nat := (500, 800)

/-- Limits of the monitor and of the bias DACs (R630, Table 20-12): error of a DAC output in tenths of a code, and in mV and hundredths
of a percent. -/
def bdacInlTenths : Nat := 40
def bdacDnlTenths : Nat := 5
def bdacOffsetMv : Nat := 1
def bdacGainHundredths : Nat := 25

/-- A load that the settling of R487 and R488 is stated for: Ω and pF. -/
def bdacLoadOk (ohms pf : Nat) : Bool := decide (1000 ≤ ohms) && decide (pf ≤ 1000)

/-! ### Thermal data (R632, Table 20-14) -/

/-- Die temperature in tenths of °C from the lid's, at the power of the die in mW: 0.10 °C/W and 0.90 °C/W. -/
def dieTenths (frontEnd : Bool) (lid : Int) (mw : Nat) : Int := lid + ((if frontEnd then 9 * mw else mw) / 1000 : Nat)

/-- The hottest die lies within the grade's range (R632). -/
def Device.thermalPathOk (d : Device) (lid : Int) (digital front : Nat) : Bool :=
  decide (max (dieTenths false lid digital) (dieTenths true lid front) ≤ 10 * (junctionRange d.gradeH).2)

/-! ### Ordering (R633, Table 20-15) -/

/-- The ordering code of a grade byte. -/
def orderingCode (grade : Nat) : Option String :=
  if grade = 0x43 then some "WKT3208-C-B0T" else if grade = 0x48 then some "WKT3208-H-B0T" else none

/-- The code of this device, from the grade byte of SYS_ID. -/
def Device.orderedAs (d : Device) : Option String := orderingCode (d.get F.SYS_ID_GRADE)

end Sys2Proof.Machine
end

