-- ==== Sys2Proof/Laws/Bounds.lean ====
section
/-! SUPPORT. Facts about the bounds of Machine/Timing.lean, the package of Machine/Package.lean and the crossings of Machine/Crossing.lean. -/

namespace Sys2Proof.Laws

open Sys2Proof.Machine

/-- The stages of Table 1-5 add up to the bound of Table 1-6. -/
theorem latencyBudget_sum (k : PathKind) (w : Nat) : (latencyBudget k w).sum = latencyBound k w := by
  cases k <;> simp [latencyBudget, latencyBound] <;> omega

/-- A wider window never shortens the line-to-host bound. -/
theorem latencyBound_mono (k : PathKind) {w v : Nat} (h : w ≤ v) : latencyBound k w ≤ latencyBound k v := by
  cases k <;> simp [latencyBound] <;> omega

/-- Table 3-4: native at W = 64 ns is 998.4 ns, terminated at 160 ns is 296 ns and 321.6 ns. -/
theorem latencyBound_table :
    latencyBound .native (windowTenths 1) = 9984 ∧ latencyBound .terminated200 (windowTenths 4) = 2960 ∧
    latencyBound .terminated100 (windowTenths 4) = 3216 := by decide

/-- The nine contributors of Table 1-7 add up to 29.2 W. -/
theorem powerBudget_total : (powerBudget.map (·.2)).sum = 29200 := by decide

/-- The acquisition steps 3 to 8 of Table 2-6 stay within the totals of R71. -/
theorem acqTotal_covers (native : Bool) :
    ([3, 4, 5, 6, 7, 8].filterMap (acqMax native)).sum ≤ acqTotal native := by cases native <;> decide

/-- The signals of Table 20-2 take 228 balls, the supplies 861, which fill the array of 1,089. -/
theorem supplyBalls_total : (supplyBalls.map (·.2)).sum = 1089 - 228 ∧ 33 * 33 = 1089 := by decide

/-- The two dies of the worked example of R632: a lid at 92 °C, 30.0 W and 4.0 W give 95.0 °C and 95.6 °C. -/
theorem dieTenths_example : dieTenths false 920 30000 = 950 ∧ dieTenths true 920 4000 = 956 := by decide

/-- A level held for two destination cycles is seen (R403). -/
theorem twoFlop_sees (f : TwoFlop) (b : Bool) : ((f.clock b).clock b).second = b := rfl

/-- Every event of a pulse crossing is counted, whether or not it toggles (R404). -/
theorem pulse_counted (c : PulseCross) : c.event.count = c.count + 1 := rfl

/-- The source never toggles before the previous toggle is acknowledged (R404). -/
theorem pulse_waits (c : PulseCross) (h : c.toggle ≠ c.acked) : c.event.toggle = c.toggle := by
  simp [PulseCross.event, h]

/-- A value crosses whole or not at all (R406). -/
theorem value_whole (c : ValueCross) : c.take.taken = c.taken ∨ c.held = some c.take.taken := by
  cases h : c.held <;> simp [ValueCross.take, h]

/-- A handshake delivers at most the datum that its request carries (R416). -/
theorem handshake_delivers (h k : FourPhase) (m : HandMove) (e : h.move m = some k) :
    k.delivered = h.delivered ∨ ∃ x, h.data = some x ∧ k.delivered = h.delivered ++ [x] := by
  cases m <;> simp only [FourPhase.move] at e
  case accept =>
    split at e
    · split at e
      · cases e; exact .inr ⟨_, ‹_›, rfl⟩
      · cases e
    · cases e
  all_goals split at e
  all_goals first
    | cases e; exact .inl rfl
    | cases e

/-- A second notify on a closed crossing keeps it closed until both sides report again (R414). -/
theorem closure_extends (c : Closure) : c.notify.reopened = false := by simp [Closure.notify, Closure.reopened]

/-- The crossing with AON, at 250 ns a cycle, reopens within 3 µs; two fast sides within 1 µs (R412). -/
theorem closureMax_values : closureMax 250000 1128 false = 3000 ∧ closureMax 1128 1667 false = 1000 := by decide

/-- Each count differs from the next in one bit of its Gray code, shown for a window of counts across a power of two (R405). -/
theorem gray_adjacent : (List.range 64).all (fun n => decide (∃ i ∈ List.range 7, grayOf n ^^^ grayOf (n + 1) = 2 ^ i)) = true := by decide

end Sys2Proof.Laws
end

