-- ==== Sys2Proof/Machine/LinePath.lean ====
section
/-! DEFINITION. The sample-by-sample datapath of a line lane, receive and transmit (chapters 2 and 5, and the native line bits of chapter 4), as functions of its samples and of the live registers. No row of the command table carries samples: the commands carry what these stages count or decide. -/

namespace Sys2Proof.Machine

/-! ### Receive: rates, TIA and ADC (R38 to R45) -/

/-- Transimpedance in mΩ at a range and gain code: Z0 × 10^(1.25 × c ÷ 20), to the nearest mΩ (R40). -/
def transimpedance (high : Bool) (code : Nat) : Int :=
  roundDiv ((if high then 369500 else 200000) * (tenSixteenths.getD code 0 : Nat)) 1000000000000

/-- The sub-ADC that converts the symbol of index `n`, counted from the start of the ADC (R42). -/
def subAdc (n : Nat) : Nat := n % 64

/-- A sample of an input of `v` LSB, and whether the overrange comparator flags it as clipped (R43, R44). -/
def adcSample (v : Int) : Int × Bool := (clampInt (-128) 127 v, v < -128 || 127 < v)

/-- Clipped samples of a run of inputs: those the comparator flagged, not those that read a limit (R44, R45). -/
def clippedCount (vs : List Int) : Nat := (vs.filter fun v => (adcSample v).2).length

/-! ### DC block (R46, R47, Table 2-2) -/

/-- Two high-pass sections on one sample, in LSB of 2^-12: each subtracts its estimate, frozen or not (R46, R47). -/
def dcOut (m1 m2 x : Int) : Int := x - m1 - m2

/-! ### Feed-forward equaliser (R50 to R54) -/

/-- The coefficient tap `k` applies: MAIN at the cursor, 0 outside the 24 taps under E1 or E2, else its own (R51, R53). -/
def tapUsed (taps : List Int) (cursor main : Nat) (only24 : Bool) (k : Nat) : Int :=
  if k = cursor then main else if only24 && !tap24 cursor k then 0 else taps.getD k 0

/-- Sum of the products in LSB of 2^-8; sample `k` of the list is k symbols older than the newest (R50). -/
def ffeSum (taps : List Int) (cursor main : Nat) (only24 : Bool) (samples : List Int) : Int :=
  (List.range 40).foldl (fun s k => s + tapUsed taps cursor main only24 k * samples.getD k 0) 0

/-- The 20-bit accumulator: its value, and whether it saturated, which FFE_SAT counts (R52). -/
def ffeOut (sum : Int) : Int × Bool := (clampInt (-524288) 524287 sum, sum < -524288 || 524287 < sum)

/-- The 10-bit values of a lane's taps: bits [23:14] of their internal registers (Adaptation). -/
def tapValues (c : Coefs) : List Int := c.ffe.map fun x => Int.fdiv x (2 ^ 14)

/-- The equaliser output of a lane with its live registers. -/
def Device.ffe (d : Device) (n : Lane) (samples : List Int) : Int × Bool :=
  ffeOut (ffeSum (tapValues (d.rx.get n).coef) (d.lget (F.LRX_FFE_CFG_CURSOR n)) (d.lget (F.LRX_FFE_CFG_MAIN n)) (d.taps24 n) samples)

/-! ### Detection and soft values (R55 to R58) -/

/-- Symbol value of a level: −3, −1, +1 or +3. -/
def symbolOf (a : Nat) : Int := 2 * (a : Int) - 3

/-- The two bits of a level, first bit first: 00, 01, 11, 10 from the lowest (R56). -/
def grayBits (a : Nat) : Bool × Bool := (2 ≤ a, a == 1 || a == 2)

/-- The level of two bits. -/
def grayLevel (b0 b1 : Bool) : Nat := if b0 then (if b1 then 2 else 3) else if b1 then 1 else 0

/-- Reference of the trellis for level `a` after decisions s1, s2, s3, in the units of the levels; g in LSB of 2^-2 against
levels in LSB of 2^-8 (R55; DFE_EN at 0 drops the last term). -/
def mlseRef (level : List Int) (g : List Int) (dfe : Bool) (a s1 s2 s3 : Nat) : Int :=
  level.getD a 0 + 64 * (g.getD 0 0 * symbolOf s1 + g.getD 1 0 * symbolOf s2 + if dfe then g.getD 2 0 * symbolOf s3 else 0)

/-- A branch metric: the squared distance, saturated to 16 bits. -/
def branchMetric (z ref : Int) : Nat := min 65535 ((z - ref).natAbs ^ 2)

/-- Soft value from the best path metrics with the bit at 1 and at 0: their difference shifted right by SOFT_SCALE and clamped
to −15 to +15; positive means 0 (R57). -/
def softValue (metric1 metric0 : Nat) (scale : Nat) : Int := clampInt (-15) 15 (((metric1 : Int) - metric0) / (2 ^ scale : Nat))

/-- Inverse of the 1/(1+D) mod 4 precoding: a level from two consecutive detected levels (R58). -/
def unprecode (now before : Nat) : Nat := (now + before) % 4

/-- Soft value of a decoded bit: the smaller magnitude of the two symbols' values, with the sign of the bit (R58). -/
def unprecodeSoft (a b : Int) (bit : Bool) : Int := (if bit then -1 else 1) * (min a.natAbs b.natAbs : Nat)

/-! ### The trellis and the slicer (Sequence detection and soft outputs)

DESIGN CHOICE (log entry 130): the manual gives the trellis, its metrics, its traceback depth of 48 and the max-log rule. Of several
predecessors with one metric the lowest wins, and so does the lowest state at traceback; the best path metric with a bit at a value is that of
the same trellis with the symbol's level kept to those that give the bit; the slicer's distance is measured in LSB of 2^-8. -/

/-- A survivor: its path metric, and its decisions, newest first. -/
structure Survivor where
  metric : Nat
  path : List Nat
  deriving DecidableEq, Repr

/-- What the detector takes from the lane: levels and g in their LSBs, and the two enables. -/
structure DetectCfg where
  level : List Int
  g : List Int
  dfe : Bool
  scale : Nat
  deriving DecidableEq, Repr

/-- The better of two survivors, the first on a tie; a missing one loses. -/
def better (a b : Option Survivor) : Option Survivor :=
  match a, b with
  | some x, some y => if y.metric < x.metric then b else a
  | none, _ => b
  | _, none => a

/-- The trellis over one symbol (16 states: state 4 p + q holds the decisions p at time n−1 and q at n−2): each state (a, p) takes the best of its
four predecessors (p, q), whose own path gives s(n−3). `may` says which levels the symbol may take. -/
def trellisStep (c : DetectCfg) (may : Nat → Bool) (v : List (Option Survivor)) (z : Int) : List (Option Survivor) :=
  (List.range 16).map fun t =>
    let a := t / 4
    let p := t % 4
    if !may a then none
    else (List.range 4).foldl (fun best q =>
      better best (match v.getD (4 * p + q) none with
        | none => none
        | some s => some { metric := s.metric + branchMetric z (mlseRef c.level c.g c.dfe a p q (s.path.getD 2 0)), path := a :: s.path })) none

/-- Path metrics renormalised, as they are every symbol: the lowest becomes 0. Their differences, and so every decision and soft value, stay. -/
def renormalise (v : List (Option Survivor)) : List (Option Survivor) :=
  let low := v.foldl (fun m s => match s with | some x => min m x.metric | none => m) (2 ^ 64)
  v.map fun s => s.map fun x => { x with metric := x.metric - low }

/-- Best survivor of a trellis run over the outputs `zs`, oldest first, with the levels of the oldest kept to `may`. -/
def trellisBest (c : DetectCfg) (start : List (Option Survivor)) (zs : List Int) (may : Nat → Bool) : Option Survivor :=
  (zs.zipIdx.foldl (fun v x => trellisStep c (if x.2 = 0 then may else fun _ => true) v x.1) start).foldl better none

/-- The decision for the oldest of 49 outputs, 48 symbols back on the best path. -/
def traceback (c : DetectCfg) (start : List (Option Survivor)) (zs : List Int) : Nat :=
  match trellisBest c start zs fun _ => true with
  | some s => s.path.getD 48 0
  | none => 0

/-- Bit `b` of a level, first bit 0 (R56). -/
def levelBit (b a : Nat) : Bool := if b = 0 then (grayBits a).1 else (grayBits a).2

/-- Soft value of bit `b` of the oldest of the outputs (R57). -/
def trellisSoft (c : DetectCfg) (start : List (Option Survivor)) (zs : List Int) (b : Nat) : Int :=
  match trellisBest c start zs (levelBit b), trellisBest c start zs fun a => !levelBit b a with
  | some one, some zero => softValue one.metric zero.metric c.scale
  | _, _ => 0

/-- The slicer of MLSE_EN at 0: the output less the feedback g1 s(n−1), in half LSBs, against the three thresholds midway between levels. -/
def sliceInput (c : DetectCfg) (z : Int) (before : Nat) : Int := 2 * (z - 64 * (c.g.getD 0 0 * symbolOf before))

/-- Threshold between levels `t` and `t`+1, in half LSBs. -/
def sliceThreshold (c : DetectCfg) (t : Nat) : Int := c.level.getD t 0 + c.level.getD (t + 1) 0

/-- The level that the slicer decides. -/
def sliceLevel (c : DetectCfg) (z : Int) (before : Nat) : Nat :=
  ((List.range 3).filter fun t => decide (sliceThreshold c t ≤ sliceInput c z before)).length

/-- Soft value of bit `b` from the slicer: the distance to the nearest threshold at which the bit changes, shifted by SOFT_SCALE and clamped. -/
def sliceSoft (c : DetectCfg) (z : Int) (before b : Nat) : Int :=
  let y := sliceInput c z before
  let ts := if b = 0 then [1] else [0, 2]
  let far := ts.foldl (fun m t => min m (y - sliceThreshold c t).natAbs) (2 ^ 32)
  let m : Int := (min 15 (far / 2 / 2 ^ c.scale) : Nat)
  if levelBit b (sliceLevel c z before) then -m else m

/-- The detector's settings of a lane, from its live coefficients and LRX_MLSE_CFG. -/
def Device.detectCfg (d : Device) (n : Lane) : DetectCfg :=
  { level := (d.rx.get n).coef.level.map fun x => Int.fdiv x 16, g := (d.rx.get n).coef.mlse.map fun x => Int.fdiv x (2 ^ 14)
    dfe := d.flag (F.LRX_MLSE_CFG_DFE_EN n), scale := d.get (F.LRX_MLSE_CFG_SOFT_SCALE n) }

/-- A detected symbol: its level and the soft values of its two bits. -/
structure Detected where
  level : Nat
  soft0 : Int
  soft1 : Int
  deriving DecidableEq, Repr

/-- Detection on a lane: by the trellis, or by the slicer after decision `before` while MLSE_EN is 0. `zs` starts with the output of the symbol to
decide. -/
def Device.detect (d : Device) (n : Lane) (start : List (Option Survivor)) (zs : List Int) (before : Nat) : Detected :=
  let c := d.detectCfg n
  if d.flag (F.LRX_MLSE_CFG_MLSE_EN n) then
    { level := traceback c start zs, soft0 := trellisSoft c start zs 0, soft1 := trellisSoft c start zs 1 }
  else
    let z := zs.headD 0
    { level := sliceLevel c z before, soft0 := sliceSoft c z before 0, soft1 := sliceSoft c z before 1 }

/-- What leaves the detection: with the live PRECODE at 1 the precoding is inverted, and each bit takes the smaller magnitude of the two symbols'
soft values with its own sign (R58). -/
def Device.unprecoded (d : Device) (n : Lane) (now before : Detected) : Detected :=
  if d.lget (F.LRX_CTRL_PRECODE n) = 1 then
    let a := unprecode now.level before.level
    { level := a, soft0 := unprecodeSoft now.soft0 before.soft0 (levelBit 0 a), soft1 := unprecodeSoft now.soft1 before.soft1 (levelBit 1 a) }
  else now

/-! ### Reliabilities and the shortlist (R67, R68, R91) -/

/-- Reliability of an output bit of the inner decoder (R67). -/
def reliability (failed flipped : Bool) (soft : Int) : Nat := if failed then 0 else if flipped then 1 else min 15 soft.natAbs

/-- Reliability of an RS symbol at 53.125 GBd: the smallest magnitude among its ten bits (R68). -/
def symbolReliability (soft : List Int) : Nat := soft.foldl (fun m x => min m x.natAbs) 15

/-- Reliabilities of the 128 bits that the decoder gives for an inner codeword, from its result and soft values (R67). -/
def innerReliabilities (soft : List Int) (res : Option (List Nat)) : List Nat :=
  (List.range 128).map fun i =>
    match res with
    | none => reliability true false (soft.getD i 0)
    | some flips => reliability false (flips.contains i) (soft.getD i 0)

/-- Reliability of the RS symbol whose ten bits have the given reliabilities, from one inner codeword or from two (R67). -/
def innerSymbolReliability (bits : List Nat) : Nat := bits.foldl min 15

/-- Reliability of symbol `q` of the slot of stream index `k`, from the decoder-bit reliabilities of the frame's 10,880 bits in order (R67,
R139, R142). -/
def slotSymbolReliability (frame : List Nat) (k q : Nat) : Nat :=
  innerSymbolReliability ((List.range 10).map fun b => frame.getD (2 * (10 * q + b) + k) 15)

/-- The positions of a codeword below 15, with their reliabilities, as the shortlist takes them (R91). -/
def weakSymbols (rel : List Nat) : List (Nat × Nat) := (rel.zipIdx.filter fun p => decide (p.1 < 15)).map fun p => (p.2, p.1)

/-! ### Native line bits (R142 to R145) -/

/-- The message of inner codeword `w` of a group: bits 120w to 120w+119 of its scrambled frames taken as one sequence (R144). -/
def innerMessage (frames : List (BitVec 10880)) (w : Nat) : List Bool :=
  (List.range 120).map fun i =>
    let p := 120 * w + i
    (frames.getD (p / 10880) 0).getLsbD (p % 10880)

/-- Inner codeword `w` as the line carries it: its 120 message bits in order, then its 8 parity bits (R144). -/
def innerLine (frames : List (BitVec 10880)) (w : Nat) : List Bool :=
  let m := innerMessage frames w
  let p := Config.innerParity (m.zipIdx.foldl (fun v x => if x.1 then v ||| BitVec.ofNat 120 (2 ^ x.2) else v) 0)
  m ++ (List.range 8).map fun i => p.getLsbD i

/-- The line bits of a group's 33 scrambled frames: its 2,992 inner codewords back to back (R144, R145). -/
def groupLine (frames : List (BitVec 10880)) : List Bool := (List.range 2992).flatMap (innerLine frames)

/-- How many of 256 consecutive words of received line bits have a zero inner syndrome, from a symbol offset on (R148). -/
def innerZeros (line : List Bool) (offset : Nat) : Nat :=
  ((List.range 256).filter fun w =>
    let word := (List.range 128).foldl (fun (v : BitVec 128) i =>
      if line.getD (2 * offset + 128 * w + i) false then v ||| BitVec.ofNat 128 (2 ^ i) else v) 0
    innerSyndrome word == 0).length

/-- The two slots of a received frame: descrambled and de-interleaved (R142, R143). -/
def frameBack (fr : BitVec 10880) : Cw × Cw :=
  let x := fr ^^^ scrambler
  let slot (k : Nat) : Cw := (List.range 5440).foldl (fun v i => if x.getLsbD (2 * i + k) then v ||| BitVec.ofNat 5440 (2 ^ i) else v) 0
  (slot 0, slot 1)

/-- The two codewords of a frame's slots: with one port on both streams the halves of each member come together again (R138). -/
def slotsBack (wide : Bool) (s : Cw × Cw) : Cw × Cw :=
  if wide then
    let member (k : Nat) : Cw := (List.range 272).foldl (fun v i =>
      v ||| (((s.1 >>> (10 * (272 * k + i))) &&& (1023 : Cw)) <<< (10 * (2 * i)))
        ||| (((s.2 >>> (10 * (272 * k + i))) &&& (1023 : Cw)) <<< (10 * (2 * i + 1)))) 0
    (member 0, member 1)
  else s

/-- How many of the 32 codewords of 16 received frames have a zero RS syndrome (R149): those that their own message symbols encode to. -/
def frameZeros (wide : Bool) (frames : List (BitVec 10880)) : Nat :=
  ((frames.take 16).flatMap fun fr => let c := slotsBack wide (frameBack fr); [c.1, c.2]).countP fun c => reencode c == c

/-- The line symbols of a run of bits: each pair is one PAM4 level, its first bit the first of the Gray code (R145). -/
def lineLevels : List Bool → List Nat
  | b0 :: b1 :: bs => grayLevel b0 b1 :: lineLevels bs
  | _ => []

/-! ### Transmit: clock, precoding and FFE (R165 to R170) -/

/-- Ratio of the TX symbol clock to the host baud rate, by live RATE and host mode (Table 5-2, R146, R210). -/
def txRatio (rate : Nat) (halfLanes : Bool) : Nat × Nat :=
  if rate = 2 then (11, 5) else if rate = 1 then (if halfLanes then (32, 15) else (16, 15)) else (1, 1)

/-- The host baud rate, in kBd, that the ratio applies to: the EGR clock, doubled for native lanes in 32-lane host mode (R210). -/
def txReference (rate : Nat) (halfLanes : Bool) : Nat :=
  if rate = 2 then 106250000 else if rate = 1 then (if halfLanes then 53125000 else 106250000) else 53125000

/-- Line bits between two TX boundaries (R167, Table 5-3). -/
def txBoundaryBits (rate : Nat) : Nat := if rate = 2 then 34816 else if rate = 1 then 17408 else 5440

/-- The precoded level of an input level after the one sent before; native mode has no precoding (R168). -/
def precode (on : Bool) (rate now before : Nat) : Nat := if on && rate != 2 then (now + 4 - before % 4) % 4 else now

/-- y(n) in LSB of 2^-7, from c0 to c6 and s(n+3) down to s(n−3) (R169). -/
def txFfe (c s : List Int) : Int := (List.range 7).foldl (fun y j => y + c.getD j 0 * s.getD j 0) 0

/-! ### Pre-distortion, pilot modulation and the DAC (R171 to R173, R187) -/

/-- The DPD entry of three levels a(n), a(n−1), a(n−2) (R171). -/
def dpdIndex (a0 a1 a2 : Nat) : Nat := 16 * a0 + 4 * a1 + a2

/-- The DAC input in 1/128 of an LSB: 36 × y + d (R172). -/
def dacInput (y dpd : Int) : Int := 36 * y + 16 * dpd

/-- DEPTH as it acts (R187). -/
def depthActs (depth : Nat) : Nat := max 4 (min 24 depth)

/-- The DAC code of an input with pilot modulation, and whether it saturated: x′ = x × (1 + 0.25 % × DEPTH × w), rounded once with
ties away from zero. `w` is the pilot's value in units of 1/`unit` (R172, R187). -/
def dacCode (x : Int) (depth : Nat) (w : Int) (unit : Nat) : Int × Bool :=
  let v := roundDiv (x * (400 * unit + depthActs depth * w)) (128 * (400 * unit))
  (clampInt (-128) 127 v, v < -128 || 127 < v)

/-- The pilot's value between two of its samples, by linear interpolation at `i` of `per` (R187). -/
def interpolateW (w0 w1 : Int) (i per : Nat) : Int × Nat := (w0 * ((per - i : Nat) : Int) + w1 * i, per)

/-- The pilot's value at symbol `i` after a pilot sample, as the lane uses it: the line between two samples of 1.024 MS/s, taken anew once every
64 symbols of a signalling rate in kBd (R187). -/
def pilotHeld (w0 w1 : Int) (rate i : Nat) : Int × Nat := interpolateW w0 w1 (1024 * (64 * (i / 64))) rate

/-- The DAC code of a lane with the pilot on its levels, at its live DEPTH (R187). -/
def Device.dacOut (d : Device) (n : Lane) (x w0 w1 : Int) (i unit : Nat) : Int × Bool :=
  let p := pilotHeld w0 w1 (signalling (d.rate n)) i
  dacCode x (d.get (F.LTX_PILOT_DEPTH n)) p.1 (unit * p.2)

/-- The low-frequency path's differential output in mV for a pilot value of `w` ÷ `unit`, whose rms is 1: LF_AMP is its rms (R188). -/
def Device.lowPath (d : Device) (n : Lane) (w : Int) (unit : Nat) : Int × Nat := (d.get (F.LTX_PILOT_LF_AMP n) * w, unit)

/-- The DAC input of a lane for levels and FFE window, with the table in force: 0 while BYPASS acts (R173). -/
def Device.dacIn (d : Device) (n : Lane) (c s : List Int) (a0 a1 a2 : Nat) : Int :=
  dacInput (txFfe c s) (if (d.tx.get n).bypass then 0 else (d.tx.get n).dpd.getD (dpdIndex a0 a1 a2) 0)

/-- Driver swing in 10 µV at a swing code (R183). -/
def swingOf (code : Nat) : Nat := 30000 + 1270 * code

end Sys2Proof.Machine
end

