-- ==== Sys2Proof/Machine/PilotPath.lean ====
section
/-! DEFINITION. The pilot's symbols, frames and receive chain (chapter 7) as functions of bits and samples. No row of the command table carries samples: the commands carry the frames, counts and measurements that these stages give. -/

namespace Sys2Proof.Machine

/-! ### Grid and symbols (R239 to R242, Tables 7-1 to 7-3) -/

/-- Samples of the FFT, of the cyclic prefix and of a symbol; a symbol lasts 312.5 µs at 1.024 MS/s (Table 7-1). -/
def pilotFft : Nat := 256
/-- Cyclic prefix in samples. -/
def pilotPrefix : Nat := 64
/-- Symbol period in ns. -/
def pilotSymbolNs : Nat := (pilotFft + pilotPrefix) * 1000000000 / 1024000

/-- The bin of carrier `j` (Table 7-1). -/
def carrierBin (j : Nat) : Nat := 2 + j

/-- Carriers of a preset, in rising bin order (Table 7-3). -/
def presetCarriers (preset : Nat) : List Nat := if preset = 0 then (List.range 32).map (2 * ·) else List.range 64

/-- A complex point, I and Q; where scaled, in units of 2^-30. -/
abbrev Point := Int × Int

/-- The greatest number below 2^n that fits, added to `y`, for a condition that holds up to some number. -/
def bitSearch (fits : Nat → Bool) : Nat → Nat → Nat
  | 0, y => y
  | n + 1, y => bitSearch fits n (if fits (y + 2 ^ n) then y + 2 ^ n else y)

/-- v ÷ √s of a value, towards zero in its own unit (DESIGN CHOICE, log 149: the manual gives the transmitter's waveform no word length). -/
def overRoot (v : Int) (s : Nat) : Int := v.sign * (bitSearch (fun y => decide (y * y * s ≤ v.natAbs ^ 2)) 64 0 : Nat)

/-- e^(i2πk/256), in 2^-60. -/
def twiddle : Nat → Point
  | 0 => (2 ^ 60, 0)
  | k + 1 =>
    let p := twiddle k
    let c : Int := 1152574266204915294
    let s : Int := 28294110113536504
    (roundDiv (p.1 * c - p.2 * s) (2 ^ 60), roundDiv (p.2 * c + p.1 * s) (2 ^ 60))

/-- The spectrum of a symbol: a point on each of its carriers, its conjugate on the mirrored bin, 0 elsewhere (R240). -/
def spectrum (x : Nat → Point) (carriers : List Nat) (k : Nat) : Point :=
  if 2 ≤ k && carriers.contains (k - 2) then x (k - 2)
  else if k ≤ 254 && carriers.contains (254 - k) then ((x (254 - k)).1, -(x (254 - k)).2)
  else (0, 0)

/-- Sample `n` of the 256-point inverse transform of a symbol, unscaled: the mirrored bins make it real (R240). -/
def inverseFft (x : Nat → Point) (carriers : List Nat) (n : Nat) : Int :=
  roundDiv ((List.range 256).foldl (fun t k =>
    let p := spectrum x carriers k
    let w := twiddle (k * n % 256)
    t + p.1 * w.1 - p.2 * w.2) 0) (2 ^ 60)

/-- The symbol's waveform, its mean square 1 when each carrier in use carries a unit-energy point: those carriers and their mirrors sum to a
mean square of 2 for each carrier (R240). With half the carriers, Anchor gives each twice the power. -/
def waveform (x : Nat → Point) (carriers : List Nat) : List Int :=
  (List.range 256).map fun n => overRoot (inverseFft x carriers n) (2 * carriers.length)

/-- A symbol with its cyclic prefix: its last 64 samples in front (Table 7-1). -/
def withPrefix {α : Type} (symbol : List α) : List α := symbol.drop (symbol.length - pilotPrefix) ++ symbol

/-- A waveform sample in units of 1/`unit` clipped to −3 to +3, and whether it was clipped, which TX_CLIP counts (R240). -/
def clipSample (unit w : Int) : Int × Bool := (clampInt (-3 * unit) (3 * unit) w, w < -3 * unit || 3 * unit < w)

/-- A symbol as sent: its 320 clipped samples, and how many were clipped (R240). -/
def formSymbol (x : Nat → Point) (carriers : List Nat) : List Int × Nat :=
  let s := (withPrefix (waveform x carriers)).map (clipSample (2 ^ 30))
  (s.map (·.1), (s.filter (·.2)).length)

/-- The index of a binary-reflected Gray code, first bit most significant (R241). -/
def grayIndex (bits : List Bool) : Nat :=
  (bits.foldl (fun (p : Nat × Bool) b => let c := b != p.2; (2 * p.1 + c.toNat, c)) (0, false)).1

/-- Amplitude of an axis: 2u − (2^m − 1) (R241). -/
def axisAmplitude (bits : List Bool) : Int := 2 * (grayIndex bits : Int) - (2 ^ bits.length - 1 : Int)

/-- The point of a carrier before its scale: BPSK on I alone, else half the bits on each axis (R241). -/
def constellation (bits : List Bool) : Point :=
  if bits.length ≤ 1 then (if bits.isEmpty then 0 else axisAmplitude bits, 0)
  else (axisAmplitude (bits.take (bits.length / 2)), axisAmplitude (bits.drop (bits.length / 2)))

/-- The square of the divisor of the scale: 1, 2, 10 and 42 (Table 7-2). -/
def scaleSquared (b : Nat) : Nat := if b = 1 then 1 else if b = 2 then 2 else if b = 4 then 10 else 42

/-- The point of a carrier: its amplitude pair times the scale of Table 7-2, in 2^-30 (R241). -/
def scaledPoint (bits : List Bool) : Point :=
  let p := constellation bits
  (overRoot (p.1 * 2 ^ 30) (scaleSquared bits.length), overRoot (p.2 * 2 ^ 30) (scaleSquared bits.length))

/-- The bits of one symbol dealt to the carriers in rising order, as many to each as its code says (R241). -/
def dealBits : List Nat → List Bool → List (List Bool)
  | [], _ => []
  | c :: cs, bits => bits.take c :: dealBits cs (bits.drop c)

/-- Map 0 of a preset, a code for each carrier (Table 7-3). -/
def baseMap (preset : Nat) : List Nat :=
  if preset = 0 then (List.range 64).map fun j => 1 - j % 2 else List.replicate 64 (if preset = 1 then 1 else 2)

/-- Bits per symbol of a loading. -/
def loadBits (codes : List Nat) : Nat := codes.foldl (· + ·) 0

/-- The points of one symbol under a loading, with their carriers (R241). -/
def loadedSymbol (codes : List Nat) (bits : List Bool) : List (Nat × Point) :=
  ((dealBits codes bits).zipIdx.filter fun x => !x.1.isEmpty).map fun x => (x.2, scaledPoint x.1)

/-! ### Frames (R244 to R250, Tables 7-4 to 7-6) -/

/-- Payload symbols before repetition: ⌈(8 × LEN + 32) ÷ B⌉ (Table 7-4). -/
def payloadSymbols (len perSymbol : Nat) : Nat := (8 * len + 32 + perSymbol - 1) / perSymbol

/-- Symbol periods of a frame: 2 + F × (1 + P) (R244). -/
def framePeriods (preset len perSymbol : Nat) : Nat := 2 + repFactor preset * (1 + payloadSymbols len perSymbol)

/-- The bins that carry header bit `j` (R245). -/
def headerBins (preset j : Nat) : List Nat := if preset = 0 then [2 + 2 * j] else [2 + j, 34 + j]

/-- Output bits of the PRBS of R249 after a state whose lowest bit is s(i − 9). -/
def prbsFrom : Nat → Nat → List Bool
  | _, 0 => []
  | st, n + 1 =>
    let b := st.testBit 0 != st.testBit 4
    b :: prbsFrom (st / 2 + if b then 256 else 0) n

/-- The first `n` output bits with a seed: bit j of the seed is s(j − 9) (R249). -/
def prbs (seed n : Nat) : List Bool := prbsFrom seed n

/-- Seeds of the sync and idle symbols (Table 7-6). -/
def syncSeed (preset : Nat) : Nat := if preset = 0 then 0x0F1 else if preset = 1 then 0x13C else if preset = 2 then 0x0A7 else 0x1D2
/-- Seed of the idle symbol. -/
def idleSeed (preset : Nat) : Nat := if preset = 0 then 0x055 else if preset = 1 then 0x16E else if preset = 2 then 0x0C9 else 0x19B

/-- BPSK points of a known symbol on the carriers of its preset, in rising bin order (R249). -/
def knownSymbol (seed preset : Nat) : List (Nat × Point) :=
  (presetCarriers preset).zip ((prbs seed (presetCarriers preset).length).map fun b => scaledPoint [b])

/-- Bits of a byte, least significant first. -/
def byteBits (b : Byte) : List Bool := (List.range 8).map b.getLsbD

/-- The payload bits as sent: bytes, CRC-32, zeros to the end of the last symbol, all whitened with the PRBS of seed 0x1FF (R247, R248). -/
def payloadBits (bytes : List Byte) (perSymbol : Nat) : List Bool :=
  let raw := bytes.flatMap byteBits ++ (wordBytes (crc32 bytes)).flatMap byteBits
  let full := raw ++ List.replicate (payloadSymbols bytes.length perSymbol * perSymbol - raw.length) false
  List.zipWith (· != ·) full (prbs 0x1FF full.length)

/-- The header symbol: its 32 bits on BPSK, bit 0 first (R245). -/
def headerSymbol (preset : Nat) (h : Word) : List (Nat × Point) :=
  (List.range 32).flatMap fun j => (headerBins preset j).map fun b => (b - 2, scaledPoint [h.getLsbD j])

/-- Payload bits cut into symbols of a loading, at most `n` of them. -/
def payloadSymbolsOf (codes : List Nat) : Nat → List Bool → List (List (Nat × Point))
  | 0, _ => []
  | n + 1, bits => loadedSymbol codes bits :: payloadSymbolsOf codes n (bits.drop (loadBits codes))

/-- The symbols of a frame in the order sent (Table 7-4): the sync symbol twice, the header and each payload symbol F times, back to back
(R242, R244). -/
def frameSymbols (preset : Nat) (codes : List Nat) (h : Word) (bytes : List Byte) : List (List (Nat × Point)) :=
  let f := repFactor preset
  let sync := knownSymbol (syncSeed preset) preset
  [sync, sync] ++ List.replicate f (headerSymbol preset h)
    ++ (payloadSymbolsOf codes (payloadSymbols bytes.length (loadBits codes)) (payloadBits bytes (loadBits codes))).flatMap (List.replicate f)

/-- The carriers of a symbol in use, and its points. -/
def symbolWave (preset : Nat) (s : List (Nat × Point)) : List Int × Nat :=
  formSymbol (fun j => match s.find? fun p => p.1 == j with | some p => p.2 | none => (0, 0)) (presetCarriers preset)

/-- The payload bytes of a frame; a fabric message travels under the key it was tagged with (R251, R326). -/
def frameBytes : PltFrame → List Byte
  | .ctl m => m.bytes
  | .fab m => m.bytes (m.tagKey.getD 0)

/-- The codes of the map that a header names, at the transmitter (R261). -/
def Device.txCodes (d : Device) (n : Lane) (preset map : Nat) : List Nat :=
  if map = 0 then baseMap preset
  else match (d.plt.get n).maps.find? fun m => m.ident == map && m.preset == preset with
    | some m => m.codes
    | none => baseMap preset

/-- What the lane's transmitter sends: the frame it holds, or an idle group (R244, R250). -/
def Device.pilotOut (d : Device) (n : Lane) : List (List (Nat × Point)) :=
  let preset := d.get (F.PLT_STATUS_TX_PRESET n)
  match (d.plt.get n).sending with
  | some (h, f) => frameSymbols preset (d.txCodes n preset (bitsOf h 14 11)) h (frameBytes f)
  | none => List.replicate (repFactor preset) (knownSymbol (idleSeed preset) preset)

/-- Symbols of an idle group: F copies of the idle symbol (R250). -/
def idleGroupOf (preset : Nat) : List (List (Nat × Point)) := List.replicate (repFactor preset) (knownSymbol (idleSeed preset) preset)

/-! ### Receive chain (R264 to R269, Table 7-10) -/

/-- Registers of the CIC: four integrators and four comb delays, each 22 bits and wrapping (R264). -/
structure Cic where
  i1 : BitVec 22
  i2 : BitVec 22
  i3 : BitVec 22
  i4 : BitVec 22
  d1 : BitVec 22
  d2 : BitVec 22
  d3 : BitVec 22
  d4 : BitVec 22
  deriving DecidableEq, Repr

/-- One modulator bit. -/
def Cic.bit (c : Cic) (b : Bool) : Cic :=
  let i1 := c.i1 + if b then 1 else -1
  let i2 := c.i2 + i1
  let i3 := c.i3 + i2
  { c with i1 := i1, i2 := i2, i3 := i3, i4 := c.i4 + i3 }

/-- The combs on every 32nd bit, and the 20-bit output: the fourth comb shifted right arithmetically by 2 (R264). -/
def Cic.comb (c : Cic) : Cic × Int :=
  let c1 := c.i4 - c.d1
  let c2 := c1 - c.d2
  let c3 := c2 - c.d3
  let c4 := c3 - c.d4
  ({ c with d1 := c.i4, d2 := c1, d3 := c2, d4 := c3 }, c4.toInt / 4)

/-- 32 modulator bits and their output sample. -/
def Cic.block (c : Cic) (bits : List Bool) : Cic × Int := (bits.foldl Cic.bit c).comb

/-- The pilot's DC block on one sample: the output, and the estimate in units of 2^-k, moved by (input − m) × 2^-k unless frozen,
k = 9 + DCB_K (R265, R266). -/
def pilotDc (frozen : Bool) (dcbK : Nat) (m x : Int) : Int × Int :=
  let k := 9 + dcbK
  let est := m / (2 ^ k : Nat)
  (x - est, if frozen then m else m + (x - est))

/-- Mean of the last MA_LEN samples, newest first, rounded; 0 acts as 1 (R267). -/
def movingAverage (len : Nat) (samples : List Int) : Int :=
  let n := max 1 (min 16 len)
  roundDiv ((samples.take n).foldl (· + ·) 0) n

/-- The fall-back FIR: 16-bit coefficients of LSB 2^-15, newest sample first; rounded to 20 bits and saturated, and whether it
saturated, which FIR_SAT counts (R268). -/
def pilotFir (coefs samples : List Int) (len : Nat) : Int × Bool :=
  let s := roundDiv ((List.range len).foldl (fun t i => t + coefs.getD i 0 * samples.getD i 0) 0) (2 ^ 15)
  (clampInt (-524288) 524287 s, s < -524288 || 524287 < s)

/-- Half samples by which the selected path is delayed so that its centre, that of the moving average or FIR tap ⌊(FIR_LEN − 1) ÷ 2⌋, meets
the centre of a 255-tap filter (R269). The mean of an even number of samples has its centre half a sample off. -/
def pathDelay (firSel : Bool) (firLen maLen : Nat) : Nat :=
  if firSel then 254 - 2 * ((firLen - 1) / 2) else 254 - (max 1 (min 16 maLen) - 1)

/-- What a lane's filter group sets (R270). -/
structure PilotFilter where
  dcbK : Nat
  firSel : Bool
  firLen : Nat
  maLen : Nat
  coefs : List Int
  deriving DecidableEq, Repr

/-- The filter settings live on a lane. -/
def Device.pilotFilter (d : Device) (n : Lane) : PilotFilter :=
  { dcbK := d.lget (F.PLT_RX_CFG_DCB_K n), firSel := d.lget (F.PLT_RX_CFG_FIR_SEL n) == 1, firLen := d.lget (F.PLT_RX_CFG_FIR_LEN n),
    maLen := d.lget (F.PLT_RX_CFG_MA_LEN n),
    coefs := (List.range 255).map fun i => toSigned 16 (d.lget (F.PLT_FIR_COEF n i) % 2 ^ 16) }

/-- A run of equal modulator bits, and the samples left of the freeze after one of 64 or more (R266). -/
structure SdRun where
  last : Bool
  run : Nat
  hold : Nat
  /-- runs counted in SD_OVL -/
  ovl : Nat
  deriving DecidableEq, Repr

/-- One modulator bit: a run counts when it reaches 64 bits. -/
def SdRun.bit (r : SdRun) (b : Bool) : SdRun :=
  let run := if b = r.last then r.run + 1 else 1
  { last := b, run := run, hold := if 64 ≤ run then 256 else r.hold, ovl := r.ovl + (decide (run = 64)).toNat }

/-- The third condition of R266. -/
def SdRun.freezes (r : SdRun) : Bool := decide (64 ≤ r.run) || r.hold != 0

/-- One output sample passes. -/
def SdRun.sample (r : SdRun) : SdRun := if 64 ≤ r.run then r else { r with hold := r.hold - 1 }

/-- The chain ahead of the resampler between samples: CIC, run, DC estimate, and the last samples, newest first. -/
structure PilotFront where
  cic : Cic
  sd : SdRun
  dc : Int
  past : List Int
  deriving DecidableEq, Repr

/-- 32 modulator bits through CIC and DC block (Table 7-10, in order); `held` says the first two conditions of R266. -/
def PilotFront.block (p : PilotFront) (f : PilotFilter) (held : Bool) (bits : List Bool) : PilotFront :=
  let sd := bits.foldl SdRun.bit p.sd
  let (cic, x) := p.cic.block bits
  let (y, dc) := pilotDc (held || sd.freezes) f.dcbK p.dc x
  { cic := cic, sd := sd.sample, dc := dc, past := (y :: p.past).take 510 }

/-- Stage 4 at one sample: the selected path, delayed (R267 to R269). -/
def PilotFront.filtered (p : PilotFront) (f : PilotFilter) : Int :=
  let late := p.past.drop (pathDelay f.firSel f.firLen f.maLen / 2)
  if f.firSel then (pilotFir f.coefs late f.firLen).1 else movingAverage f.maLen late

/-- Stage 4 keeps every fourth result (R267, R268). -/
def keptResult (index : Nat) : Bool := index % 4 == 0

/-! ### Sync correlator and combining (R242, R273) -/

/-- Energy of a run of complex samples. -/
def energy (r : List Point) : Nat := r.foldl (fun s p => s + p.1.natAbs ^ 2 + p.2.natAbs ^ 2) 0

/-- Σ r·c* as a complex number. -/
def correlate (r c : List Point) : Point :=
  (r.zip c).foldl (fun s p => (s.1 + p.1.1 * p.2.1 + p.1.2 * p.2.2, s.2 + p.1.2 * p.2.1 - p.1.1 * p.2.2)) (0, 0)

/-- The metric 255 × |Σ r·c*|² ÷ (Σ|r|² × Σ|c|²), to a whole number (R273). -/
def syncMetric (r c : List Point) : Nat :=
  let x := correlate r c
  255 * (x.1.natAbs ^ 2 + x.2.natAbs ^ 2) / (energy r * energy c)

/-- Sample `x` times 10^((num − den) / 80), towards zero: gains in steps of 0.25 dB (R272, R275; DESIGN CHOICE, log 149: the rounding). -/
def dbScale (num den : Nat) (x : Int) : Int :=
  x.sign * (bitSearch (fun y => decide (y ^ 80 * 10 ^ den ≤ x.natAbs ^ 80 * 10 ^ num)) 40 0 : Nat)

/-- The AGC on a sample, its 20-bit word saturating (R272, Table 7-16). -/
def agcOut (code : Nat) (x : Int) : Int := clampInt (-524288) 524287 (dbScale code 96 x)

/-- The rms of a block of 64 samples (R272). -/
def blockRms (xs : List Int) : Nat :=
  bitSearch (fun y => decide (y * y * xs.length ≤ xs.foldl (fun t x => t + x.natAbs ^ 2) 0)) 20 0

/-- The nearest of the resampler's 64 phases to a position in 1/4096 sample, with the whole sample it lies in (R271). -/
def nearestPhase (pos : Nat) : Nat × Nat := ((pos + 32) / 4096, (pos + 32) % 4096 / 64)

/-- The resampler's value at a position: the nearest phase of its 8-tap filter (R271). The taps are free but for their flatness. -/
def resampleAt (samples : List Int) (pos : Nat) : Int :=
  let (i, ph) := nearestPhase pos
  clampInt (-524288) 524287 (roundDiv ((List.range 8).foldl (fun t j => t + Config.resampleTap ph j * samples.getD (i + j) 0) 0) (2 ^ 15))

/-- Bin `k` of the 256-point transform of a symbol without its prefix (Table 7-10). -/
def fftBin (samples : List Int) (k : Nat) : Point :=
  let s := samples.zipIdx.foldl (fun (t : Point) x =>
    let w := twiddle (k * x.2 % 256)
    (t.1 + x.1 * w.1, t.2 - x.1 * w.2)) (0, 0)
  (roundDiv s.1 (2 ^ 60), roundDiv s.2 (2 ^ 60))

/-- The channel estimate of a carrier from the two preamble symbols, whose known points are −1 or +1 on I (R274). -/
def channelEstimate (x : Int) (y1 y2 : Point) : Point := (roundDiv ((y1.1 + y2.1) * x.sign) 2, roundDiv ((y1.2 + y2.2) * x.sign) 2)

/-- A pre-empting reception's estimate is scaled by the ratio of the new applied gain to the old, in 0.25 dB (R275). -/
def Reception.scaled (r : Reception) (h : Point) : Point :=
  (dbScale (r.gainStep + 255).toNat 255 h.1, dbScale (r.gainStep + 255).toNat 255 h.2)

/-- The phase slope across carriers of a recognised symbol group: the argument of this sum over neighbouring carriers of z(j+1)·z(j)*, with z the
received point against its expected one, is 2π × the timing error ÷ 256 samples for each bin of distance (R271). -/
def slopeSum (zs : List Point) : Point :=
  (zs.zip (zs.drop 1)).foldl (fun s p => (s.1 + p.2.1 * p.1.1 + p.2.2 * p.1.2, s.2 + p.2.2 * p.1.1 - p.2.1 * p.1.2)) (0, 0)

/-- Maximal-ratio combining of the copies of a symbol: each weighted by the conjugate of its channel estimate (R242). -/
def combineCopies (copies : List (Point × Point)) : Point :=
  copies.foldl (fun s p => (s.1 + p.1.1 * p.2.1 + p.1.2 * p.2.2, s.2 + p.1.2 * p.2.1 - p.1.1 * p.2.2)) (0, 0)

end Sys2Proof.Machine
end

