-- ==== Sys2Proof/Laws/Datapath.lean ====
section
/-! SUPPORT. What the datapath functions and the output tables do: round trips, agreement of tables, and the manual's worked figures. -/

namespace Sys2Proof.Laws

open Sys2Proof Sys2Proof.Machine

/-- The Gray code of R56 reads back. -/
theorem grayLevel_grayBits : ∀ a : Fin 4, grayLevel (grayBits a.val).1 (grayBits a.val).2 = a.val := by decide

/-- Precoding is undone by its inverse outside native mode (R58, R168). -/
theorem unprecode_precode : ∀ (now before : Fin 4) (rate : Fin 2),
    unprecode (precode true rate.val now.val before.val) before.val = now.val := by decide

/-- Native mode never precodes (R168). -/
theorem precode_native (on : Bool) (now before : Nat) : precode on 2 now before = now := by simp [precode]

/-- The clip limit is the whole part of the window's sample count over 2^14 (Table 2-1). -/
theorem clipLimit_eq : ∀ r : Fin 3, clipLimit r.val = windowBlocks r.val * 64 / 2 ^ 14 := by decide

/-- Ratio and reference of Table 5-2 give the signalling rate of Table 2-1, native and at 100 Gb/s per lane (R165, R210). -/
theorem txRatio_gives_rate : ∀ h : Bool,
    txReference 2 h * (txRatio 2 h).1 = signalling 2 * (txRatio 2 h).2 ∧ txReference 0 h * (txRatio 0 h).1 = signalling 0 * (txRatio 0 h).2 := by
  decide

/-- An ADC sample lies in its range, and is flagged only when it reads a limit (R43). -/
theorem adcSample_range (v : Int) :
    -128 ≤ (adcSample v).1 ∧ (adcSample v).1 ≤ 127 ∧ ((adcSample v).2 = true → (adcSample v).1 = -128 ∨ (adcSample v).1 = 127) := by
  simp only [adcSample, clampInt, Bool.or_eq_true, decide_eq_true_eq]
  (repeat' split) <;> omega

/-- The equaliser's accumulator counts exactly the sums it changes (R52). -/
theorem ffeOut_counts (s : Int) : (ffeOut s).2 = true ↔ (ffeOut s).1 ≠ s := by
  simp only [ffeOut, clampInt]
  (repeat' split) <;> simp <;> omega

/-- A soft value is never −16 (R57). -/
theorem softValue_range (a b c : Nat) : -15 ≤ softValue a b c ∧ softValue a b c ≤ 15 := by
  simp only [softValue, clampInt]
  constructor <;> (repeat' split) <;> omega

/-- A main coefficient at the cursor is applied whatever the enforcement step (R51, R53). -/
theorem tapUsed_cursor (taps : List Int) (c m : Nat) (b : Bool) : tapUsed taps c m b c = m := by simp [tapUsed]

/-- With c3 = 1.0 and an empty table the four levels sit at −108, −36, +36 and +108 (R172). -/
theorem dac_levels : (List.range 4).map (fun a => dacCode (dacInput (txFfe [0, 0, 0, 128, 0, 0, 0] [0, 0, 0, symbolOf a, 0, 0, 0]) 0) 8 0 1) =
    [(-108, false), (-36, false), (36, false), (108, false)] := by decide

/-- The first output bit of the PRBS is the sum of the two taps of the seed (R249). -/
theorem prbs_first (seed : Nat) : prbs seed 1 = [seed.testBit 0 != seed.testBit 4] := by simp [prbs, prbsFrom]

/-- A PRBS gives as many bits as are asked for. -/
theorem prbsFrom_length (n : Nat) : ∀ st, (prbsFrom st n).length = n := by
  induction n with
  | zero => intro st; rfl
  | succ n ih => intro st; simp [prbsFrom, ih]

/-- The symbol period and the worked example's frame of 58 periods (R244, chapter 7). -/
theorem pilot_frame_example : pilotSymbolNs = 312500 ∧ payloadSymbols 19 32 = 6 ∧ framePeriods 0 19 32 = 58 := by decide

/-- Whitening is its own inverse bit by bit (R248). -/
theorem whiten_twice (a b : Bool) : ((a != b) != b) = a := by cases a <;> cases b <;> rfl

/-- Whatever the state, an output driver that is not active carries no data swing, and a squelched one has none (R199). -/
theorem lineOutput_squelched (d : Device) (n : Lane) (h : d.frontEndOff = false) (q : d.squelchedByReset n = true) :
    d.lineOutput n = .commonMode := by simp [Device.lineOutput, h, q]

/-- Until start-up is over every host output is high-impedance (R387). -/
theorem hostOutput_reset (d : Device) (k : HLane) (h : d.sup.boot ≠ .running) : d.hostOutput k = .highImpedance := by
  simp [Device.hostOutput, h]

/-- In DORMANT and HIBERNATE every host output is high-impedance (Table 12-8). -/
theorem hostOutput_asleep (d : Device) (k : HLane) (h : 2 ≤ d.get F.PWR_STATUS_STATE) : d.hostOutput k = .highImpedance := by
  simp [Device.hostOutput, h]

/-- With the current at 0 the rails come up at 0.75 V and 0.70 V; the currents of the table's ends (R620). -/
theorem vadj_figures : coreMv 2 = 750 ∧ poolMv 20 = 700 ∧ (750 - (coreMv 0 : Int) = 100) ∧ (750 - (coreMv 3 : Int) = -50)
    ∧ (700 - (poolMv 0 : Int) = 100) ∧ (700 - (poolMv 40 : Int) = -100) := by decide

end Sys2Proof.Laws
end

