-- ==== Sys2Proof/Laws/Sparse.lean ====
section
/-! SUPPORT. The register file as a map: a read after a write, and the canonical form that every write keeps. -/

namespace Sys2Proof.Machine

/-- Every entry of `l` lies above `a`. -/
def Sparse.above (a : Nat) (l : Sparse) : Prop := ∀ p ∈ l, a < p.1

/-- The canonical form, said as a property: rising addresses and no default entry. -/
theorem Sparse.wf_cons (dflt : Nat → Word) (a : Nat) (w : Word) (l : Sparse) :
    Sparse.wf dflt ((a, w) :: l) = true ↔ w ≠ dflt a ∧ Sparse.above a l ∧ Sparse.wf dflt l = true := by
  induction l generalizing a w with
  | nil => simp [Sparse.wf, Sparse.above]
  | cons p l ih =>
    obtain ⟨b, v⟩ := p
    have hb := ih b v
    simp only [Sparse.wf, Bool.and_eq_true, decide_eq_true_eq, bne_iff_ne, Sparse.above, List.mem_cons] at hb ⊢
    constructor
    · rintro ⟨⟨h1, h2⟩, h3⟩
      refine ⟨h2, ?_, h3⟩
      rintro q (rfl | hq)
      · exact h1
      · exact Nat.lt_trans h1 ((hb.1 h3).2.1 q hq)
    · rintro ⟨h2, h1, h3⟩
      exact ⟨⟨h1 _ (Or.inl rfl), h2⟩, h3⟩

/-- Reading an inserted word. -/
theorem Sparse.get_insert (dflt : Nat → Word) (a c : Nat) (w : Word) (l : Sparse) :
    Sparse.get dflt (Sparse.insert a w l) c = if c = a then w else Sparse.get dflt l c := by
  induction l with
  | nil => simp [Sparse.insert, Sparse.get]
  | cons p l ih =>
    obtain ⟨b, v⟩ := p
    simp only [Sparse.insert]
    split
    · next h => subst h; by_cases h' : c = a <;> simp [Sparse.get, h']
    · split
      · simp [Sparse.get]
      · by_cases h' : c = b
        · simp [Sparse.get, h', show b ≠ a by omega]
        · simp [Sparse.get, h', ih]

/-- Reading after an erasure. -/
theorem Sparse.get_erase (dflt : Nat → Word) (a c : Nat) (l : Sparse) :
    Sparse.get dflt (Sparse.erase a l) c = if c = a then dflt a else Sparse.get dflt l c := by
  induction l with
  | nil => by_cases h : c = a <;> simp [Sparse.erase, Sparse.get, h]
  | cons p l ih =>
    obtain ⟨b, v⟩ := p
    simp only [Sparse.erase] at ih
    by_cases h : b = a
    · subst h
      have e : ((b, v) :: l).filter (fun p => p.1 != b) = l.filter (fun p => p.1 != b) := by simp
      by_cases h' : c = b
      · simpa [Sparse.erase, e, h'] using ih
      · simpa [Sparse.erase, Sparse.get, e, h'] using ih
    · by_cases h' : c = b
      · subst h'; simp [Sparse.erase, Sparse.get, h]
      · simp [Sparse.erase, Sparse.get, h, h', ih]

/-- A read after a write. -/
theorem Sparse.get_put (dflt : Nat → Word) (a c : Nat) (w : Word) (l : Sparse) :
    Sparse.get dflt (Sparse.put dflt l a w) c = if c = a then w else Sparse.get dflt l c := by
  unfold Sparse.put
  split
  · next e => rw [Sparse.get_erase, e]
  · exact Sparse.get_insert dflt a c w l

/-- Entries of an insertion lie above what the new address and the old entries lie above. -/
theorem Sparse.above_insert (a b : Nat) (w : Word) (l : Sparse) (hab : b < a) (h : Sparse.above b l) :
    Sparse.above b (Sparse.insert a w l) := by
  induction l with
  | nil => intro p hp; simp only [Sparse.insert, List.mem_singleton] at hp; subst hp; exact hab
  | cons q l ih =>
    obtain ⟨c, v⟩ := q
    have hc : b < c := h (c, v) (by simp)
    have hl : Sparse.above b l := fun p hp => h p (by simp [hp])
    intro p hp
    simp only [Sparse.insert] at hp
    split at hp
    · simp only [List.mem_cons] at hp; obtain rfl | hp := hp
      · exact hab
      · exact hl p hp
    · split at hp
      · simp only [List.mem_cons] at hp; obtain rfl | rfl | hp := hp
        · exact hab
        · exact hc
        · exact hl p hp
      · simp only [List.mem_cons] at hp; obtain rfl | hp := hp
        · exact hc
        · exact ih hl p hp

/-- An erasure keeps the canonical form. -/
theorem Sparse.wf_erase (dflt : Nat → Word) (a : Nat) (l : Sparse) (h : Sparse.wf dflt l = true) :
    Sparse.wf dflt (Sparse.erase a l) = true := by
  induction l with
  | nil => exact h
  | cons p l ih =>
    obtain ⟨b, v⟩ := p
    obtain ⟨h1, h2, h3⟩ := (Sparse.wf_cons dflt b v l).1 h
    have hr := ih h3
    unfold Sparse.erase at hr ⊢
    by_cases hb : b = a
    · simpa [hb] using hr
    · have e : ((b, v) :: l).filter (fun p => p.1 != a) = (b, v) :: l.filter (fun p => p.1 != a) := by simp [hb]
      rw [e]
      exact (Sparse.wf_cons _ _ _ _).2 ⟨h1, fun q hq => h2 q (List.mem_filter.1 hq).1, hr⟩

/-- Every write keeps the canonical form. -/
theorem Sparse.wf_put (dflt : Nat → Word) (a : Nat) (w : Word) (l : Sparse) (h : Sparse.wf dflt l = true) :
    Sparse.wf dflt (Sparse.put dflt l a w) = true := by
  unfold Sparse.put
  split
  · exact Sparse.wf_erase dflt a l h
  · next e =>
    induction l with
    | nil => simp [Sparse.insert, Sparse.wf, e]
    | cons p l ih =>
      obtain ⟨b, v⟩ := p
      obtain ⟨h1, h2, h3⟩ := (Sparse.wf_cons dflt b v l).1 h
      simp only [Sparse.insert]
      split
      · next hab => subst hab; exact (Sparse.wf_cons _ _ _ _).2 ⟨e, h2, h3⟩
      · split
        · next hlt =>
          refine (Sparse.wf_cons _ _ _ _).2 ⟨e, ?_, h⟩
          intro q hq
          simp only [List.mem_cons] at hq; obtain rfl | hq := hq
          · exact hlt
          · exact Nat.lt_trans hlt (h2 q hq)
        · next hne hlt =>
          exact (Sparse.wf_cons _ _ _ _).2 ⟨h1, Sparse.above_insert a b w l (by omega) h2, ih h3⟩

end Sys2Proof.Machine
end

