-- ==== Sys2Proof/Laws/Fields.lean ====
section
/-! SUPPORT. Fields of registers: a read of the field just written, and of any other field. -/

namespace Sys2Proof.Machine

/-- A field lies inside its word. -/
abbrev Fld.ok (f : Fld) : Prop := f.lo ≤ f.hi ∧ f.hi < 32

/-- Two fields share no bit. -/
abbrev Fld.apart (f g : Fld) : Prop := f.addr ≠ g.addr ∨ f.hi < g.lo ∨ g.hi < f.lo

/-- The bits of a word seen one by one. -/
theorem bitsOf_testBit (w : Word) (hi lo i : Nat) :
    (bitsOf w hi lo).testBit i = (decide (i < hi - lo + 1) && w.getLsbD (lo + i)) := by
  simp [bitsOf, Nat.testBit_mod_two_pow, Nat.testBit_div_two_pow, BitVec.getLsbD, Nat.add_comm]

/-- A field holds less than its width allows. -/
theorem bitsOf_lt (w : Word) (hi lo : Nat) : bitsOf w hi lo < 2 ^ (hi - lo + 1) := Nat.mod_lt _ (Nat.two_pow_pos _)

/-- The bits of a field mask. -/
theorem fieldMask_getLsbD (hi lo i : Nat) (h : hi < 32) (hl : lo ≤ hi) :
    (fieldMask hi lo).getLsbD i = decide (lo ≤ i ∧ i ≤ hi) := by
  simp only [fieldMask, BitVec.getLsbD_ofNat, Nat.testBit_mul_two_pow, Nat.testBit_two_pow_sub_one]
  by_cases h1 : lo ≤ i <;> by_cases h2 : i ≤ hi <;> simp [h1, h2] <;> omega

/-- The bits of a word with a field replaced. -/
theorem putBits_getLsbD (w : Word) (hi lo v i : Nat) (h : hi < 32) (hl : lo ≤ hi) :
    (putBits w hi lo v).getLsbD i = if lo ≤ i ∧ i ≤ hi then v.testBit (i - lo) else w.getLsbD i := by
  simp only [putBits, BitVec.getLsbD_or, BitVec.getLsbD_and, BitVec.getLsbD_not, fieldMask_getLsbD _ _ _ h hl, BitVec.getLsbD_ofNat,
    Nat.testBit_mul_two_pow, Nat.testBit_mod_two_pow]
  by_cases h1 : lo ≤ i
  · by_cases h2 : i ≤ hi
    · simp [h1, h2, show i < 32 by omega, show i - lo < hi - lo + 1 by omega]
    · have h3 : ¬ (i - lo < hi - lo + 1) := by omega
      by_cases h4 : i < 32
      · simp [h1, h2, h3, h4]
      · simp [h1, h2, h3, h4, BitVec.getLsbD_of_ge w i (by omega)]
  · by_cases h4 : i < 32
    · simp [h1, h4]
    · simp [h1, h4, BitVec.getLsbD_of_ge w i (by omega)]

/-- Reading the field just written. -/
theorem bitsOf_putBits_same (w : Word) (hi lo v : Nat) (h : hi < 32) (hl : lo ≤ hi) :
    bitsOf (putBits w hi lo v) hi lo = v % 2 ^ (hi - lo + 1) := by
  apply Nat.eq_of_testBit_eq
  intro i
  rw [bitsOf_testBit, putBits_getLsbD _ _ _ _ _ h hl, Nat.testBit_mod_two_pow]
  by_cases h1 : i < hi - lo + 1
  · simp [h1, show lo + i ≤ hi by omega]
  · simp [h1]

/-- Reading another field of the word. -/
theorem bitsOf_putBits_apart (w : Word) (hi lo v hi' lo' : Nat) (h : hi < 32) (hl : lo ≤ hi) (ha : hi < lo' ∨ hi' < lo)
    (hl' : lo' ≤ hi') : bitsOf (putBits w hi lo v) hi' lo' = bitsOf w hi' lo' := by
  apply Nat.eq_of_testBit_eq
  intro i
  rw [bitsOf_testBit, bitsOf_testBit, putBits_getLsbD _ _ _ _ _ h hl]
  by_cases h1 : i < hi' - lo' + 1
  · rw [if_neg (by omega)]
  · simp [h1]

/-- Reading a register after a register is written. -/
theorem Device.reg_setReg (d : Device) (a c : Nat) (w : Word) : (d.setReg a w).reg c = if c = a then w else d.reg c :=
  Sparse.get_put regReset a c w d.regs

/-- Reading a live word after a live word is written. -/
theorem Device.liveReg_setLiveReg (d : Device) (a c : Nat) (w : Word) :
    (d.setLiveReg a w).liveReg c = if c = a then w else d.liveReg c :=
  Sparse.get_put regReset a c w d.live

/-- The word of a register after one of its fields is set. -/
theorem Device.reg_set (d : Device) (f : Fld) (v c : Nat) :
    (d.set f v).reg c = if c = f.addr then putBits (d.reg f.addr) f.hi f.lo v else d.reg c := d.reg_setReg _ _ _

/-- A field just set reads the value, to the field's width. -/
theorem Device.get_set_same (d : Device) (f : Fld) (v : Nat) (h : f.ok) : (d.set f v).get f = v % 2 ^ (f.hi - f.lo + 1) := by
  simp [Device.get, Device.reg_set, bitsOf_putBits_same _ _ _ _ h.2 h.1]

/-- Every other field reads as before. -/
theorem Device.get_set_apart (d : Device) (f g : Fld) (v : Nat) (hf : f.ok) (hg : g.ok) (h : f.apart g) :
    (d.set f v).get g = d.get g := by
  unfold Device.get
  rw [Device.reg_set]
  split
  · next e =>
    rw [e]
    obtain h | h := h
    · exact absurd e.symm h
    · exact bitsOf_putBits_apart _ _ _ _ _ _ hf.2 hf.1 h hg.1
  · rfl

end Sys2Proof.Machine
end

