-- ==== Sys2Proof/Laws/Memory.lean ====
section
/-! SUPPORT. Memory as a map: a read after a write, and the canonical form that every memory operation keeps. -/

namespace Sys2Proof.Machine

/-- Every entry of `l` lies above `a`. -/
def Cells.above (a : Nat) (l : List Host.Cell) : Prop := ∀ p ∈ l, a < p.1

/-- The canonical form, said as a property: rising addresses and no default entry. -/
theorem Memory.wf_cons (a : Nat) (w : Byte) (l : List Host.Cell) :
    Memory.wf ((a, w) :: l) = true ↔ w ≠ memDefault ∧ Cells.above a l ∧ Memory.wf l = true := by
  induction l generalizing a w with
  | nil => simp [Memory.wf, Cells.above]
  | cons p l ih =>
    obtain ⟨b, v⟩ := p
    have hb := ih b v
    simp only [Memory.wf, Bool.and_eq_true, decide_eq_true_eq, bne_iff_ne, Cells.above, List.mem_cons] at hb ⊢
    constructor
    · rintro ⟨⟨h1, h2⟩, h3⟩
      refine ⟨h2, ?_, h3⟩
      rintro q (rfl | hq)
      · exact h1
      · exact Nat.lt_trans h1 ((hb.1 h3).2.1 q hq)
    · rintro ⟨h2, h1, h3⟩
      exact ⟨⟨h1 _ (Or.inl rfl), h2⟩, h3⟩

/-- Reading an inserted word. -/
theorem memGet_insert (a c : Nat) (w : Byte) (l : List Host.Cell) :
    memGet (memInsert a w l) c = if c = a then w else memGet l c := by
  induction l with
  | nil => simp [memInsert, memGet]
  | cons p l ih =>
    obtain ⟨b, v⟩ := p
    simp only [memInsert]
    split
    · next h => subst h; by_cases h' : c = a <;> simp [memGet, h']
    · split
      · simp [memGet]
      · by_cases h' : c = b
        · simp [memGet, h', show b ≠ a by omega]
        · simp [memGet, h', ih]

/-- Reading after an erasure. -/
theorem memGet_erase (a c : Nat) (l : List Host.Cell) :
    memGet (memErase a l) c = if c = a then memDefault else memGet l c := by
  induction l with
  | nil => by_cases h : c = a <;> simp [memErase, memGet, h]
  | cons p l ih =>
    obtain ⟨b, v⟩ := p
    simp only [memErase] at ih
    by_cases h : b = a
    · subst h
      have e : ((b, v) :: l).filter (fun p => p.1 != b) = l.filter (fun p => p.1 != b) := by simp
      by_cases h' : c = b
      · simpa [memErase, e, h'] using ih
      · simpa [memErase, memGet, e, h'] using ih
    · by_cases h' : c = b
      · subst h'; simp [memErase, memGet, h]
      · simp [memErase, memGet, h, h', ih]

/-- A read after a write. -/
theorem memGet_put (a c : Nat) (w : Byte) (l : List Host.Cell) :
    memGet (memPut l a w) c = if c = a then w else memGet l c := by
  unfold memPut
  split
  · next e => rw [memGet_erase, e]
  · exact memGet_insert a c w l

/-- Entries of an insertion lie above what the new address and the old entries lie above. -/
theorem Cells.above_insert (a b : Nat) (w : Byte) (l : List Host.Cell) (hab : b < a) (h : Cells.above b l) :
    Cells.above b (memInsert a w l) := by
  induction l with
  | nil => intro p hp; simp only [memInsert, List.mem_singleton] at hp; subst hp; exact hab
  | cons q l ih =>
    obtain ⟨c, v⟩ := q
    have hc : b < c := h (c, v) (by simp)
    have hl : Cells.above b l := fun p hp => h p (by simp [hp])
    intro p hp
    simp only [memInsert] at hp
    split at hp
    · simp only [List.mem_cons] at hp; obtain rfl | hp := hp
      · exact hab
      · exact hl p hp
    · split at hp
      · simp only [List.mem_cons] at hp; obtain rfl | rfl | hp := hp
        · exact hab
        · exact hc
        · exact hl p hp
      · simp only [List.mem_cons] at hp; obtain rfl | hp := hp
        · exact hc
        · exact ih hl p hp

/-- An erasure keeps the canonical form. -/
theorem Memory.wf_erase (a : Nat) (l : List Host.Cell) (h : Memory.wf l = true) :
    Memory.wf (memErase a l) = true := by
  induction l with
  | nil => exact h
  | cons p l ih =>
    obtain ⟨b, v⟩ := p
    obtain ⟨h1, h2, h3⟩ := (Memory.wf_cons b v l).1 h
    have hr := ih h3
    unfold memErase at hr ⊢
    by_cases hb : b = a
    · simpa [hb] using hr
    · have e : ((b, v) :: l).filter (fun p => p.1 != a) = (b, v) :: l.filter (fun p => p.1 != a) := by simp [hb]
      rw [e]
      exact (Memory.wf_cons _ _ _).2 ⟨h1, fun q hq => h2 q (List.mem_filter.1 hq).1, hr⟩

/-- Every write keeps the canonical form. -/
theorem Memory.wf_put (a : Nat) (w : Byte) (l : List Host.Cell) (h : Memory.wf l = true) :
    Memory.wf (memPut l a w) = true := by
  unfold memPut
  split
  · exact Memory.wf_erase a l h
  · next e =>
    induction l with
    | nil => simp [memInsert, Memory.wf, e]
    | cons p l ih =>
      obtain ⟨b, v⟩ := p
      obtain ⟨h1, h2, h3⟩ := (Memory.wf_cons b v l).1 h
      simp only [memInsert]
      split
      · next hab => subst hab; exact (Memory.wf_cons _ _ _).2 ⟨e, h2, h3⟩
      · split
        · next hlt =>
          refine (Memory.wf_cons _ _ _).2 ⟨e, ?_, h⟩
          intro q hq
          simp only [List.mem_cons] at hq; obtain rfl | hq := hq
          · exact hlt
          · exact Nat.lt_trans hlt (h2 q hq)
        · next hne hlt =>
          exact (Memory.wf_cons _ _ _).2 ⟨h1, Cells.above_insert a b w l (by omega) h2, ih h3⟩

/-- A byte read after a byte is stored. -/
theorem Device.byte_setByte (d : Device) (a c : Nat) (v : Byte) : (d.setByte a v).byte c = if c = a then v else d.byte c :=
  memGet_put a c v d.mem

/-- Storing bytes leaves every other byte alone. -/
theorem Device.byte_setBytes_out (d : Device) (a c : Nat) (vs : List Byte) (h : c < a ∨ a + vs.length ≤ c) :
    (d.setBytes a vs).byte c = d.byte c := by
  induction vs generalizing d a with
  | nil => rfl
  | cons v vs ih =>
    simp only [List.length_cons] at h
    rw [Device.setBytes, ih _ _ (by omega), Device.byte_setByte, if_neg (by omega)]

/-- A stored byte is read back. -/
theorem Device.byte_setBytes_in (d : Device) (a i : Nat) (vs : List Byte) (h : i < vs.length) :
    (d.setBytes a vs).byte (a + i) = vs.getD i 0 := by
  induction vs generalizing d a i with
  | nil => simp at h
  | cons v vs ih =>
    cases i with
    | zero => rw [Device.setBytes, Device.byte_setBytes_out _ _ _ _ (by omega), Device.byte_setByte]; simp
    | succ i =>
      simp only [List.length_cons] at h
      have e : a + (i + 1) = a + 1 + i := by omega
      rw [Device.setBytes, e, ih _ _ _ (by omega)]; simp

/-- Storing a byte keeps the canonical form. -/
theorem Device.wf_setByte (d : Device) (a : Nat) (v : Byte) (h : Memory.wf d.mem = true) : Memory.wf (d.setByte a v).mem = true :=
  Memory.wf_put a v d.mem h

/-- Storing bytes keeps the canonical form. -/
theorem Device.wf_setBytes (d : Device) (a : Nat) (vs : List Byte) (h : Memory.wf d.mem = true) :
    Memory.wf (d.setBytes a vs).mem = true := by
  induction vs generalizing d a with
  | nil => exact h
  | cons v vs ih => exact ih _ _ (d.wf_setByte a v h)

/-- The memory of the reset state is in canonical form. -/
theorem memory_wf_reset : Memory.wf State.reset.dev.mem = true := rfl

end Sys2Proof.Machine
end

