-- ==== Sys2Proof/Laws/State.lean ====
section
/-! SUPPORT. What each named update of the device leaves alone, field by field, each true by computation. -/

namespace Sys2Proof.Machine

/-! ### setReg -/

@[simp] theorem Device.live_setReg (d : Device) (a : Nat) (w : Word) : (d.setReg a w).live = d.live := rfl
@[simp] theorem Device.snap_setReg (d : Device) (a : Nat) (w : Word) : (d.setReg a w).snap = d.snap := rfl
@[simp] theorem Device.mem_setReg (d : Device) (a : Nat) (w : Word) : (d.setReg a w).mem = d.mem := rfl
@[simp] theorem Device.errs_setReg (d : Device) (a : Nat) (w : Word) : (d.setReg a w).errs = d.errs := rfl
@[simp] theorem Device.poisoned_setReg (d : Device) (a : Nat) (w : Word) : (d.setReg a w).poisoned = d.poisoned := rfl
@[simp] theorem Device.memHist_setReg (d : Device) (a : Nat) (w : Word) : (d.setReg a w).memHist = d.memHist := rfl
@[simp] theorem Device.writeBack_setReg (d : Device) (a : Nat) (w : Word) : (d.setReg a w).writeBack = d.writeBack := rfl
@[simp] theorem Device.sparesOut_setReg (d : Device) (a : Nat) (w : Word) : (d.setReg a w).sparesOut = d.sparesOut := rfl
@[simp] theorem Device.scrubRow_setReg (d : Device) (a : Nat) (w : Word) : (d.setReg a w).scrubRow = d.scrubRow := rfl
@[simp] theorem Device.scrubFrom_setReg (d : Device) (a : Nat) (w : Word) : (d.setReg a w).scrubFrom = d.scrubFrom := rfl
@[simp] theorem Device.now_setReg (d : Device) (a : Nat) (w : Word) : (d.setReg a w).now = d.now := rfl
@[simp] theorem Device.draws_setReg (d : Device) (a : Nat) (w : Word) : (d.setReg a w).draws = d.draws := rfl
@[simp] theorem Device.rx_setReg (d : Device) (a : Nat) (w : Word) : (d.setReg a w).rx = d.rx := rfl
@[simp] theorem Device.tx_setReg (d : Device) (a : Nat) (w : Word) : (d.setReg a w).tx = d.tx := rfl
@[simp] theorem Device.bw_setReg (d : Device) (a : Nat) (w : Word) : (d.setReg a w).bw = d.bw := rfl
@[simp] theorem Device.egr_setReg (d : Device) (a : Nat) (w : Word) : (d.setReg a w).egr = d.egr := rfl
@[simp] theorem Device.neg_setReg (d : Device) (a : Nat) (w : Word) : (d.setReg a w).neg = d.neg := rfl
@[simp] theorem Device.pool_setReg (d : Device) (a : Nat) (w : Word) : (d.setReg a w).pool = d.pool := rfl
@[simp] theorem Device.host_setReg (d : Device) (a : Nat) (w : Word) : (d.setReg a w).host = d.host := rfl
@[simp] theorem Device.out_setReg (d : Device) (a : Nat) (w : Word) : (d.setReg a w).out = d.out := rfl
@[simp] theorem Device.plt_setReg (d : Device) (a : Nat) (w : Word) : (d.setReg a w).plt = d.plt := rfl
@[simp] theorem Device.hws_setReg (d : Device) (a : Nat) (w : Word) : (d.setReg a w).hws = d.hws := rfl
@[simp] theorem Device.fab_setReg (d : Device) (a : Nat) (w : Word) : (d.setReg a w).fab = d.fab := rfl
@[simp] theorem Device.sup_setReg (d : Device) (a : Nat) (w : Word) : (d.setReg a w).sup = d.sup := rfl
@[simp] theorem Device.thm_setReg (d : Device) (a : Nat) (w : Word) : (d.setReg a w).thm = d.thm := rfl
@[simp] theorem Device.mon_setReg (d : Device) (a : Nat) (w : Word) : (d.setReg a w).mon = d.mon := rfl
@[simp] theorem Device.sec_setReg (d : Device) (a : Nat) (w : Word) : (d.setReg a w).sec = d.sec := rfl
@[simp] theorem Device.flash_setReg (d : Device) (a : Nat) (w : Word) : (d.setReg a w).flash = d.flash := rfl
@[simp] theorem Device.banks_setReg (d : Device) (a : Nat) (w : Word) : (d.setReg a w).banks = d.banks := rfl
@[simp] theorem Device.mft_setReg (d : Device) (a : Nat) (w : Word) : (d.setReg a w).mft = d.mft := rfl
@[simp] theorem Device.lko_setReg (d : Device) (a : Nat) (w : Word) : (d.setReg a w).lko = d.lko := rfl
@[simp] theorem Device.pmuReq_setReg (d : Device) (a : Nat) (w : Word) : (d.setReg a w).pmuReq = d.pmuReq := rfl
@[simp] theorem Device.txdisLow_setReg (d : Device) (a : Nat) (w : Word) : (d.setReg a w).txdisLow = d.txdisLow := rfl
@[simp] theorem Device.pmuPrev_setReg (d : Device) (a : Nat) (w : Word) : (d.setReg a w).pmuPrev = d.pmuPrev := rfl
@[simp] theorem Device.laneHold_setReg (d : Device) (a : Nat) (w : Word) : (d.setReg a w).laneHold = d.laneHold := rfl
@[simp] theorem Device.clkWake_setReg (d : Device) (a : Nat) (w : Word) : (d.setReg a w).clkWake = d.clkWake := rfl
@[simp] theorem Device.lget_setReg (d : Device) (a : Nat) (w : Word) (g : Fld) : (d.setReg a w).lget g = d.lget g := rfl
@[simp] theorem Device.byte_setReg (d : Device) (a : Nat) (w : Word) (c : Nat) : (d.setReg a w).byte c = d.byte c := rfl

/-! ### set -/

@[simp] theorem Device.live_set (d : Device) (f : Fld) (v : Nat) : (d.set f v).live = d.live := rfl
@[simp] theorem Device.snap_set (d : Device) (f : Fld) (v : Nat) : (d.set f v).snap = d.snap := rfl
@[simp] theorem Device.mem_set (d : Device) (f : Fld) (v : Nat) : (d.set f v).mem = d.mem := rfl
@[simp] theorem Device.errs_set (d : Device) (f : Fld) (v : Nat) : (d.set f v).errs = d.errs := rfl
@[simp] theorem Device.poisoned_set (d : Device) (f : Fld) (v : Nat) : (d.set f v).poisoned = d.poisoned := rfl
@[simp] theorem Device.memHist_set (d : Device) (f : Fld) (v : Nat) : (d.set f v).memHist = d.memHist := rfl
@[simp] theorem Device.writeBack_set (d : Device) (f : Fld) (v : Nat) : (d.set f v).writeBack = d.writeBack := rfl
@[simp] theorem Device.sparesOut_set (d : Device) (f : Fld) (v : Nat) : (d.set f v).sparesOut = d.sparesOut := rfl
@[simp] theorem Device.scrubRow_set (d : Device) (f : Fld) (v : Nat) : (d.set f v).scrubRow = d.scrubRow := rfl
@[simp] theorem Device.scrubFrom_set (d : Device) (f : Fld) (v : Nat) : (d.set f v).scrubFrom = d.scrubFrom := rfl
@[simp] theorem Device.now_set (d : Device) (f : Fld) (v : Nat) : (d.set f v).now = d.now := rfl
@[simp] theorem Device.draws_set (d : Device) (f : Fld) (v : Nat) : (d.set f v).draws = d.draws := rfl
@[simp] theorem Device.rx_set (d : Device) (f : Fld) (v : Nat) : (d.set f v).rx = d.rx := rfl
@[simp] theorem Device.tx_set (d : Device) (f : Fld) (v : Nat) : (d.set f v).tx = d.tx := rfl
@[simp] theorem Device.bw_set (d : Device) (f : Fld) (v : Nat) : (d.set f v).bw = d.bw := rfl
@[simp] theorem Device.egr_set (d : Device) (f : Fld) (v : Nat) : (d.set f v).egr = d.egr := rfl
@[simp] theorem Device.neg_set (d : Device) (f : Fld) (v : Nat) : (d.set f v).neg = d.neg := rfl
@[simp] theorem Device.pool_set (d : Device) (f : Fld) (v : Nat) : (d.set f v).pool = d.pool := rfl
@[simp] theorem Device.host_set (d : Device) (f : Fld) (v : Nat) : (d.set f v).host = d.host := rfl
@[simp] theorem Device.out_set (d : Device) (f : Fld) (v : Nat) : (d.set f v).out = d.out := rfl
@[simp] theorem Device.plt_set (d : Device) (f : Fld) (v : Nat) : (d.set f v).plt = d.plt := rfl
@[simp] theorem Device.hws_set (d : Device) (f : Fld) (v : Nat) : (d.set f v).hws = d.hws := rfl
@[simp] theorem Device.fab_set (d : Device) (f : Fld) (v : Nat) : (d.set f v).fab = d.fab := rfl
@[simp] theorem Device.sup_set (d : Device) (f : Fld) (v : Nat) : (d.set f v).sup = d.sup := rfl
@[simp] theorem Device.thm_set (d : Device) (f : Fld) (v : Nat) : (d.set f v).thm = d.thm := rfl
@[simp] theorem Device.mon_set (d : Device) (f : Fld) (v : Nat) : (d.set f v).mon = d.mon := rfl
@[simp] theorem Device.sec_set (d : Device) (f : Fld) (v : Nat) : (d.set f v).sec = d.sec := rfl
@[simp] theorem Device.flash_set (d : Device) (f : Fld) (v : Nat) : (d.set f v).flash = d.flash := rfl
@[simp] theorem Device.banks_set (d : Device) (f : Fld) (v : Nat) : (d.set f v).banks = d.banks := rfl
@[simp] theorem Device.mft_set (d : Device) (f : Fld) (v : Nat) : (d.set f v).mft = d.mft := rfl
@[simp] theorem Device.lko_set (d : Device) (f : Fld) (v : Nat) : (d.set f v).lko = d.lko := rfl
@[simp] theorem Device.pmuReq_set (d : Device) (f : Fld) (v : Nat) : (d.set f v).pmuReq = d.pmuReq := rfl
@[simp] theorem Device.txdisLow_set (d : Device) (f : Fld) (v : Nat) : (d.set f v).txdisLow = d.txdisLow := rfl
@[simp] theorem Device.pmuPrev_set (d : Device) (f : Fld) (v : Nat) : (d.set f v).pmuPrev = d.pmuPrev := rfl
@[simp] theorem Device.laneHold_set (d : Device) (f : Fld) (v : Nat) : (d.set f v).laneHold = d.laneHold := rfl
@[simp] theorem Device.clkWake_set (d : Device) (f : Fld) (v : Nat) : (d.set f v).clkWake = d.clkWake := rfl
@[simp] theorem Device.lget_set (d : Device) (f : Fld) (v : Nat) (g : Fld) : (d.set f v).lget g = d.lget g := rfl
@[simp] theorem Device.byte_set (d : Device) (f : Fld) (v : Nat) (c : Nat) : (d.set f v).byte c = d.byte c := rfl

/-! ### setLiveReg -/

@[simp] theorem Device.regs_setLiveReg (d : Device) (a : Nat) (w : Word) : (d.setLiveReg a w).regs = d.regs := rfl
@[simp] theorem Device.snap_setLiveReg (d : Device) (a : Nat) (w : Word) : (d.setLiveReg a w).snap = d.snap := rfl
@[simp] theorem Device.mem_setLiveReg (d : Device) (a : Nat) (w : Word) : (d.setLiveReg a w).mem = d.mem := rfl
@[simp] theorem Device.errs_setLiveReg (d : Device) (a : Nat) (w : Word) : (d.setLiveReg a w).errs = d.errs := rfl
@[simp] theorem Device.poisoned_setLiveReg (d : Device) (a : Nat) (w : Word) : (d.setLiveReg a w).poisoned = d.poisoned := rfl
@[simp] theorem Device.memHist_setLiveReg (d : Device) (a : Nat) (w : Word) : (d.setLiveReg a w).memHist = d.memHist := rfl
@[simp] theorem Device.writeBack_setLiveReg (d : Device) (a : Nat) (w : Word) : (d.setLiveReg a w).writeBack = d.writeBack := rfl
@[simp] theorem Device.sparesOut_setLiveReg (d : Device) (a : Nat) (w : Word) : (d.setLiveReg a w).sparesOut = d.sparesOut := rfl
@[simp] theorem Device.scrubRow_setLiveReg (d : Device) (a : Nat) (w : Word) : (d.setLiveReg a w).scrubRow = d.scrubRow := rfl
@[simp] theorem Device.scrubFrom_setLiveReg (d : Device) (a : Nat) (w : Word) : (d.setLiveReg a w).scrubFrom = d.scrubFrom := rfl
@[simp] theorem Device.now_setLiveReg (d : Device) (a : Nat) (w : Word) : (d.setLiveReg a w).now = d.now := rfl
@[simp] theorem Device.draws_setLiveReg (d : Device) (a : Nat) (w : Word) : (d.setLiveReg a w).draws = d.draws := rfl
@[simp] theorem Device.rx_setLiveReg (d : Device) (a : Nat) (w : Word) : (d.setLiveReg a w).rx = d.rx := rfl
@[simp] theorem Device.tx_setLiveReg (d : Device) (a : Nat) (w : Word) : (d.setLiveReg a w).tx = d.tx := rfl
@[simp] theorem Device.bw_setLiveReg (d : Device) (a : Nat) (w : Word) : (d.setLiveReg a w).bw = d.bw := rfl
@[simp] theorem Device.egr_setLiveReg (d : Device) (a : Nat) (w : Word) : (d.setLiveReg a w).egr = d.egr := rfl
@[simp] theorem Device.neg_setLiveReg (d : Device) (a : Nat) (w : Word) : (d.setLiveReg a w).neg = d.neg := rfl
@[simp] theorem Device.pool_setLiveReg (d : Device) (a : Nat) (w : Word) : (d.setLiveReg a w).pool = d.pool := rfl
@[simp] theorem Device.host_setLiveReg (d : Device) (a : Nat) (w : Word) : (d.setLiveReg a w).host = d.host := rfl
@[simp] theorem Device.out_setLiveReg (d : Device) (a : Nat) (w : Word) : (d.setLiveReg a w).out = d.out := rfl
@[simp] theorem Device.plt_setLiveReg (d : Device) (a : Nat) (w : Word) : (d.setLiveReg a w).plt = d.plt := rfl
@[simp] theorem Device.hws_setLiveReg (d : Device) (a : Nat) (w : Word) : (d.setLiveReg a w).hws = d.hws := rfl
@[simp] theorem Device.fab_setLiveReg (d : Device) (a : Nat) (w : Word) : (d.setLiveReg a w).fab = d.fab := rfl
@[simp] theorem Device.sup_setLiveReg (d : Device) (a : Nat) (w : Word) : (d.setLiveReg a w).sup = d.sup := rfl
@[simp] theorem Device.thm_setLiveReg (d : Device) (a : Nat) (w : Word) : (d.setLiveReg a w).thm = d.thm := rfl
@[simp] theorem Device.mon_setLiveReg (d : Device) (a : Nat) (w : Word) : (d.setLiveReg a w).mon = d.mon := rfl
@[simp] theorem Device.sec_setLiveReg (d : Device) (a : Nat) (w : Word) : (d.setLiveReg a w).sec = d.sec := rfl
@[simp] theorem Device.flash_setLiveReg (d : Device) (a : Nat) (w : Word) : (d.setLiveReg a w).flash = d.flash := rfl
@[simp] theorem Device.banks_setLiveReg (d : Device) (a : Nat) (w : Word) : (d.setLiveReg a w).banks = d.banks := rfl
@[simp] theorem Device.mft_setLiveReg (d : Device) (a : Nat) (w : Word) : (d.setLiveReg a w).mft = d.mft := rfl
@[simp] theorem Device.lko_setLiveReg (d : Device) (a : Nat) (w : Word) : (d.setLiveReg a w).lko = d.lko := rfl
@[simp] theorem Device.pmuReq_setLiveReg (d : Device) (a : Nat) (w : Word) : (d.setLiveReg a w).pmuReq = d.pmuReq := rfl
@[simp] theorem Device.txdisLow_setLiveReg (d : Device) (a : Nat) (w : Word) : (d.setLiveReg a w).txdisLow = d.txdisLow := rfl
@[simp] theorem Device.pmuPrev_setLiveReg (d : Device) (a : Nat) (w : Word) : (d.setLiveReg a w).pmuPrev = d.pmuPrev := rfl
@[simp] theorem Device.laneHold_setLiveReg (d : Device) (a : Nat) (w : Word) : (d.setLiveReg a w).laneHold = d.laneHold := rfl
@[simp] theorem Device.clkWake_setLiveReg (d : Device) (a : Nat) (w : Word) : (d.setLiveReg a w).clkWake = d.clkWake := rfl
@[simp] theorem Device.reg_setLiveReg (d : Device) (a : Nat) (w : Word) (c : Nat) : (d.setLiveReg a w).reg c = d.reg c := rfl
@[simp] theorem Device.get_setLiveReg (d : Device) (a : Nat) (w : Word) (g : Fld) : (d.setLiveReg a w).get g = d.get g := rfl
@[simp] theorem Device.byte_setLiveReg (d : Device) (a : Nat) (w : Word) (c : Nat) : (d.setLiveReg a w).byte c = d.byte c := rfl

/-! ### setByte -/

@[simp] theorem Device.regs_setByte (d : Device) (a : Nat) (v : Byte) : (d.setByte a v).regs = d.regs := rfl
@[simp] theorem Device.live_setByte (d : Device) (a : Nat) (v : Byte) : (d.setByte a v).live = d.live := rfl
@[simp] theorem Device.snap_setByte (d : Device) (a : Nat) (v : Byte) : (d.setByte a v).snap = d.snap := rfl
@[simp] theorem Device.errs_setByte (d : Device) (a : Nat) (v : Byte) : (d.setByte a v).errs = d.errs := rfl
@[simp] theorem Device.poisoned_setByte (d : Device) (a : Nat) (v : Byte) : (d.setByte a v).poisoned = d.poisoned := rfl
@[simp] theorem Device.memHist_setByte (d : Device) (a : Nat) (v : Byte) : (d.setByte a v).memHist = d.memHist := rfl
@[simp] theorem Device.writeBack_setByte (d : Device) (a : Nat) (v : Byte) : (d.setByte a v).writeBack = d.writeBack := rfl
@[simp] theorem Device.sparesOut_setByte (d : Device) (a : Nat) (v : Byte) : (d.setByte a v).sparesOut = d.sparesOut := rfl
@[simp] theorem Device.scrubRow_setByte (d : Device) (a : Nat) (v : Byte) : (d.setByte a v).scrubRow = d.scrubRow := rfl
@[simp] theorem Device.scrubFrom_setByte (d : Device) (a : Nat) (v : Byte) : (d.setByte a v).scrubFrom = d.scrubFrom := rfl
@[simp] theorem Device.now_setByte (d : Device) (a : Nat) (v : Byte) : (d.setByte a v).now = d.now := rfl
@[simp] theorem Device.draws_setByte (d : Device) (a : Nat) (v : Byte) : (d.setByte a v).draws = d.draws := rfl
@[simp] theorem Device.rx_setByte (d : Device) (a : Nat) (v : Byte) : (d.setByte a v).rx = d.rx := rfl
@[simp] theorem Device.tx_setByte (d : Device) (a : Nat) (v : Byte) : (d.setByte a v).tx = d.tx := rfl
@[simp] theorem Device.bw_setByte (d : Device) (a : Nat) (v : Byte) : (d.setByte a v).bw = d.bw := rfl
@[simp] theorem Device.egr_setByte (d : Device) (a : Nat) (v : Byte) : (d.setByte a v).egr = d.egr := rfl
@[simp] theorem Device.neg_setByte (d : Device) (a : Nat) (v : Byte) : (d.setByte a v).neg = d.neg := rfl
@[simp] theorem Device.pool_setByte (d : Device) (a : Nat) (v : Byte) : (d.setByte a v).pool = d.pool := rfl
@[simp] theorem Device.host_setByte (d : Device) (a : Nat) (v : Byte) : (d.setByte a v).host = d.host := rfl
@[simp] theorem Device.out_setByte (d : Device) (a : Nat) (v : Byte) : (d.setByte a v).out = d.out := rfl
@[simp] theorem Device.plt_setByte (d : Device) (a : Nat) (v : Byte) : (d.setByte a v).plt = d.plt := rfl
@[simp] theorem Device.hws_setByte (d : Device) (a : Nat) (v : Byte) : (d.setByte a v).hws = d.hws := rfl
@[simp] theorem Device.fab_setByte (d : Device) (a : Nat) (v : Byte) : (d.setByte a v).fab = d.fab := rfl
@[simp] theorem Device.sup_setByte (d : Device) (a : Nat) (v : Byte) : (d.setByte a v).sup = d.sup := rfl
@[simp] theorem Device.thm_setByte (d : Device) (a : Nat) (v : Byte) : (d.setByte a v).thm = d.thm := rfl
@[simp] theorem Device.mon_setByte (d : Device) (a : Nat) (v : Byte) : (d.setByte a v).mon = d.mon := rfl
@[simp] theorem Device.sec_setByte (d : Device) (a : Nat) (v : Byte) : (d.setByte a v).sec = d.sec := rfl
@[simp] theorem Device.flash_setByte (d : Device) (a : Nat) (v : Byte) : (d.setByte a v).flash = d.flash := rfl
@[simp] theorem Device.banks_setByte (d : Device) (a : Nat) (v : Byte) : (d.setByte a v).banks = d.banks := rfl
@[simp] theorem Device.mft_setByte (d : Device) (a : Nat) (v : Byte) : (d.setByte a v).mft = d.mft := rfl
@[simp] theorem Device.lko_setByte (d : Device) (a : Nat) (v : Byte) : (d.setByte a v).lko = d.lko := rfl
@[simp] theorem Device.pmuReq_setByte (d : Device) (a : Nat) (v : Byte) : (d.setByte a v).pmuReq = d.pmuReq := rfl
@[simp] theorem Device.txdisLow_setByte (d : Device) (a : Nat) (v : Byte) : (d.setByte a v).txdisLow = d.txdisLow := rfl
@[simp] theorem Device.pmuPrev_setByte (d : Device) (a : Nat) (v : Byte) : (d.setByte a v).pmuPrev = d.pmuPrev := rfl
@[simp] theorem Device.laneHold_setByte (d : Device) (a : Nat) (v : Byte) : (d.setByte a v).laneHold = d.laneHold := rfl
@[simp] theorem Device.clkWake_setByte (d : Device) (a : Nat) (v : Byte) : (d.setByte a v).clkWake = d.clkWake := rfl
@[simp] theorem Device.reg_setByte (d : Device) (a : Nat) (v : Byte) (c : Nat) : (d.setByte a v).reg c = d.reg c := rfl
@[simp] theorem Device.get_setByte (d : Device) (a : Nat) (v : Byte) (g : Fld) : (d.setByte a v).get g = d.get g := rfl
@[simp] theorem Device.lget_setByte (d : Device) (a : Nat) (v : Byte) (g : Fld) : (d.setByte a v).lget g = d.lget g := rfl

/-! ### modRx -/

@[simp] theorem Device.regs_modRx (d : Device) (n : Lane) (f : RxLane → RxLane) : (d.modRx n f).regs = d.regs := rfl
@[simp] theorem Device.live_modRx (d : Device) (n : Lane) (f : RxLane → RxLane) : (d.modRx n f).live = d.live := rfl
@[simp] theorem Device.snap_modRx (d : Device) (n : Lane) (f : RxLane → RxLane) : (d.modRx n f).snap = d.snap := rfl
@[simp] theorem Device.mem_modRx (d : Device) (n : Lane) (f : RxLane → RxLane) : (d.modRx n f).mem = d.mem := rfl
@[simp] theorem Device.errs_modRx (d : Device) (n : Lane) (f : RxLane → RxLane) : (d.modRx n f).errs = d.errs := rfl
@[simp] theorem Device.poisoned_modRx (d : Device) (n : Lane) (f : RxLane → RxLane) : (d.modRx n f).poisoned = d.poisoned := rfl
@[simp] theorem Device.memHist_modRx (d : Device) (n : Lane) (f : RxLane → RxLane) : (d.modRx n f).memHist = d.memHist := rfl
@[simp] theorem Device.writeBack_modRx (d : Device) (n : Lane) (f : RxLane → RxLane) : (d.modRx n f).writeBack = d.writeBack := rfl
@[simp] theorem Device.sparesOut_modRx (d : Device) (n : Lane) (f : RxLane → RxLane) : (d.modRx n f).sparesOut = d.sparesOut := rfl
@[simp] theorem Device.scrubRow_modRx (d : Device) (n : Lane) (f : RxLane → RxLane) : (d.modRx n f).scrubRow = d.scrubRow := rfl
@[simp] theorem Device.scrubFrom_modRx (d : Device) (n : Lane) (f : RxLane → RxLane) : (d.modRx n f).scrubFrom = d.scrubFrom := rfl
@[simp] theorem Device.now_modRx (d : Device) (n : Lane) (f : RxLane → RxLane) : (d.modRx n f).now = d.now := rfl
@[simp] theorem Device.draws_modRx (d : Device) (n : Lane) (f : RxLane → RxLane) : (d.modRx n f).draws = d.draws := rfl
@[simp] theorem Device.tx_modRx (d : Device) (n : Lane) (f : RxLane → RxLane) : (d.modRx n f).tx = d.tx := rfl
@[simp] theorem Device.bw_modRx (d : Device) (n : Lane) (f : RxLane → RxLane) : (d.modRx n f).bw = d.bw := rfl
@[simp] theorem Device.egr_modRx (d : Device) (n : Lane) (f : RxLane → RxLane) : (d.modRx n f).egr = d.egr := rfl
@[simp] theorem Device.neg_modRx (d : Device) (n : Lane) (f : RxLane → RxLane) : (d.modRx n f).neg = d.neg := rfl
@[simp] theorem Device.pool_modRx (d : Device) (n : Lane) (f : RxLane → RxLane) : (d.modRx n f).pool = d.pool := rfl
@[simp] theorem Device.host_modRx (d : Device) (n : Lane) (f : RxLane → RxLane) : (d.modRx n f).host = d.host := rfl
@[simp] theorem Device.out_modRx (d : Device) (n : Lane) (f : RxLane → RxLane) : (d.modRx n f).out = d.out := rfl
@[simp] theorem Device.plt_modRx (d : Device) (n : Lane) (f : RxLane → RxLane) : (d.modRx n f).plt = d.plt := rfl
@[simp] theorem Device.hws_modRx (d : Device) (n : Lane) (f : RxLane → RxLane) : (d.modRx n f).hws = d.hws := rfl
@[simp] theorem Device.fab_modRx (d : Device) (n : Lane) (f : RxLane → RxLane) : (d.modRx n f).fab = d.fab := rfl
@[simp] theorem Device.sup_modRx (d : Device) (n : Lane) (f : RxLane → RxLane) : (d.modRx n f).sup = d.sup := rfl
@[simp] theorem Device.thm_modRx (d : Device) (n : Lane) (f : RxLane → RxLane) : (d.modRx n f).thm = d.thm := rfl
@[simp] theorem Device.mon_modRx (d : Device) (n : Lane) (f : RxLane → RxLane) : (d.modRx n f).mon = d.mon := rfl
@[simp] theorem Device.sec_modRx (d : Device) (n : Lane) (f : RxLane → RxLane) : (d.modRx n f).sec = d.sec := rfl
@[simp] theorem Device.flash_modRx (d : Device) (n : Lane) (f : RxLane → RxLane) : (d.modRx n f).flash = d.flash := rfl
@[simp] theorem Device.banks_modRx (d : Device) (n : Lane) (f : RxLane → RxLane) : (d.modRx n f).banks = d.banks := rfl
@[simp] theorem Device.mft_modRx (d : Device) (n : Lane) (f : RxLane → RxLane) : (d.modRx n f).mft = d.mft := rfl
@[simp] theorem Device.lko_modRx (d : Device) (n : Lane) (f : RxLane → RxLane) : (d.modRx n f).lko = d.lko := rfl
@[simp] theorem Device.pmuReq_modRx (d : Device) (n : Lane) (f : RxLane → RxLane) : (d.modRx n f).pmuReq = d.pmuReq := rfl
@[simp] theorem Device.txdisLow_modRx (d : Device) (n : Lane) (f : RxLane → RxLane) : (d.modRx n f).txdisLow = d.txdisLow := rfl
@[simp] theorem Device.pmuPrev_modRx (d : Device) (n : Lane) (f : RxLane → RxLane) : (d.modRx n f).pmuPrev = d.pmuPrev := rfl
@[simp] theorem Device.laneHold_modRx (d : Device) (n : Lane) (f : RxLane → RxLane) : (d.modRx n f).laneHold = d.laneHold := rfl
@[simp] theorem Device.clkWake_modRx (d : Device) (n : Lane) (f : RxLane → RxLane) : (d.modRx n f).clkWake = d.clkWake := rfl
@[simp] theorem Device.reg_modRx (d : Device) (n : Lane) (f : RxLane → RxLane) (c : Nat) : (d.modRx n f).reg c = d.reg c := rfl
@[simp] theorem Device.get_modRx (d : Device) (n : Lane) (f : RxLane → RxLane) (g : Fld) : (d.modRx n f).get g = d.get g := rfl
@[simp] theorem Device.lget_modRx (d : Device) (n : Lane) (f : RxLane → RxLane) (g : Fld) : (d.modRx n f).lget g = d.lget g := rfl
@[simp] theorem Device.byte_modRx (d : Device) (n : Lane) (f : RxLane → RxLane) (c : Nat) : (d.modRx n f).byte c = d.byte c := rfl

/-! ### modTx -/

@[simp] theorem Device.regs_modTx (d : Device) (n : Lane) (f : TxLane → TxLane) : (d.modTx n f).regs = d.regs := rfl
@[simp] theorem Device.live_modTx (d : Device) (n : Lane) (f : TxLane → TxLane) : (d.modTx n f).live = d.live := rfl
@[simp] theorem Device.snap_modTx (d : Device) (n : Lane) (f : TxLane → TxLane) : (d.modTx n f).snap = d.snap := rfl
@[simp] theorem Device.mem_modTx (d : Device) (n : Lane) (f : TxLane → TxLane) : (d.modTx n f).mem = d.mem := rfl
@[simp] theorem Device.errs_modTx (d : Device) (n : Lane) (f : TxLane → TxLane) : (d.modTx n f).errs = d.errs := rfl
@[simp] theorem Device.poisoned_modTx (d : Device) (n : Lane) (f : TxLane → TxLane) : (d.modTx n f).poisoned = d.poisoned := rfl
@[simp] theorem Device.memHist_modTx (d : Device) (n : Lane) (f : TxLane → TxLane) : (d.modTx n f).memHist = d.memHist := rfl
@[simp] theorem Device.writeBack_modTx (d : Device) (n : Lane) (f : TxLane → TxLane) : (d.modTx n f).writeBack = d.writeBack := rfl
@[simp] theorem Device.sparesOut_modTx (d : Device) (n : Lane) (f : TxLane → TxLane) : (d.modTx n f).sparesOut = d.sparesOut := rfl
@[simp] theorem Device.scrubRow_modTx (d : Device) (n : Lane) (f : TxLane → TxLane) : (d.modTx n f).scrubRow = d.scrubRow := rfl
@[simp] theorem Device.scrubFrom_modTx (d : Device) (n : Lane) (f : TxLane → TxLane) : (d.modTx n f).scrubFrom = d.scrubFrom := rfl
@[simp] theorem Device.now_modTx (d : Device) (n : Lane) (f : TxLane → TxLane) : (d.modTx n f).now = d.now := rfl
@[simp] theorem Device.draws_modTx (d : Device) (n : Lane) (f : TxLane → TxLane) : (d.modTx n f).draws = d.draws := rfl
@[simp] theorem Device.rx_modTx (d : Device) (n : Lane) (f : TxLane → TxLane) : (d.modTx n f).rx = d.rx := rfl
@[simp] theorem Device.bw_modTx (d : Device) (n : Lane) (f : TxLane → TxLane) : (d.modTx n f).bw = d.bw := rfl
@[simp] theorem Device.egr_modTx (d : Device) (n : Lane) (f : TxLane → TxLane) : (d.modTx n f).egr = d.egr := rfl
@[simp] theorem Device.neg_modTx (d : Device) (n : Lane) (f : TxLane → TxLane) : (d.modTx n f).neg = d.neg := rfl
@[simp] theorem Device.pool_modTx (d : Device) (n : Lane) (f : TxLane → TxLane) : (d.modTx n f).pool = d.pool := rfl
@[simp] theorem Device.host_modTx (d : Device) (n : Lane) (f : TxLane → TxLane) : (d.modTx n f).host = d.host := rfl
@[simp] theorem Device.out_modTx (d : Device) (n : Lane) (f : TxLane → TxLane) : (d.modTx n f).out = d.out := rfl
@[simp] theorem Device.plt_modTx (d : Device) (n : Lane) (f : TxLane → TxLane) : (d.modTx n f).plt = d.plt := rfl
@[simp] theorem Device.hws_modTx (d : Device) (n : Lane) (f : TxLane → TxLane) : (d.modTx n f).hws = d.hws := rfl
@[simp] theorem Device.fab_modTx (d : Device) (n : Lane) (f : TxLane → TxLane) : (d.modTx n f).fab = d.fab := rfl
@[simp] theorem Device.sup_modTx (d : Device) (n : Lane) (f : TxLane → TxLane) : (d.modTx n f).sup = d.sup := rfl
@[simp] theorem Device.thm_modTx (d : Device) (n : Lane) (f : TxLane → TxLane) : (d.modTx n f).thm = d.thm := rfl
@[simp] theorem Device.mon_modTx (d : Device) (n : Lane) (f : TxLane → TxLane) : (d.modTx n f).mon = d.mon := rfl
@[simp] theorem Device.sec_modTx (d : Device) (n : Lane) (f : TxLane → TxLane) : (d.modTx n f).sec = d.sec := rfl
@[simp] theorem Device.flash_modTx (d : Device) (n : Lane) (f : TxLane → TxLane) : (d.modTx n f).flash = d.flash := rfl
@[simp] theorem Device.banks_modTx (d : Device) (n : Lane) (f : TxLane → TxLane) : (d.modTx n f).banks = d.banks := rfl
@[simp] theorem Device.mft_modTx (d : Device) (n : Lane) (f : TxLane → TxLane) : (d.modTx n f).mft = d.mft := rfl
@[simp] theorem Device.lko_modTx (d : Device) (n : Lane) (f : TxLane → TxLane) : (d.modTx n f).lko = d.lko := rfl
@[simp] theorem Device.pmuReq_modTx (d : Device) (n : Lane) (f : TxLane → TxLane) : (d.modTx n f).pmuReq = d.pmuReq := rfl
@[simp] theorem Device.txdisLow_modTx (d : Device) (n : Lane) (f : TxLane → TxLane) : (d.modTx n f).txdisLow = d.txdisLow := rfl
@[simp] theorem Device.pmuPrev_modTx (d : Device) (n : Lane) (f : TxLane → TxLane) : (d.modTx n f).pmuPrev = d.pmuPrev := rfl
@[simp] theorem Device.laneHold_modTx (d : Device) (n : Lane) (f : TxLane → TxLane) : (d.modTx n f).laneHold = d.laneHold := rfl
@[simp] theorem Device.clkWake_modTx (d : Device) (n : Lane) (f : TxLane → TxLane) : (d.modTx n f).clkWake = d.clkWake := rfl
@[simp] theorem Device.reg_modTx (d : Device) (n : Lane) (f : TxLane → TxLane) (c : Nat) : (d.modTx n f).reg c = d.reg c := rfl
@[simp] theorem Device.get_modTx (d : Device) (n : Lane) (f : TxLane → TxLane) (g : Fld) : (d.modTx n f).get g = d.get g := rfl
@[simp] theorem Device.lget_modTx (d : Device) (n : Lane) (f : TxLane → TxLane) (g : Fld) : (d.modTx n f).lget g = d.lget g := rfl
@[simp] theorem Device.byte_modTx (d : Device) (n : Lane) (f : TxLane → TxLane) (c : Nat) : (d.modTx n f).byte c = d.byte c := rfl

/-! ### modHost -/

@[simp] theorem Device.regs_modHost (d : Device) (k : HLane) (f : HostLane → HostLane) : (d.modHost k f).regs = d.regs := rfl
@[simp] theorem Device.live_modHost (d : Device) (k : HLane) (f : HostLane → HostLane) : (d.modHost k f).live = d.live := rfl
@[simp] theorem Device.snap_modHost (d : Device) (k : HLane) (f : HostLane → HostLane) : (d.modHost k f).snap = d.snap := rfl
@[simp] theorem Device.mem_modHost (d : Device) (k : HLane) (f : HostLane → HostLane) : (d.modHost k f).mem = d.mem := rfl
@[simp] theorem Device.errs_modHost (d : Device) (k : HLane) (f : HostLane → HostLane) : (d.modHost k f).errs = d.errs := rfl
@[simp] theorem Device.poisoned_modHost (d : Device) (k : HLane) (f : HostLane → HostLane) : (d.modHost k f).poisoned = d.poisoned := rfl
@[simp] theorem Device.memHist_modHost (d : Device) (k : HLane) (f : HostLane → HostLane) : (d.modHost k f).memHist = d.memHist := rfl
@[simp] theorem Device.writeBack_modHost (d : Device) (k : HLane) (f : HostLane → HostLane) : (d.modHost k f).writeBack = d.writeBack := rfl
@[simp] theorem Device.sparesOut_modHost (d : Device) (k : HLane) (f : HostLane → HostLane) : (d.modHost k f).sparesOut = d.sparesOut := rfl
@[simp] theorem Device.scrubRow_modHost (d : Device) (k : HLane) (f : HostLane → HostLane) : (d.modHost k f).scrubRow = d.scrubRow := rfl
@[simp] theorem Device.scrubFrom_modHost (d : Device) (k : HLane) (f : HostLane → HostLane) : (d.modHost k f).scrubFrom = d.scrubFrom := rfl
@[simp] theorem Device.now_modHost (d : Device) (k : HLane) (f : HostLane → HostLane) : (d.modHost k f).now = d.now := rfl
@[simp] theorem Device.draws_modHost (d : Device) (k : HLane) (f : HostLane → HostLane) : (d.modHost k f).draws = d.draws := rfl
@[simp] theorem Device.rx_modHost (d : Device) (k : HLane) (f : HostLane → HostLane) : (d.modHost k f).rx = d.rx := rfl
@[simp] theorem Device.tx_modHost (d : Device) (k : HLane) (f : HostLane → HostLane) : (d.modHost k f).tx = d.tx := rfl
@[simp] theorem Device.bw_modHost (d : Device) (k : HLane) (f : HostLane → HostLane) : (d.modHost k f).bw = d.bw := rfl
@[simp] theorem Device.egr_modHost (d : Device) (k : HLane) (f : HostLane → HostLane) : (d.modHost k f).egr = d.egr := rfl
@[simp] theorem Device.neg_modHost (d : Device) (k : HLane) (f : HostLane → HostLane) : (d.modHost k f).neg = d.neg := rfl
@[simp] theorem Device.pool_modHost (d : Device) (k : HLane) (f : HostLane → HostLane) : (d.modHost k f).pool = d.pool := rfl
@[simp] theorem Device.out_modHost (d : Device) (k : HLane) (f : HostLane → HostLane) : (d.modHost k f).out = d.out := rfl
@[simp] theorem Device.plt_modHost (d : Device) (k : HLane) (f : HostLane → HostLane) : (d.modHost k f).plt = d.plt := rfl
@[simp] theorem Device.hws_modHost (d : Device) (k : HLane) (f : HostLane → HostLane) : (d.modHost k f).hws = d.hws := rfl
@[simp] theorem Device.fab_modHost (d : Device) (k : HLane) (f : HostLane → HostLane) : (d.modHost k f).fab = d.fab := rfl
@[simp] theorem Device.sup_modHost (d : Device) (k : HLane) (f : HostLane → HostLane) : (d.modHost k f).sup = d.sup := rfl
@[simp] theorem Device.thm_modHost (d : Device) (k : HLane) (f : HostLane → HostLane) : (d.modHost k f).thm = d.thm := rfl
@[simp] theorem Device.mon_modHost (d : Device) (k : HLane) (f : HostLane → HostLane) : (d.modHost k f).mon = d.mon := rfl
@[simp] theorem Device.sec_modHost (d : Device) (k : HLane) (f : HostLane → HostLane) : (d.modHost k f).sec = d.sec := rfl
@[simp] theorem Device.flash_modHost (d : Device) (k : HLane) (f : HostLane → HostLane) : (d.modHost k f).flash = d.flash := rfl
@[simp] theorem Device.banks_modHost (d : Device) (k : HLane) (f : HostLane → HostLane) : (d.modHost k f).banks = d.banks := rfl
@[simp] theorem Device.mft_modHost (d : Device) (k : HLane) (f : HostLane → HostLane) : (d.modHost k f).mft = d.mft := rfl
@[simp] theorem Device.lko_modHost (d : Device) (k : HLane) (f : HostLane → HostLane) : (d.modHost k f).lko = d.lko := rfl
@[simp] theorem Device.pmuReq_modHost (d : Device) (k : HLane) (f : HostLane → HostLane) : (d.modHost k f).pmuReq = d.pmuReq := rfl
@[simp] theorem Device.txdisLow_modHost (d : Device) (k : HLane) (f : HostLane → HostLane) : (d.modHost k f).txdisLow = d.txdisLow := rfl
@[simp] theorem Device.pmuPrev_modHost (d : Device) (k : HLane) (f : HostLane → HostLane) : (d.modHost k f).pmuPrev = d.pmuPrev := rfl
@[simp] theorem Device.laneHold_modHost (d : Device) (k : HLane) (f : HostLane → HostLane) : (d.modHost k f).laneHold = d.laneHold := rfl
@[simp] theorem Device.clkWake_modHost (d : Device) (k : HLane) (f : HostLane → HostLane) : (d.modHost k f).clkWake = d.clkWake := rfl
@[simp] theorem Device.reg_modHost (d : Device) (k : HLane) (f : HostLane → HostLane) (c : Nat) : (d.modHost k f).reg c = d.reg c := rfl
@[simp] theorem Device.get_modHost (d : Device) (k : HLane) (f : HostLane → HostLane) (g : Fld) : (d.modHost k f).get g = d.get g := rfl
@[simp] theorem Device.lget_modHost (d : Device) (k : HLane) (f : HostLane → HostLane) (g : Fld) : (d.modHost k f).lget g = d.lget g := rfl
@[simp] theorem Device.byte_modHost (d : Device) (k : HLane) (f : HostLane → HostLane) (c : Nat) : (d.modHost k f).byte c = d.byte c := rfl

/-! ### modBw -/

@[simp] theorem Device.regs_modBw (d : Device) (n : Lane) (f : BwRx → BwRx) : (d.modBw n f).regs = d.regs := rfl
@[simp] theorem Device.live_modBw (d : Device) (n : Lane) (f : BwRx → BwRx) : (d.modBw n f).live = d.live := rfl
@[simp] theorem Device.snap_modBw (d : Device) (n : Lane) (f : BwRx → BwRx) : (d.modBw n f).snap = d.snap := rfl
@[simp] theorem Device.mem_modBw (d : Device) (n : Lane) (f : BwRx → BwRx) : (d.modBw n f).mem = d.mem := rfl
@[simp] theorem Device.errs_modBw (d : Device) (n : Lane) (f : BwRx → BwRx) : (d.modBw n f).errs = d.errs := rfl
@[simp] theorem Device.poisoned_modBw (d : Device) (n : Lane) (f : BwRx → BwRx) : (d.modBw n f).poisoned = d.poisoned := rfl
@[simp] theorem Device.memHist_modBw (d : Device) (n : Lane) (f : BwRx → BwRx) : (d.modBw n f).memHist = d.memHist := rfl
@[simp] theorem Device.writeBack_modBw (d : Device) (n : Lane) (f : BwRx → BwRx) : (d.modBw n f).writeBack = d.writeBack := rfl
@[simp] theorem Device.sparesOut_modBw (d : Device) (n : Lane) (f : BwRx → BwRx) : (d.modBw n f).sparesOut = d.sparesOut := rfl
@[simp] theorem Device.scrubRow_modBw (d : Device) (n : Lane) (f : BwRx → BwRx) : (d.modBw n f).scrubRow = d.scrubRow := rfl
@[simp] theorem Device.scrubFrom_modBw (d : Device) (n : Lane) (f : BwRx → BwRx) : (d.modBw n f).scrubFrom = d.scrubFrom := rfl
@[simp] theorem Device.now_modBw (d : Device) (n : Lane) (f : BwRx → BwRx) : (d.modBw n f).now = d.now := rfl
@[simp] theorem Device.draws_modBw (d : Device) (n : Lane) (f : BwRx → BwRx) : (d.modBw n f).draws = d.draws := rfl
@[simp] theorem Device.rx_modBw (d : Device) (n : Lane) (f : BwRx → BwRx) : (d.modBw n f).rx = d.rx := rfl
@[simp] theorem Device.tx_modBw (d : Device) (n : Lane) (f : BwRx → BwRx) : (d.modBw n f).tx = d.tx := rfl
@[simp] theorem Device.egr_modBw (d : Device) (n : Lane) (f : BwRx → BwRx) : (d.modBw n f).egr = d.egr := rfl
@[simp] theorem Device.neg_modBw (d : Device) (n : Lane) (f : BwRx → BwRx) : (d.modBw n f).neg = d.neg := rfl
@[simp] theorem Device.pool_modBw (d : Device) (n : Lane) (f : BwRx → BwRx) : (d.modBw n f).pool = d.pool := rfl
@[simp] theorem Device.host_modBw (d : Device) (n : Lane) (f : BwRx → BwRx) : (d.modBw n f).host = d.host := rfl
@[simp] theorem Device.out_modBw (d : Device) (n : Lane) (f : BwRx → BwRx) : (d.modBw n f).out = d.out := rfl
@[simp] theorem Device.plt_modBw (d : Device) (n : Lane) (f : BwRx → BwRx) : (d.modBw n f).plt = d.plt := rfl
@[simp] theorem Device.hws_modBw (d : Device) (n : Lane) (f : BwRx → BwRx) : (d.modBw n f).hws = d.hws := rfl
@[simp] theorem Device.fab_modBw (d : Device) (n : Lane) (f : BwRx → BwRx) : (d.modBw n f).fab = d.fab := rfl
@[simp] theorem Device.sup_modBw (d : Device) (n : Lane) (f : BwRx → BwRx) : (d.modBw n f).sup = d.sup := rfl
@[simp] theorem Device.thm_modBw (d : Device) (n : Lane) (f : BwRx → BwRx) : (d.modBw n f).thm = d.thm := rfl
@[simp] theorem Device.mon_modBw (d : Device) (n : Lane) (f : BwRx → BwRx) : (d.modBw n f).mon = d.mon := rfl
@[simp] theorem Device.sec_modBw (d : Device) (n : Lane) (f : BwRx → BwRx) : (d.modBw n f).sec = d.sec := rfl
@[simp] theorem Device.flash_modBw (d : Device) (n : Lane) (f : BwRx → BwRx) : (d.modBw n f).flash = d.flash := rfl
@[simp] theorem Device.banks_modBw (d : Device) (n : Lane) (f : BwRx → BwRx) : (d.modBw n f).banks = d.banks := rfl
@[simp] theorem Device.mft_modBw (d : Device) (n : Lane) (f : BwRx → BwRx) : (d.modBw n f).mft = d.mft := rfl
@[simp] theorem Device.lko_modBw (d : Device) (n : Lane) (f : BwRx → BwRx) : (d.modBw n f).lko = d.lko := rfl
@[simp] theorem Device.pmuReq_modBw (d : Device) (n : Lane) (f : BwRx → BwRx) : (d.modBw n f).pmuReq = d.pmuReq := rfl
@[simp] theorem Device.txdisLow_modBw (d : Device) (n : Lane) (f : BwRx → BwRx) : (d.modBw n f).txdisLow = d.txdisLow := rfl
@[simp] theorem Device.pmuPrev_modBw (d : Device) (n : Lane) (f : BwRx → BwRx) : (d.modBw n f).pmuPrev = d.pmuPrev := rfl
@[simp] theorem Device.laneHold_modBw (d : Device) (n : Lane) (f : BwRx → BwRx) : (d.modBw n f).laneHold = d.laneHold := rfl
@[simp] theorem Device.clkWake_modBw (d : Device) (n : Lane) (f : BwRx → BwRx) : (d.modBw n f).clkWake = d.clkWake := rfl
@[simp] theorem Device.reg_modBw (d : Device) (n : Lane) (f : BwRx → BwRx) (c : Nat) : (d.modBw n f).reg c = d.reg c := rfl
@[simp] theorem Device.get_modBw (d : Device) (n : Lane) (f : BwRx → BwRx) (g : Fld) : (d.modBw n f).get g = d.get g := rfl
@[simp] theorem Device.lget_modBw (d : Device) (n : Lane) (f : BwRx → BwRx) (g : Fld) : (d.modBw n f).lget g = d.lget g := rfl
@[simp] theorem Device.byte_modBw (d : Device) (n : Lane) (f : BwRx → BwRx) (c : Nat) : (d.modBw n f).byte c = d.byte c := rfl

/-! ### modEng -/

@[simp] theorem Device.regs_modEng (d : Device) (e : Eng) (f : Engine → Engine) : (d.modEng e f).regs = d.regs := rfl
@[simp] theorem Device.live_modEng (d : Device) (e : Eng) (f : Engine → Engine) : (d.modEng e f).live = d.live := rfl
@[simp] theorem Device.snap_modEng (d : Device) (e : Eng) (f : Engine → Engine) : (d.modEng e f).snap = d.snap := rfl
@[simp] theorem Device.mem_modEng (d : Device) (e : Eng) (f : Engine → Engine) : (d.modEng e f).mem = d.mem := rfl
@[simp] theorem Device.errs_modEng (d : Device) (e : Eng) (f : Engine → Engine) : (d.modEng e f).errs = d.errs := rfl
@[simp] theorem Device.poisoned_modEng (d : Device) (e : Eng) (f : Engine → Engine) : (d.modEng e f).poisoned = d.poisoned := rfl
@[simp] theorem Device.memHist_modEng (d : Device) (e : Eng) (f : Engine → Engine) : (d.modEng e f).memHist = d.memHist := rfl
@[simp] theorem Device.writeBack_modEng (d : Device) (e : Eng) (f : Engine → Engine) : (d.modEng e f).writeBack = d.writeBack := rfl
@[simp] theorem Device.sparesOut_modEng (d : Device) (e : Eng) (f : Engine → Engine) : (d.modEng e f).sparesOut = d.sparesOut := rfl
@[simp] theorem Device.scrubRow_modEng (d : Device) (e : Eng) (f : Engine → Engine) : (d.modEng e f).scrubRow = d.scrubRow := rfl
@[simp] theorem Device.scrubFrom_modEng (d : Device) (e : Eng) (f : Engine → Engine) : (d.modEng e f).scrubFrom = d.scrubFrom := rfl
@[simp] theorem Device.now_modEng (d : Device) (e : Eng) (f : Engine → Engine) : (d.modEng e f).now = d.now := rfl
@[simp] theorem Device.draws_modEng (d : Device) (e : Eng) (f : Engine → Engine) : (d.modEng e f).draws = d.draws := rfl
@[simp] theorem Device.rx_modEng (d : Device) (e : Eng) (f : Engine → Engine) : (d.modEng e f).rx = d.rx := rfl
@[simp] theorem Device.tx_modEng (d : Device) (e : Eng) (f : Engine → Engine) : (d.modEng e f).tx = d.tx := rfl
@[simp] theorem Device.bw_modEng (d : Device) (e : Eng) (f : Engine → Engine) : (d.modEng e f).bw = d.bw := rfl
@[simp] theorem Device.egr_modEng (d : Device) (e : Eng) (f : Engine → Engine) : (d.modEng e f).egr = d.egr := rfl
@[simp] theorem Device.neg_modEng (d : Device) (e : Eng) (f : Engine → Engine) : (d.modEng e f).neg = d.neg := rfl
@[simp] theorem Device.host_modEng (d : Device) (e : Eng) (f : Engine → Engine) : (d.modEng e f).host = d.host := rfl
@[simp] theorem Device.out_modEng (d : Device) (e : Eng) (f : Engine → Engine) : (d.modEng e f).out = d.out := rfl
@[simp] theorem Device.plt_modEng (d : Device) (e : Eng) (f : Engine → Engine) : (d.modEng e f).plt = d.plt := rfl
@[simp] theorem Device.hws_modEng (d : Device) (e : Eng) (f : Engine → Engine) : (d.modEng e f).hws = d.hws := rfl
@[simp] theorem Device.fab_modEng (d : Device) (e : Eng) (f : Engine → Engine) : (d.modEng e f).fab = d.fab := rfl
@[simp] theorem Device.sup_modEng (d : Device) (e : Eng) (f : Engine → Engine) : (d.modEng e f).sup = d.sup := rfl
@[simp] theorem Device.thm_modEng (d : Device) (e : Eng) (f : Engine → Engine) : (d.modEng e f).thm = d.thm := rfl
@[simp] theorem Device.mon_modEng (d : Device) (e : Eng) (f : Engine → Engine) : (d.modEng e f).mon = d.mon := rfl
@[simp] theorem Device.sec_modEng (d : Device) (e : Eng) (f : Engine → Engine) : (d.modEng e f).sec = d.sec := rfl
@[simp] theorem Device.flash_modEng (d : Device) (e : Eng) (f : Engine → Engine) : (d.modEng e f).flash = d.flash := rfl
@[simp] theorem Device.banks_modEng (d : Device) (e : Eng) (f : Engine → Engine) : (d.modEng e f).banks = d.banks := rfl
@[simp] theorem Device.mft_modEng (d : Device) (e : Eng) (f : Engine → Engine) : (d.modEng e f).mft = d.mft := rfl
@[simp] theorem Device.lko_modEng (d : Device) (e : Eng) (f : Engine → Engine) : (d.modEng e f).lko = d.lko := rfl
@[simp] theorem Device.pmuReq_modEng (d : Device) (e : Eng) (f : Engine → Engine) : (d.modEng e f).pmuReq = d.pmuReq := rfl
@[simp] theorem Device.txdisLow_modEng (d : Device) (e : Eng) (f : Engine → Engine) : (d.modEng e f).txdisLow = d.txdisLow := rfl
@[simp] theorem Device.pmuPrev_modEng (d : Device) (e : Eng) (f : Engine → Engine) : (d.modEng e f).pmuPrev = d.pmuPrev := rfl
@[simp] theorem Device.laneHold_modEng (d : Device) (e : Eng) (f : Engine → Engine) : (d.modEng e f).laneHold = d.laneHold := rfl
@[simp] theorem Device.clkWake_modEng (d : Device) (e : Eng) (f : Engine → Engine) : (d.modEng e f).clkWake = d.clkWake := rfl
@[simp] theorem Device.reg_modEng (d : Device) (e : Eng) (f : Engine → Engine) (c : Nat) : (d.modEng e f).reg c = d.reg c := rfl
@[simp] theorem Device.get_modEng (d : Device) (e : Eng) (f : Engine → Engine) (g : Fld) : (d.modEng e f).get g = d.get g := rfl
@[simp] theorem Device.lget_modEng (d : Device) (e : Eng) (f : Engine → Engine) (g : Fld) : (d.modEng e f).lget g = d.lget g := rfl
@[simp] theorem Device.byte_modEng (d : Device) (e : Eng) (f : Engine → Engine) (c : Nat) : (d.modEng e f).byte c = d.byte c := rfl

/-! ### modPlt -/

@[simp] theorem Device.regs_modPlt (d : Device) (n : Lane) (f : PltLane → PltLane) : (d.modPlt n f).regs = d.regs := rfl
@[simp] theorem Device.live_modPlt (d : Device) (n : Lane) (f : PltLane → PltLane) : (d.modPlt n f).live = d.live := rfl
@[simp] theorem Device.snap_modPlt (d : Device) (n : Lane) (f : PltLane → PltLane) : (d.modPlt n f).snap = d.snap := rfl
@[simp] theorem Device.mem_modPlt (d : Device) (n : Lane) (f : PltLane → PltLane) : (d.modPlt n f).mem = d.mem := rfl
@[simp] theorem Device.errs_modPlt (d : Device) (n : Lane) (f : PltLane → PltLane) : (d.modPlt n f).errs = d.errs := rfl
@[simp] theorem Device.poisoned_modPlt (d : Device) (n : Lane) (f : PltLane → PltLane) : (d.modPlt n f).poisoned = d.poisoned := rfl
@[simp] theorem Device.memHist_modPlt (d : Device) (n : Lane) (f : PltLane → PltLane) : (d.modPlt n f).memHist = d.memHist := rfl
@[simp] theorem Device.writeBack_modPlt (d : Device) (n : Lane) (f : PltLane → PltLane) : (d.modPlt n f).writeBack = d.writeBack := rfl
@[simp] theorem Device.sparesOut_modPlt (d : Device) (n : Lane) (f : PltLane → PltLane) : (d.modPlt n f).sparesOut = d.sparesOut := rfl
@[simp] theorem Device.scrubRow_modPlt (d : Device) (n : Lane) (f : PltLane → PltLane) : (d.modPlt n f).scrubRow = d.scrubRow := rfl
@[simp] theorem Device.scrubFrom_modPlt (d : Device) (n : Lane) (f : PltLane → PltLane) : (d.modPlt n f).scrubFrom = d.scrubFrom := rfl
@[simp] theorem Device.now_modPlt (d : Device) (n : Lane) (f : PltLane → PltLane) : (d.modPlt n f).now = d.now := rfl
@[simp] theorem Device.draws_modPlt (d : Device) (n : Lane) (f : PltLane → PltLane) : (d.modPlt n f).draws = d.draws := rfl
@[simp] theorem Device.rx_modPlt (d : Device) (n : Lane) (f : PltLane → PltLane) : (d.modPlt n f).rx = d.rx := rfl
@[simp] theorem Device.tx_modPlt (d : Device) (n : Lane) (f : PltLane → PltLane) : (d.modPlt n f).tx = d.tx := rfl
@[simp] theorem Device.bw_modPlt (d : Device) (n : Lane) (f : PltLane → PltLane) : (d.modPlt n f).bw = d.bw := rfl
@[simp] theorem Device.egr_modPlt (d : Device) (n : Lane) (f : PltLane → PltLane) : (d.modPlt n f).egr = d.egr := rfl
@[simp] theorem Device.neg_modPlt (d : Device) (n : Lane) (f : PltLane → PltLane) : (d.modPlt n f).neg = d.neg := rfl
@[simp] theorem Device.pool_modPlt (d : Device) (n : Lane) (f : PltLane → PltLane) : (d.modPlt n f).pool = d.pool := rfl
@[simp] theorem Device.host_modPlt (d : Device) (n : Lane) (f : PltLane → PltLane) : (d.modPlt n f).host = d.host := rfl
@[simp] theorem Device.out_modPlt (d : Device) (n : Lane) (f : PltLane → PltLane) : (d.modPlt n f).out = d.out := rfl
@[simp] theorem Device.hws_modPlt (d : Device) (n : Lane) (f : PltLane → PltLane) : (d.modPlt n f).hws = d.hws := rfl
@[simp] theorem Device.fab_modPlt (d : Device) (n : Lane) (f : PltLane → PltLane) : (d.modPlt n f).fab = d.fab := rfl
@[simp] theorem Device.sup_modPlt (d : Device) (n : Lane) (f : PltLane → PltLane) : (d.modPlt n f).sup = d.sup := rfl
@[simp] theorem Device.thm_modPlt (d : Device) (n : Lane) (f : PltLane → PltLane) : (d.modPlt n f).thm = d.thm := rfl
@[simp] theorem Device.mon_modPlt (d : Device) (n : Lane) (f : PltLane → PltLane) : (d.modPlt n f).mon = d.mon := rfl
@[simp] theorem Device.sec_modPlt (d : Device) (n : Lane) (f : PltLane → PltLane) : (d.modPlt n f).sec = d.sec := rfl
@[simp] theorem Device.flash_modPlt (d : Device) (n : Lane) (f : PltLane → PltLane) : (d.modPlt n f).flash = d.flash := rfl
@[simp] theorem Device.banks_modPlt (d : Device) (n : Lane) (f : PltLane → PltLane) : (d.modPlt n f).banks = d.banks := rfl
@[simp] theorem Device.mft_modPlt (d : Device) (n : Lane) (f : PltLane → PltLane) : (d.modPlt n f).mft = d.mft := rfl
@[simp] theorem Device.lko_modPlt (d : Device) (n : Lane) (f : PltLane → PltLane) : (d.modPlt n f).lko = d.lko := rfl
@[simp] theorem Device.pmuReq_modPlt (d : Device) (n : Lane) (f : PltLane → PltLane) : (d.modPlt n f).pmuReq = d.pmuReq := rfl
@[simp] theorem Device.txdisLow_modPlt (d : Device) (n : Lane) (f : PltLane → PltLane) : (d.modPlt n f).txdisLow = d.txdisLow := rfl
@[simp] theorem Device.pmuPrev_modPlt (d : Device) (n : Lane) (f : PltLane → PltLane) : (d.modPlt n f).pmuPrev = d.pmuPrev := rfl
@[simp] theorem Device.laneHold_modPlt (d : Device) (n : Lane) (f : PltLane → PltLane) : (d.modPlt n f).laneHold = d.laneHold := rfl
@[simp] theorem Device.clkWake_modPlt (d : Device) (n : Lane) (f : PltLane → PltLane) : (d.modPlt n f).clkWake = d.clkWake := rfl
@[simp] theorem Device.reg_modPlt (d : Device) (n : Lane) (f : PltLane → PltLane) (c : Nat) : (d.modPlt n f).reg c = d.reg c := rfl
@[simp] theorem Device.get_modPlt (d : Device) (n : Lane) (f : PltLane → PltLane) (g : Fld) : (d.modPlt n f).get g = d.get g := rfl
@[simp] theorem Device.lget_modPlt (d : Device) (n : Lane) (f : PltLane → PltLane) (g : Fld) : (d.modPlt n f).lget g = d.lget g := rfl
@[simp] theorem Device.byte_modPlt (d : Device) (n : Lane) (f : PltLane → PltLane) (c : Nat) : (d.modPlt n f).byte c = d.byte c := rfl

/-! ### modHws -/

@[simp] theorem Device.regs_modHws (d : Device) (p : Port) (f : HwsPort → HwsPort) : (d.modHws p f).regs = d.regs := rfl
@[simp] theorem Device.live_modHws (d : Device) (p : Port) (f : HwsPort → HwsPort) : (d.modHws p f).live = d.live := rfl
@[simp] theorem Device.snap_modHws (d : Device) (p : Port) (f : HwsPort → HwsPort) : (d.modHws p f).snap = d.snap := rfl
@[simp] theorem Device.mem_modHws (d : Device) (p : Port) (f : HwsPort → HwsPort) : (d.modHws p f).mem = d.mem := rfl
@[simp] theorem Device.errs_modHws (d : Device) (p : Port) (f : HwsPort → HwsPort) : (d.modHws p f).errs = d.errs := rfl
@[simp] theorem Device.poisoned_modHws (d : Device) (p : Port) (f : HwsPort → HwsPort) : (d.modHws p f).poisoned = d.poisoned := rfl
@[simp] theorem Device.memHist_modHws (d : Device) (p : Port) (f : HwsPort → HwsPort) : (d.modHws p f).memHist = d.memHist := rfl
@[simp] theorem Device.writeBack_modHws (d : Device) (p : Port) (f : HwsPort → HwsPort) : (d.modHws p f).writeBack = d.writeBack := rfl
@[simp] theorem Device.sparesOut_modHws (d : Device) (p : Port) (f : HwsPort → HwsPort) : (d.modHws p f).sparesOut = d.sparesOut := rfl
@[simp] theorem Device.scrubRow_modHws (d : Device) (p : Port) (f : HwsPort → HwsPort) : (d.modHws p f).scrubRow = d.scrubRow := rfl
@[simp] theorem Device.scrubFrom_modHws (d : Device) (p : Port) (f : HwsPort → HwsPort) : (d.modHws p f).scrubFrom = d.scrubFrom := rfl
@[simp] theorem Device.now_modHws (d : Device) (p : Port) (f : HwsPort → HwsPort) : (d.modHws p f).now = d.now := rfl
@[simp] theorem Device.draws_modHws (d : Device) (p : Port) (f : HwsPort → HwsPort) : (d.modHws p f).draws = d.draws := rfl
@[simp] theorem Device.rx_modHws (d : Device) (p : Port) (f : HwsPort → HwsPort) : (d.modHws p f).rx = d.rx := rfl
@[simp] theorem Device.tx_modHws (d : Device) (p : Port) (f : HwsPort → HwsPort) : (d.modHws p f).tx = d.tx := rfl
@[simp] theorem Device.bw_modHws (d : Device) (p : Port) (f : HwsPort → HwsPort) : (d.modHws p f).bw = d.bw := rfl
@[simp] theorem Device.egr_modHws (d : Device) (p : Port) (f : HwsPort → HwsPort) : (d.modHws p f).egr = d.egr := rfl
@[simp] theorem Device.neg_modHws (d : Device) (p : Port) (f : HwsPort → HwsPort) : (d.modHws p f).neg = d.neg := rfl
@[simp] theorem Device.pool_modHws (d : Device) (p : Port) (f : HwsPort → HwsPort) : (d.modHws p f).pool = d.pool := rfl
@[simp] theorem Device.host_modHws (d : Device) (p : Port) (f : HwsPort → HwsPort) : (d.modHws p f).host = d.host := rfl
@[simp] theorem Device.out_modHws (d : Device) (p : Port) (f : HwsPort → HwsPort) : (d.modHws p f).out = d.out := rfl
@[simp] theorem Device.plt_modHws (d : Device) (p : Port) (f : HwsPort → HwsPort) : (d.modHws p f).plt = d.plt := rfl
@[simp] theorem Device.fab_modHws (d : Device) (p : Port) (f : HwsPort → HwsPort) : (d.modHws p f).fab = d.fab := rfl
@[simp] theorem Device.sup_modHws (d : Device) (p : Port) (f : HwsPort → HwsPort) : (d.modHws p f).sup = d.sup := rfl
@[simp] theorem Device.thm_modHws (d : Device) (p : Port) (f : HwsPort → HwsPort) : (d.modHws p f).thm = d.thm := rfl
@[simp] theorem Device.mon_modHws (d : Device) (p : Port) (f : HwsPort → HwsPort) : (d.modHws p f).mon = d.mon := rfl
@[simp] theorem Device.sec_modHws (d : Device) (p : Port) (f : HwsPort → HwsPort) : (d.modHws p f).sec = d.sec := rfl
@[simp] theorem Device.flash_modHws (d : Device) (p : Port) (f : HwsPort → HwsPort) : (d.modHws p f).flash = d.flash := rfl
@[simp] theorem Device.banks_modHws (d : Device) (p : Port) (f : HwsPort → HwsPort) : (d.modHws p f).banks = d.banks := rfl
@[simp] theorem Device.mft_modHws (d : Device) (p : Port) (f : HwsPort → HwsPort) : (d.modHws p f).mft = d.mft := rfl
@[simp] theorem Device.lko_modHws (d : Device) (p : Port) (f : HwsPort → HwsPort) : (d.modHws p f).lko = d.lko := rfl
@[simp] theorem Device.pmuReq_modHws (d : Device) (p : Port) (f : HwsPort → HwsPort) : (d.modHws p f).pmuReq = d.pmuReq := rfl
@[simp] theorem Device.txdisLow_modHws (d : Device) (p : Port) (f : HwsPort → HwsPort) : (d.modHws p f).txdisLow = d.txdisLow := rfl
@[simp] theorem Device.pmuPrev_modHws (d : Device) (p : Port) (f : HwsPort → HwsPort) : (d.modHws p f).pmuPrev = d.pmuPrev := rfl
@[simp] theorem Device.laneHold_modHws (d : Device) (p : Port) (f : HwsPort → HwsPort) : (d.modHws p f).laneHold = d.laneHold := rfl
@[simp] theorem Device.clkWake_modHws (d : Device) (p : Port) (f : HwsPort → HwsPort) : (d.modHws p f).clkWake = d.clkWake := rfl
@[simp] theorem Device.reg_modHws (d : Device) (p : Port) (f : HwsPort → HwsPort) (c : Nat) : (d.modHws p f).reg c = d.reg c := rfl
@[simp] theorem Device.get_modHws (d : Device) (p : Port) (f : HwsPort → HwsPort) (g : Fld) : (d.modHws p f).get g = d.get g := rfl
@[simp] theorem Device.lget_modHws (d : Device) (p : Port) (f : HwsPort → HwsPort) (g : Fld) : (d.modHws p f).lget g = d.lget g := rfl
@[simp] theorem Device.byte_modHws (d : Device) (p : Port) (f : HwsPort → HwsPort) (c : Nat) : (d.modHws p f).byte c = d.byte c := rfl

/-! ### modMem -/

@[simp] theorem Device.regs_modMem (d : Device) (f : List Host.Cell → List Host.Cell) : (d.modMem f).regs = d.regs := rfl
@[simp] theorem Device.live_modMem (d : Device) (f : List Host.Cell → List Host.Cell) : (d.modMem f).live = d.live := rfl
@[simp] theorem Device.snap_modMem (d : Device) (f : List Host.Cell → List Host.Cell) : (d.modMem f).snap = d.snap := rfl
@[simp] theorem Device.errs_modMem (d : Device) (f : List Host.Cell → List Host.Cell) : (d.modMem f).errs = d.errs := rfl
@[simp] theorem Device.poisoned_modMem (d : Device) (f : List Host.Cell → List Host.Cell) : (d.modMem f).poisoned = d.poisoned := rfl
@[simp] theorem Device.memHist_modMem (d : Device) (f : List Host.Cell → List Host.Cell) : (d.modMem f).memHist = d.memHist := rfl
@[simp] theorem Device.writeBack_modMem (d : Device) (f : List Host.Cell → List Host.Cell) : (d.modMem f).writeBack = d.writeBack := rfl
@[simp] theorem Device.sparesOut_modMem (d : Device) (f : List Host.Cell → List Host.Cell) : (d.modMem f).sparesOut = d.sparesOut := rfl
@[simp] theorem Device.scrubRow_modMem (d : Device) (f : List Host.Cell → List Host.Cell) : (d.modMem f).scrubRow = d.scrubRow := rfl
@[simp] theorem Device.scrubFrom_modMem (d : Device) (f : List Host.Cell → List Host.Cell) : (d.modMem f).scrubFrom = d.scrubFrom := rfl
@[simp] theorem Device.now_modMem (d : Device) (f : List Host.Cell → List Host.Cell) : (d.modMem f).now = d.now := rfl
@[simp] theorem Device.draws_modMem (d : Device) (f : List Host.Cell → List Host.Cell) : (d.modMem f).draws = d.draws := rfl
@[simp] theorem Device.rx_modMem (d : Device) (f : List Host.Cell → List Host.Cell) : (d.modMem f).rx = d.rx := rfl
@[simp] theorem Device.tx_modMem (d : Device) (f : List Host.Cell → List Host.Cell) : (d.modMem f).tx = d.tx := rfl
@[simp] theorem Device.bw_modMem (d : Device) (f : List Host.Cell → List Host.Cell) : (d.modMem f).bw = d.bw := rfl
@[simp] theorem Device.egr_modMem (d : Device) (f : List Host.Cell → List Host.Cell) : (d.modMem f).egr = d.egr := rfl
@[simp] theorem Device.neg_modMem (d : Device) (f : List Host.Cell → List Host.Cell) : (d.modMem f).neg = d.neg := rfl
@[simp] theorem Device.pool_modMem (d : Device) (f : List Host.Cell → List Host.Cell) : (d.modMem f).pool = d.pool := rfl
@[simp] theorem Device.host_modMem (d : Device) (f : List Host.Cell → List Host.Cell) : (d.modMem f).host = d.host := rfl
@[simp] theorem Device.out_modMem (d : Device) (f : List Host.Cell → List Host.Cell) : (d.modMem f).out = d.out := rfl
@[simp] theorem Device.plt_modMem (d : Device) (f : List Host.Cell → List Host.Cell) : (d.modMem f).plt = d.plt := rfl
@[simp] theorem Device.hws_modMem (d : Device) (f : List Host.Cell → List Host.Cell) : (d.modMem f).hws = d.hws := rfl
@[simp] theorem Device.fab_modMem (d : Device) (f : List Host.Cell → List Host.Cell) : (d.modMem f).fab = d.fab := rfl
@[simp] theorem Device.sup_modMem (d : Device) (f : List Host.Cell → List Host.Cell) : (d.modMem f).sup = d.sup := rfl
@[simp] theorem Device.thm_modMem (d : Device) (f : List Host.Cell → List Host.Cell) : (d.modMem f).thm = d.thm := rfl
@[simp] theorem Device.mon_modMem (d : Device) (f : List Host.Cell → List Host.Cell) : (d.modMem f).mon = d.mon := rfl
@[simp] theorem Device.sec_modMem (d : Device) (f : List Host.Cell → List Host.Cell) : (d.modMem f).sec = d.sec := rfl
@[simp] theorem Device.flash_modMem (d : Device) (f : List Host.Cell → List Host.Cell) : (d.modMem f).flash = d.flash := rfl
@[simp] theorem Device.banks_modMem (d : Device) (f : List Host.Cell → List Host.Cell) : (d.modMem f).banks = d.banks := rfl
@[simp] theorem Device.mft_modMem (d : Device) (f : List Host.Cell → List Host.Cell) : (d.modMem f).mft = d.mft := rfl
@[simp] theorem Device.lko_modMem (d : Device) (f : List Host.Cell → List Host.Cell) : (d.modMem f).lko = d.lko := rfl
@[simp] theorem Device.pmuReq_modMem (d : Device) (f : List Host.Cell → List Host.Cell) : (d.modMem f).pmuReq = d.pmuReq := rfl
@[simp] theorem Device.txdisLow_modMem (d : Device) (f : List Host.Cell → List Host.Cell) : (d.modMem f).txdisLow = d.txdisLow := rfl
@[simp] theorem Device.pmuPrev_modMem (d : Device) (f : List Host.Cell → List Host.Cell) : (d.modMem f).pmuPrev = d.pmuPrev := rfl
@[simp] theorem Device.laneHold_modMem (d : Device) (f : List Host.Cell → List Host.Cell) : (d.modMem f).laneHold = d.laneHold := rfl
@[simp] theorem Device.clkWake_modMem (d : Device) (f : List Host.Cell → List Host.Cell) : (d.modMem f).clkWake = d.clkWake := rfl
@[simp] theorem Device.reg_modMem (d : Device) (f : List Host.Cell → List Host.Cell) (c : Nat) : (d.modMem f).reg c = d.reg c := rfl
@[simp] theorem Device.get_modMem (d : Device) (f : List Host.Cell → List Host.Cell) (g : Fld) : (d.modMem f).get g = d.get g := rfl
@[simp] theorem Device.lget_modMem (d : Device) (f : List Host.Cell → List Host.Cell) (g : Fld) : (d.modMem f).lget g = d.lget g := rfl

/-! ### modErrs -/

@[simp] theorem Device.regs_modErrs (d : Device) (f : List (Nat × List Nat) → List (Nat × List Nat)) : (d.modErrs f).regs = d.regs := rfl
@[simp] theorem Device.live_modErrs (d : Device) (f : List (Nat × List Nat) → List (Nat × List Nat)) : (d.modErrs f).live = d.live := rfl
@[simp] theorem Device.snap_modErrs (d : Device) (f : List (Nat × List Nat) → List (Nat × List Nat)) : (d.modErrs f).snap = d.snap := rfl
@[simp] theorem Device.mem_modErrs (d : Device) (f : List (Nat × List Nat) → List (Nat × List Nat)) : (d.modErrs f).mem = d.mem := rfl
@[simp] theorem Device.poisoned_modErrs (d : Device) (f : List (Nat × List Nat) → List (Nat × List Nat)) : (d.modErrs f).poisoned = d.poisoned := rfl
@[simp] theorem Device.memHist_modErrs (d : Device) (f : List (Nat × List Nat) → List (Nat × List Nat)) : (d.modErrs f).memHist = d.memHist := rfl
@[simp] theorem Device.writeBack_modErrs (d : Device) (f : List (Nat × List Nat) → List (Nat × List Nat)) : (d.modErrs f).writeBack = d.writeBack := rfl
@[simp] theorem Device.sparesOut_modErrs (d : Device) (f : List (Nat × List Nat) → List (Nat × List Nat)) : (d.modErrs f).sparesOut = d.sparesOut := rfl
@[simp] theorem Device.scrubRow_modErrs (d : Device) (f : List (Nat × List Nat) → List (Nat × List Nat)) : (d.modErrs f).scrubRow = d.scrubRow := rfl
@[simp] theorem Device.scrubFrom_modErrs (d : Device) (f : List (Nat × List Nat) → List (Nat × List Nat)) : (d.modErrs f).scrubFrom = d.scrubFrom := rfl
@[simp] theorem Device.now_modErrs (d : Device) (f : List (Nat × List Nat) → List (Nat × List Nat)) : (d.modErrs f).now = d.now := rfl
@[simp] theorem Device.draws_modErrs (d : Device) (f : List (Nat × List Nat) → List (Nat × List Nat)) : (d.modErrs f).draws = d.draws := rfl
@[simp] theorem Device.rx_modErrs (d : Device) (f : List (Nat × List Nat) → List (Nat × List Nat)) : (d.modErrs f).rx = d.rx := rfl
@[simp] theorem Device.tx_modErrs (d : Device) (f : List (Nat × List Nat) → List (Nat × List Nat)) : (d.modErrs f).tx = d.tx := rfl
@[simp] theorem Device.bw_modErrs (d : Device) (f : List (Nat × List Nat) → List (Nat × List Nat)) : (d.modErrs f).bw = d.bw := rfl
@[simp] theorem Device.egr_modErrs (d : Device) (f : List (Nat × List Nat) → List (Nat × List Nat)) : (d.modErrs f).egr = d.egr := rfl
@[simp] theorem Device.neg_modErrs (d : Device) (f : List (Nat × List Nat) → List (Nat × List Nat)) : (d.modErrs f).neg = d.neg := rfl
@[simp] theorem Device.pool_modErrs (d : Device) (f : List (Nat × List Nat) → List (Nat × List Nat)) : (d.modErrs f).pool = d.pool := rfl
@[simp] theorem Device.host_modErrs (d : Device) (f : List (Nat × List Nat) → List (Nat × List Nat)) : (d.modErrs f).host = d.host := rfl
@[simp] theorem Device.out_modErrs (d : Device) (f : List (Nat × List Nat) → List (Nat × List Nat)) : (d.modErrs f).out = d.out := rfl
@[simp] theorem Device.plt_modErrs (d : Device) (f : List (Nat × List Nat) → List (Nat × List Nat)) : (d.modErrs f).plt = d.plt := rfl
@[simp] theorem Device.hws_modErrs (d : Device) (f : List (Nat × List Nat) → List (Nat × List Nat)) : (d.modErrs f).hws = d.hws := rfl
@[simp] theorem Device.fab_modErrs (d : Device) (f : List (Nat × List Nat) → List (Nat × List Nat)) : (d.modErrs f).fab = d.fab := rfl
@[simp] theorem Device.sup_modErrs (d : Device) (f : List (Nat × List Nat) → List (Nat × List Nat)) : (d.modErrs f).sup = d.sup := rfl
@[simp] theorem Device.thm_modErrs (d : Device) (f : List (Nat × List Nat) → List (Nat × List Nat)) : (d.modErrs f).thm = d.thm := rfl
@[simp] theorem Device.mon_modErrs (d : Device) (f : List (Nat × List Nat) → List (Nat × List Nat)) : (d.modErrs f).mon = d.mon := rfl
@[simp] theorem Device.sec_modErrs (d : Device) (f : List (Nat × List Nat) → List (Nat × List Nat)) : (d.modErrs f).sec = d.sec := rfl
@[simp] theorem Device.flash_modErrs (d : Device) (f : List (Nat × List Nat) → List (Nat × List Nat)) : (d.modErrs f).flash = d.flash := rfl
@[simp] theorem Device.banks_modErrs (d : Device) (f : List (Nat × List Nat) → List (Nat × List Nat)) : (d.modErrs f).banks = d.banks := rfl
@[simp] theorem Device.mft_modErrs (d : Device) (f : List (Nat × List Nat) → List (Nat × List Nat)) : (d.modErrs f).mft = d.mft := rfl
@[simp] theorem Device.lko_modErrs (d : Device) (f : List (Nat × List Nat) → List (Nat × List Nat)) : (d.modErrs f).lko = d.lko := rfl
@[simp] theorem Device.pmuReq_modErrs (d : Device) (f : List (Nat × List Nat) → List (Nat × List Nat)) : (d.modErrs f).pmuReq = d.pmuReq := rfl
@[simp] theorem Device.txdisLow_modErrs (d : Device) (f : List (Nat × List Nat) → List (Nat × List Nat)) : (d.modErrs f).txdisLow = d.txdisLow := rfl
@[simp] theorem Device.pmuPrev_modErrs (d : Device) (f : List (Nat × List Nat) → List (Nat × List Nat)) : (d.modErrs f).pmuPrev = d.pmuPrev := rfl
@[simp] theorem Device.laneHold_modErrs (d : Device) (f : List (Nat × List Nat) → List (Nat × List Nat)) : (d.modErrs f).laneHold = d.laneHold := rfl
@[simp] theorem Device.clkWake_modErrs (d : Device) (f : List (Nat × List Nat) → List (Nat × List Nat)) : (d.modErrs f).clkWake = d.clkWake := rfl
@[simp] theorem Device.reg_modErrs (d : Device) (f : List (Nat × List Nat) → List (Nat × List Nat)) (c : Nat) : (d.modErrs f).reg c = d.reg c := rfl
@[simp] theorem Device.get_modErrs (d : Device) (f : List (Nat × List Nat) → List (Nat × List Nat)) (g : Fld) : (d.modErrs f).get g = d.get g := rfl
@[simp] theorem Device.lget_modErrs (d : Device) (f : List (Nat × List Nat) → List (Nat × List Nat)) (g : Fld) : (d.modErrs f).lget g = d.lget g := rfl
@[simp] theorem Device.byte_modErrs (d : Device) (f : List (Nat × List Nat) → List (Nat × List Nat)) (c : Nat) : (d.modErrs f).byte c = d.byte c := rfl

/-! ### modPoisoned -/

@[simp] theorem Device.regs_modPoisoned (d : Device) (f : List Nat → List Nat) : (d.modPoisoned f).regs = d.regs := rfl
@[simp] theorem Device.live_modPoisoned (d : Device) (f : List Nat → List Nat) : (d.modPoisoned f).live = d.live := rfl
@[simp] theorem Device.snap_modPoisoned (d : Device) (f : List Nat → List Nat) : (d.modPoisoned f).snap = d.snap := rfl
@[simp] theorem Device.mem_modPoisoned (d : Device) (f : List Nat → List Nat) : (d.modPoisoned f).mem = d.mem := rfl
@[simp] theorem Device.errs_modPoisoned (d : Device) (f : List Nat → List Nat) : (d.modPoisoned f).errs = d.errs := rfl
@[simp] theorem Device.memHist_modPoisoned (d : Device) (f : List Nat → List Nat) : (d.modPoisoned f).memHist = d.memHist := rfl
@[simp] theorem Device.writeBack_modPoisoned (d : Device) (f : List Nat → List Nat) : (d.modPoisoned f).writeBack = d.writeBack := rfl
@[simp] theorem Device.sparesOut_modPoisoned (d : Device) (f : List Nat → List Nat) : (d.modPoisoned f).sparesOut = d.sparesOut := rfl
@[simp] theorem Device.scrubRow_modPoisoned (d : Device) (f : List Nat → List Nat) : (d.modPoisoned f).scrubRow = d.scrubRow := rfl
@[simp] theorem Device.scrubFrom_modPoisoned (d : Device) (f : List Nat → List Nat) : (d.modPoisoned f).scrubFrom = d.scrubFrom := rfl
@[simp] theorem Device.now_modPoisoned (d : Device) (f : List Nat → List Nat) : (d.modPoisoned f).now = d.now := rfl
@[simp] theorem Device.draws_modPoisoned (d : Device) (f : List Nat → List Nat) : (d.modPoisoned f).draws = d.draws := rfl
@[simp] theorem Device.rx_modPoisoned (d : Device) (f : List Nat → List Nat) : (d.modPoisoned f).rx = d.rx := rfl
@[simp] theorem Device.tx_modPoisoned (d : Device) (f : List Nat → List Nat) : (d.modPoisoned f).tx = d.tx := rfl
@[simp] theorem Device.bw_modPoisoned (d : Device) (f : List Nat → List Nat) : (d.modPoisoned f).bw = d.bw := rfl
@[simp] theorem Device.egr_modPoisoned (d : Device) (f : List Nat → List Nat) : (d.modPoisoned f).egr = d.egr := rfl
@[simp] theorem Device.neg_modPoisoned (d : Device) (f : List Nat → List Nat) : (d.modPoisoned f).neg = d.neg := rfl
@[simp] theorem Device.pool_modPoisoned (d : Device) (f : List Nat → List Nat) : (d.modPoisoned f).pool = d.pool := rfl
@[simp] theorem Device.host_modPoisoned (d : Device) (f : List Nat → List Nat) : (d.modPoisoned f).host = d.host := rfl
@[simp] theorem Device.out_modPoisoned (d : Device) (f : List Nat → List Nat) : (d.modPoisoned f).out = d.out := rfl
@[simp] theorem Device.plt_modPoisoned (d : Device) (f : List Nat → List Nat) : (d.modPoisoned f).plt = d.plt := rfl
@[simp] theorem Device.hws_modPoisoned (d : Device) (f : List Nat → List Nat) : (d.modPoisoned f).hws = d.hws := rfl
@[simp] theorem Device.fab_modPoisoned (d : Device) (f : List Nat → List Nat) : (d.modPoisoned f).fab = d.fab := rfl
@[simp] theorem Device.sup_modPoisoned (d : Device) (f : List Nat → List Nat) : (d.modPoisoned f).sup = d.sup := rfl
@[simp] theorem Device.thm_modPoisoned (d : Device) (f : List Nat → List Nat) : (d.modPoisoned f).thm = d.thm := rfl
@[simp] theorem Device.mon_modPoisoned (d : Device) (f : List Nat → List Nat) : (d.modPoisoned f).mon = d.mon := rfl
@[simp] theorem Device.sec_modPoisoned (d : Device) (f : List Nat → List Nat) : (d.modPoisoned f).sec = d.sec := rfl
@[simp] theorem Device.flash_modPoisoned (d : Device) (f : List Nat → List Nat) : (d.modPoisoned f).flash = d.flash := rfl
@[simp] theorem Device.banks_modPoisoned (d : Device) (f : List Nat → List Nat) : (d.modPoisoned f).banks = d.banks := rfl
@[simp] theorem Device.mft_modPoisoned (d : Device) (f : List Nat → List Nat) : (d.modPoisoned f).mft = d.mft := rfl
@[simp] theorem Device.lko_modPoisoned (d : Device) (f : List Nat → List Nat) : (d.modPoisoned f).lko = d.lko := rfl
@[simp] theorem Device.pmuReq_modPoisoned (d : Device) (f : List Nat → List Nat) : (d.modPoisoned f).pmuReq = d.pmuReq := rfl
@[simp] theorem Device.txdisLow_modPoisoned (d : Device) (f : List Nat → List Nat) : (d.modPoisoned f).txdisLow = d.txdisLow := rfl
@[simp] theorem Device.pmuPrev_modPoisoned (d : Device) (f : List Nat → List Nat) : (d.modPoisoned f).pmuPrev = d.pmuPrev := rfl
@[simp] theorem Device.laneHold_modPoisoned (d : Device) (f : List Nat → List Nat) : (d.modPoisoned f).laneHold = d.laneHold := rfl
@[simp] theorem Device.clkWake_modPoisoned (d : Device) (f : List Nat → List Nat) : (d.modPoisoned f).clkWake = d.clkWake := rfl
@[simp] theorem Device.reg_modPoisoned (d : Device) (f : List Nat → List Nat) (c : Nat) : (d.modPoisoned f).reg c = d.reg c := rfl
@[simp] theorem Device.get_modPoisoned (d : Device) (f : List Nat → List Nat) (g : Fld) : (d.modPoisoned f).get g = d.get g := rfl
@[simp] theorem Device.lget_modPoisoned (d : Device) (f : List Nat → List Nat) (g : Fld) : (d.modPoisoned f).lget g = d.lget g := rfl
@[simp] theorem Device.byte_modPoisoned (d : Device) (f : List Nat → List Nat) (c : Nat) : (d.modPoisoned f).byte c = d.byte c := rfl

/-! ### modMemHist -/

@[simp] theorem Device.regs_modMemHist (d : Device) (f : List MemHist → List MemHist) : (d.modMemHist f).regs = d.regs := rfl
@[simp] theorem Device.live_modMemHist (d : Device) (f : List MemHist → List MemHist) : (d.modMemHist f).live = d.live := rfl
@[simp] theorem Device.snap_modMemHist (d : Device) (f : List MemHist → List MemHist) : (d.modMemHist f).snap = d.snap := rfl
@[simp] theorem Device.mem_modMemHist (d : Device) (f : List MemHist → List MemHist) : (d.modMemHist f).mem = d.mem := rfl
@[simp] theorem Device.errs_modMemHist (d : Device) (f : List MemHist → List MemHist) : (d.modMemHist f).errs = d.errs := rfl
@[simp] theorem Device.poisoned_modMemHist (d : Device) (f : List MemHist → List MemHist) : (d.modMemHist f).poisoned = d.poisoned := rfl
@[simp] theorem Device.writeBack_modMemHist (d : Device) (f : List MemHist → List MemHist) : (d.modMemHist f).writeBack = d.writeBack := rfl
@[simp] theorem Device.sparesOut_modMemHist (d : Device) (f : List MemHist → List MemHist) : (d.modMemHist f).sparesOut = d.sparesOut := rfl
@[simp] theorem Device.scrubRow_modMemHist (d : Device) (f : List MemHist → List MemHist) : (d.modMemHist f).scrubRow = d.scrubRow := rfl
@[simp] theorem Device.scrubFrom_modMemHist (d : Device) (f : List MemHist → List MemHist) : (d.modMemHist f).scrubFrom = d.scrubFrom := rfl
@[simp] theorem Device.now_modMemHist (d : Device) (f : List MemHist → List MemHist) : (d.modMemHist f).now = d.now := rfl
@[simp] theorem Device.draws_modMemHist (d : Device) (f : List MemHist → List MemHist) : (d.modMemHist f).draws = d.draws := rfl
@[simp] theorem Device.rx_modMemHist (d : Device) (f : List MemHist → List MemHist) : (d.modMemHist f).rx = d.rx := rfl
@[simp] theorem Device.tx_modMemHist (d : Device) (f : List MemHist → List MemHist) : (d.modMemHist f).tx = d.tx := rfl
@[simp] theorem Device.bw_modMemHist (d : Device) (f : List MemHist → List MemHist) : (d.modMemHist f).bw = d.bw := rfl
@[simp] theorem Device.egr_modMemHist (d : Device) (f : List MemHist → List MemHist) : (d.modMemHist f).egr = d.egr := rfl
@[simp] theorem Device.neg_modMemHist (d : Device) (f : List MemHist → List MemHist) : (d.modMemHist f).neg = d.neg := rfl
@[simp] theorem Device.pool_modMemHist (d : Device) (f : List MemHist → List MemHist) : (d.modMemHist f).pool = d.pool := rfl
@[simp] theorem Device.host_modMemHist (d : Device) (f : List MemHist → List MemHist) : (d.modMemHist f).host = d.host := rfl
@[simp] theorem Device.out_modMemHist (d : Device) (f : List MemHist → List MemHist) : (d.modMemHist f).out = d.out := rfl
@[simp] theorem Device.plt_modMemHist (d : Device) (f : List MemHist → List MemHist) : (d.modMemHist f).plt = d.plt := rfl
@[simp] theorem Device.hws_modMemHist (d : Device) (f : List MemHist → List MemHist) : (d.modMemHist f).hws = d.hws := rfl
@[simp] theorem Device.fab_modMemHist (d : Device) (f : List MemHist → List MemHist) : (d.modMemHist f).fab = d.fab := rfl
@[simp] theorem Device.sup_modMemHist (d : Device) (f : List MemHist → List MemHist) : (d.modMemHist f).sup = d.sup := rfl
@[simp] theorem Device.thm_modMemHist (d : Device) (f : List MemHist → List MemHist) : (d.modMemHist f).thm = d.thm := rfl
@[simp] theorem Device.mon_modMemHist (d : Device) (f : List MemHist → List MemHist) : (d.modMemHist f).mon = d.mon := rfl
@[simp] theorem Device.sec_modMemHist (d : Device) (f : List MemHist → List MemHist) : (d.modMemHist f).sec = d.sec := rfl
@[simp] theorem Device.flash_modMemHist (d : Device) (f : List MemHist → List MemHist) : (d.modMemHist f).flash = d.flash := rfl
@[simp] theorem Device.banks_modMemHist (d : Device) (f : List MemHist → List MemHist) : (d.modMemHist f).banks = d.banks := rfl
@[simp] theorem Device.mft_modMemHist (d : Device) (f : List MemHist → List MemHist) : (d.modMemHist f).mft = d.mft := rfl
@[simp] theorem Device.lko_modMemHist (d : Device) (f : List MemHist → List MemHist) : (d.modMemHist f).lko = d.lko := rfl
@[simp] theorem Device.pmuReq_modMemHist (d : Device) (f : List MemHist → List MemHist) : (d.modMemHist f).pmuReq = d.pmuReq := rfl
@[simp] theorem Device.txdisLow_modMemHist (d : Device) (f : List MemHist → List MemHist) : (d.modMemHist f).txdisLow = d.txdisLow := rfl
@[simp] theorem Device.pmuPrev_modMemHist (d : Device) (f : List MemHist → List MemHist) : (d.modMemHist f).pmuPrev = d.pmuPrev := rfl
@[simp] theorem Device.laneHold_modMemHist (d : Device) (f : List MemHist → List MemHist) : (d.modMemHist f).laneHold = d.laneHold := rfl
@[simp] theorem Device.clkWake_modMemHist (d : Device) (f : List MemHist → List MemHist) : (d.modMemHist f).clkWake = d.clkWake := rfl
@[simp] theorem Device.reg_modMemHist (d : Device) (f : List MemHist → List MemHist) (c : Nat) : (d.modMemHist f).reg c = d.reg c := rfl
@[simp] theorem Device.get_modMemHist (d : Device) (f : List MemHist → List MemHist) (g : Fld) : (d.modMemHist f).get g = d.get g := rfl
@[simp] theorem Device.lget_modMemHist (d : Device) (f : List MemHist → List MemHist) (g : Fld) : (d.modMemHist f).lget g = d.lget g := rfl
@[simp] theorem Device.byte_modMemHist (d : Device) (f : List MemHist → List MemHist) (c : Nat) : (d.modMemHist f).byte c = d.byte c := rfl

/-! ### modWriteBack -/

@[simp] theorem Device.regs_modWriteBack (d : Device) (f : List Nat → List Nat) : (d.modWriteBack f).regs = d.regs := rfl
@[simp] theorem Device.live_modWriteBack (d : Device) (f : List Nat → List Nat) : (d.modWriteBack f).live = d.live := rfl
@[simp] theorem Device.snap_modWriteBack (d : Device) (f : List Nat → List Nat) : (d.modWriteBack f).snap = d.snap := rfl
@[simp] theorem Device.mem_modWriteBack (d : Device) (f : List Nat → List Nat) : (d.modWriteBack f).mem = d.mem := rfl
@[simp] theorem Device.errs_modWriteBack (d : Device) (f : List Nat → List Nat) : (d.modWriteBack f).errs = d.errs := rfl
@[simp] theorem Device.poisoned_modWriteBack (d : Device) (f : List Nat → List Nat) : (d.modWriteBack f).poisoned = d.poisoned := rfl
@[simp] theorem Device.memHist_modWriteBack (d : Device) (f : List Nat → List Nat) : (d.modWriteBack f).memHist = d.memHist := rfl
@[simp] theorem Device.sparesOut_modWriteBack (d : Device) (f : List Nat → List Nat) : (d.modWriteBack f).sparesOut = d.sparesOut := rfl
@[simp] theorem Device.scrubRow_modWriteBack (d : Device) (f : List Nat → List Nat) : (d.modWriteBack f).scrubRow = d.scrubRow := rfl
@[simp] theorem Device.scrubFrom_modWriteBack (d : Device) (f : List Nat → List Nat) : (d.modWriteBack f).scrubFrom = d.scrubFrom := rfl
@[simp] theorem Device.now_modWriteBack (d : Device) (f : List Nat → List Nat) : (d.modWriteBack f).now = d.now := rfl
@[simp] theorem Device.draws_modWriteBack (d : Device) (f : List Nat → List Nat) : (d.modWriteBack f).draws = d.draws := rfl
@[simp] theorem Device.rx_modWriteBack (d : Device) (f : List Nat → List Nat) : (d.modWriteBack f).rx = d.rx := rfl
@[simp] theorem Device.tx_modWriteBack (d : Device) (f : List Nat → List Nat) : (d.modWriteBack f).tx = d.tx := rfl
@[simp] theorem Device.bw_modWriteBack (d : Device) (f : List Nat → List Nat) : (d.modWriteBack f).bw = d.bw := rfl
@[simp] theorem Device.egr_modWriteBack (d : Device) (f : List Nat → List Nat) : (d.modWriteBack f).egr = d.egr := rfl
@[simp] theorem Device.neg_modWriteBack (d : Device) (f : List Nat → List Nat) : (d.modWriteBack f).neg = d.neg := rfl
@[simp] theorem Device.pool_modWriteBack (d : Device) (f : List Nat → List Nat) : (d.modWriteBack f).pool = d.pool := rfl
@[simp] theorem Device.host_modWriteBack (d : Device) (f : List Nat → List Nat) : (d.modWriteBack f).host = d.host := rfl
@[simp] theorem Device.out_modWriteBack (d : Device) (f : List Nat → List Nat) : (d.modWriteBack f).out = d.out := rfl
@[simp] theorem Device.plt_modWriteBack (d : Device) (f : List Nat → List Nat) : (d.modWriteBack f).plt = d.plt := rfl
@[simp] theorem Device.hws_modWriteBack (d : Device) (f : List Nat → List Nat) : (d.modWriteBack f).hws = d.hws := rfl
@[simp] theorem Device.fab_modWriteBack (d : Device) (f : List Nat → List Nat) : (d.modWriteBack f).fab = d.fab := rfl
@[simp] theorem Device.sup_modWriteBack (d : Device) (f : List Nat → List Nat) : (d.modWriteBack f).sup = d.sup := rfl
@[simp] theorem Device.thm_modWriteBack (d : Device) (f : List Nat → List Nat) : (d.modWriteBack f).thm = d.thm := rfl
@[simp] theorem Device.mon_modWriteBack (d : Device) (f : List Nat → List Nat) : (d.modWriteBack f).mon = d.mon := rfl
@[simp] theorem Device.sec_modWriteBack (d : Device) (f : List Nat → List Nat) : (d.modWriteBack f).sec = d.sec := rfl
@[simp] theorem Device.flash_modWriteBack (d : Device) (f : List Nat → List Nat) : (d.modWriteBack f).flash = d.flash := rfl
@[simp] theorem Device.banks_modWriteBack (d : Device) (f : List Nat → List Nat) : (d.modWriteBack f).banks = d.banks := rfl
@[simp] theorem Device.mft_modWriteBack (d : Device) (f : List Nat → List Nat) : (d.modWriteBack f).mft = d.mft := rfl
@[simp] theorem Device.lko_modWriteBack (d : Device) (f : List Nat → List Nat) : (d.modWriteBack f).lko = d.lko := rfl
@[simp] theorem Device.pmuReq_modWriteBack (d : Device) (f : List Nat → List Nat) : (d.modWriteBack f).pmuReq = d.pmuReq := rfl
@[simp] theorem Device.txdisLow_modWriteBack (d : Device) (f : List Nat → List Nat) : (d.modWriteBack f).txdisLow = d.txdisLow := rfl
@[simp] theorem Device.pmuPrev_modWriteBack (d : Device) (f : List Nat → List Nat) : (d.modWriteBack f).pmuPrev = d.pmuPrev := rfl
@[simp] theorem Device.laneHold_modWriteBack (d : Device) (f : List Nat → List Nat) : (d.modWriteBack f).laneHold = d.laneHold := rfl
@[simp] theorem Device.clkWake_modWriteBack (d : Device) (f : List Nat → List Nat) : (d.modWriteBack f).clkWake = d.clkWake := rfl
@[simp] theorem Device.reg_modWriteBack (d : Device) (f : List Nat → List Nat) (c : Nat) : (d.modWriteBack f).reg c = d.reg c := rfl
@[simp] theorem Device.get_modWriteBack (d : Device) (f : List Nat → List Nat) (g : Fld) : (d.modWriteBack f).get g = d.get g := rfl
@[simp] theorem Device.lget_modWriteBack (d : Device) (f : List Nat → List Nat) (g : Fld) : (d.modWriteBack f).lget g = d.lget g := rfl
@[simp] theorem Device.byte_modWriteBack (d : Device) (f : List Nat → List Nat) (c : Nat) : (d.modWriteBack f).byte c = d.byte c := rfl

/-! ### modSparesOut -/

@[simp] theorem Device.regs_modSparesOut (d : Device) (f : List Nat → List Nat) : (d.modSparesOut f).regs = d.regs := rfl
@[simp] theorem Device.live_modSparesOut (d : Device) (f : List Nat → List Nat) : (d.modSparesOut f).live = d.live := rfl
@[simp] theorem Device.snap_modSparesOut (d : Device) (f : List Nat → List Nat) : (d.modSparesOut f).snap = d.snap := rfl
@[simp] theorem Device.mem_modSparesOut (d : Device) (f : List Nat → List Nat) : (d.modSparesOut f).mem = d.mem := rfl
@[simp] theorem Device.errs_modSparesOut (d : Device) (f : List Nat → List Nat) : (d.modSparesOut f).errs = d.errs := rfl
@[simp] theorem Device.poisoned_modSparesOut (d : Device) (f : List Nat → List Nat) : (d.modSparesOut f).poisoned = d.poisoned := rfl
@[simp] theorem Device.memHist_modSparesOut (d : Device) (f : List Nat → List Nat) : (d.modSparesOut f).memHist = d.memHist := rfl
@[simp] theorem Device.writeBack_modSparesOut (d : Device) (f : List Nat → List Nat) : (d.modSparesOut f).writeBack = d.writeBack := rfl
@[simp] theorem Device.scrubRow_modSparesOut (d : Device) (f : List Nat → List Nat) : (d.modSparesOut f).scrubRow = d.scrubRow := rfl
@[simp] theorem Device.scrubFrom_modSparesOut (d : Device) (f : List Nat → List Nat) : (d.modSparesOut f).scrubFrom = d.scrubFrom := rfl
@[simp] theorem Device.now_modSparesOut (d : Device) (f : List Nat → List Nat) : (d.modSparesOut f).now = d.now := rfl
@[simp] theorem Device.draws_modSparesOut (d : Device) (f : List Nat → List Nat) : (d.modSparesOut f).draws = d.draws := rfl
@[simp] theorem Device.rx_modSparesOut (d : Device) (f : List Nat → List Nat) : (d.modSparesOut f).rx = d.rx := rfl
@[simp] theorem Device.tx_modSparesOut (d : Device) (f : List Nat → List Nat) : (d.modSparesOut f).tx = d.tx := rfl
@[simp] theorem Device.bw_modSparesOut (d : Device) (f : List Nat → List Nat) : (d.modSparesOut f).bw = d.bw := rfl
@[simp] theorem Device.egr_modSparesOut (d : Device) (f : List Nat → List Nat) : (d.modSparesOut f).egr = d.egr := rfl
@[simp] theorem Device.neg_modSparesOut (d : Device) (f : List Nat → List Nat) : (d.modSparesOut f).neg = d.neg := rfl
@[simp] theorem Device.pool_modSparesOut (d : Device) (f : List Nat → List Nat) : (d.modSparesOut f).pool = d.pool := rfl
@[simp] theorem Device.host_modSparesOut (d : Device) (f : List Nat → List Nat) : (d.modSparesOut f).host = d.host := rfl
@[simp] theorem Device.out_modSparesOut (d : Device) (f : List Nat → List Nat) : (d.modSparesOut f).out = d.out := rfl
@[simp] theorem Device.plt_modSparesOut (d : Device) (f : List Nat → List Nat) : (d.modSparesOut f).plt = d.plt := rfl
@[simp] theorem Device.hws_modSparesOut (d : Device) (f : List Nat → List Nat) : (d.modSparesOut f).hws = d.hws := rfl
@[simp] theorem Device.fab_modSparesOut (d : Device) (f : List Nat → List Nat) : (d.modSparesOut f).fab = d.fab := rfl
@[simp] theorem Device.sup_modSparesOut (d : Device) (f : List Nat → List Nat) : (d.modSparesOut f).sup = d.sup := rfl
@[simp] theorem Device.thm_modSparesOut (d : Device) (f : List Nat → List Nat) : (d.modSparesOut f).thm = d.thm := rfl
@[simp] theorem Device.mon_modSparesOut (d : Device) (f : List Nat → List Nat) : (d.modSparesOut f).mon = d.mon := rfl
@[simp] theorem Device.sec_modSparesOut (d : Device) (f : List Nat → List Nat) : (d.modSparesOut f).sec = d.sec := rfl
@[simp] theorem Device.flash_modSparesOut (d : Device) (f : List Nat → List Nat) : (d.modSparesOut f).flash = d.flash := rfl
@[simp] theorem Device.banks_modSparesOut (d : Device) (f : List Nat → List Nat) : (d.modSparesOut f).banks = d.banks := rfl
@[simp] theorem Device.mft_modSparesOut (d : Device) (f : List Nat → List Nat) : (d.modSparesOut f).mft = d.mft := rfl
@[simp] theorem Device.lko_modSparesOut (d : Device) (f : List Nat → List Nat) : (d.modSparesOut f).lko = d.lko := rfl
@[simp] theorem Device.pmuReq_modSparesOut (d : Device) (f : List Nat → List Nat) : (d.modSparesOut f).pmuReq = d.pmuReq := rfl
@[simp] theorem Device.txdisLow_modSparesOut (d : Device) (f : List Nat → List Nat) : (d.modSparesOut f).txdisLow = d.txdisLow := rfl
@[simp] theorem Device.pmuPrev_modSparesOut (d : Device) (f : List Nat → List Nat) : (d.modSparesOut f).pmuPrev = d.pmuPrev := rfl
@[simp] theorem Device.laneHold_modSparesOut (d : Device) (f : List Nat → List Nat) : (d.modSparesOut f).laneHold = d.laneHold := rfl
@[simp] theorem Device.clkWake_modSparesOut (d : Device) (f : List Nat → List Nat) : (d.modSparesOut f).clkWake = d.clkWake := rfl
@[simp] theorem Device.reg_modSparesOut (d : Device) (f : List Nat → List Nat) (c : Nat) : (d.modSparesOut f).reg c = d.reg c := rfl
@[simp] theorem Device.get_modSparesOut (d : Device) (f : List Nat → List Nat) (g : Fld) : (d.modSparesOut f).get g = d.get g := rfl
@[simp] theorem Device.lget_modSparesOut (d : Device) (f : List Nat → List Nat) (g : Fld) : (d.modSparesOut f).lget g = d.lget g := rfl
@[simp] theorem Device.byte_modSparesOut (d : Device) (f : List Nat → List Nat) (c : Nat) : (d.modSparesOut f).byte c = d.byte c := rfl

/-! ### modScrubRow -/

@[simp] theorem Device.regs_modScrubRow (d : Device) (f : Vector Nat 49 → Vector Nat 49) : (d.modScrubRow f).regs = d.regs := rfl
@[simp] theorem Device.live_modScrubRow (d : Device) (f : Vector Nat 49 → Vector Nat 49) : (d.modScrubRow f).live = d.live := rfl
@[simp] theorem Device.snap_modScrubRow (d : Device) (f : Vector Nat 49 → Vector Nat 49) : (d.modScrubRow f).snap = d.snap := rfl
@[simp] theorem Device.mem_modScrubRow (d : Device) (f : Vector Nat 49 → Vector Nat 49) : (d.modScrubRow f).mem = d.mem := rfl
@[simp] theorem Device.errs_modScrubRow (d : Device) (f : Vector Nat 49 → Vector Nat 49) : (d.modScrubRow f).errs = d.errs := rfl
@[simp] theorem Device.poisoned_modScrubRow (d : Device) (f : Vector Nat 49 → Vector Nat 49) : (d.modScrubRow f).poisoned = d.poisoned := rfl
@[simp] theorem Device.memHist_modScrubRow (d : Device) (f : Vector Nat 49 → Vector Nat 49) : (d.modScrubRow f).memHist = d.memHist := rfl
@[simp] theorem Device.writeBack_modScrubRow (d : Device) (f : Vector Nat 49 → Vector Nat 49) : (d.modScrubRow f).writeBack = d.writeBack := rfl
@[simp] theorem Device.sparesOut_modScrubRow (d : Device) (f : Vector Nat 49 → Vector Nat 49) : (d.modScrubRow f).sparesOut = d.sparesOut := rfl
@[simp] theorem Device.scrubFrom_modScrubRow (d : Device) (f : Vector Nat 49 → Vector Nat 49) : (d.modScrubRow f).scrubFrom = d.scrubFrom := rfl
@[simp] theorem Device.now_modScrubRow (d : Device) (f : Vector Nat 49 → Vector Nat 49) : (d.modScrubRow f).now = d.now := rfl
@[simp] theorem Device.draws_modScrubRow (d : Device) (f : Vector Nat 49 → Vector Nat 49) : (d.modScrubRow f).draws = d.draws := rfl
@[simp] theorem Device.rx_modScrubRow (d : Device) (f : Vector Nat 49 → Vector Nat 49) : (d.modScrubRow f).rx = d.rx := rfl
@[simp] theorem Device.tx_modScrubRow (d : Device) (f : Vector Nat 49 → Vector Nat 49) : (d.modScrubRow f).tx = d.tx := rfl
@[simp] theorem Device.bw_modScrubRow (d : Device) (f : Vector Nat 49 → Vector Nat 49) : (d.modScrubRow f).bw = d.bw := rfl
@[simp] theorem Device.egr_modScrubRow (d : Device) (f : Vector Nat 49 → Vector Nat 49) : (d.modScrubRow f).egr = d.egr := rfl
@[simp] theorem Device.neg_modScrubRow (d : Device) (f : Vector Nat 49 → Vector Nat 49) : (d.modScrubRow f).neg = d.neg := rfl
@[simp] theorem Device.pool_modScrubRow (d : Device) (f : Vector Nat 49 → Vector Nat 49) : (d.modScrubRow f).pool = d.pool := rfl
@[simp] theorem Device.host_modScrubRow (d : Device) (f : Vector Nat 49 → Vector Nat 49) : (d.modScrubRow f).host = d.host := rfl
@[simp] theorem Device.out_modScrubRow (d : Device) (f : Vector Nat 49 → Vector Nat 49) : (d.modScrubRow f).out = d.out := rfl
@[simp] theorem Device.plt_modScrubRow (d : Device) (f : Vector Nat 49 → Vector Nat 49) : (d.modScrubRow f).plt = d.plt := rfl
@[simp] theorem Device.hws_modScrubRow (d : Device) (f : Vector Nat 49 → Vector Nat 49) : (d.modScrubRow f).hws = d.hws := rfl
@[simp] theorem Device.fab_modScrubRow (d : Device) (f : Vector Nat 49 → Vector Nat 49) : (d.modScrubRow f).fab = d.fab := rfl
@[simp] theorem Device.sup_modScrubRow (d : Device) (f : Vector Nat 49 → Vector Nat 49) : (d.modScrubRow f).sup = d.sup := rfl
@[simp] theorem Device.thm_modScrubRow (d : Device) (f : Vector Nat 49 → Vector Nat 49) : (d.modScrubRow f).thm = d.thm := rfl
@[simp] theorem Device.mon_modScrubRow (d : Device) (f : Vector Nat 49 → Vector Nat 49) : (d.modScrubRow f).mon = d.mon := rfl
@[simp] theorem Device.sec_modScrubRow (d : Device) (f : Vector Nat 49 → Vector Nat 49) : (d.modScrubRow f).sec = d.sec := rfl
@[simp] theorem Device.flash_modScrubRow (d : Device) (f : Vector Nat 49 → Vector Nat 49) : (d.modScrubRow f).flash = d.flash := rfl
@[simp] theorem Device.banks_modScrubRow (d : Device) (f : Vector Nat 49 → Vector Nat 49) : (d.modScrubRow f).banks = d.banks := rfl
@[simp] theorem Device.mft_modScrubRow (d : Device) (f : Vector Nat 49 → Vector Nat 49) : (d.modScrubRow f).mft = d.mft := rfl
@[simp] theorem Device.lko_modScrubRow (d : Device) (f : Vector Nat 49 → Vector Nat 49) : (d.modScrubRow f).lko = d.lko := rfl
@[simp] theorem Device.pmuReq_modScrubRow (d : Device) (f : Vector Nat 49 → Vector Nat 49) : (d.modScrubRow f).pmuReq = d.pmuReq := rfl
@[simp] theorem Device.txdisLow_modScrubRow (d : Device) (f : Vector Nat 49 → Vector Nat 49) : (d.modScrubRow f).txdisLow = d.txdisLow := rfl
@[simp] theorem Device.pmuPrev_modScrubRow (d : Device) (f : Vector Nat 49 → Vector Nat 49) : (d.modScrubRow f).pmuPrev = d.pmuPrev := rfl
@[simp] theorem Device.laneHold_modScrubRow (d : Device) (f : Vector Nat 49 → Vector Nat 49) : (d.modScrubRow f).laneHold = d.laneHold := rfl
@[simp] theorem Device.clkWake_modScrubRow (d : Device) (f : Vector Nat 49 → Vector Nat 49) : (d.modScrubRow f).clkWake = d.clkWake := rfl
@[simp] theorem Device.reg_modScrubRow (d : Device) (f : Vector Nat 49 → Vector Nat 49) (c : Nat) : (d.modScrubRow f).reg c = d.reg c := rfl
@[simp] theorem Device.get_modScrubRow (d : Device) (f : Vector Nat 49 → Vector Nat 49) (g : Fld) : (d.modScrubRow f).get g = d.get g := rfl
@[simp] theorem Device.lget_modScrubRow (d : Device) (f : Vector Nat 49 → Vector Nat 49) (g : Fld) : (d.modScrubRow f).lget g = d.lget g := rfl
@[simp] theorem Device.byte_modScrubRow (d : Device) (f : Vector Nat 49 → Vector Nat 49) (c : Nat) : (d.modScrubRow f).byte c = d.byte c := rfl

/-! ### modScrubFrom -/

@[simp] theorem Device.regs_modScrubFrom (d : Device) (f : Vector Nat 49 → Vector Nat 49) : (d.modScrubFrom f).regs = d.regs := rfl
@[simp] theorem Device.live_modScrubFrom (d : Device) (f : Vector Nat 49 → Vector Nat 49) : (d.modScrubFrom f).live = d.live := rfl
@[simp] theorem Device.snap_modScrubFrom (d : Device) (f : Vector Nat 49 → Vector Nat 49) : (d.modScrubFrom f).snap = d.snap := rfl
@[simp] theorem Device.mem_modScrubFrom (d : Device) (f : Vector Nat 49 → Vector Nat 49) : (d.modScrubFrom f).mem = d.mem := rfl
@[simp] theorem Device.errs_modScrubFrom (d : Device) (f : Vector Nat 49 → Vector Nat 49) : (d.modScrubFrom f).errs = d.errs := rfl
@[simp] theorem Device.poisoned_modScrubFrom (d : Device) (f : Vector Nat 49 → Vector Nat 49) : (d.modScrubFrom f).poisoned = d.poisoned := rfl
@[simp] theorem Device.memHist_modScrubFrom (d : Device) (f : Vector Nat 49 → Vector Nat 49) : (d.modScrubFrom f).memHist = d.memHist := rfl
@[simp] theorem Device.writeBack_modScrubFrom (d : Device) (f : Vector Nat 49 → Vector Nat 49) : (d.modScrubFrom f).writeBack = d.writeBack := rfl
@[simp] theorem Device.sparesOut_modScrubFrom (d : Device) (f : Vector Nat 49 → Vector Nat 49) : (d.modScrubFrom f).sparesOut = d.sparesOut := rfl
@[simp] theorem Device.scrubRow_modScrubFrom (d : Device) (f : Vector Nat 49 → Vector Nat 49) : (d.modScrubFrom f).scrubRow = d.scrubRow := rfl
@[simp] theorem Device.now_modScrubFrom (d : Device) (f : Vector Nat 49 → Vector Nat 49) : (d.modScrubFrom f).now = d.now := rfl
@[simp] theorem Device.draws_modScrubFrom (d : Device) (f : Vector Nat 49 → Vector Nat 49) : (d.modScrubFrom f).draws = d.draws := rfl
@[simp] theorem Device.rx_modScrubFrom (d : Device) (f : Vector Nat 49 → Vector Nat 49) : (d.modScrubFrom f).rx = d.rx := rfl
@[simp] theorem Device.tx_modScrubFrom (d : Device) (f : Vector Nat 49 → Vector Nat 49) : (d.modScrubFrom f).tx = d.tx := rfl
@[simp] theorem Device.bw_modScrubFrom (d : Device) (f : Vector Nat 49 → Vector Nat 49) : (d.modScrubFrom f).bw = d.bw := rfl
@[simp] theorem Device.egr_modScrubFrom (d : Device) (f : Vector Nat 49 → Vector Nat 49) : (d.modScrubFrom f).egr = d.egr := rfl
@[simp] theorem Device.neg_modScrubFrom (d : Device) (f : Vector Nat 49 → Vector Nat 49) : (d.modScrubFrom f).neg = d.neg := rfl
@[simp] theorem Device.pool_modScrubFrom (d : Device) (f : Vector Nat 49 → Vector Nat 49) : (d.modScrubFrom f).pool = d.pool := rfl
@[simp] theorem Device.host_modScrubFrom (d : Device) (f : Vector Nat 49 → Vector Nat 49) : (d.modScrubFrom f).host = d.host := rfl
@[simp] theorem Device.out_modScrubFrom (d : Device) (f : Vector Nat 49 → Vector Nat 49) : (d.modScrubFrom f).out = d.out := rfl
@[simp] theorem Device.plt_modScrubFrom (d : Device) (f : Vector Nat 49 → Vector Nat 49) : (d.modScrubFrom f).plt = d.plt := rfl
@[simp] theorem Device.hws_modScrubFrom (d : Device) (f : Vector Nat 49 → Vector Nat 49) : (d.modScrubFrom f).hws = d.hws := rfl
@[simp] theorem Device.fab_modScrubFrom (d : Device) (f : Vector Nat 49 → Vector Nat 49) : (d.modScrubFrom f).fab = d.fab := rfl
@[simp] theorem Device.sup_modScrubFrom (d : Device) (f : Vector Nat 49 → Vector Nat 49) : (d.modScrubFrom f).sup = d.sup := rfl
@[simp] theorem Device.thm_modScrubFrom (d : Device) (f : Vector Nat 49 → Vector Nat 49) : (d.modScrubFrom f).thm = d.thm := rfl
@[simp] theorem Device.mon_modScrubFrom (d : Device) (f : Vector Nat 49 → Vector Nat 49) : (d.modScrubFrom f).mon = d.mon := rfl
@[simp] theorem Device.sec_modScrubFrom (d : Device) (f : Vector Nat 49 → Vector Nat 49) : (d.modScrubFrom f).sec = d.sec := rfl
@[simp] theorem Device.flash_modScrubFrom (d : Device) (f : Vector Nat 49 → Vector Nat 49) : (d.modScrubFrom f).flash = d.flash := rfl
@[simp] theorem Device.banks_modScrubFrom (d : Device) (f : Vector Nat 49 → Vector Nat 49) : (d.modScrubFrom f).banks = d.banks := rfl
@[simp] theorem Device.mft_modScrubFrom (d : Device) (f : Vector Nat 49 → Vector Nat 49) : (d.modScrubFrom f).mft = d.mft := rfl
@[simp] theorem Device.lko_modScrubFrom (d : Device) (f : Vector Nat 49 → Vector Nat 49) : (d.modScrubFrom f).lko = d.lko := rfl
@[simp] theorem Device.pmuReq_modScrubFrom (d : Device) (f : Vector Nat 49 → Vector Nat 49) : (d.modScrubFrom f).pmuReq = d.pmuReq := rfl
@[simp] theorem Device.txdisLow_modScrubFrom (d : Device) (f : Vector Nat 49 → Vector Nat 49) : (d.modScrubFrom f).txdisLow = d.txdisLow := rfl
@[simp] theorem Device.pmuPrev_modScrubFrom (d : Device) (f : Vector Nat 49 → Vector Nat 49) : (d.modScrubFrom f).pmuPrev = d.pmuPrev := rfl
@[simp] theorem Device.laneHold_modScrubFrom (d : Device) (f : Vector Nat 49 → Vector Nat 49) : (d.modScrubFrom f).laneHold = d.laneHold := rfl
@[simp] theorem Device.clkWake_modScrubFrom (d : Device) (f : Vector Nat 49 → Vector Nat 49) : (d.modScrubFrom f).clkWake = d.clkWake := rfl
@[simp] theorem Device.reg_modScrubFrom (d : Device) (f : Vector Nat 49 → Vector Nat 49) (c : Nat) : (d.modScrubFrom f).reg c = d.reg c := rfl
@[simp] theorem Device.get_modScrubFrom (d : Device) (f : Vector Nat 49 → Vector Nat 49) (g : Fld) : (d.modScrubFrom f).get g = d.get g := rfl
@[simp] theorem Device.lget_modScrubFrom (d : Device) (f : Vector Nat 49 → Vector Nat 49) (g : Fld) : (d.modScrubFrom f).lget g = d.lget g := rfl
@[simp] theorem Device.byte_modScrubFrom (d : Device) (f : Vector Nat 49 → Vector Nat 49) (c : Nat) : (d.modScrubFrom f).byte c = d.byte c := rfl

/-! ### modNow -/

@[simp] theorem Device.regs_modNow (d : Device) (f : Nat → Nat) : (d.modNow f).regs = d.regs := rfl
@[simp] theorem Device.live_modNow (d : Device) (f : Nat → Nat) : (d.modNow f).live = d.live := rfl
@[simp] theorem Device.snap_modNow (d : Device) (f : Nat → Nat) : (d.modNow f).snap = d.snap := rfl
@[simp] theorem Device.mem_modNow (d : Device) (f : Nat → Nat) : (d.modNow f).mem = d.mem := rfl
@[simp] theorem Device.errs_modNow (d : Device) (f : Nat → Nat) : (d.modNow f).errs = d.errs := rfl
@[simp] theorem Device.poisoned_modNow (d : Device) (f : Nat → Nat) : (d.modNow f).poisoned = d.poisoned := rfl
@[simp] theorem Device.memHist_modNow (d : Device) (f : Nat → Nat) : (d.modNow f).memHist = d.memHist := rfl
@[simp] theorem Device.writeBack_modNow (d : Device) (f : Nat → Nat) : (d.modNow f).writeBack = d.writeBack := rfl
@[simp] theorem Device.sparesOut_modNow (d : Device) (f : Nat → Nat) : (d.modNow f).sparesOut = d.sparesOut := rfl
@[simp] theorem Device.scrubRow_modNow (d : Device) (f : Nat → Nat) : (d.modNow f).scrubRow = d.scrubRow := rfl
@[simp] theorem Device.scrubFrom_modNow (d : Device) (f : Nat → Nat) : (d.modNow f).scrubFrom = d.scrubFrom := rfl
@[simp] theorem Device.draws_modNow (d : Device) (f : Nat → Nat) : (d.modNow f).draws = d.draws := rfl
@[simp] theorem Device.rx_modNow (d : Device) (f : Nat → Nat) : (d.modNow f).rx = d.rx := rfl
@[simp] theorem Device.tx_modNow (d : Device) (f : Nat → Nat) : (d.modNow f).tx = d.tx := rfl
@[simp] theorem Device.bw_modNow (d : Device) (f : Nat → Nat) : (d.modNow f).bw = d.bw := rfl
@[simp] theorem Device.egr_modNow (d : Device) (f : Nat → Nat) : (d.modNow f).egr = d.egr := rfl
@[simp] theorem Device.neg_modNow (d : Device) (f : Nat → Nat) : (d.modNow f).neg = d.neg := rfl
@[simp] theorem Device.pool_modNow (d : Device) (f : Nat → Nat) : (d.modNow f).pool = d.pool := rfl
@[simp] theorem Device.host_modNow (d : Device) (f : Nat → Nat) : (d.modNow f).host = d.host := rfl
@[simp] theorem Device.out_modNow (d : Device) (f : Nat → Nat) : (d.modNow f).out = d.out := rfl
@[simp] theorem Device.plt_modNow (d : Device) (f : Nat → Nat) : (d.modNow f).plt = d.plt := rfl
@[simp] theorem Device.hws_modNow (d : Device) (f : Nat → Nat) : (d.modNow f).hws = d.hws := rfl
@[simp] theorem Device.fab_modNow (d : Device) (f : Nat → Nat) : (d.modNow f).fab = d.fab := rfl
@[simp] theorem Device.sup_modNow (d : Device) (f : Nat → Nat) : (d.modNow f).sup = d.sup := rfl
@[simp] theorem Device.thm_modNow (d : Device) (f : Nat → Nat) : (d.modNow f).thm = d.thm := rfl
@[simp] theorem Device.mon_modNow (d : Device) (f : Nat → Nat) : (d.modNow f).mon = d.mon := rfl
@[simp] theorem Device.sec_modNow (d : Device) (f : Nat → Nat) : (d.modNow f).sec = d.sec := rfl
@[simp] theorem Device.flash_modNow (d : Device) (f : Nat → Nat) : (d.modNow f).flash = d.flash := rfl
@[simp] theorem Device.banks_modNow (d : Device) (f : Nat → Nat) : (d.modNow f).banks = d.banks := rfl
@[simp] theorem Device.mft_modNow (d : Device) (f : Nat → Nat) : (d.modNow f).mft = d.mft := rfl
@[simp] theorem Device.lko_modNow (d : Device) (f : Nat → Nat) : (d.modNow f).lko = d.lko := rfl
@[simp] theorem Device.pmuReq_modNow (d : Device) (f : Nat → Nat) : (d.modNow f).pmuReq = d.pmuReq := rfl
@[simp] theorem Device.txdisLow_modNow (d : Device) (f : Nat → Nat) : (d.modNow f).txdisLow = d.txdisLow := rfl
@[simp] theorem Device.pmuPrev_modNow (d : Device) (f : Nat → Nat) : (d.modNow f).pmuPrev = d.pmuPrev := rfl
@[simp] theorem Device.laneHold_modNow (d : Device) (f : Nat → Nat) : (d.modNow f).laneHold = d.laneHold := rfl
@[simp] theorem Device.clkWake_modNow (d : Device) (f : Nat → Nat) : (d.modNow f).clkWake = d.clkWake := rfl
@[simp] theorem Device.reg_modNow (d : Device) (f : Nat → Nat) (c : Nat) : (d.modNow f).reg c = d.reg c := rfl
@[simp] theorem Device.get_modNow (d : Device) (f : Nat → Nat) (g : Fld) : (d.modNow f).get g = d.get g := rfl
@[simp] theorem Device.lget_modNow (d : Device) (f : Nat → Nat) (g : Fld) : (d.modNow f).lget g = d.lget g := rfl
@[simp] theorem Device.byte_modNow (d : Device) (f : Nat → Nat) (c : Nat) : (d.modNow f).byte c = d.byte c := rfl

/-! ### modSnap -/

@[simp] theorem Device.regs_modSnap (d : Device) (f : Sparse → Sparse) : (d.modSnap f).regs = d.regs := rfl
@[simp] theorem Device.live_modSnap (d : Device) (f : Sparse → Sparse) : (d.modSnap f).live = d.live := rfl
@[simp] theorem Device.mem_modSnap (d : Device) (f : Sparse → Sparse) : (d.modSnap f).mem = d.mem := rfl
@[simp] theorem Device.errs_modSnap (d : Device) (f : Sparse → Sparse) : (d.modSnap f).errs = d.errs := rfl
@[simp] theorem Device.poisoned_modSnap (d : Device) (f : Sparse → Sparse) : (d.modSnap f).poisoned = d.poisoned := rfl
@[simp] theorem Device.memHist_modSnap (d : Device) (f : Sparse → Sparse) : (d.modSnap f).memHist = d.memHist := rfl
@[simp] theorem Device.writeBack_modSnap (d : Device) (f : Sparse → Sparse) : (d.modSnap f).writeBack = d.writeBack := rfl
@[simp] theorem Device.sparesOut_modSnap (d : Device) (f : Sparse → Sparse) : (d.modSnap f).sparesOut = d.sparesOut := rfl
@[simp] theorem Device.scrubRow_modSnap (d : Device) (f : Sparse → Sparse) : (d.modSnap f).scrubRow = d.scrubRow := rfl
@[simp] theorem Device.scrubFrom_modSnap (d : Device) (f : Sparse → Sparse) : (d.modSnap f).scrubFrom = d.scrubFrom := rfl
@[simp] theorem Device.now_modSnap (d : Device) (f : Sparse → Sparse) : (d.modSnap f).now = d.now := rfl
@[simp] theorem Device.draws_modSnap (d : Device) (f : Sparse → Sparse) : (d.modSnap f).draws = d.draws := rfl
@[simp] theorem Device.rx_modSnap (d : Device) (f : Sparse → Sparse) : (d.modSnap f).rx = d.rx := rfl
@[simp] theorem Device.tx_modSnap (d : Device) (f : Sparse → Sparse) : (d.modSnap f).tx = d.tx := rfl
@[simp] theorem Device.bw_modSnap (d : Device) (f : Sparse → Sparse) : (d.modSnap f).bw = d.bw := rfl
@[simp] theorem Device.egr_modSnap (d : Device) (f : Sparse → Sparse) : (d.modSnap f).egr = d.egr := rfl
@[simp] theorem Device.neg_modSnap (d : Device) (f : Sparse → Sparse) : (d.modSnap f).neg = d.neg := rfl
@[simp] theorem Device.pool_modSnap (d : Device) (f : Sparse → Sparse) : (d.modSnap f).pool = d.pool := rfl
@[simp] theorem Device.host_modSnap (d : Device) (f : Sparse → Sparse) : (d.modSnap f).host = d.host := rfl
@[simp] theorem Device.out_modSnap (d : Device) (f : Sparse → Sparse) : (d.modSnap f).out = d.out := rfl
@[simp] theorem Device.plt_modSnap (d : Device) (f : Sparse → Sparse) : (d.modSnap f).plt = d.plt := rfl
@[simp] theorem Device.hws_modSnap (d : Device) (f : Sparse → Sparse) : (d.modSnap f).hws = d.hws := rfl
@[simp] theorem Device.fab_modSnap (d : Device) (f : Sparse → Sparse) : (d.modSnap f).fab = d.fab := rfl
@[simp] theorem Device.sup_modSnap (d : Device) (f : Sparse → Sparse) : (d.modSnap f).sup = d.sup := rfl
@[simp] theorem Device.thm_modSnap (d : Device) (f : Sparse → Sparse) : (d.modSnap f).thm = d.thm := rfl
@[simp] theorem Device.mon_modSnap (d : Device) (f : Sparse → Sparse) : (d.modSnap f).mon = d.mon := rfl
@[simp] theorem Device.sec_modSnap (d : Device) (f : Sparse → Sparse) : (d.modSnap f).sec = d.sec := rfl
@[simp] theorem Device.flash_modSnap (d : Device) (f : Sparse → Sparse) : (d.modSnap f).flash = d.flash := rfl
@[simp] theorem Device.banks_modSnap (d : Device) (f : Sparse → Sparse) : (d.modSnap f).banks = d.banks := rfl
@[simp] theorem Device.mft_modSnap (d : Device) (f : Sparse → Sparse) : (d.modSnap f).mft = d.mft := rfl
@[simp] theorem Device.lko_modSnap (d : Device) (f : Sparse → Sparse) : (d.modSnap f).lko = d.lko := rfl
@[simp] theorem Device.pmuReq_modSnap (d : Device) (f : Sparse → Sparse) : (d.modSnap f).pmuReq = d.pmuReq := rfl
@[simp] theorem Device.txdisLow_modSnap (d : Device) (f : Sparse → Sparse) : (d.modSnap f).txdisLow = d.txdisLow := rfl
@[simp] theorem Device.pmuPrev_modSnap (d : Device) (f : Sparse → Sparse) : (d.modSnap f).pmuPrev = d.pmuPrev := rfl
@[simp] theorem Device.laneHold_modSnap (d : Device) (f : Sparse → Sparse) : (d.modSnap f).laneHold = d.laneHold := rfl
@[simp] theorem Device.clkWake_modSnap (d : Device) (f : Sparse → Sparse) : (d.modSnap f).clkWake = d.clkWake := rfl
@[simp] theorem Device.reg_modSnap (d : Device) (f : Sparse → Sparse) (c : Nat) : (d.modSnap f).reg c = d.reg c := rfl
@[simp] theorem Device.get_modSnap (d : Device) (f : Sparse → Sparse) (g : Fld) : (d.modSnap f).get g = d.get g := rfl
@[simp] theorem Device.lget_modSnap (d : Device) (f : Sparse → Sparse) (g : Fld) : (d.modSnap f).lget g = d.lget g := rfl
@[simp] theorem Device.byte_modSnap (d : Device) (f : Sparse → Sparse) (c : Nat) : (d.modSnap f).byte c = d.byte c := rfl

/-! ### modEgr -/

@[simp] theorem Device.regs_modEgr (d : Device) (f : Vector Egress 8 → Vector Egress 8) : (d.modEgr f).regs = d.regs := rfl
@[simp] theorem Device.live_modEgr (d : Device) (f : Vector Egress 8 → Vector Egress 8) : (d.modEgr f).live = d.live := rfl
@[simp] theorem Device.snap_modEgr (d : Device) (f : Vector Egress 8 → Vector Egress 8) : (d.modEgr f).snap = d.snap := rfl
@[simp] theorem Device.mem_modEgr (d : Device) (f : Vector Egress 8 → Vector Egress 8) : (d.modEgr f).mem = d.mem := rfl
@[simp] theorem Device.errs_modEgr (d : Device) (f : Vector Egress 8 → Vector Egress 8) : (d.modEgr f).errs = d.errs := rfl
@[simp] theorem Device.poisoned_modEgr (d : Device) (f : Vector Egress 8 → Vector Egress 8) : (d.modEgr f).poisoned = d.poisoned := rfl
@[simp] theorem Device.memHist_modEgr (d : Device) (f : Vector Egress 8 → Vector Egress 8) : (d.modEgr f).memHist = d.memHist := rfl
@[simp] theorem Device.writeBack_modEgr (d : Device) (f : Vector Egress 8 → Vector Egress 8) : (d.modEgr f).writeBack = d.writeBack := rfl
@[simp] theorem Device.sparesOut_modEgr (d : Device) (f : Vector Egress 8 → Vector Egress 8) : (d.modEgr f).sparesOut = d.sparesOut := rfl
@[simp] theorem Device.scrubRow_modEgr (d : Device) (f : Vector Egress 8 → Vector Egress 8) : (d.modEgr f).scrubRow = d.scrubRow := rfl
@[simp] theorem Device.scrubFrom_modEgr (d : Device) (f : Vector Egress 8 → Vector Egress 8) : (d.modEgr f).scrubFrom = d.scrubFrom := rfl
@[simp] theorem Device.now_modEgr (d : Device) (f : Vector Egress 8 → Vector Egress 8) : (d.modEgr f).now = d.now := rfl
@[simp] theorem Device.draws_modEgr (d : Device) (f : Vector Egress 8 → Vector Egress 8) : (d.modEgr f).draws = d.draws := rfl
@[simp] theorem Device.rx_modEgr (d : Device) (f : Vector Egress 8 → Vector Egress 8) : (d.modEgr f).rx = d.rx := rfl
@[simp] theorem Device.tx_modEgr (d : Device) (f : Vector Egress 8 → Vector Egress 8) : (d.modEgr f).tx = d.tx := rfl
@[simp] theorem Device.bw_modEgr (d : Device) (f : Vector Egress 8 → Vector Egress 8) : (d.modEgr f).bw = d.bw := rfl
@[simp] theorem Device.neg_modEgr (d : Device) (f : Vector Egress 8 → Vector Egress 8) : (d.modEgr f).neg = d.neg := rfl
@[simp] theorem Device.pool_modEgr (d : Device) (f : Vector Egress 8 → Vector Egress 8) : (d.modEgr f).pool = d.pool := rfl
@[simp] theorem Device.host_modEgr (d : Device) (f : Vector Egress 8 → Vector Egress 8) : (d.modEgr f).host = d.host := rfl
@[simp] theorem Device.out_modEgr (d : Device) (f : Vector Egress 8 → Vector Egress 8) : (d.modEgr f).out = d.out := rfl
@[simp] theorem Device.plt_modEgr (d : Device) (f : Vector Egress 8 → Vector Egress 8) : (d.modEgr f).plt = d.plt := rfl
@[simp] theorem Device.hws_modEgr (d : Device) (f : Vector Egress 8 → Vector Egress 8) : (d.modEgr f).hws = d.hws := rfl
@[simp] theorem Device.fab_modEgr (d : Device) (f : Vector Egress 8 → Vector Egress 8) : (d.modEgr f).fab = d.fab := rfl
@[simp] theorem Device.sup_modEgr (d : Device) (f : Vector Egress 8 → Vector Egress 8) : (d.modEgr f).sup = d.sup := rfl
@[simp] theorem Device.thm_modEgr (d : Device) (f : Vector Egress 8 → Vector Egress 8) : (d.modEgr f).thm = d.thm := rfl
@[simp] theorem Device.mon_modEgr (d : Device) (f : Vector Egress 8 → Vector Egress 8) : (d.modEgr f).mon = d.mon := rfl
@[simp] theorem Device.sec_modEgr (d : Device) (f : Vector Egress 8 → Vector Egress 8) : (d.modEgr f).sec = d.sec := rfl
@[simp] theorem Device.flash_modEgr (d : Device) (f : Vector Egress 8 → Vector Egress 8) : (d.modEgr f).flash = d.flash := rfl
@[simp] theorem Device.banks_modEgr (d : Device) (f : Vector Egress 8 → Vector Egress 8) : (d.modEgr f).banks = d.banks := rfl
@[simp] theorem Device.mft_modEgr (d : Device) (f : Vector Egress 8 → Vector Egress 8) : (d.modEgr f).mft = d.mft := rfl
@[simp] theorem Device.lko_modEgr (d : Device) (f : Vector Egress 8 → Vector Egress 8) : (d.modEgr f).lko = d.lko := rfl
@[simp] theorem Device.pmuReq_modEgr (d : Device) (f : Vector Egress 8 → Vector Egress 8) : (d.modEgr f).pmuReq = d.pmuReq := rfl
@[simp] theorem Device.txdisLow_modEgr (d : Device) (f : Vector Egress 8 → Vector Egress 8) : (d.modEgr f).txdisLow = d.txdisLow := rfl
@[simp] theorem Device.pmuPrev_modEgr (d : Device) (f : Vector Egress 8 → Vector Egress 8) : (d.modEgr f).pmuPrev = d.pmuPrev := rfl
@[simp] theorem Device.laneHold_modEgr (d : Device) (f : Vector Egress 8 → Vector Egress 8) : (d.modEgr f).laneHold = d.laneHold := rfl
@[simp] theorem Device.clkWake_modEgr (d : Device) (f : Vector Egress 8 → Vector Egress 8) : (d.modEgr f).clkWake = d.clkWake := rfl
@[simp] theorem Device.reg_modEgr (d : Device) (f : Vector Egress 8 → Vector Egress 8) (c : Nat) : (d.modEgr f).reg c = d.reg c := rfl
@[simp] theorem Device.get_modEgr (d : Device) (f : Vector Egress 8 → Vector Egress 8) (g : Fld) : (d.modEgr f).get g = d.get g := rfl
@[simp] theorem Device.lget_modEgr (d : Device) (f : Vector Egress 8 → Vector Egress 8) (g : Fld) : (d.modEgr f).lget g = d.lget g := rfl
@[simp] theorem Device.byte_modEgr (d : Device) (f : Vector Egress 8 → Vector Egress 8) (c : Nat) : (d.modEgr f).byte c = d.byte c := rfl

/-! ### modNeg -/

@[simp] theorem Device.regs_modNeg (d : Device) (f : Neg → Neg) : (d.modNeg f).regs = d.regs := rfl
@[simp] theorem Device.live_modNeg (d : Device) (f : Neg → Neg) : (d.modNeg f).live = d.live := rfl
@[simp] theorem Device.snap_modNeg (d : Device) (f : Neg → Neg) : (d.modNeg f).snap = d.snap := rfl
@[simp] theorem Device.mem_modNeg (d : Device) (f : Neg → Neg) : (d.modNeg f).mem = d.mem := rfl
@[simp] theorem Device.errs_modNeg (d : Device) (f : Neg → Neg) : (d.modNeg f).errs = d.errs := rfl
@[simp] theorem Device.poisoned_modNeg (d : Device) (f : Neg → Neg) : (d.modNeg f).poisoned = d.poisoned := rfl
@[simp] theorem Device.memHist_modNeg (d : Device) (f : Neg → Neg) : (d.modNeg f).memHist = d.memHist := rfl
@[simp] theorem Device.writeBack_modNeg (d : Device) (f : Neg → Neg) : (d.modNeg f).writeBack = d.writeBack := rfl
@[simp] theorem Device.sparesOut_modNeg (d : Device) (f : Neg → Neg) : (d.modNeg f).sparesOut = d.sparesOut := rfl
@[simp] theorem Device.scrubRow_modNeg (d : Device) (f : Neg → Neg) : (d.modNeg f).scrubRow = d.scrubRow := rfl
@[simp] theorem Device.scrubFrom_modNeg (d : Device) (f : Neg → Neg) : (d.modNeg f).scrubFrom = d.scrubFrom := rfl
@[simp] theorem Device.now_modNeg (d : Device) (f : Neg → Neg) : (d.modNeg f).now = d.now := rfl
@[simp] theorem Device.draws_modNeg (d : Device) (f : Neg → Neg) : (d.modNeg f).draws = d.draws := rfl
@[simp] theorem Device.rx_modNeg (d : Device) (f : Neg → Neg) : (d.modNeg f).rx = d.rx := rfl
@[simp] theorem Device.tx_modNeg (d : Device) (f : Neg → Neg) : (d.modNeg f).tx = d.tx := rfl
@[simp] theorem Device.bw_modNeg (d : Device) (f : Neg → Neg) : (d.modNeg f).bw = d.bw := rfl
@[simp] theorem Device.egr_modNeg (d : Device) (f : Neg → Neg) : (d.modNeg f).egr = d.egr := rfl
@[simp] theorem Device.pool_modNeg (d : Device) (f : Neg → Neg) : (d.modNeg f).pool = d.pool := rfl
@[simp] theorem Device.host_modNeg (d : Device) (f : Neg → Neg) : (d.modNeg f).host = d.host := rfl
@[simp] theorem Device.out_modNeg (d : Device) (f : Neg → Neg) : (d.modNeg f).out = d.out := rfl
@[simp] theorem Device.plt_modNeg (d : Device) (f : Neg → Neg) : (d.modNeg f).plt = d.plt := rfl
@[simp] theorem Device.hws_modNeg (d : Device) (f : Neg → Neg) : (d.modNeg f).hws = d.hws := rfl
@[simp] theorem Device.fab_modNeg (d : Device) (f : Neg → Neg) : (d.modNeg f).fab = d.fab := rfl
@[simp] theorem Device.sup_modNeg (d : Device) (f : Neg → Neg) : (d.modNeg f).sup = d.sup := rfl
@[simp] theorem Device.thm_modNeg (d : Device) (f : Neg → Neg) : (d.modNeg f).thm = d.thm := rfl
@[simp] theorem Device.mon_modNeg (d : Device) (f : Neg → Neg) : (d.modNeg f).mon = d.mon := rfl
@[simp] theorem Device.sec_modNeg (d : Device) (f : Neg → Neg) : (d.modNeg f).sec = d.sec := rfl
@[simp] theorem Device.flash_modNeg (d : Device) (f : Neg → Neg) : (d.modNeg f).flash = d.flash := rfl
@[simp] theorem Device.banks_modNeg (d : Device) (f : Neg → Neg) : (d.modNeg f).banks = d.banks := rfl
@[simp] theorem Device.mft_modNeg (d : Device) (f : Neg → Neg) : (d.modNeg f).mft = d.mft := rfl
@[simp] theorem Device.lko_modNeg (d : Device) (f : Neg → Neg) : (d.modNeg f).lko = d.lko := rfl
@[simp] theorem Device.pmuReq_modNeg (d : Device) (f : Neg → Neg) : (d.modNeg f).pmuReq = d.pmuReq := rfl
@[simp] theorem Device.txdisLow_modNeg (d : Device) (f : Neg → Neg) : (d.modNeg f).txdisLow = d.txdisLow := rfl
@[simp] theorem Device.pmuPrev_modNeg (d : Device) (f : Neg → Neg) : (d.modNeg f).pmuPrev = d.pmuPrev := rfl
@[simp] theorem Device.laneHold_modNeg (d : Device) (f : Neg → Neg) : (d.modNeg f).laneHold = d.laneHold := rfl
@[simp] theorem Device.clkWake_modNeg (d : Device) (f : Neg → Neg) : (d.modNeg f).clkWake = d.clkWake := rfl
@[simp] theorem Device.reg_modNeg (d : Device) (f : Neg → Neg) (c : Nat) : (d.modNeg f).reg c = d.reg c := rfl
@[simp] theorem Device.get_modNeg (d : Device) (f : Neg → Neg) (g : Fld) : (d.modNeg f).get g = d.get g := rfl
@[simp] theorem Device.lget_modNeg (d : Device) (f : Neg → Neg) (g : Fld) : (d.modNeg f).lget g = d.lget g := rfl
@[simp] theorem Device.byte_modNeg (d : Device) (f : Neg → Neg) (c : Nat) : (d.modNeg f).byte c = d.byte c := rfl

/-! ### modPool -/

@[simp] theorem Device.regs_modPool (d : Device) (f : Pool → Pool) : (d.modPool f).regs = d.regs := rfl
@[simp] theorem Device.live_modPool (d : Device) (f : Pool → Pool) : (d.modPool f).live = d.live := rfl
@[simp] theorem Device.snap_modPool (d : Device) (f : Pool → Pool) : (d.modPool f).snap = d.snap := rfl
@[simp] theorem Device.mem_modPool (d : Device) (f : Pool → Pool) : (d.modPool f).mem = d.mem := rfl
@[simp] theorem Device.errs_modPool (d : Device) (f : Pool → Pool) : (d.modPool f).errs = d.errs := rfl
@[simp] theorem Device.poisoned_modPool (d : Device) (f : Pool → Pool) : (d.modPool f).poisoned = d.poisoned := rfl
@[simp] theorem Device.memHist_modPool (d : Device) (f : Pool → Pool) : (d.modPool f).memHist = d.memHist := rfl
@[simp] theorem Device.writeBack_modPool (d : Device) (f : Pool → Pool) : (d.modPool f).writeBack = d.writeBack := rfl
@[simp] theorem Device.sparesOut_modPool (d : Device) (f : Pool → Pool) : (d.modPool f).sparesOut = d.sparesOut := rfl
@[simp] theorem Device.scrubRow_modPool (d : Device) (f : Pool → Pool) : (d.modPool f).scrubRow = d.scrubRow := rfl
@[simp] theorem Device.scrubFrom_modPool (d : Device) (f : Pool → Pool) : (d.modPool f).scrubFrom = d.scrubFrom := rfl
@[simp] theorem Device.now_modPool (d : Device) (f : Pool → Pool) : (d.modPool f).now = d.now := rfl
@[simp] theorem Device.draws_modPool (d : Device) (f : Pool → Pool) : (d.modPool f).draws = d.draws := rfl
@[simp] theorem Device.rx_modPool (d : Device) (f : Pool → Pool) : (d.modPool f).rx = d.rx := rfl
@[simp] theorem Device.tx_modPool (d : Device) (f : Pool → Pool) : (d.modPool f).tx = d.tx := rfl
@[simp] theorem Device.bw_modPool (d : Device) (f : Pool → Pool) : (d.modPool f).bw = d.bw := rfl
@[simp] theorem Device.egr_modPool (d : Device) (f : Pool → Pool) : (d.modPool f).egr = d.egr := rfl
@[simp] theorem Device.neg_modPool (d : Device) (f : Pool → Pool) : (d.modPool f).neg = d.neg := rfl
@[simp] theorem Device.host_modPool (d : Device) (f : Pool → Pool) : (d.modPool f).host = d.host := rfl
@[simp] theorem Device.out_modPool (d : Device) (f : Pool → Pool) : (d.modPool f).out = d.out := rfl
@[simp] theorem Device.plt_modPool (d : Device) (f : Pool → Pool) : (d.modPool f).plt = d.plt := rfl
@[simp] theorem Device.hws_modPool (d : Device) (f : Pool → Pool) : (d.modPool f).hws = d.hws := rfl
@[simp] theorem Device.fab_modPool (d : Device) (f : Pool → Pool) : (d.modPool f).fab = d.fab := rfl
@[simp] theorem Device.sup_modPool (d : Device) (f : Pool → Pool) : (d.modPool f).sup = d.sup := rfl
@[simp] theorem Device.thm_modPool (d : Device) (f : Pool → Pool) : (d.modPool f).thm = d.thm := rfl
@[simp] theorem Device.mon_modPool (d : Device) (f : Pool → Pool) : (d.modPool f).mon = d.mon := rfl
@[simp] theorem Device.sec_modPool (d : Device) (f : Pool → Pool) : (d.modPool f).sec = d.sec := rfl
@[simp] theorem Device.flash_modPool (d : Device) (f : Pool → Pool) : (d.modPool f).flash = d.flash := rfl
@[simp] theorem Device.banks_modPool (d : Device) (f : Pool → Pool) : (d.modPool f).banks = d.banks := rfl
@[simp] theorem Device.mft_modPool (d : Device) (f : Pool → Pool) : (d.modPool f).mft = d.mft := rfl
@[simp] theorem Device.lko_modPool (d : Device) (f : Pool → Pool) : (d.modPool f).lko = d.lko := rfl
@[simp] theorem Device.pmuReq_modPool (d : Device) (f : Pool → Pool) : (d.modPool f).pmuReq = d.pmuReq := rfl
@[simp] theorem Device.txdisLow_modPool (d : Device) (f : Pool → Pool) : (d.modPool f).txdisLow = d.txdisLow := rfl
@[simp] theorem Device.pmuPrev_modPool (d : Device) (f : Pool → Pool) : (d.modPool f).pmuPrev = d.pmuPrev := rfl
@[simp] theorem Device.laneHold_modPool (d : Device) (f : Pool → Pool) : (d.modPool f).laneHold = d.laneHold := rfl
@[simp] theorem Device.clkWake_modPool (d : Device) (f : Pool → Pool) : (d.modPool f).clkWake = d.clkWake := rfl
@[simp] theorem Device.reg_modPool (d : Device) (f : Pool → Pool) (c : Nat) : (d.modPool f).reg c = d.reg c := rfl
@[simp] theorem Device.get_modPool (d : Device) (f : Pool → Pool) (g : Fld) : (d.modPool f).get g = d.get g := rfl
@[simp] theorem Device.lget_modPool (d : Device) (f : Pool → Pool) (g : Fld) : (d.modPool f).lget g = d.lget g := rfl
@[simp] theorem Device.byte_modPool (d : Device) (f : Pool → Pool) (c : Nat) : (d.modPool f).byte c = d.byte c := rfl

/-! ### modOut -/

@[simp] theorem Device.regs_modOut (d : Device) (f : Vector (List Delivered) 16 → Vector (List Delivered) 16) : (d.modOut f).regs = d.regs := rfl
@[simp] theorem Device.live_modOut (d : Device) (f : Vector (List Delivered) 16 → Vector (List Delivered) 16) : (d.modOut f).live = d.live := rfl
@[simp] theorem Device.snap_modOut (d : Device) (f : Vector (List Delivered) 16 → Vector (List Delivered) 16) : (d.modOut f).snap = d.snap := rfl
@[simp] theorem Device.mem_modOut (d : Device) (f : Vector (List Delivered) 16 → Vector (List Delivered) 16) : (d.modOut f).mem = d.mem := rfl
@[simp] theorem Device.errs_modOut (d : Device) (f : Vector (List Delivered) 16 → Vector (List Delivered) 16) : (d.modOut f).errs = d.errs := rfl
@[simp] theorem Device.poisoned_modOut (d : Device) (f : Vector (List Delivered) 16 → Vector (List Delivered) 16) : (d.modOut f).poisoned = d.poisoned := rfl
@[simp] theorem Device.memHist_modOut (d : Device) (f : Vector (List Delivered) 16 → Vector (List Delivered) 16) : (d.modOut f).memHist = d.memHist := rfl
@[simp] theorem Device.writeBack_modOut (d : Device) (f : Vector (List Delivered) 16 → Vector (List Delivered) 16) : (d.modOut f).writeBack = d.writeBack := rfl
@[simp] theorem Device.sparesOut_modOut (d : Device) (f : Vector (List Delivered) 16 → Vector (List Delivered) 16) : (d.modOut f).sparesOut = d.sparesOut := rfl
@[simp] theorem Device.scrubRow_modOut (d : Device) (f : Vector (List Delivered) 16 → Vector (List Delivered) 16) : (d.modOut f).scrubRow = d.scrubRow := rfl
@[simp] theorem Device.scrubFrom_modOut (d : Device) (f : Vector (List Delivered) 16 → Vector (List Delivered) 16) : (d.modOut f).scrubFrom = d.scrubFrom := rfl
@[simp] theorem Device.now_modOut (d : Device) (f : Vector (List Delivered) 16 → Vector (List Delivered) 16) : (d.modOut f).now = d.now := rfl
@[simp] theorem Device.draws_modOut (d : Device) (f : Vector (List Delivered) 16 → Vector (List Delivered) 16) : (d.modOut f).draws = d.draws := rfl
@[simp] theorem Device.rx_modOut (d : Device) (f : Vector (List Delivered) 16 → Vector (List Delivered) 16) : (d.modOut f).rx = d.rx := rfl
@[simp] theorem Device.tx_modOut (d : Device) (f : Vector (List Delivered) 16 → Vector (List Delivered) 16) : (d.modOut f).tx = d.tx := rfl
@[simp] theorem Device.bw_modOut (d : Device) (f : Vector (List Delivered) 16 → Vector (List Delivered) 16) : (d.modOut f).bw = d.bw := rfl
@[simp] theorem Device.egr_modOut (d : Device) (f : Vector (List Delivered) 16 → Vector (List Delivered) 16) : (d.modOut f).egr = d.egr := rfl
@[simp] theorem Device.neg_modOut (d : Device) (f : Vector (List Delivered) 16 → Vector (List Delivered) 16) : (d.modOut f).neg = d.neg := rfl
@[simp] theorem Device.pool_modOut (d : Device) (f : Vector (List Delivered) 16 → Vector (List Delivered) 16) : (d.modOut f).pool = d.pool := rfl
@[simp] theorem Device.host_modOut (d : Device) (f : Vector (List Delivered) 16 → Vector (List Delivered) 16) : (d.modOut f).host = d.host := rfl
@[simp] theorem Device.plt_modOut (d : Device) (f : Vector (List Delivered) 16 → Vector (List Delivered) 16) : (d.modOut f).plt = d.plt := rfl
@[simp] theorem Device.hws_modOut (d : Device) (f : Vector (List Delivered) 16 → Vector (List Delivered) 16) : (d.modOut f).hws = d.hws := rfl
@[simp] theorem Device.fab_modOut (d : Device) (f : Vector (List Delivered) 16 → Vector (List Delivered) 16) : (d.modOut f).fab = d.fab := rfl
@[simp] theorem Device.sup_modOut (d : Device) (f : Vector (List Delivered) 16 → Vector (List Delivered) 16) : (d.modOut f).sup = d.sup := rfl
@[simp] theorem Device.thm_modOut (d : Device) (f : Vector (List Delivered) 16 → Vector (List Delivered) 16) : (d.modOut f).thm = d.thm := rfl
@[simp] theorem Device.mon_modOut (d : Device) (f : Vector (List Delivered) 16 → Vector (List Delivered) 16) : (d.modOut f).mon = d.mon := rfl
@[simp] theorem Device.sec_modOut (d : Device) (f : Vector (List Delivered) 16 → Vector (List Delivered) 16) : (d.modOut f).sec = d.sec := rfl
@[simp] theorem Device.flash_modOut (d : Device) (f : Vector (List Delivered) 16 → Vector (List Delivered) 16) : (d.modOut f).flash = d.flash := rfl
@[simp] theorem Device.banks_modOut (d : Device) (f : Vector (List Delivered) 16 → Vector (List Delivered) 16) : (d.modOut f).banks = d.banks := rfl
@[simp] theorem Device.mft_modOut (d : Device) (f : Vector (List Delivered) 16 → Vector (List Delivered) 16) : (d.modOut f).mft = d.mft := rfl
@[simp] theorem Device.lko_modOut (d : Device) (f : Vector (List Delivered) 16 → Vector (List Delivered) 16) : (d.modOut f).lko = d.lko := rfl
@[simp] theorem Device.pmuReq_modOut (d : Device) (f : Vector (List Delivered) 16 → Vector (List Delivered) 16) : (d.modOut f).pmuReq = d.pmuReq := rfl
@[simp] theorem Device.txdisLow_modOut (d : Device) (f : Vector (List Delivered) 16 → Vector (List Delivered) 16) : (d.modOut f).txdisLow = d.txdisLow := rfl
@[simp] theorem Device.pmuPrev_modOut (d : Device) (f : Vector (List Delivered) 16 → Vector (List Delivered) 16) : (d.modOut f).pmuPrev = d.pmuPrev := rfl
@[simp] theorem Device.laneHold_modOut (d : Device) (f : Vector (List Delivered) 16 → Vector (List Delivered) 16) : (d.modOut f).laneHold = d.laneHold := rfl
@[simp] theorem Device.clkWake_modOut (d : Device) (f : Vector (List Delivered) 16 → Vector (List Delivered) 16) : (d.modOut f).clkWake = d.clkWake := rfl
@[simp] theorem Device.reg_modOut (d : Device) (f : Vector (List Delivered) 16 → Vector (List Delivered) 16) (c : Nat) : (d.modOut f).reg c = d.reg c := rfl
@[simp] theorem Device.get_modOut (d : Device) (f : Vector (List Delivered) 16 → Vector (List Delivered) 16) (g : Fld) : (d.modOut f).get g = d.get g := rfl
@[simp] theorem Device.lget_modOut (d : Device) (f : Vector (List Delivered) 16 → Vector (List Delivered) 16) (g : Fld) : (d.modOut f).lget g = d.lget g := rfl
@[simp] theorem Device.byte_modOut (d : Device) (f : Vector (List Delivered) 16 → Vector (List Delivered) 16) (c : Nat) : (d.modOut f).byte c = d.byte c := rfl

/-! ### modHwsAll -/

@[simp] theorem Device.regs_modHwsAll (d : Device) (f : Vector HwsPort 8 → Vector HwsPort 8) : (d.modHwsAll f).regs = d.regs := rfl
@[simp] theorem Device.live_modHwsAll (d : Device) (f : Vector HwsPort 8 → Vector HwsPort 8) : (d.modHwsAll f).live = d.live := rfl
@[simp] theorem Device.snap_modHwsAll (d : Device) (f : Vector HwsPort 8 → Vector HwsPort 8) : (d.modHwsAll f).snap = d.snap := rfl
@[simp] theorem Device.mem_modHwsAll (d : Device) (f : Vector HwsPort 8 → Vector HwsPort 8) : (d.modHwsAll f).mem = d.mem := rfl
@[simp] theorem Device.errs_modHwsAll (d : Device) (f : Vector HwsPort 8 → Vector HwsPort 8) : (d.modHwsAll f).errs = d.errs := rfl
@[simp] theorem Device.poisoned_modHwsAll (d : Device) (f : Vector HwsPort 8 → Vector HwsPort 8) : (d.modHwsAll f).poisoned = d.poisoned := rfl
@[simp] theorem Device.memHist_modHwsAll (d : Device) (f : Vector HwsPort 8 → Vector HwsPort 8) : (d.modHwsAll f).memHist = d.memHist := rfl
@[simp] theorem Device.writeBack_modHwsAll (d : Device) (f : Vector HwsPort 8 → Vector HwsPort 8) : (d.modHwsAll f).writeBack = d.writeBack := rfl
@[simp] theorem Device.sparesOut_modHwsAll (d : Device) (f : Vector HwsPort 8 → Vector HwsPort 8) : (d.modHwsAll f).sparesOut = d.sparesOut := rfl
@[simp] theorem Device.scrubRow_modHwsAll (d : Device) (f : Vector HwsPort 8 → Vector HwsPort 8) : (d.modHwsAll f).scrubRow = d.scrubRow := rfl
@[simp] theorem Device.scrubFrom_modHwsAll (d : Device) (f : Vector HwsPort 8 → Vector HwsPort 8) : (d.modHwsAll f).scrubFrom = d.scrubFrom := rfl
@[simp] theorem Device.now_modHwsAll (d : Device) (f : Vector HwsPort 8 → Vector HwsPort 8) : (d.modHwsAll f).now = d.now := rfl
@[simp] theorem Device.draws_modHwsAll (d : Device) (f : Vector HwsPort 8 → Vector HwsPort 8) : (d.modHwsAll f).draws = d.draws := rfl
@[simp] theorem Device.rx_modHwsAll (d : Device) (f : Vector HwsPort 8 → Vector HwsPort 8) : (d.modHwsAll f).rx = d.rx := rfl
@[simp] theorem Device.tx_modHwsAll (d : Device) (f : Vector HwsPort 8 → Vector HwsPort 8) : (d.modHwsAll f).tx = d.tx := rfl
@[simp] theorem Device.bw_modHwsAll (d : Device) (f : Vector HwsPort 8 → Vector HwsPort 8) : (d.modHwsAll f).bw = d.bw := rfl
@[simp] theorem Device.egr_modHwsAll (d : Device) (f : Vector HwsPort 8 → Vector HwsPort 8) : (d.modHwsAll f).egr = d.egr := rfl
@[simp] theorem Device.neg_modHwsAll (d : Device) (f : Vector HwsPort 8 → Vector HwsPort 8) : (d.modHwsAll f).neg = d.neg := rfl
@[simp] theorem Device.pool_modHwsAll (d : Device) (f : Vector HwsPort 8 → Vector HwsPort 8) : (d.modHwsAll f).pool = d.pool := rfl
@[simp] theorem Device.host_modHwsAll (d : Device) (f : Vector HwsPort 8 → Vector HwsPort 8) : (d.modHwsAll f).host = d.host := rfl
@[simp] theorem Device.out_modHwsAll (d : Device) (f : Vector HwsPort 8 → Vector HwsPort 8) : (d.modHwsAll f).out = d.out := rfl
@[simp] theorem Device.plt_modHwsAll (d : Device) (f : Vector HwsPort 8 → Vector HwsPort 8) : (d.modHwsAll f).plt = d.plt := rfl
@[simp] theorem Device.fab_modHwsAll (d : Device) (f : Vector HwsPort 8 → Vector HwsPort 8) : (d.modHwsAll f).fab = d.fab := rfl
@[simp] theorem Device.sup_modHwsAll (d : Device) (f : Vector HwsPort 8 → Vector HwsPort 8) : (d.modHwsAll f).sup = d.sup := rfl
@[simp] theorem Device.thm_modHwsAll (d : Device) (f : Vector HwsPort 8 → Vector HwsPort 8) : (d.modHwsAll f).thm = d.thm := rfl
@[simp] theorem Device.mon_modHwsAll (d : Device) (f : Vector HwsPort 8 → Vector HwsPort 8) : (d.modHwsAll f).mon = d.mon := rfl
@[simp] theorem Device.sec_modHwsAll (d : Device) (f : Vector HwsPort 8 → Vector HwsPort 8) : (d.modHwsAll f).sec = d.sec := rfl
@[simp] theorem Device.flash_modHwsAll (d : Device) (f : Vector HwsPort 8 → Vector HwsPort 8) : (d.modHwsAll f).flash = d.flash := rfl
@[simp] theorem Device.banks_modHwsAll (d : Device) (f : Vector HwsPort 8 → Vector HwsPort 8) : (d.modHwsAll f).banks = d.banks := rfl
@[simp] theorem Device.mft_modHwsAll (d : Device) (f : Vector HwsPort 8 → Vector HwsPort 8) : (d.modHwsAll f).mft = d.mft := rfl
@[simp] theorem Device.lko_modHwsAll (d : Device) (f : Vector HwsPort 8 → Vector HwsPort 8) : (d.modHwsAll f).lko = d.lko := rfl
@[simp] theorem Device.pmuReq_modHwsAll (d : Device) (f : Vector HwsPort 8 → Vector HwsPort 8) : (d.modHwsAll f).pmuReq = d.pmuReq := rfl
@[simp] theorem Device.txdisLow_modHwsAll (d : Device) (f : Vector HwsPort 8 → Vector HwsPort 8) : (d.modHwsAll f).txdisLow = d.txdisLow := rfl
@[simp] theorem Device.pmuPrev_modHwsAll (d : Device) (f : Vector HwsPort 8 → Vector HwsPort 8) : (d.modHwsAll f).pmuPrev = d.pmuPrev := rfl
@[simp] theorem Device.laneHold_modHwsAll (d : Device) (f : Vector HwsPort 8 → Vector HwsPort 8) : (d.modHwsAll f).laneHold = d.laneHold := rfl
@[simp] theorem Device.clkWake_modHwsAll (d : Device) (f : Vector HwsPort 8 → Vector HwsPort 8) : (d.modHwsAll f).clkWake = d.clkWake := rfl
@[simp] theorem Device.reg_modHwsAll (d : Device) (f : Vector HwsPort 8 → Vector HwsPort 8) (c : Nat) : (d.modHwsAll f).reg c = d.reg c := rfl
@[simp] theorem Device.get_modHwsAll (d : Device) (f : Vector HwsPort 8 → Vector HwsPort 8) (g : Fld) : (d.modHwsAll f).get g = d.get g := rfl
@[simp] theorem Device.lget_modHwsAll (d : Device) (f : Vector HwsPort 8 → Vector HwsPort 8) (g : Fld) : (d.modHwsAll f).lget g = d.lget g := rfl
@[simp] theorem Device.byte_modHwsAll (d : Device) (f : Vector HwsPort 8 → Vector HwsPort 8) (c : Nat) : (d.modHwsAll f).byte c = d.byte c := rfl

/-! ### modFab -/

@[simp] theorem Device.regs_modFab (d : Device) (f : Fab → Fab) : (d.modFab f).regs = d.regs := rfl
@[simp] theorem Device.live_modFab (d : Device) (f : Fab → Fab) : (d.modFab f).live = d.live := rfl
@[simp] theorem Device.snap_modFab (d : Device) (f : Fab → Fab) : (d.modFab f).snap = d.snap := rfl
@[simp] theorem Device.mem_modFab (d : Device) (f : Fab → Fab) : (d.modFab f).mem = d.mem := rfl
@[simp] theorem Device.errs_modFab (d : Device) (f : Fab → Fab) : (d.modFab f).errs = d.errs := rfl
@[simp] theorem Device.poisoned_modFab (d : Device) (f : Fab → Fab) : (d.modFab f).poisoned = d.poisoned := rfl
@[simp] theorem Device.memHist_modFab (d : Device) (f : Fab → Fab) : (d.modFab f).memHist = d.memHist := rfl
@[simp] theorem Device.writeBack_modFab (d : Device) (f : Fab → Fab) : (d.modFab f).writeBack = d.writeBack := rfl
@[simp] theorem Device.sparesOut_modFab (d : Device) (f : Fab → Fab) : (d.modFab f).sparesOut = d.sparesOut := rfl
@[simp] theorem Device.scrubRow_modFab (d : Device) (f : Fab → Fab) : (d.modFab f).scrubRow = d.scrubRow := rfl
@[simp] theorem Device.scrubFrom_modFab (d : Device) (f : Fab → Fab) : (d.modFab f).scrubFrom = d.scrubFrom := rfl
@[simp] theorem Device.now_modFab (d : Device) (f : Fab → Fab) : (d.modFab f).now = d.now := rfl
@[simp] theorem Device.draws_modFab (d : Device) (f : Fab → Fab) : (d.modFab f).draws = d.draws := rfl
@[simp] theorem Device.rx_modFab (d : Device) (f : Fab → Fab) : (d.modFab f).rx = d.rx := rfl
@[simp] theorem Device.tx_modFab (d : Device) (f : Fab → Fab) : (d.modFab f).tx = d.tx := rfl
@[simp] theorem Device.bw_modFab (d : Device) (f : Fab → Fab) : (d.modFab f).bw = d.bw := rfl
@[simp] theorem Device.egr_modFab (d : Device) (f : Fab → Fab) : (d.modFab f).egr = d.egr := rfl
@[simp] theorem Device.neg_modFab (d : Device) (f : Fab → Fab) : (d.modFab f).neg = d.neg := rfl
@[simp] theorem Device.pool_modFab (d : Device) (f : Fab → Fab) : (d.modFab f).pool = d.pool := rfl
@[simp] theorem Device.host_modFab (d : Device) (f : Fab → Fab) : (d.modFab f).host = d.host := rfl
@[simp] theorem Device.out_modFab (d : Device) (f : Fab → Fab) : (d.modFab f).out = d.out := rfl
@[simp] theorem Device.plt_modFab (d : Device) (f : Fab → Fab) : (d.modFab f).plt = d.plt := rfl
@[simp] theorem Device.hws_modFab (d : Device) (f : Fab → Fab) : (d.modFab f).hws = d.hws := rfl
@[simp] theorem Device.sup_modFab (d : Device) (f : Fab → Fab) : (d.modFab f).sup = d.sup := rfl
@[simp] theorem Device.thm_modFab (d : Device) (f : Fab → Fab) : (d.modFab f).thm = d.thm := rfl
@[simp] theorem Device.mon_modFab (d : Device) (f : Fab → Fab) : (d.modFab f).mon = d.mon := rfl
@[simp] theorem Device.sec_modFab (d : Device) (f : Fab → Fab) : (d.modFab f).sec = d.sec := rfl
@[simp] theorem Device.flash_modFab (d : Device) (f : Fab → Fab) : (d.modFab f).flash = d.flash := rfl
@[simp] theorem Device.banks_modFab (d : Device) (f : Fab → Fab) : (d.modFab f).banks = d.banks := rfl
@[simp] theorem Device.mft_modFab (d : Device) (f : Fab → Fab) : (d.modFab f).mft = d.mft := rfl
@[simp] theorem Device.lko_modFab (d : Device) (f : Fab → Fab) : (d.modFab f).lko = d.lko := rfl
@[simp] theorem Device.pmuReq_modFab (d : Device) (f : Fab → Fab) : (d.modFab f).pmuReq = d.pmuReq := rfl
@[simp] theorem Device.txdisLow_modFab (d : Device) (f : Fab → Fab) : (d.modFab f).txdisLow = d.txdisLow := rfl
@[simp] theorem Device.pmuPrev_modFab (d : Device) (f : Fab → Fab) : (d.modFab f).pmuPrev = d.pmuPrev := rfl
@[simp] theorem Device.laneHold_modFab (d : Device) (f : Fab → Fab) : (d.modFab f).laneHold = d.laneHold := rfl
@[simp] theorem Device.clkWake_modFab (d : Device) (f : Fab → Fab) : (d.modFab f).clkWake = d.clkWake := rfl
@[simp] theorem Device.reg_modFab (d : Device) (f : Fab → Fab) (c : Nat) : (d.modFab f).reg c = d.reg c := rfl
@[simp] theorem Device.get_modFab (d : Device) (f : Fab → Fab) (g : Fld) : (d.modFab f).get g = d.get g := rfl
@[simp] theorem Device.lget_modFab (d : Device) (f : Fab → Fab) (g : Fld) : (d.modFab f).lget g = d.lget g := rfl
@[simp] theorem Device.byte_modFab (d : Device) (f : Fab → Fab) (c : Nat) : (d.modFab f).byte c = d.byte c := rfl

/-! ### modSup -/

@[simp] theorem Device.regs_modSup (d : Device) (f : Sup → Sup) : (d.modSup f).regs = d.regs := rfl
@[simp] theorem Device.live_modSup (d : Device) (f : Sup → Sup) : (d.modSup f).live = d.live := rfl
@[simp] theorem Device.snap_modSup (d : Device) (f : Sup → Sup) : (d.modSup f).snap = d.snap := rfl
@[simp] theorem Device.mem_modSup (d : Device) (f : Sup → Sup) : (d.modSup f).mem = d.mem := rfl
@[simp] theorem Device.errs_modSup (d : Device) (f : Sup → Sup) : (d.modSup f).errs = d.errs := rfl
@[simp] theorem Device.poisoned_modSup (d : Device) (f : Sup → Sup) : (d.modSup f).poisoned = d.poisoned := rfl
@[simp] theorem Device.memHist_modSup (d : Device) (f : Sup → Sup) : (d.modSup f).memHist = d.memHist := rfl
@[simp] theorem Device.writeBack_modSup (d : Device) (f : Sup → Sup) : (d.modSup f).writeBack = d.writeBack := rfl
@[simp] theorem Device.sparesOut_modSup (d : Device) (f : Sup → Sup) : (d.modSup f).sparesOut = d.sparesOut := rfl
@[simp] theorem Device.scrubRow_modSup (d : Device) (f : Sup → Sup) : (d.modSup f).scrubRow = d.scrubRow := rfl
@[simp] theorem Device.scrubFrom_modSup (d : Device) (f : Sup → Sup) : (d.modSup f).scrubFrom = d.scrubFrom := rfl
@[simp] theorem Device.now_modSup (d : Device) (f : Sup → Sup) : (d.modSup f).now = d.now := rfl
@[simp] theorem Device.draws_modSup (d : Device) (f : Sup → Sup) : (d.modSup f).draws = d.draws := rfl
@[simp] theorem Device.rx_modSup (d : Device) (f : Sup → Sup) : (d.modSup f).rx = d.rx := rfl
@[simp] theorem Device.tx_modSup (d : Device) (f : Sup → Sup) : (d.modSup f).tx = d.tx := rfl
@[simp] theorem Device.bw_modSup (d : Device) (f : Sup → Sup) : (d.modSup f).bw = d.bw := rfl
@[simp] theorem Device.egr_modSup (d : Device) (f : Sup → Sup) : (d.modSup f).egr = d.egr := rfl
@[simp] theorem Device.neg_modSup (d : Device) (f : Sup → Sup) : (d.modSup f).neg = d.neg := rfl
@[simp] theorem Device.pool_modSup (d : Device) (f : Sup → Sup) : (d.modSup f).pool = d.pool := rfl
@[simp] theorem Device.host_modSup (d : Device) (f : Sup → Sup) : (d.modSup f).host = d.host := rfl
@[simp] theorem Device.out_modSup (d : Device) (f : Sup → Sup) : (d.modSup f).out = d.out := rfl
@[simp] theorem Device.plt_modSup (d : Device) (f : Sup → Sup) : (d.modSup f).plt = d.plt := rfl
@[simp] theorem Device.hws_modSup (d : Device) (f : Sup → Sup) : (d.modSup f).hws = d.hws := rfl
@[simp] theorem Device.fab_modSup (d : Device) (f : Sup → Sup) : (d.modSup f).fab = d.fab := rfl
@[simp] theorem Device.thm_modSup (d : Device) (f : Sup → Sup) : (d.modSup f).thm = d.thm := rfl
@[simp] theorem Device.mon_modSup (d : Device) (f : Sup → Sup) : (d.modSup f).mon = d.mon := rfl
@[simp] theorem Device.sec_modSup (d : Device) (f : Sup → Sup) : (d.modSup f).sec = d.sec := rfl
@[simp] theorem Device.flash_modSup (d : Device) (f : Sup → Sup) : (d.modSup f).flash = d.flash := rfl
@[simp] theorem Device.banks_modSup (d : Device) (f : Sup → Sup) : (d.modSup f).banks = d.banks := rfl
@[simp] theorem Device.mft_modSup (d : Device) (f : Sup → Sup) : (d.modSup f).mft = d.mft := rfl
@[simp] theorem Device.lko_modSup (d : Device) (f : Sup → Sup) : (d.modSup f).lko = d.lko := rfl
@[simp] theorem Device.pmuReq_modSup (d : Device) (f : Sup → Sup) : (d.modSup f).pmuReq = d.pmuReq := rfl
@[simp] theorem Device.txdisLow_modSup (d : Device) (f : Sup → Sup) : (d.modSup f).txdisLow = d.txdisLow := rfl
@[simp] theorem Device.pmuPrev_modSup (d : Device) (f : Sup → Sup) : (d.modSup f).pmuPrev = d.pmuPrev := rfl
@[simp] theorem Device.laneHold_modSup (d : Device) (f : Sup → Sup) : (d.modSup f).laneHold = d.laneHold := rfl
@[simp] theorem Device.clkWake_modSup (d : Device) (f : Sup → Sup) : (d.modSup f).clkWake = d.clkWake := rfl
@[simp] theorem Device.reg_modSup (d : Device) (f : Sup → Sup) (c : Nat) : (d.modSup f).reg c = d.reg c := rfl
@[simp] theorem Device.get_modSup (d : Device) (f : Sup → Sup) (g : Fld) : (d.modSup f).get g = d.get g := rfl
@[simp] theorem Device.lget_modSup (d : Device) (f : Sup → Sup) (g : Fld) : (d.modSup f).lget g = d.lget g := rfl
@[simp] theorem Device.byte_modSup (d : Device) (f : Sup → Sup) (c : Nat) : (d.modSup f).byte c = d.byte c := rfl

/-! ### modThm -/

@[simp] theorem Device.regs_modThm (d : Device) (f : Thermal → Thermal) : (d.modThm f).regs = d.regs := rfl
@[simp] theorem Device.live_modThm (d : Device) (f : Thermal → Thermal) : (d.modThm f).live = d.live := rfl
@[simp] theorem Device.snap_modThm (d : Device) (f : Thermal → Thermal) : (d.modThm f).snap = d.snap := rfl
@[simp] theorem Device.mem_modThm (d : Device) (f : Thermal → Thermal) : (d.modThm f).mem = d.mem := rfl
@[simp] theorem Device.errs_modThm (d : Device) (f : Thermal → Thermal) : (d.modThm f).errs = d.errs := rfl
@[simp] theorem Device.poisoned_modThm (d : Device) (f : Thermal → Thermal) : (d.modThm f).poisoned = d.poisoned := rfl
@[simp] theorem Device.memHist_modThm (d : Device) (f : Thermal → Thermal) : (d.modThm f).memHist = d.memHist := rfl
@[simp] theorem Device.writeBack_modThm (d : Device) (f : Thermal → Thermal) : (d.modThm f).writeBack = d.writeBack := rfl
@[simp] theorem Device.sparesOut_modThm (d : Device) (f : Thermal → Thermal) : (d.modThm f).sparesOut = d.sparesOut := rfl
@[simp] theorem Device.scrubRow_modThm (d : Device) (f : Thermal → Thermal) : (d.modThm f).scrubRow = d.scrubRow := rfl
@[simp] theorem Device.scrubFrom_modThm (d : Device) (f : Thermal → Thermal) : (d.modThm f).scrubFrom = d.scrubFrom := rfl
@[simp] theorem Device.now_modThm (d : Device) (f : Thermal → Thermal) : (d.modThm f).now = d.now := rfl
@[simp] theorem Device.draws_modThm (d : Device) (f : Thermal → Thermal) : (d.modThm f).draws = d.draws := rfl
@[simp] theorem Device.rx_modThm (d : Device) (f : Thermal → Thermal) : (d.modThm f).rx = d.rx := rfl
@[simp] theorem Device.tx_modThm (d : Device) (f : Thermal → Thermal) : (d.modThm f).tx = d.tx := rfl
@[simp] theorem Device.bw_modThm (d : Device) (f : Thermal → Thermal) : (d.modThm f).bw = d.bw := rfl
@[simp] theorem Device.egr_modThm (d : Device) (f : Thermal → Thermal) : (d.modThm f).egr = d.egr := rfl
@[simp] theorem Device.neg_modThm (d : Device) (f : Thermal → Thermal) : (d.modThm f).neg = d.neg := rfl
@[simp] theorem Device.pool_modThm (d : Device) (f : Thermal → Thermal) : (d.modThm f).pool = d.pool := rfl
@[simp] theorem Device.host_modThm (d : Device) (f : Thermal → Thermal) : (d.modThm f).host = d.host := rfl
@[simp] theorem Device.out_modThm (d : Device) (f : Thermal → Thermal) : (d.modThm f).out = d.out := rfl
@[simp] theorem Device.plt_modThm (d : Device) (f : Thermal → Thermal) : (d.modThm f).plt = d.plt := rfl
@[simp] theorem Device.hws_modThm (d : Device) (f : Thermal → Thermal) : (d.modThm f).hws = d.hws := rfl
@[simp] theorem Device.fab_modThm (d : Device) (f : Thermal → Thermal) : (d.modThm f).fab = d.fab := rfl
@[simp] theorem Device.sup_modThm (d : Device) (f : Thermal → Thermal) : (d.modThm f).sup = d.sup := rfl
@[simp] theorem Device.mon_modThm (d : Device) (f : Thermal → Thermal) : (d.modThm f).mon = d.mon := rfl
@[simp] theorem Device.sec_modThm (d : Device) (f : Thermal → Thermal) : (d.modThm f).sec = d.sec := rfl
@[simp] theorem Device.flash_modThm (d : Device) (f : Thermal → Thermal) : (d.modThm f).flash = d.flash := rfl
@[simp] theorem Device.banks_modThm (d : Device) (f : Thermal → Thermal) : (d.modThm f).banks = d.banks := rfl
@[simp] theorem Device.mft_modThm (d : Device) (f : Thermal → Thermal) : (d.modThm f).mft = d.mft := rfl
@[simp] theorem Device.lko_modThm (d : Device) (f : Thermal → Thermal) : (d.modThm f).lko = d.lko := rfl
@[simp] theorem Device.pmuReq_modThm (d : Device) (f : Thermal → Thermal) : (d.modThm f).pmuReq = d.pmuReq := rfl
@[simp] theorem Device.txdisLow_modThm (d : Device) (f : Thermal → Thermal) : (d.modThm f).txdisLow = d.txdisLow := rfl
@[simp] theorem Device.pmuPrev_modThm (d : Device) (f : Thermal → Thermal) : (d.modThm f).pmuPrev = d.pmuPrev := rfl
@[simp] theorem Device.laneHold_modThm (d : Device) (f : Thermal → Thermal) : (d.modThm f).laneHold = d.laneHold := rfl
@[simp] theorem Device.clkWake_modThm (d : Device) (f : Thermal → Thermal) : (d.modThm f).clkWake = d.clkWake := rfl
@[simp] theorem Device.reg_modThm (d : Device) (f : Thermal → Thermal) (c : Nat) : (d.modThm f).reg c = d.reg c := rfl
@[simp] theorem Device.get_modThm (d : Device) (f : Thermal → Thermal) (g : Fld) : (d.modThm f).get g = d.get g := rfl
@[simp] theorem Device.lget_modThm (d : Device) (f : Thermal → Thermal) (g : Fld) : (d.modThm f).lget g = d.lget g := rfl
@[simp] theorem Device.byte_modThm (d : Device) (f : Thermal → Thermal) (c : Nat) : (d.modThm f).byte c = d.byte c := rfl

/-! ### modMon -/

@[simp] theorem Device.regs_modMon (d : Device) (f : Mon → Mon) : (d.modMon f).regs = d.regs := rfl
@[simp] theorem Device.live_modMon (d : Device) (f : Mon → Mon) : (d.modMon f).live = d.live := rfl
@[simp] theorem Device.snap_modMon (d : Device) (f : Mon → Mon) : (d.modMon f).snap = d.snap := rfl
@[simp] theorem Device.mem_modMon (d : Device) (f : Mon → Mon) : (d.modMon f).mem = d.mem := rfl
@[simp] theorem Device.errs_modMon (d : Device) (f : Mon → Mon) : (d.modMon f).errs = d.errs := rfl
@[simp] theorem Device.poisoned_modMon (d : Device) (f : Mon → Mon) : (d.modMon f).poisoned = d.poisoned := rfl
@[simp] theorem Device.memHist_modMon (d : Device) (f : Mon → Mon) : (d.modMon f).memHist = d.memHist := rfl
@[simp] theorem Device.writeBack_modMon (d : Device) (f : Mon → Mon) : (d.modMon f).writeBack = d.writeBack := rfl
@[simp] theorem Device.sparesOut_modMon (d : Device) (f : Mon → Mon) : (d.modMon f).sparesOut = d.sparesOut := rfl
@[simp] theorem Device.scrubRow_modMon (d : Device) (f : Mon → Mon) : (d.modMon f).scrubRow = d.scrubRow := rfl
@[simp] theorem Device.scrubFrom_modMon (d : Device) (f : Mon → Mon) : (d.modMon f).scrubFrom = d.scrubFrom := rfl
@[simp] theorem Device.now_modMon (d : Device) (f : Mon → Mon) : (d.modMon f).now = d.now := rfl
@[simp] theorem Device.draws_modMon (d : Device) (f : Mon → Mon) : (d.modMon f).draws = d.draws := rfl
@[simp] theorem Device.rx_modMon (d : Device) (f : Mon → Mon) : (d.modMon f).rx = d.rx := rfl
@[simp] theorem Device.tx_modMon (d : Device) (f : Mon → Mon) : (d.modMon f).tx = d.tx := rfl
@[simp] theorem Device.bw_modMon (d : Device) (f : Mon → Mon) : (d.modMon f).bw = d.bw := rfl
@[simp] theorem Device.egr_modMon (d : Device) (f : Mon → Mon) : (d.modMon f).egr = d.egr := rfl
@[simp] theorem Device.neg_modMon (d : Device) (f : Mon → Mon) : (d.modMon f).neg = d.neg := rfl
@[simp] theorem Device.pool_modMon (d : Device) (f : Mon → Mon) : (d.modMon f).pool = d.pool := rfl
@[simp] theorem Device.host_modMon (d : Device) (f : Mon → Mon) : (d.modMon f).host = d.host := rfl
@[simp] theorem Device.out_modMon (d : Device) (f : Mon → Mon) : (d.modMon f).out = d.out := rfl
@[simp] theorem Device.plt_modMon (d : Device) (f : Mon → Mon) : (d.modMon f).plt = d.plt := rfl
@[simp] theorem Device.hws_modMon (d : Device) (f : Mon → Mon) : (d.modMon f).hws = d.hws := rfl
@[simp] theorem Device.fab_modMon (d : Device) (f : Mon → Mon) : (d.modMon f).fab = d.fab := rfl
@[simp] theorem Device.sup_modMon (d : Device) (f : Mon → Mon) : (d.modMon f).sup = d.sup := rfl
@[simp] theorem Device.thm_modMon (d : Device) (f : Mon → Mon) : (d.modMon f).thm = d.thm := rfl
@[simp] theorem Device.sec_modMon (d : Device) (f : Mon → Mon) : (d.modMon f).sec = d.sec := rfl
@[simp] theorem Device.flash_modMon (d : Device) (f : Mon → Mon) : (d.modMon f).flash = d.flash := rfl
@[simp] theorem Device.banks_modMon (d : Device) (f : Mon → Mon) : (d.modMon f).banks = d.banks := rfl
@[simp] theorem Device.mft_modMon (d : Device) (f : Mon → Mon) : (d.modMon f).mft = d.mft := rfl
@[simp] theorem Device.lko_modMon (d : Device) (f : Mon → Mon) : (d.modMon f).lko = d.lko := rfl
@[simp] theorem Device.pmuReq_modMon (d : Device) (f : Mon → Mon) : (d.modMon f).pmuReq = d.pmuReq := rfl
@[simp] theorem Device.txdisLow_modMon (d : Device) (f : Mon → Mon) : (d.modMon f).txdisLow = d.txdisLow := rfl
@[simp] theorem Device.pmuPrev_modMon (d : Device) (f : Mon → Mon) : (d.modMon f).pmuPrev = d.pmuPrev := rfl
@[simp] theorem Device.laneHold_modMon (d : Device) (f : Mon → Mon) : (d.modMon f).laneHold = d.laneHold := rfl
@[simp] theorem Device.clkWake_modMon (d : Device) (f : Mon → Mon) : (d.modMon f).clkWake = d.clkWake := rfl
@[simp] theorem Device.reg_modMon (d : Device) (f : Mon → Mon) (c : Nat) : (d.modMon f).reg c = d.reg c := rfl
@[simp] theorem Device.get_modMon (d : Device) (f : Mon → Mon) (g : Fld) : (d.modMon f).get g = d.get g := rfl
@[simp] theorem Device.lget_modMon (d : Device) (f : Mon → Mon) (g : Fld) : (d.modMon f).lget g = d.lget g := rfl
@[simp] theorem Device.byte_modMon (d : Device) (f : Mon → Mon) (c : Nat) : (d.modMon f).byte c = d.byte c := rfl

/-! ### modSec -/

@[simp] theorem Device.regs_modSec (d : Device) (f : Sec → Sec) : (d.modSec f).regs = d.regs := rfl
@[simp] theorem Device.live_modSec (d : Device) (f : Sec → Sec) : (d.modSec f).live = d.live := rfl
@[simp] theorem Device.snap_modSec (d : Device) (f : Sec → Sec) : (d.modSec f).snap = d.snap := rfl
@[simp] theorem Device.mem_modSec (d : Device) (f : Sec → Sec) : (d.modSec f).mem = d.mem := rfl
@[simp] theorem Device.errs_modSec (d : Device) (f : Sec → Sec) : (d.modSec f).errs = d.errs := rfl
@[simp] theorem Device.poisoned_modSec (d : Device) (f : Sec → Sec) : (d.modSec f).poisoned = d.poisoned := rfl
@[simp] theorem Device.memHist_modSec (d : Device) (f : Sec → Sec) : (d.modSec f).memHist = d.memHist := rfl
@[simp] theorem Device.writeBack_modSec (d : Device) (f : Sec → Sec) : (d.modSec f).writeBack = d.writeBack := rfl
@[simp] theorem Device.sparesOut_modSec (d : Device) (f : Sec → Sec) : (d.modSec f).sparesOut = d.sparesOut := rfl
@[simp] theorem Device.scrubRow_modSec (d : Device) (f : Sec → Sec) : (d.modSec f).scrubRow = d.scrubRow := rfl
@[simp] theorem Device.scrubFrom_modSec (d : Device) (f : Sec → Sec) : (d.modSec f).scrubFrom = d.scrubFrom := rfl
@[simp] theorem Device.now_modSec (d : Device) (f : Sec → Sec) : (d.modSec f).now = d.now := rfl
@[simp] theorem Device.draws_modSec (d : Device) (f : Sec → Sec) : (d.modSec f).draws = d.draws := rfl
@[simp] theorem Device.rx_modSec (d : Device) (f : Sec → Sec) : (d.modSec f).rx = d.rx := rfl
@[simp] theorem Device.tx_modSec (d : Device) (f : Sec → Sec) : (d.modSec f).tx = d.tx := rfl
@[simp] theorem Device.bw_modSec (d : Device) (f : Sec → Sec) : (d.modSec f).bw = d.bw := rfl
@[simp] theorem Device.egr_modSec (d : Device) (f : Sec → Sec) : (d.modSec f).egr = d.egr := rfl
@[simp] theorem Device.neg_modSec (d : Device) (f : Sec → Sec) : (d.modSec f).neg = d.neg := rfl
@[simp] theorem Device.pool_modSec (d : Device) (f : Sec → Sec) : (d.modSec f).pool = d.pool := rfl
@[simp] theorem Device.host_modSec (d : Device) (f : Sec → Sec) : (d.modSec f).host = d.host := rfl
@[simp] theorem Device.out_modSec (d : Device) (f : Sec → Sec) : (d.modSec f).out = d.out := rfl
@[simp] theorem Device.plt_modSec (d : Device) (f : Sec → Sec) : (d.modSec f).plt = d.plt := rfl
@[simp] theorem Device.hws_modSec (d : Device) (f : Sec → Sec) : (d.modSec f).hws = d.hws := rfl
@[simp] theorem Device.fab_modSec (d : Device) (f : Sec → Sec) : (d.modSec f).fab = d.fab := rfl
@[simp] theorem Device.sup_modSec (d : Device) (f : Sec → Sec) : (d.modSec f).sup = d.sup := rfl
@[simp] theorem Device.thm_modSec (d : Device) (f : Sec → Sec) : (d.modSec f).thm = d.thm := rfl
@[simp] theorem Device.mon_modSec (d : Device) (f : Sec → Sec) : (d.modSec f).mon = d.mon := rfl
@[simp] theorem Device.flash_modSec (d : Device) (f : Sec → Sec) : (d.modSec f).flash = d.flash := rfl
@[simp] theorem Device.banks_modSec (d : Device) (f : Sec → Sec) : (d.modSec f).banks = d.banks := rfl
@[simp] theorem Device.mft_modSec (d : Device) (f : Sec → Sec) : (d.modSec f).mft = d.mft := rfl
@[simp] theorem Device.lko_modSec (d : Device) (f : Sec → Sec) : (d.modSec f).lko = d.lko := rfl
@[simp] theorem Device.pmuReq_modSec (d : Device) (f : Sec → Sec) : (d.modSec f).pmuReq = d.pmuReq := rfl
@[simp] theorem Device.txdisLow_modSec (d : Device) (f : Sec → Sec) : (d.modSec f).txdisLow = d.txdisLow := rfl
@[simp] theorem Device.pmuPrev_modSec (d : Device) (f : Sec → Sec) : (d.modSec f).pmuPrev = d.pmuPrev := rfl
@[simp] theorem Device.laneHold_modSec (d : Device) (f : Sec → Sec) : (d.modSec f).laneHold = d.laneHold := rfl
@[simp] theorem Device.clkWake_modSec (d : Device) (f : Sec → Sec) : (d.modSec f).clkWake = d.clkWake := rfl
@[simp] theorem Device.reg_modSec (d : Device) (f : Sec → Sec) (c : Nat) : (d.modSec f).reg c = d.reg c := rfl
@[simp] theorem Device.get_modSec (d : Device) (f : Sec → Sec) (g : Fld) : (d.modSec f).get g = d.get g := rfl
@[simp] theorem Device.lget_modSec (d : Device) (f : Sec → Sec) (g : Fld) : (d.modSec f).lget g = d.lget g := rfl
@[simp] theorem Device.byte_modSec (d : Device) (f : Sec → Sec) (c : Nat) : (d.modSec f).byte c = d.byte c := rfl

/-! ### modFlash -/

@[simp] theorem Device.regs_modFlash (d : Device) (f : Flash → Flash) : (d.modFlash f).regs = d.regs := rfl
@[simp] theorem Device.live_modFlash (d : Device) (f : Flash → Flash) : (d.modFlash f).live = d.live := rfl
@[simp] theorem Device.snap_modFlash (d : Device) (f : Flash → Flash) : (d.modFlash f).snap = d.snap := rfl
@[simp] theorem Device.mem_modFlash (d : Device) (f : Flash → Flash) : (d.modFlash f).mem = d.mem := rfl
@[simp] theorem Device.errs_modFlash (d : Device) (f : Flash → Flash) : (d.modFlash f).errs = d.errs := rfl
@[simp] theorem Device.poisoned_modFlash (d : Device) (f : Flash → Flash) : (d.modFlash f).poisoned = d.poisoned := rfl
@[simp] theorem Device.memHist_modFlash (d : Device) (f : Flash → Flash) : (d.modFlash f).memHist = d.memHist := rfl
@[simp] theorem Device.writeBack_modFlash (d : Device) (f : Flash → Flash) : (d.modFlash f).writeBack = d.writeBack := rfl
@[simp] theorem Device.sparesOut_modFlash (d : Device) (f : Flash → Flash) : (d.modFlash f).sparesOut = d.sparesOut := rfl
@[simp] theorem Device.scrubRow_modFlash (d : Device) (f : Flash → Flash) : (d.modFlash f).scrubRow = d.scrubRow := rfl
@[simp] theorem Device.scrubFrom_modFlash (d : Device) (f : Flash → Flash) : (d.modFlash f).scrubFrom = d.scrubFrom := rfl
@[simp] theorem Device.now_modFlash (d : Device) (f : Flash → Flash) : (d.modFlash f).now = d.now := rfl
@[simp] theorem Device.draws_modFlash (d : Device) (f : Flash → Flash) : (d.modFlash f).draws = d.draws := rfl
@[simp] theorem Device.rx_modFlash (d : Device) (f : Flash → Flash) : (d.modFlash f).rx = d.rx := rfl
@[simp] theorem Device.tx_modFlash (d : Device) (f : Flash → Flash) : (d.modFlash f).tx = d.tx := rfl
@[simp] theorem Device.bw_modFlash (d : Device) (f : Flash → Flash) : (d.modFlash f).bw = d.bw := rfl
@[simp] theorem Device.egr_modFlash (d : Device) (f : Flash → Flash) : (d.modFlash f).egr = d.egr := rfl
@[simp] theorem Device.neg_modFlash (d : Device) (f : Flash → Flash) : (d.modFlash f).neg = d.neg := rfl
@[simp] theorem Device.pool_modFlash (d : Device) (f : Flash → Flash) : (d.modFlash f).pool = d.pool := rfl
@[simp] theorem Device.host_modFlash (d : Device) (f : Flash → Flash) : (d.modFlash f).host = d.host := rfl
@[simp] theorem Device.out_modFlash (d : Device) (f : Flash → Flash) : (d.modFlash f).out = d.out := rfl
@[simp] theorem Device.plt_modFlash (d : Device) (f : Flash → Flash) : (d.modFlash f).plt = d.plt := rfl
@[simp] theorem Device.hws_modFlash (d : Device) (f : Flash → Flash) : (d.modFlash f).hws = d.hws := rfl
@[simp] theorem Device.fab_modFlash (d : Device) (f : Flash → Flash) : (d.modFlash f).fab = d.fab := rfl
@[simp] theorem Device.sup_modFlash (d : Device) (f : Flash → Flash) : (d.modFlash f).sup = d.sup := rfl
@[simp] theorem Device.thm_modFlash (d : Device) (f : Flash → Flash) : (d.modFlash f).thm = d.thm := rfl
@[simp] theorem Device.mon_modFlash (d : Device) (f : Flash → Flash) : (d.modFlash f).mon = d.mon := rfl
@[simp] theorem Device.sec_modFlash (d : Device) (f : Flash → Flash) : (d.modFlash f).sec = d.sec := rfl
@[simp] theorem Device.banks_modFlash (d : Device) (f : Flash → Flash) : (d.modFlash f).banks = d.banks := rfl
@[simp] theorem Device.mft_modFlash (d : Device) (f : Flash → Flash) : (d.modFlash f).mft = d.mft := rfl
@[simp] theorem Device.lko_modFlash (d : Device) (f : Flash → Flash) : (d.modFlash f).lko = d.lko := rfl
@[simp] theorem Device.pmuReq_modFlash (d : Device) (f : Flash → Flash) : (d.modFlash f).pmuReq = d.pmuReq := rfl
@[simp] theorem Device.txdisLow_modFlash (d : Device) (f : Flash → Flash) : (d.modFlash f).txdisLow = d.txdisLow := rfl
@[simp] theorem Device.pmuPrev_modFlash (d : Device) (f : Flash → Flash) : (d.modFlash f).pmuPrev = d.pmuPrev := rfl
@[simp] theorem Device.laneHold_modFlash (d : Device) (f : Flash → Flash) : (d.modFlash f).laneHold = d.laneHold := rfl
@[simp] theorem Device.clkWake_modFlash (d : Device) (f : Flash → Flash) : (d.modFlash f).clkWake = d.clkWake := rfl
@[simp] theorem Device.reg_modFlash (d : Device) (f : Flash → Flash) (c : Nat) : (d.modFlash f).reg c = d.reg c := rfl
@[simp] theorem Device.get_modFlash (d : Device) (f : Flash → Flash) (g : Fld) : (d.modFlash f).get g = d.get g := rfl
@[simp] theorem Device.lget_modFlash (d : Device) (f : Flash → Flash) (g : Fld) : (d.modFlash f).lget g = d.lget g := rfl
@[simp] theorem Device.byte_modFlash (d : Device) (f : Flash → Flash) (c : Nat) : (d.modFlash f).byte c = d.byte c := rfl

/-! ### modBanks -/

@[simp] theorem Device.regs_modBanks (d : Device) (f : Vector BankSt 4 → Vector BankSt 4) : (d.modBanks f).regs = d.regs := rfl
@[simp] theorem Device.live_modBanks (d : Device) (f : Vector BankSt 4 → Vector BankSt 4) : (d.modBanks f).live = d.live := rfl
@[simp] theorem Device.snap_modBanks (d : Device) (f : Vector BankSt 4 → Vector BankSt 4) : (d.modBanks f).snap = d.snap := rfl
@[simp] theorem Device.mem_modBanks (d : Device) (f : Vector BankSt 4 → Vector BankSt 4) : (d.modBanks f).mem = d.mem := rfl
@[simp] theorem Device.errs_modBanks (d : Device) (f : Vector BankSt 4 → Vector BankSt 4) : (d.modBanks f).errs = d.errs := rfl
@[simp] theorem Device.poisoned_modBanks (d : Device) (f : Vector BankSt 4 → Vector BankSt 4) : (d.modBanks f).poisoned = d.poisoned := rfl
@[simp] theorem Device.memHist_modBanks (d : Device) (f : Vector BankSt 4 → Vector BankSt 4) : (d.modBanks f).memHist = d.memHist := rfl
@[simp] theorem Device.writeBack_modBanks (d : Device) (f : Vector BankSt 4 → Vector BankSt 4) : (d.modBanks f).writeBack = d.writeBack := rfl
@[simp] theorem Device.sparesOut_modBanks (d : Device) (f : Vector BankSt 4 → Vector BankSt 4) : (d.modBanks f).sparesOut = d.sparesOut := rfl
@[simp] theorem Device.scrubRow_modBanks (d : Device) (f : Vector BankSt 4 → Vector BankSt 4) : (d.modBanks f).scrubRow = d.scrubRow := rfl
@[simp] theorem Device.scrubFrom_modBanks (d : Device) (f : Vector BankSt 4 → Vector BankSt 4) : (d.modBanks f).scrubFrom = d.scrubFrom := rfl
@[simp] theorem Device.now_modBanks (d : Device) (f : Vector BankSt 4 → Vector BankSt 4) : (d.modBanks f).now = d.now := rfl
@[simp] theorem Device.draws_modBanks (d : Device) (f : Vector BankSt 4 → Vector BankSt 4) : (d.modBanks f).draws = d.draws := rfl
@[simp] theorem Device.rx_modBanks (d : Device) (f : Vector BankSt 4 → Vector BankSt 4) : (d.modBanks f).rx = d.rx := rfl
@[simp] theorem Device.tx_modBanks (d : Device) (f : Vector BankSt 4 → Vector BankSt 4) : (d.modBanks f).tx = d.tx := rfl
@[simp] theorem Device.bw_modBanks (d : Device) (f : Vector BankSt 4 → Vector BankSt 4) : (d.modBanks f).bw = d.bw := rfl
@[simp] theorem Device.egr_modBanks (d : Device) (f : Vector BankSt 4 → Vector BankSt 4) : (d.modBanks f).egr = d.egr := rfl
@[simp] theorem Device.neg_modBanks (d : Device) (f : Vector BankSt 4 → Vector BankSt 4) : (d.modBanks f).neg = d.neg := rfl
@[simp] theorem Device.pool_modBanks (d : Device) (f : Vector BankSt 4 → Vector BankSt 4) : (d.modBanks f).pool = d.pool := rfl
@[simp] theorem Device.host_modBanks (d : Device) (f : Vector BankSt 4 → Vector BankSt 4) : (d.modBanks f).host = d.host := rfl
@[simp] theorem Device.out_modBanks (d : Device) (f : Vector BankSt 4 → Vector BankSt 4) : (d.modBanks f).out = d.out := rfl
@[simp] theorem Device.plt_modBanks (d : Device) (f : Vector BankSt 4 → Vector BankSt 4) : (d.modBanks f).plt = d.plt := rfl
@[simp] theorem Device.hws_modBanks (d : Device) (f : Vector BankSt 4 → Vector BankSt 4) : (d.modBanks f).hws = d.hws := rfl
@[simp] theorem Device.fab_modBanks (d : Device) (f : Vector BankSt 4 → Vector BankSt 4) : (d.modBanks f).fab = d.fab := rfl
@[simp] theorem Device.sup_modBanks (d : Device) (f : Vector BankSt 4 → Vector BankSt 4) : (d.modBanks f).sup = d.sup := rfl
@[simp] theorem Device.thm_modBanks (d : Device) (f : Vector BankSt 4 → Vector BankSt 4) : (d.modBanks f).thm = d.thm := rfl
@[simp] theorem Device.mon_modBanks (d : Device) (f : Vector BankSt 4 → Vector BankSt 4) : (d.modBanks f).mon = d.mon := rfl
@[simp] theorem Device.sec_modBanks (d : Device) (f : Vector BankSt 4 → Vector BankSt 4) : (d.modBanks f).sec = d.sec := rfl
@[simp] theorem Device.flash_modBanks (d : Device) (f : Vector BankSt 4 → Vector BankSt 4) : (d.modBanks f).flash = d.flash := rfl
@[simp] theorem Device.mft_modBanks (d : Device) (f : Vector BankSt 4 → Vector BankSt 4) : (d.modBanks f).mft = d.mft := rfl
@[simp] theorem Device.lko_modBanks (d : Device) (f : Vector BankSt 4 → Vector BankSt 4) : (d.modBanks f).lko = d.lko := rfl
@[simp] theorem Device.pmuReq_modBanks (d : Device) (f : Vector BankSt 4 → Vector BankSt 4) : (d.modBanks f).pmuReq = d.pmuReq := rfl
@[simp] theorem Device.txdisLow_modBanks (d : Device) (f : Vector BankSt 4 → Vector BankSt 4) : (d.modBanks f).txdisLow = d.txdisLow := rfl
@[simp] theorem Device.pmuPrev_modBanks (d : Device) (f : Vector BankSt 4 → Vector BankSt 4) : (d.modBanks f).pmuPrev = d.pmuPrev := rfl
@[simp] theorem Device.laneHold_modBanks (d : Device) (f : Vector BankSt 4 → Vector BankSt 4) : (d.modBanks f).laneHold = d.laneHold := rfl
@[simp] theorem Device.clkWake_modBanks (d : Device) (f : Vector BankSt 4 → Vector BankSt 4) : (d.modBanks f).clkWake = d.clkWake := rfl
@[simp] theorem Device.reg_modBanks (d : Device) (f : Vector BankSt 4 → Vector BankSt 4) (c : Nat) : (d.modBanks f).reg c = d.reg c := rfl
@[simp] theorem Device.get_modBanks (d : Device) (f : Vector BankSt 4 → Vector BankSt 4) (g : Fld) : (d.modBanks f).get g = d.get g := rfl
@[simp] theorem Device.lget_modBanks (d : Device) (f : Vector BankSt 4 → Vector BankSt 4) (g : Fld) : (d.modBanks f).lget g = d.lget g := rfl
@[simp] theorem Device.byte_modBanks (d : Device) (f : Vector BankSt 4 → Vector BankSt 4) (c : Nat) : (d.modBanks f).byte c = d.byte c := rfl

/-! ### modMft -/

@[simp] theorem Device.regs_modMft (d : Device) (f : Mft → Mft) : (d.modMft f).regs = d.regs := rfl
@[simp] theorem Device.live_modMft (d : Device) (f : Mft → Mft) : (d.modMft f).live = d.live := rfl
@[simp] theorem Device.snap_modMft (d : Device) (f : Mft → Mft) : (d.modMft f).snap = d.snap := rfl
@[simp] theorem Device.mem_modMft (d : Device) (f : Mft → Mft) : (d.modMft f).mem = d.mem := rfl
@[simp] theorem Device.errs_modMft (d : Device) (f : Mft → Mft) : (d.modMft f).errs = d.errs := rfl
@[simp] theorem Device.poisoned_modMft (d : Device) (f : Mft → Mft) : (d.modMft f).poisoned = d.poisoned := rfl
@[simp] theorem Device.memHist_modMft (d : Device) (f : Mft → Mft) : (d.modMft f).memHist = d.memHist := rfl
@[simp] theorem Device.writeBack_modMft (d : Device) (f : Mft → Mft) : (d.modMft f).writeBack = d.writeBack := rfl
@[simp] theorem Device.sparesOut_modMft (d : Device) (f : Mft → Mft) : (d.modMft f).sparesOut = d.sparesOut := rfl
@[simp] theorem Device.scrubRow_modMft (d : Device) (f : Mft → Mft) : (d.modMft f).scrubRow = d.scrubRow := rfl
@[simp] theorem Device.scrubFrom_modMft (d : Device) (f : Mft → Mft) : (d.modMft f).scrubFrom = d.scrubFrom := rfl
@[simp] theorem Device.now_modMft (d : Device) (f : Mft → Mft) : (d.modMft f).now = d.now := rfl
@[simp] theorem Device.draws_modMft (d : Device) (f : Mft → Mft) : (d.modMft f).draws = d.draws := rfl
@[simp] theorem Device.rx_modMft (d : Device) (f : Mft → Mft) : (d.modMft f).rx = d.rx := rfl
@[simp] theorem Device.tx_modMft (d : Device) (f : Mft → Mft) : (d.modMft f).tx = d.tx := rfl
@[simp] theorem Device.bw_modMft (d : Device) (f : Mft → Mft) : (d.modMft f).bw = d.bw := rfl
@[simp] theorem Device.egr_modMft (d : Device) (f : Mft → Mft) : (d.modMft f).egr = d.egr := rfl
@[simp] theorem Device.neg_modMft (d : Device) (f : Mft → Mft) : (d.modMft f).neg = d.neg := rfl
@[simp] theorem Device.pool_modMft (d : Device) (f : Mft → Mft) : (d.modMft f).pool = d.pool := rfl
@[simp] theorem Device.host_modMft (d : Device) (f : Mft → Mft) : (d.modMft f).host = d.host := rfl
@[simp] theorem Device.out_modMft (d : Device) (f : Mft → Mft) : (d.modMft f).out = d.out := rfl
@[simp] theorem Device.plt_modMft (d : Device) (f : Mft → Mft) : (d.modMft f).plt = d.plt := rfl
@[simp] theorem Device.hws_modMft (d : Device) (f : Mft → Mft) : (d.modMft f).hws = d.hws := rfl
@[simp] theorem Device.fab_modMft (d : Device) (f : Mft → Mft) : (d.modMft f).fab = d.fab := rfl
@[simp] theorem Device.sup_modMft (d : Device) (f : Mft → Mft) : (d.modMft f).sup = d.sup := rfl
@[simp] theorem Device.thm_modMft (d : Device) (f : Mft → Mft) : (d.modMft f).thm = d.thm := rfl
@[simp] theorem Device.mon_modMft (d : Device) (f : Mft → Mft) : (d.modMft f).mon = d.mon := rfl
@[simp] theorem Device.sec_modMft (d : Device) (f : Mft → Mft) : (d.modMft f).sec = d.sec := rfl
@[simp] theorem Device.flash_modMft (d : Device) (f : Mft → Mft) : (d.modMft f).flash = d.flash := rfl
@[simp] theorem Device.banks_modMft (d : Device) (f : Mft → Mft) : (d.modMft f).banks = d.banks := rfl
@[simp] theorem Device.lko_modMft (d : Device) (f : Mft → Mft) : (d.modMft f).lko = d.lko := rfl
@[simp] theorem Device.pmuReq_modMft (d : Device) (f : Mft → Mft) : (d.modMft f).pmuReq = d.pmuReq := rfl
@[simp] theorem Device.txdisLow_modMft (d : Device) (f : Mft → Mft) : (d.modMft f).txdisLow = d.txdisLow := rfl
@[simp] theorem Device.pmuPrev_modMft (d : Device) (f : Mft → Mft) : (d.modMft f).pmuPrev = d.pmuPrev := rfl
@[simp] theorem Device.laneHold_modMft (d : Device) (f : Mft → Mft) : (d.modMft f).laneHold = d.laneHold := rfl
@[simp] theorem Device.clkWake_modMft (d : Device) (f : Mft → Mft) : (d.modMft f).clkWake = d.clkWake := rfl
@[simp] theorem Device.reg_modMft (d : Device) (f : Mft → Mft) (c : Nat) : (d.modMft f).reg c = d.reg c := rfl
@[simp] theorem Device.get_modMft (d : Device) (f : Mft → Mft) (g : Fld) : (d.modMft f).get g = d.get g := rfl
@[simp] theorem Device.lget_modMft (d : Device) (f : Mft → Mft) (g : Fld) : (d.modMft f).lget g = d.lget g := rfl
@[simp] theorem Device.byte_modMft (d : Device) (f : Mft → Mft) (c : Nat) : (d.modMft f).byte c = d.byte c := rfl

/-! ### modLko -/

@[simp] theorem Device.regs_modLko (d : Device) (f : Lko → Lko) : (d.modLko f).regs = d.regs := rfl
@[simp] theorem Device.live_modLko (d : Device) (f : Lko → Lko) : (d.modLko f).live = d.live := rfl
@[simp] theorem Device.snap_modLko (d : Device) (f : Lko → Lko) : (d.modLko f).snap = d.snap := rfl
@[simp] theorem Device.mem_modLko (d : Device) (f : Lko → Lko) : (d.modLko f).mem = d.mem := rfl
@[simp] theorem Device.errs_modLko (d : Device) (f : Lko → Lko) : (d.modLko f).errs = d.errs := rfl
@[simp] theorem Device.poisoned_modLko (d : Device) (f : Lko → Lko) : (d.modLko f).poisoned = d.poisoned := rfl
@[simp] theorem Device.memHist_modLko (d : Device) (f : Lko → Lko) : (d.modLko f).memHist = d.memHist := rfl
@[simp] theorem Device.writeBack_modLko (d : Device) (f : Lko → Lko) : (d.modLko f).writeBack = d.writeBack := rfl
@[simp] theorem Device.sparesOut_modLko (d : Device) (f : Lko → Lko) : (d.modLko f).sparesOut = d.sparesOut := rfl
@[simp] theorem Device.scrubRow_modLko (d : Device) (f : Lko → Lko) : (d.modLko f).scrubRow = d.scrubRow := rfl
@[simp] theorem Device.scrubFrom_modLko (d : Device) (f : Lko → Lko) : (d.modLko f).scrubFrom = d.scrubFrom := rfl
@[simp] theorem Device.now_modLko (d : Device) (f : Lko → Lko) : (d.modLko f).now = d.now := rfl
@[simp] theorem Device.draws_modLko (d : Device) (f : Lko → Lko) : (d.modLko f).draws = d.draws := rfl
@[simp] theorem Device.rx_modLko (d : Device) (f : Lko → Lko) : (d.modLko f).rx = d.rx := rfl
@[simp] theorem Device.tx_modLko (d : Device) (f : Lko → Lko) : (d.modLko f).tx = d.tx := rfl
@[simp] theorem Device.bw_modLko (d : Device) (f : Lko → Lko) : (d.modLko f).bw = d.bw := rfl
@[simp] theorem Device.egr_modLko (d : Device) (f : Lko → Lko) : (d.modLko f).egr = d.egr := rfl
@[simp] theorem Device.neg_modLko (d : Device) (f : Lko → Lko) : (d.modLko f).neg = d.neg := rfl
@[simp] theorem Device.pool_modLko (d : Device) (f : Lko → Lko) : (d.modLko f).pool = d.pool := rfl
@[simp] theorem Device.host_modLko (d : Device) (f : Lko → Lko) : (d.modLko f).host = d.host := rfl
@[simp] theorem Device.out_modLko (d : Device) (f : Lko → Lko) : (d.modLko f).out = d.out := rfl
@[simp] theorem Device.plt_modLko (d : Device) (f : Lko → Lko) : (d.modLko f).plt = d.plt := rfl
@[simp] theorem Device.hws_modLko (d : Device) (f : Lko → Lko) : (d.modLko f).hws = d.hws := rfl
@[simp] theorem Device.fab_modLko (d : Device) (f : Lko → Lko) : (d.modLko f).fab = d.fab := rfl
@[simp] theorem Device.sup_modLko (d : Device) (f : Lko → Lko) : (d.modLko f).sup = d.sup := rfl
@[simp] theorem Device.thm_modLko (d : Device) (f : Lko → Lko) : (d.modLko f).thm = d.thm := rfl
@[simp] theorem Device.mon_modLko (d : Device) (f : Lko → Lko) : (d.modLko f).mon = d.mon := rfl
@[simp] theorem Device.sec_modLko (d : Device) (f : Lko → Lko) : (d.modLko f).sec = d.sec := rfl
@[simp] theorem Device.flash_modLko (d : Device) (f : Lko → Lko) : (d.modLko f).flash = d.flash := rfl
@[simp] theorem Device.banks_modLko (d : Device) (f : Lko → Lko) : (d.modLko f).banks = d.banks := rfl
@[simp] theorem Device.mft_modLko (d : Device) (f : Lko → Lko) : (d.modLko f).mft = d.mft := rfl
@[simp] theorem Device.pmuReq_modLko (d : Device) (f : Lko → Lko) : (d.modLko f).pmuReq = d.pmuReq := rfl
@[simp] theorem Device.txdisLow_modLko (d : Device) (f : Lko → Lko) : (d.modLko f).txdisLow = d.txdisLow := rfl
@[simp] theorem Device.pmuPrev_modLko (d : Device) (f : Lko → Lko) : (d.modLko f).pmuPrev = d.pmuPrev := rfl
@[simp] theorem Device.laneHold_modLko (d : Device) (f : Lko → Lko) : (d.modLko f).laneHold = d.laneHold := rfl
@[simp] theorem Device.clkWake_modLko (d : Device) (f : Lko → Lko) : (d.modLko f).clkWake = d.clkWake := rfl
@[simp] theorem Device.reg_modLko (d : Device) (f : Lko → Lko) (c : Nat) : (d.modLko f).reg c = d.reg c := rfl
@[simp] theorem Device.get_modLko (d : Device) (f : Lko → Lko) (g : Fld) : (d.modLko f).get g = d.get g := rfl
@[simp] theorem Device.lget_modLko (d : Device) (f : Lko → Lko) (g : Fld) : (d.modLko f).lget g = d.lget g := rfl
@[simp] theorem Device.byte_modLko (d : Device) (f : Lko → Lko) (c : Nat) : (d.modLko f).byte c = d.byte c := rfl

/-! ### modPmuReq -/

@[simp] theorem Device.regs_modPmuReq (d : Device) (f : PmuReq → PmuReq) : (d.modPmuReq f).regs = d.regs := rfl
@[simp] theorem Device.live_modPmuReq (d : Device) (f : PmuReq → PmuReq) : (d.modPmuReq f).live = d.live := rfl
@[simp] theorem Device.snap_modPmuReq (d : Device) (f : PmuReq → PmuReq) : (d.modPmuReq f).snap = d.snap := rfl
@[simp] theorem Device.mem_modPmuReq (d : Device) (f : PmuReq → PmuReq) : (d.modPmuReq f).mem = d.mem := rfl
@[simp] theorem Device.errs_modPmuReq (d : Device) (f : PmuReq → PmuReq) : (d.modPmuReq f).errs = d.errs := rfl
@[simp] theorem Device.poisoned_modPmuReq (d : Device) (f : PmuReq → PmuReq) : (d.modPmuReq f).poisoned = d.poisoned := rfl
@[simp] theorem Device.memHist_modPmuReq (d : Device) (f : PmuReq → PmuReq) : (d.modPmuReq f).memHist = d.memHist := rfl
@[simp] theorem Device.writeBack_modPmuReq (d : Device) (f : PmuReq → PmuReq) : (d.modPmuReq f).writeBack = d.writeBack := rfl
@[simp] theorem Device.sparesOut_modPmuReq (d : Device) (f : PmuReq → PmuReq) : (d.modPmuReq f).sparesOut = d.sparesOut := rfl
@[simp] theorem Device.scrubRow_modPmuReq (d : Device) (f : PmuReq → PmuReq) : (d.modPmuReq f).scrubRow = d.scrubRow := rfl
@[simp] theorem Device.scrubFrom_modPmuReq (d : Device) (f : PmuReq → PmuReq) : (d.modPmuReq f).scrubFrom = d.scrubFrom := rfl
@[simp] theorem Device.now_modPmuReq (d : Device) (f : PmuReq → PmuReq) : (d.modPmuReq f).now = d.now := rfl
@[simp] theorem Device.draws_modPmuReq (d : Device) (f : PmuReq → PmuReq) : (d.modPmuReq f).draws = d.draws := rfl
@[simp] theorem Device.rx_modPmuReq (d : Device) (f : PmuReq → PmuReq) : (d.modPmuReq f).rx = d.rx := rfl
@[simp] theorem Device.tx_modPmuReq (d : Device) (f : PmuReq → PmuReq) : (d.modPmuReq f).tx = d.tx := rfl
@[simp] theorem Device.bw_modPmuReq (d : Device) (f : PmuReq → PmuReq) : (d.modPmuReq f).bw = d.bw := rfl
@[simp] theorem Device.egr_modPmuReq (d : Device) (f : PmuReq → PmuReq) : (d.modPmuReq f).egr = d.egr := rfl
@[simp] theorem Device.neg_modPmuReq (d : Device) (f : PmuReq → PmuReq) : (d.modPmuReq f).neg = d.neg := rfl
@[simp] theorem Device.pool_modPmuReq (d : Device) (f : PmuReq → PmuReq) : (d.modPmuReq f).pool = d.pool := rfl
@[simp] theorem Device.host_modPmuReq (d : Device) (f : PmuReq → PmuReq) : (d.modPmuReq f).host = d.host := rfl
@[simp] theorem Device.out_modPmuReq (d : Device) (f : PmuReq → PmuReq) : (d.modPmuReq f).out = d.out := rfl
@[simp] theorem Device.plt_modPmuReq (d : Device) (f : PmuReq → PmuReq) : (d.modPmuReq f).plt = d.plt := rfl
@[simp] theorem Device.hws_modPmuReq (d : Device) (f : PmuReq → PmuReq) : (d.modPmuReq f).hws = d.hws := rfl
@[simp] theorem Device.fab_modPmuReq (d : Device) (f : PmuReq → PmuReq) : (d.modPmuReq f).fab = d.fab := rfl
@[simp] theorem Device.sup_modPmuReq (d : Device) (f : PmuReq → PmuReq) : (d.modPmuReq f).sup = d.sup := rfl
@[simp] theorem Device.thm_modPmuReq (d : Device) (f : PmuReq → PmuReq) : (d.modPmuReq f).thm = d.thm := rfl
@[simp] theorem Device.mon_modPmuReq (d : Device) (f : PmuReq → PmuReq) : (d.modPmuReq f).mon = d.mon := rfl
@[simp] theorem Device.sec_modPmuReq (d : Device) (f : PmuReq → PmuReq) : (d.modPmuReq f).sec = d.sec := rfl
@[simp] theorem Device.flash_modPmuReq (d : Device) (f : PmuReq → PmuReq) : (d.modPmuReq f).flash = d.flash := rfl
@[simp] theorem Device.banks_modPmuReq (d : Device) (f : PmuReq → PmuReq) : (d.modPmuReq f).banks = d.banks := rfl
@[simp] theorem Device.mft_modPmuReq (d : Device) (f : PmuReq → PmuReq) : (d.modPmuReq f).mft = d.mft := rfl
@[simp] theorem Device.lko_modPmuReq (d : Device) (f : PmuReq → PmuReq) : (d.modPmuReq f).lko = d.lko := rfl
@[simp] theorem Device.txdisLow_modPmuReq (d : Device) (f : PmuReq → PmuReq) : (d.modPmuReq f).txdisLow = d.txdisLow := rfl
@[simp] theorem Device.pmuPrev_modPmuReq (d : Device) (f : PmuReq → PmuReq) : (d.modPmuReq f).pmuPrev = d.pmuPrev := rfl
@[simp] theorem Device.laneHold_modPmuReq (d : Device) (f : PmuReq → PmuReq) : (d.modPmuReq f).laneHold = d.laneHold := rfl
@[simp] theorem Device.clkWake_modPmuReq (d : Device) (f : PmuReq → PmuReq) : (d.modPmuReq f).clkWake = d.clkWake := rfl
@[simp] theorem Device.reg_modPmuReq (d : Device) (f : PmuReq → PmuReq) (c : Nat) : (d.modPmuReq f).reg c = d.reg c := rfl
@[simp] theorem Device.get_modPmuReq (d : Device) (f : PmuReq → PmuReq) (g : Fld) : (d.modPmuReq f).get g = d.get g := rfl
@[simp] theorem Device.lget_modPmuReq (d : Device) (f : PmuReq → PmuReq) (g : Fld) : (d.modPmuReq f).lget g = d.lget g := rfl
@[simp] theorem Device.byte_modPmuReq (d : Device) (f : PmuReq → PmuReq) (c : Nat) : (d.modPmuReq f).byte c = d.byte c := rfl

/-! ### modTxdisLow -/

@[simp] theorem Device.regs_modTxdisLow (d : Device) (f : Bool → Bool) : (d.modTxdisLow f).regs = d.regs := rfl
@[simp] theorem Device.live_modTxdisLow (d : Device) (f : Bool → Bool) : (d.modTxdisLow f).live = d.live := rfl
@[simp] theorem Device.snap_modTxdisLow (d : Device) (f : Bool → Bool) : (d.modTxdisLow f).snap = d.snap := rfl
@[simp] theorem Device.mem_modTxdisLow (d : Device) (f : Bool → Bool) : (d.modTxdisLow f).mem = d.mem := rfl
@[simp] theorem Device.errs_modTxdisLow (d : Device) (f : Bool → Bool) : (d.modTxdisLow f).errs = d.errs := rfl
@[simp] theorem Device.poisoned_modTxdisLow (d : Device) (f : Bool → Bool) : (d.modTxdisLow f).poisoned = d.poisoned := rfl
@[simp] theorem Device.memHist_modTxdisLow (d : Device) (f : Bool → Bool) : (d.modTxdisLow f).memHist = d.memHist := rfl
@[simp] theorem Device.writeBack_modTxdisLow (d : Device) (f : Bool → Bool) : (d.modTxdisLow f).writeBack = d.writeBack := rfl
@[simp] theorem Device.sparesOut_modTxdisLow (d : Device) (f : Bool → Bool) : (d.modTxdisLow f).sparesOut = d.sparesOut := rfl
@[simp] theorem Device.scrubRow_modTxdisLow (d : Device) (f : Bool → Bool) : (d.modTxdisLow f).scrubRow = d.scrubRow := rfl
@[simp] theorem Device.scrubFrom_modTxdisLow (d : Device) (f : Bool → Bool) : (d.modTxdisLow f).scrubFrom = d.scrubFrom := rfl
@[simp] theorem Device.now_modTxdisLow (d : Device) (f : Bool → Bool) : (d.modTxdisLow f).now = d.now := rfl
@[simp] theorem Device.draws_modTxdisLow (d : Device) (f : Bool → Bool) : (d.modTxdisLow f).draws = d.draws := rfl
@[simp] theorem Device.rx_modTxdisLow (d : Device) (f : Bool → Bool) : (d.modTxdisLow f).rx = d.rx := rfl
@[simp] theorem Device.tx_modTxdisLow (d : Device) (f : Bool → Bool) : (d.modTxdisLow f).tx = d.tx := rfl
@[simp] theorem Device.bw_modTxdisLow (d : Device) (f : Bool → Bool) : (d.modTxdisLow f).bw = d.bw := rfl
@[simp] theorem Device.egr_modTxdisLow (d : Device) (f : Bool → Bool) : (d.modTxdisLow f).egr = d.egr := rfl
@[simp] theorem Device.neg_modTxdisLow (d : Device) (f : Bool → Bool) : (d.modTxdisLow f).neg = d.neg := rfl
@[simp] theorem Device.pool_modTxdisLow (d : Device) (f : Bool → Bool) : (d.modTxdisLow f).pool = d.pool := rfl
@[simp] theorem Device.host_modTxdisLow (d : Device) (f : Bool → Bool) : (d.modTxdisLow f).host = d.host := rfl
@[simp] theorem Device.out_modTxdisLow (d : Device) (f : Bool → Bool) : (d.modTxdisLow f).out = d.out := rfl
@[simp] theorem Device.plt_modTxdisLow (d : Device) (f : Bool → Bool) : (d.modTxdisLow f).plt = d.plt := rfl
@[simp] theorem Device.hws_modTxdisLow (d : Device) (f : Bool → Bool) : (d.modTxdisLow f).hws = d.hws := rfl
@[simp] theorem Device.fab_modTxdisLow (d : Device) (f : Bool → Bool) : (d.modTxdisLow f).fab = d.fab := rfl
@[simp] theorem Device.sup_modTxdisLow (d : Device) (f : Bool → Bool) : (d.modTxdisLow f).sup = d.sup := rfl
@[simp] theorem Device.thm_modTxdisLow (d : Device) (f : Bool → Bool) : (d.modTxdisLow f).thm = d.thm := rfl
@[simp] theorem Device.mon_modTxdisLow (d : Device) (f : Bool → Bool) : (d.modTxdisLow f).mon = d.mon := rfl
@[simp] theorem Device.sec_modTxdisLow (d : Device) (f : Bool → Bool) : (d.modTxdisLow f).sec = d.sec := rfl
@[simp] theorem Device.flash_modTxdisLow (d : Device) (f : Bool → Bool) : (d.modTxdisLow f).flash = d.flash := rfl
@[simp] theorem Device.banks_modTxdisLow (d : Device) (f : Bool → Bool) : (d.modTxdisLow f).banks = d.banks := rfl
@[simp] theorem Device.mft_modTxdisLow (d : Device) (f : Bool → Bool) : (d.modTxdisLow f).mft = d.mft := rfl
@[simp] theorem Device.lko_modTxdisLow (d : Device) (f : Bool → Bool) : (d.modTxdisLow f).lko = d.lko := rfl
@[simp] theorem Device.pmuReq_modTxdisLow (d : Device) (f : Bool → Bool) : (d.modTxdisLow f).pmuReq = d.pmuReq := rfl
@[simp] theorem Device.pmuPrev_modTxdisLow (d : Device) (f : Bool → Bool) : (d.modTxdisLow f).pmuPrev = d.pmuPrev := rfl
@[simp] theorem Device.laneHold_modTxdisLow (d : Device) (f : Bool → Bool) : (d.modTxdisLow f).laneHold = d.laneHold := rfl
@[simp] theorem Device.clkWake_modTxdisLow (d : Device) (f : Bool → Bool) : (d.modTxdisLow f).clkWake = d.clkWake := rfl
@[simp] theorem Device.reg_modTxdisLow (d : Device) (f : Bool → Bool) (c : Nat) : (d.modTxdisLow f).reg c = d.reg c := rfl
@[simp] theorem Device.get_modTxdisLow (d : Device) (f : Bool → Bool) (g : Fld) : (d.modTxdisLow f).get g = d.get g := rfl
@[simp] theorem Device.lget_modTxdisLow (d : Device) (f : Bool → Bool) (g : Fld) : (d.modTxdisLow f).lget g = d.lget g := rfl
@[simp] theorem Device.byte_modTxdisLow (d : Device) (f : Bool → Bool) (c : Nat) : (d.modTxdisLow f).byte c = d.byte c := rfl

/-! ### modPmuPrev -/

@[simp] theorem Device.regs_modPmuPrev (d : Device) (f : List Nat → List Nat) : (d.modPmuPrev f).regs = d.regs := rfl
@[simp] theorem Device.live_modPmuPrev (d : Device) (f : List Nat → List Nat) : (d.modPmuPrev f).live = d.live := rfl
@[simp] theorem Device.snap_modPmuPrev (d : Device) (f : List Nat → List Nat) : (d.modPmuPrev f).snap = d.snap := rfl
@[simp] theorem Device.mem_modPmuPrev (d : Device) (f : List Nat → List Nat) : (d.modPmuPrev f).mem = d.mem := rfl
@[simp] theorem Device.errs_modPmuPrev (d : Device) (f : List Nat → List Nat) : (d.modPmuPrev f).errs = d.errs := rfl
@[simp] theorem Device.poisoned_modPmuPrev (d : Device) (f : List Nat → List Nat) : (d.modPmuPrev f).poisoned = d.poisoned := rfl
@[simp] theorem Device.memHist_modPmuPrev (d : Device) (f : List Nat → List Nat) : (d.modPmuPrev f).memHist = d.memHist := rfl
@[simp] theorem Device.writeBack_modPmuPrev (d : Device) (f : List Nat → List Nat) : (d.modPmuPrev f).writeBack = d.writeBack := rfl
@[simp] theorem Device.sparesOut_modPmuPrev (d : Device) (f : List Nat → List Nat) : (d.modPmuPrev f).sparesOut = d.sparesOut := rfl
@[simp] theorem Device.scrubRow_modPmuPrev (d : Device) (f : List Nat → List Nat) : (d.modPmuPrev f).scrubRow = d.scrubRow := rfl
@[simp] theorem Device.scrubFrom_modPmuPrev (d : Device) (f : List Nat → List Nat) : (d.modPmuPrev f).scrubFrom = d.scrubFrom := rfl
@[simp] theorem Device.now_modPmuPrev (d : Device) (f : List Nat → List Nat) : (d.modPmuPrev f).now = d.now := rfl
@[simp] theorem Device.draws_modPmuPrev (d : Device) (f : List Nat → List Nat) : (d.modPmuPrev f).draws = d.draws := rfl
@[simp] theorem Device.rx_modPmuPrev (d : Device) (f : List Nat → List Nat) : (d.modPmuPrev f).rx = d.rx := rfl
@[simp] theorem Device.tx_modPmuPrev (d : Device) (f : List Nat → List Nat) : (d.modPmuPrev f).tx = d.tx := rfl
@[simp] theorem Device.bw_modPmuPrev (d : Device) (f : List Nat → List Nat) : (d.modPmuPrev f).bw = d.bw := rfl
@[simp] theorem Device.egr_modPmuPrev (d : Device) (f : List Nat → List Nat) : (d.modPmuPrev f).egr = d.egr := rfl
@[simp] theorem Device.neg_modPmuPrev (d : Device) (f : List Nat → List Nat) : (d.modPmuPrev f).neg = d.neg := rfl
@[simp] theorem Device.pool_modPmuPrev (d : Device) (f : List Nat → List Nat) : (d.modPmuPrev f).pool = d.pool := rfl
@[simp] theorem Device.host_modPmuPrev (d : Device) (f : List Nat → List Nat) : (d.modPmuPrev f).host = d.host := rfl
@[simp] theorem Device.out_modPmuPrev (d : Device) (f : List Nat → List Nat) : (d.modPmuPrev f).out = d.out := rfl
@[simp] theorem Device.plt_modPmuPrev (d : Device) (f : List Nat → List Nat) : (d.modPmuPrev f).plt = d.plt := rfl
@[simp] theorem Device.hws_modPmuPrev (d : Device) (f : List Nat → List Nat) : (d.modPmuPrev f).hws = d.hws := rfl
@[simp] theorem Device.fab_modPmuPrev (d : Device) (f : List Nat → List Nat) : (d.modPmuPrev f).fab = d.fab := rfl
@[simp] theorem Device.sup_modPmuPrev (d : Device) (f : List Nat → List Nat) : (d.modPmuPrev f).sup = d.sup := rfl
@[simp] theorem Device.thm_modPmuPrev (d : Device) (f : List Nat → List Nat) : (d.modPmuPrev f).thm = d.thm := rfl
@[simp] theorem Device.mon_modPmuPrev (d : Device) (f : List Nat → List Nat) : (d.modPmuPrev f).mon = d.mon := rfl
@[simp] theorem Device.sec_modPmuPrev (d : Device) (f : List Nat → List Nat) : (d.modPmuPrev f).sec = d.sec := rfl
@[simp] theorem Device.flash_modPmuPrev (d : Device) (f : List Nat → List Nat) : (d.modPmuPrev f).flash = d.flash := rfl
@[simp] theorem Device.banks_modPmuPrev (d : Device) (f : List Nat → List Nat) : (d.modPmuPrev f).banks = d.banks := rfl
@[simp] theorem Device.mft_modPmuPrev (d : Device) (f : List Nat → List Nat) : (d.modPmuPrev f).mft = d.mft := rfl
@[simp] theorem Device.lko_modPmuPrev (d : Device) (f : List Nat → List Nat) : (d.modPmuPrev f).lko = d.lko := rfl
@[simp] theorem Device.pmuReq_modPmuPrev (d : Device) (f : List Nat → List Nat) : (d.modPmuPrev f).pmuReq = d.pmuReq := rfl
@[simp] theorem Device.txdisLow_modPmuPrev (d : Device) (f : List Nat → List Nat) : (d.modPmuPrev f).txdisLow = d.txdisLow := rfl
@[simp] theorem Device.laneHold_modPmuPrev (d : Device) (f : List Nat → List Nat) : (d.modPmuPrev f).laneHold = d.laneHold := rfl
@[simp] theorem Device.clkWake_modPmuPrev (d : Device) (f : List Nat → List Nat) : (d.modPmuPrev f).clkWake = d.clkWake := rfl
@[simp] theorem Device.reg_modPmuPrev (d : Device) (f : List Nat → List Nat) (c : Nat) : (d.modPmuPrev f).reg c = d.reg c := rfl
@[simp] theorem Device.get_modPmuPrev (d : Device) (f : List Nat → List Nat) (g : Fld) : (d.modPmuPrev f).get g = d.get g := rfl
@[simp] theorem Device.lget_modPmuPrev (d : Device) (f : List Nat → List Nat) (g : Fld) : (d.modPmuPrev f).lget g = d.lget g := rfl
@[simp] theorem Device.byte_modPmuPrev (d : Device) (f : List Nat → List Nat) (c : Nat) : (d.modPmuPrev f).byte c = d.byte c := rfl

/-! ### modLaneHold -/

@[simp] theorem Device.regs_modLaneHold (d : Device) (f : Bool → Bool) : (d.modLaneHold f).regs = d.regs := rfl
@[simp] theorem Device.live_modLaneHold (d : Device) (f : Bool → Bool) : (d.modLaneHold f).live = d.live := rfl
@[simp] theorem Device.snap_modLaneHold (d : Device) (f : Bool → Bool) : (d.modLaneHold f).snap = d.snap := rfl
@[simp] theorem Device.mem_modLaneHold (d : Device) (f : Bool → Bool) : (d.modLaneHold f).mem = d.mem := rfl
@[simp] theorem Device.errs_modLaneHold (d : Device) (f : Bool → Bool) : (d.modLaneHold f).errs = d.errs := rfl
@[simp] theorem Device.poisoned_modLaneHold (d : Device) (f : Bool → Bool) : (d.modLaneHold f).poisoned = d.poisoned := rfl
@[simp] theorem Device.memHist_modLaneHold (d : Device) (f : Bool → Bool) : (d.modLaneHold f).memHist = d.memHist := rfl
@[simp] theorem Device.writeBack_modLaneHold (d : Device) (f : Bool → Bool) : (d.modLaneHold f).writeBack = d.writeBack := rfl
@[simp] theorem Device.sparesOut_modLaneHold (d : Device) (f : Bool → Bool) : (d.modLaneHold f).sparesOut = d.sparesOut := rfl
@[simp] theorem Device.scrubRow_modLaneHold (d : Device) (f : Bool → Bool) : (d.modLaneHold f).scrubRow = d.scrubRow := rfl
@[simp] theorem Device.scrubFrom_modLaneHold (d : Device) (f : Bool → Bool) : (d.modLaneHold f).scrubFrom = d.scrubFrom := rfl
@[simp] theorem Device.now_modLaneHold (d : Device) (f : Bool → Bool) : (d.modLaneHold f).now = d.now := rfl
@[simp] theorem Device.draws_modLaneHold (d : Device) (f : Bool → Bool) : (d.modLaneHold f).draws = d.draws := rfl
@[simp] theorem Device.rx_modLaneHold (d : Device) (f : Bool → Bool) : (d.modLaneHold f).rx = d.rx := rfl
@[simp] theorem Device.tx_modLaneHold (d : Device) (f : Bool → Bool) : (d.modLaneHold f).tx = d.tx := rfl
@[simp] theorem Device.bw_modLaneHold (d : Device) (f : Bool → Bool) : (d.modLaneHold f).bw = d.bw := rfl
@[simp] theorem Device.egr_modLaneHold (d : Device) (f : Bool → Bool) : (d.modLaneHold f).egr = d.egr := rfl
@[simp] theorem Device.neg_modLaneHold (d : Device) (f : Bool → Bool) : (d.modLaneHold f).neg = d.neg := rfl
@[simp] theorem Device.pool_modLaneHold (d : Device) (f : Bool → Bool) : (d.modLaneHold f).pool = d.pool := rfl
@[simp] theorem Device.host_modLaneHold (d : Device) (f : Bool → Bool) : (d.modLaneHold f).host = d.host := rfl
@[simp] theorem Device.out_modLaneHold (d : Device) (f : Bool → Bool) : (d.modLaneHold f).out = d.out := rfl
@[simp] theorem Device.plt_modLaneHold (d : Device) (f : Bool → Bool) : (d.modLaneHold f).plt = d.plt := rfl
@[simp] theorem Device.hws_modLaneHold (d : Device) (f : Bool → Bool) : (d.modLaneHold f).hws = d.hws := rfl
@[simp] theorem Device.fab_modLaneHold (d : Device) (f : Bool → Bool) : (d.modLaneHold f).fab = d.fab := rfl
@[simp] theorem Device.sup_modLaneHold (d : Device) (f : Bool → Bool) : (d.modLaneHold f).sup = d.sup := rfl
@[simp] theorem Device.thm_modLaneHold (d : Device) (f : Bool → Bool) : (d.modLaneHold f).thm = d.thm := rfl
@[simp] theorem Device.mon_modLaneHold (d : Device) (f : Bool → Bool) : (d.modLaneHold f).mon = d.mon := rfl
@[simp] theorem Device.sec_modLaneHold (d : Device) (f : Bool → Bool) : (d.modLaneHold f).sec = d.sec := rfl
@[simp] theorem Device.flash_modLaneHold (d : Device) (f : Bool → Bool) : (d.modLaneHold f).flash = d.flash := rfl
@[simp] theorem Device.banks_modLaneHold (d : Device) (f : Bool → Bool) : (d.modLaneHold f).banks = d.banks := rfl
@[simp] theorem Device.mft_modLaneHold (d : Device) (f : Bool → Bool) : (d.modLaneHold f).mft = d.mft := rfl
@[simp] theorem Device.lko_modLaneHold (d : Device) (f : Bool → Bool) : (d.modLaneHold f).lko = d.lko := rfl
@[simp] theorem Device.pmuReq_modLaneHold (d : Device) (f : Bool → Bool) : (d.modLaneHold f).pmuReq = d.pmuReq := rfl
@[simp] theorem Device.txdisLow_modLaneHold (d : Device) (f : Bool → Bool) : (d.modLaneHold f).txdisLow = d.txdisLow := rfl
@[simp] theorem Device.pmuPrev_modLaneHold (d : Device) (f : Bool → Bool) : (d.modLaneHold f).pmuPrev = d.pmuPrev := rfl
@[simp] theorem Device.clkWake_modLaneHold (d : Device) (f : Bool → Bool) : (d.modLaneHold f).clkWake = d.clkWake := rfl
@[simp] theorem Device.reg_modLaneHold (d : Device) (f : Bool → Bool) (c : Nat) : (d.modLaneHold f).reg c = d.reg c := rfl
@[simp] theorem Device.get_modLaneHold (d : Device) (f : Bool → Bool) (g : Fld) : (d.modLaneHold f).get g = d.get g := rfl
@[simp] theorem Device.lget_modLaneHold (d : Device) (f : Bool → Bool) (g : Fld) : (d.modLaneHold f).lget g = d.lget g := rfl
@[simp] theorem Device.byte_modLaneHold (d : Device) (f : Bool → Bool) (c : Nat) : (d.modLaneHold f).byte c = d.byte c := rfl

/-! ### modClkWake -/

@[simp] theorem Device.regs_modClkWake (d : Device) (f : BitVec 18 → BitVec 18) : (d.modClkWake f).regs = d.regs := rfl
@[simp] theorem Device.live_modClkWake (d : Device) (f : BitVec 18 → BitVec 18) : (d.modClkWake f).live = d.live := rfl
@[simp] theorem Device.snap_modClkWake (d : Device) (f : BitVec 18 → BitVec 18) : (d.modClkWake f).snap = d.snap := rfl
@[simp] theorem Device.mem_modClkWake (d : Device) (f : BitVec 18 → BitVec 18) : (d.modClkWake f).mem = d.mem := rfl
@[simp] theorem Device.errs_modClkWake (d : Device) (f : BitVec 18 → BitVec 18) : (d.modClkWake f).errs = d.errs := rfl
@[simp] theorem Device.poisoned_modClkWake (d : Device) (f : BitVec 18 → BitVec 18) : (d.modClkWake f).poisoned = d.poisoned := rfl
@[simp] theorem Device.memHist_modClkWake (d : Device) (f : BitVec 18 → BitVec 18) : (d.modClkWake f).memHist = d.memHist := rfl
@[simp] theorem Device.writeBack_modClkWake (d : Device) (f : BitVec 18 → BitVec 18) : (d.modClkWake f).writeBack = d.writeBack := rfl
@[simp] theorem Device.sparesOut_modClkWake (d : Device) (f : BitVec 18 → BitVec 18) : (d.modClkWake f).sparesOut = d.sparesOut := rfl
@[simp] theorem Device.scrubRow_modClkWake (d : Device) (f : BitVec 18 → BitVec 18) : (d.modClkWake f).scrubRow = d.scrubRow := rfl
@[simp] theorem Device.scrubFrom_modClkWake (d : Device) (f : BitVec 18 → BitVec 18) : (d.modClkWake f).scrubFrom = d.scrubFrom := rfl
@[simp] theorem Device.now_modClkWake (d : Device) (f : BitVec 18 → BitVec 18) : (d.modClkWake f).now = d.now := rfl
@[simp] theorem Device.draws_modClkWake (d : Device) (f : BitVec 18 → BitVec 18) : (d.modClkWake f).draws = d.draws := rfl
@[simp] theorem Device.rx_modClkWake (d : Device) (f : BitVec 18 → BitVec 18) : (d.modClkWake f).rx = d.rx := rfl
@[simp] theorem Device.tx_modClkWake (d : Device) (f : BitVec 18 → BitVec 18) : (d.modClkWake f).tx = d.tx := rfl
@[simp] theorem Device.bw_modClkWake (d : Device) (f : BitVec 18 → BitVec 18) : (d.modClkWake f).bw = d.bw := rfl
@[simp] theorem Device.egr_modClkWake (d : Device) (f : BitVec 18 → BitVec 18) : (d.modClkWake f).egr = d.egr := rfl
@[simp] theorem Device.neg_modClkWake (d : Device) (f : BitVec 18 → BitVec 18) : (d.modClkWake f).neg = d.neg := rfl
@[simp] theorem Device.pool_modClkWake (d : Device) (f : BitVec 18 → BitVec 18) : (d.modClkWake f).pool = d.pool := rfl
@[simp] theorem Device.host_modClkWake (d : Device) (f : BitVec 18 → BitVec 18) : (d.modClkWake f).host = d.host := rfl
@[simp] theorem Device.out_modClkWake (d : Device) (f : BitVec 18 → BitVec 18) : (d.modClkWake f).out = d.out := rfl
@[simp] theorem Device.plt_modClkWake (d : Device) (f : BitVec 18 → BitVec 18) : (d.modClkWake f).plt = d.plt := rfl
@[simp] theorem Device.hws_modClkWake (d : Device) (f : BitVec 18 → BitVec 18) : (d.modClkWake f).hws = d.hws := rfl
@[simp] theorem Device.fab_modClkWake (d : Device) (f : BitVec 18 → BitVec 18) : (d.modClkWake f).fab = d.fab := rfl
@[simp] theorem Device.sup_modClkWake (d : Device) (f : BitVec 18 → BitVec 18) : (d.modClkWake f).sup = d.sup := rfl
@[simp] theorem Device.thm_modClkWake (d : Device) (f : BitVec 18 → BitVec 18) : (d.modClkWake f).thm = d.thm := rfl
@[simp] theorem Device.mon_modClkWake (d : Device) (f : BitVec 18 → BitVec 18) : (d.modClkWake f).mon = d.mon := rfl
@[simp] theorem Device.sec_modClkWake (d : Device) (f : BitVec 18 → BitVec 18) : (d.modClkWake f).sec = d.sec := rfl
@[simp] theorem Device.flash_modClkWake (d : Device) (f : BitVec 18 → BitVec 18) : (d.modClkWake f).flash = d.flash := rfl
@[simp] theorem Device.banks_modClkWake (d : Device) (f : BitVec 18 → BitVec 18) : (d.modClkWake f).banks = d.banks := rfl
@[simp] theorem Device.mft_modClkWake (d : Device) (f : BitVec 18 → BitVec 18) : (d.modClkWake f).mft = d.mft := rfl
@[simp] theorem Device.lko_modClkWake (d : Device) (f : BitVec 18 → BitVec 18) : (d.modClkWake f).lko = d.lko := rfl
@[simp] theorem Device.pmuReq_modClkWake (d : Device) (f : BitVec 18 → BitVec 18) : (d.modClkWake f).pmuReq = d.pmuReq := rfl
@[simp] theorem Device.txdisLow_modClkWake (d : Device) (f : BitVec 18 → BitVec 18) : (d.modClkWake f).txdisLow = d.txdisLow := rfl
@[simp] theorem Device.pmuPrev_modClkWake (d : Device) (f : BitVec 18 → BitVec 18) : (d.modClkWake f).pmuPrev = d.pmuPrev := rfl
@[simp] theorem Device.laneHold_modClkWake (d : Device) (f : BitVec 18 → BitVec 18) : (d.modClkWake f).laneHold = d.laneHold := rfl
@[simp] theorem Device.reg_modClkWake (d : Device) (f : BitVec 18 → BitVec 18) (c : Nat) : (d.modClkWake f).reg c = d.reg c := rfl
@[simp] theorem Device.get_modClkWake (d : Device) (f : BitVec 18 → BitVec 18) (g : Fld) : (d.modClkWake f).get g = d.get g := rfl
@[simp] theorem Device.lget_modClkWake (d : Device) (f : BitVec 18 → BitVec 18) (g : Fld) : (d.modClkWake f).lget g = d.lget g := rfl
@[simp] theorem Device.byte_modClkWake (d : Device) (f : BitVec 18 → BitVec 18) (c : Nat) : (d.modClkWake f).byte c = d.byte c := rfl

/-! ### draw -/

@[simp] theorem Device.regs_draw (d : Device) (n : Nat) : (d.draw n).regs = d.regs := rfl
@[simp] theorem Device.live_draw (d : Device) (n : Nat) : (d.draw n).live = d.live := rfl
@[simp] theorem Device.snap_draw (d : Device) (n : Nat) : (d.draw n).snap = d.snap := rfl
@[simp] theorem Device.mem_draw (d : Device) (n : Nat) : (d.draw n).mem = d.mem := rfl
@[simp] theorem Device.errs_draw (d : Device) (n : Nat) : (d.draw n).errs = d.errs := rfl
@[simp] theorem Device.poisoned_draw (d : Device) (n : Nat) : (d.draw n).poisoned = d.poisoned := rfl
@[simp] theorem Device.memHist_draw (d : Device) (n : Nat) : (d.draw n).memHist = d.memHist := rfl
@[simp] theorem Device.writeBack_draw (d : Device) (n : Nat) : (d.draw n).writeBack = d.writeBack := rfl
@[simp] theorem Device.sparesOut_draw (d : Device) (n : Nat) : (d.draw n).sparesOut = d.sparesOut := rfl
@[simp] theorem Device.scrubRow_draw (d : Device) (n : Nat) : (d.draw n).scrubRow = d.scrubRow := rfl
@[simp] theorem Device.scrubFrom_draw (d : Device) (n : Nat) : (d.draw n).scrubFrom = d.scrubFrom := rfl
@[simp] theorem Device.now_draw (d : Device) (n : Nat) : (d.draw n).now = d.now := rfl
@[simp] theorem Device.rx_draw (d : Device) (n : Nat) : (d.draw n).rx = d.rx := rfl
@[simp] theorem Device.tx_draw (d : Device) (n : Nat) : (d.draw n).tx = d.tx := rfl
@[simp] theorem Device.bw_draw (d : Device) (n : Nat) : (d.draw n).bw = d.bw := rfl
@[simp] theorem Device.egr_draw (d : Device) (n : Nat) : (d.draw n).egr = d.egr := rfl
@[simp] theorem Device.neg_draw (d : Device) (n : Nat) : (d.draw n).neg = d.neg := rfl
@[simp] theorem Device.pool_draw (d : Device) (n : Nat) : (d.draw n).pool = d.pool := rfl
@[simp] theorem Device.host_draw (d : Device) (n : Nat) : (d.draw n).host = d.host := rfl
@[simp] theorem Device.out_draw (d : Device) (n : Nat) : (d.draw n).out = d.out := rfl
@[simp] theorem Device.plt_draw (d : Device) (n : Nat) : (d.draw n).plt = d.plt := rfl
@[simp] theorem Device.hws_draw (d : Device) (n : Nat) : (d.draw n).hws = d.hws := rfl
@[simp] theorem Device.fab_draw (d : Device) (n : Nat) : (d.draw n).fab = d.fab := rfl
@[simp] theorem Device.sup_draw (d : Device) (n : Nat) : (d.draw n).sup = d.sup := rfl
@[simp] theorem Device.thm_draw (d : Device) (n : Nat) : (d.draw n).thm = d.thm := rfl
@[simp] theorem Device.mon_draw (d : Device) (n : Nat) : (d.draw n).mon = d.mon := rfl
@[simp] theorem Device.sec_draw (d : Device) (n : Nat) : (d.draw n).sec = d.sec := rfl
@[simp] theorem Device.flash_draw (d : Device) (n : Nat) : (d.draw n).flash = d.flash := rfl
@[simp] theorem Device.banks_draw (d : Device) (n : Nat) : (d.draw n).banks = d.banks := rfl
@[simp] theorem Device.mft_draw (d : Device) (n : Nat) : (d.draw n).mft = d.mft := rfl
@[simp] theorem Device.lko_draw (d : Device) (n : Nat) : (d.draw n).lko = d.lko := rfl
@[simp] theorem Device.pmuReq_draw (d : Device) (n : Nat) : (d.draw n).pmuReq = d.pmuReq := rfl
@[simp] theorem Device.txdisLow_draw (d : Device) (n : Nat) : (d.draw n).txdisLow = d.txdisLow := rfl
@[simp] theorem Device.pmuPrev_draw (d : Device) (n : Nat) : (d.draw n).pmuPrev = d.pmuPrev := rfl
@[simp] theorem Device.laneHold_draw (d : Device) (n : Nat) : (d.draw n).laneHold = d.laneHold := rfl
@[simp] theorem Device.clkWake_draw (d : Device) (n : Nat) : (d.draw n).clkWake = d.clkWake := rfl
@[simp] theorem Device.reg_draw (d : Device) (n : Nat) (c : Nat) : (d.draw n).reg c = d.reg c := rfl
@[simp] theorem Device.get_draw (d : Device) (n : Nat) (g : Fld) : (d.draw n).get g = d.get g := rfl
@[simp] theorem Device.lget_draw (d : Device) (n : Nat) (g : Fld) : (d.draw n).lget g = d.lget g := rfl
@[simp] theorem Device.byte_draw (d : Device) (n : Nat) (c : Nat) : (d.draw n).byte c = d.byte c := rfl

end Sys2Proof.Machine
end

