-- ==== Sys2Proof/Laws/Events.lean ====
section
/-! SUPPORT. Everything that posting an event can do, said once: raising a flag sets the flag and posts. -/

namespace Sys2Proof.Machine

theorem Posted.refl (d : Device) : Posted d d :=
  ⟨⟨d.regs, d.mem, d.errs, d.poisoned, d.mft.evtPhase, d.mft.held, d.mft.lost, rfl⟩, fun _ _ => rfl, fun _ _ _ => rfl, fun _ _ => rfl,
    Nat.le_refl _⟩

/-- Two devices that read alike outside the event registers have the same ring geometry. -/
theorem evtSize_congr {d e : Device} (h : ∀ a, a ∉ eventRegs → e.reg a = d.reg a) : e.evtSize = d.evtSize := by
  simp only [Device.evtSize, Device.get]
  rw [h F.MFT_CTRL_EVT_SIZE.addr (by decide)]

theorem evtBase_congr {d e : Device} (h : ∀ a, a ∉ eventRegs → e.reg a = d.reg a) : e.get F.MFT_EVT_BASE = d.get F.MFT_EVT_BASE := by
  simp only [Device.get]
  rw [h F.MFT_EVT_BASE.addr (by decide)]

/-- A longer run touches at least the blocks of a shorter one. -/
theorem blocksOf_mono (a n m x : Nat) (h : n ≤ m) (hx : x ∈ blocksOf a n) : x ∈ blocksOf a m := by
  unfold blocksOf at *
  split at hx
  · simp at hx
  · have : blockOf (a + n - 1) ≤ blockOf (a + m - 1) := Nat.div_le_div_right (by omega)
    rw [if_neg (by omega)]
    simp only [List.mem_map, List.mem_range] at hx ⊢
    obtain ⟨i, hi, rfl⟩ := hx
    exact ⟨i, by omega, rfl⟩

/-- A byte of a run lies in one of its blocks. -/
theorem mem_blocksOf (a n c : Nat) (h1 : a ≤ c) (h2 : c < a + n) : blockOf c ∈ blocksOf a n := by
  unfold blocksOf
  rw [if_neg (by omega)]
  have h3 : blockOf a ≤ blockOf c := Nat.div_le_div_right h1
  have h4 : blockOf c ≤ blockOf (a + n - 1) := Nat.div_le_div_right (by omega)
  simp only [List.mem_map, List.mem_range]
  exact ⟨blockOf c - blockOf a, by omega, by omega⟩

theorem Posted.trans {d e f : Device} (h : Posted d e) (k : Posted e f) : Posted d f := by
  obtain ⟨r1, m1, e1, p1, ph1, h1, l1, he⟩ := h.rest
  obtain ⟨r2, m2, e2, p2, ph2, h2, l2, hf⟩ := k.rest
  refine ⟨⟨r2, m2, e2, p2, ph2, h2, l2, by rw [hf, he]⟩, fun a ha => (k.regs a ha).trans (h.regs a ha),
    fun i a b => (k.flags i a b).trans (h.flags i a b), fun a ha => ?_, Nat.le_trans k.room h.room⟩
  rw [k.bytes a ?_, h.bytes a ha]
  intro hc
  apply ha
  unfold Device.inEventRing at hc ⊢
  rw [evtBase_congr h.regs] at hc
  exact blocksOf_mono _ _ _ _ (Nat.mul_le_mul_left 16 h.room) hc

/-- A change of one event register that leaves the ring's index in bounds. -/
theorem posted_setReg (d : Device) (a : Nat) (w : Word) (ha : a ∈ eventRegs) (hf : a ≠ F.MFT_INT_STATUS.addr)
    (hp : a ≠ F.MFT_EVT_PI.addr) : Posted d (d.setReg a w) := by
  refine ⟨⟨_, d.mem, d.errs, d.poisoned, d.mft.evtPhase, d.mft.held, d.mft.lost, rfl⟩, ?_, ?_, fun _ _ => rfl, ?_⟩
  · intro c hc
    rw [Device.reg_setReg, if_neg (fun (e : c = a) => hc (e ▸ ha))]
  · intro i _ _
    rw [Device.reg_setReg, if_neg (Ne.symm hf)]
  · have e1 : (d.setReg a w).reg F.MFT_EVT_PI.addr = d.reg F.MFT_EVT_PI.addr := by rw [Device.reg_setReg, if_neg (Ne.symm hp)]
    have e2 : (d.setReg a w).reg F.MFT_CTRL_EVT_SIZE.addr = d.reg F.MFT_CTRL_EVT_SIZE.addr := by
      rw [Device.reg_setReg, if_neg (fun (e : F.MFT_CTRL_EVT_SIZE.addr = a) => absurd (e ▸ ha : F.MFT_CTRL_EVT_SIZE.addr ∈ eventRegs) (by decide))]
    have e3 : (F.MFT_EVT_PI_IDX).addr = F.MFT_EVT_PI.addr := rfl
    simp only [Device.evtRoom, Device.evtSize, Device.get, e3, e1, e2]
    exact Nat.le_refl _

theorem posted_set (d : Device) (f : Fld) (v : Nat) (ha : f.addr ∈ eventRegs) (hf : f.addr ≠ F.MFT_INT_STATUS.addr)
    (hp : f.addr ≠ F.MFT_EVT_PI.addr) : Posted d (d.set f v) := posted_setReg d _ _ ha hf hp

/-- The device's own count of corrections. -/
theorem posted_count_corr (d : Device) (n : Nat) : Posted d (d.count F.MEM_CORR n) := by
  unfold Device.count
  split
  · exact Posted.refl d
  · exact (posted_setReg _ _ _ (by decide) (by decide) (by decide)).trans (posted_setReg _ _ _ (by decide) (by decide) (by decide))

/-- EVT and EVT_OVERFLOW. -/
theorem posted_set_evt (d : Device) (f : Fld) (v : Nat) (hf : f = F.MFT_INT_STATUS_EVT ∨ f = F.MFT_INT_STATUS_EVT_OVERFLOW) :
    Posted d (d.set f v) := by
  have ha : f.addr = F.MFT_INT_STATUS.addr := by obtain rfl | rfl := hf <;> rfl
  refine ⟨⟨_, d.mem, d.errs, d.poisoned, d.mft.evtPhase, d.mft.held, d.mft.lost, rfl⟩, ?_, ?_, fun _ _ => rfl, ?_⟩
  · intro c hc
    rw [Device.reg_set, if_neg (fun (e : c = f.addr) => hc (by rw [e, ha]; decide))]
  · intro i h4 h5
    rw [Device.reg_set, if_pos ha.symm, putBits_getLsbD _ _ _ _ _ (by obtain rfl | rfl := hf <;> decide) (by obtain rfl | rfl := hf <;> decide)]
    rw [if_neg ?_, ha]
    obtain rfl | rfl := hf <;> simp [F.MFT_INT_STATUS_EVT, F.MFT_INT_STATUS_EVT_OVERFLOW] <;> omega
  · have e1 : (d.set f v).reg F.MFT_EVT_PI.addr = d.reg F.MFT_EVT_PI.addr := by rw [Device.reg_set, if_neg (by rw [ha]; decide)]
    have e2 : (d.set f v).reg F.MFT_CTRL_EVT_SIZE.addr = d.reg F.MFT_CTRL_EVT_SIZE.addr := by
      rw [Device.reg_set, if_neg (by rw [ha]; decide)]
    have e3 : (F.MFT_EVT_PI_IDX).addr = F.MFT_EVT_PI.addr := rfl
    simp only [Device.evtRoom, Device.evtSize, Device.get, e3, e1, e2]
    exact Nat.le_refl _

/-- A change of memory inside the event ring, of check bits, and of the event queue. -/
theorem posted_of_regs (d : Device) (mem : List Host.Cell) (errs : List (Nat × List Nat)) (poisoned : List Nat) (ph : Bool)
    (held : List HeldEvent) (lost : Nat) (hb : ∀ a, ¬ d.inEventRing a → memGet mem a = d.byte a) :
    Posted d { d with mem := mem, errs := errs, poisoned := poisoned,
                      mft := { d.mft with evtPhase := ph, held := held, lost := lost } } :=
  ⟨⟨d.regs, mem, errs, poisoned, ph, held, lost, rfl⟩, fun _ _ => rfl, fun _ _ _ => rfl, hb, Nat.le_refl _⟩

/-- Only memory and check bits differ, and memory only inside one block. -/
structure InBlock (blk : Nat) (d e : Device) : Prop where
  rest : ∃ mem errs poisoned, e = { d with mem := mem, errs := errs, poisoned := poisoned }
  bytes : ∀ a, blockOf a ≠ blk → e.byte a = d.byte a

theorem InBlock.trans {blk : Nat} {d e f : Device} (h : InBlock blk d e) (k : InBlock blk e f) : InBlock blk d f := by
  obtain ⟨m1, e1, p1, rfl⟩ := h.rest
  obtain ⟨m2, e2, p2, rfl⟩ := k.rest
  exact ⟨⟨m2, e2, p2, rfl⟩, fun a ha => (k.bytes a ha).trans (h.bytes a ha)⟩

theorem inBlock_setFlips (d : Device) (blk b : Nat) (fl : List Nat) : InBlock blk d (d.setFlips b fl) :=
  ⟨⟨d.mem, _, d.poisoned, rfl⟩, fun _ _ => rfl⟩

theorem inBlock_settleBits (d : Device) (blk : Nat) (fl : List Nat) : InBlock blk d (d.settleBits blk fl) := by
  induction fl generalizing d with
  | nil => exact ⟨⟨d.mem, d.errs, d.poisoned, rfl⟩, fun _ _ => rfl⟩
  | cons x xs ih =>
    simp only [Device.settleBits]
    split
    · next hx =>
      refine InBlock.trans ?_ (ih _)
      refine ⟨⟨_, d.errs, d.poisoned, rfl⟩, fun a ha => ?_⟩
      rw [Device.byte_setByte, if_neg]
      intro e
      apply ha
      unfold blockOf
      omega
    · exact ih d

theorem inBlock_recheck (d : Device) (blk : Nat) : InBlock blk d (d.recheck blk) := by
  have h := (inBlock_settleBits d blk (d.flips blk)).trans (inBlock_setFlips _ blk blk [])
  refine h.trans ⟨⟨_, _, _, rfl⟩, fun _ _ => rfl⟩

theorem inBlock_poison (d : Device) (blk : Nat) : InBlock blk d (d.poison blk) := by
  have h := (inBlock_settleBits d blk (d.flips blk)).trans (inBlock_setFlips _ blk blk [])
  refine h.trans ⟨⟨_, _, _, rfl⟩, fun _ _ => rfl⟩

theorem inBlock_mend (d : Device) (blk : Nat) (c : BlockClass) : InBlock blk d (d.mend blk c) := by
  unfold Device.mend
  split
  · exact ⟨⟨d.mem, d.errs, d.poisoned, rfl⟩, fun _ _ => rfl⟩
  · exact inBlock_setFlips d blk blk _

theorem InBlock.posted {blk : Nat} {d e : Device} (h : InBlock blk d e)
    (hb : blk ∈ blocksOf (windowAddr (d.get F.MFT_EVT_BASE)) (16 * d.evtRoom)) : Posted d e := by
  obtain ⟨m, er, p, rfl⟩ := h.rest
  refine posted_of_regs d m er p d.mft.evtPhase d.mft.held d.mft.lost fun a ha => h.bytes a ?_
  intro e
  exact ha (by unfold Device.inEventRing; rw [e]; exact hb)

/-- Storing bytes of the ring. -/
theorem posted_setBytes (d : Device) (a : Nat) (vs : List Byte) (h1 : windowAddr (d.get F.MFT_EVT_BASE) ≤ a)
    (h2 : a + vs.length ≤ windowAddr (d.get F.MFT_EVT_BASE) + 16 * d.evtRoom) : Posted d (d.setBytes a vs) := by
  have hm : ∃ m, d.setBytes a vs = { d with mem := m } := by
    clear h1 h2
    induction vs generalizing d a with
    | nil => exact ⟨d.mem, rfl⟩
    | cons v vs ih => exact ih (d.setByte a v) (a + 1)
  obtain ⟨m, hm⟩ := hm
  have hk : ∀ c, ¬ d.inEventRing c → memGet m c = d.byte c := by
    intro c hc
    have e : memGet m c = (d.setBytes a vs).byte c := by rw [hm]; rfl
    rw [e]
    apply Device.byte_setBytes_out
    rcases Nat.lt_or_ge c a with hn | hn
    · exact Or.inl hn
    · rcases Nat.lt_or_ge c (a + vs.length) with hm | hm
      · exact absurd (mem_blocksOf _ _ _ (by omega) (by omega)) hc
      · exact Or.inr hm
  rw [hm]
  exact posted_of_regs d m d.errs d.poisoned d.mft.evtPhase d.mft.held d.mft.lost hk

/-- Changes of the event queue alone. -/
theorem posted_modMft (d : Device) (f : Mft → Mft)
    (hf : f d.mft = { d.mft with evtPhase := (f d.mft).evtPhase, held := (f d.mft).held, lost := (f d.mft).lost }) : Posted d (d.modMft f) := by
  have h := posted_of_regs d d.mem d.errs d.poisoned (f d.mft).evtPhase (f d.mft).held (f d.mft).lost fun _ _ => rfl
  rw [← hf] at h
  exact h

theorem evtSize_pos (d : Device) : 0 < d.evtSize := Nat.mul_pos (by decide) (Nat.two_pow_pos _)

/-- The index and phase of MFT_EVT_PI move on inside the ring. -/
theorem posted_advance (d : Device) (np : Nat) (ph : Bool) (h : np < d.evtSize) :
    Posted d ((d.set F.MFT_EVT_PI_IDX np).setB F.MFT_EVT_PI_PHASE ph) := by
  have hne : ∀ c, c ≠ F.MFT_EVT_PI.addr → ((d.set F.MFT_EVT_PI_IDX np).setB F.MFT_EVT_PI_PHASE ph).reg c = d.reg c := by
    intro c hc
    unfold Device.setB
    rw [Device.reg_set, if_neg (show c ≠ F.MFT_EVT_PI_PHASE.addr from hc), Device.reg_set, if_neg (show c ≠ F.MFT_EVT_PI_IDX.addr from hc)]
  refine ⟨⟨_, d.mem, d.errs, d.poisoned, d.mft.evtPhase, d.mft.held, d.mft.lost, rfl⟩, ?_, ?_, fun _ _ => rfl, ?_⟩
  · intro c hc
    exact hne c (fun e => hc (by rw [e]; decide))
  · intro i _ _
    rw [hne _ (by decide)]
  · have e1 : ((d.set F.MFT_EVT_PI_IDX np).setB F.MFT_EVT_PI_PHASE ph).evtSize = d.evtSize := by
      simp only [Device.evtSize, Device.get]; rw [hne _ (by decide)]
    have e2 : ((d.set F.MFT_EVT_PI_IDX np).setB F.MFT_EVT_PI_PHASE ph).get F.MFT_EVT_PI_IDX ≤ np := by
      unfold Device.setB
      rw [Device.get_set_apart _ _ _ _ (by decide) (by decide) (Or.inr (by decide)), Device.get_set_same _ _ _ (by decide)]
      exact Nat.mod_le _ _
    unfold Device.evtRoom
    rw [e1]
    omega

/-- Writing one event entry posts and nothing else. -/
theorem writeEvent_posted (d : Device) (w0 unit data : Word) (time : Nat) : Posted d (d.writeEvent w0 unit data time) := by
  unfold Device.writeEvent
  extract_lets pi a blk d1 ph w3 d2 np ph'
  have hroom : pi + 1 ≤ d.evtRoom := Nat.le_max_right _ _
  have hblk : blk ∈ blocksOf (windowAddr (d.get F.MFT_EVT_BASE)) (16 * d.evtRoom) := by
    apply mem_blocksOf
    · simp only [a, windowAddr]; omega
    · simp only [a, windowAddr]; omega
  have hd1 : Posted d d1 := by
    simp only [d1]
    split
    · exact Posted.refl d
    · exact (inBlock_recheck d blk).posted hblk
    · exact (inBlock_recheck d blk).posted hblk
    · exact (((inBlock_mend d blk _).posted hblk).trans (posted_count_corr _ _)).trans
        (posted_set _ _ _ (by decide) (by decide) (by decide))
  have hb : d1.get F.MFT_EVT_BASE = d.get F.MFT_EVT_BASE := evtBase_congr hd1.regs
  have hpi : ∀ e : Device, Posted d e → e.reg F.MFT_EVT_PI.addr = d.reg F.MFT_EVT_PI.addr →
      ∀ x vs, windowAddr (d.get F.MFT_EVT_BASE) ≤ x → x + vs.length ≤ windowAddr (d.get F.MFT_EVT_BASE) + 16 * (pi + 1) →
      Posted e (e.setBytes x vs) := by
    intro e he hr x vs h1 h2
    have hb' : e.get F.MFT_EVT_BASE = d.get F.MFT_EVT_BASE := evtBase_congr he.regs
    have hp' : e.get F.MFT_EVT_PI_IDX = pi := by
      have e3 : (F.MFT_EVT_PI_IDX).addr = F.MFT_EVT_PI.addr := rfl
      simp only [pi, Device.get, e3, hr]
    apply posted_setBytes
    · rw [hb']; exact h1
    · rw [hb']
      have : pi + 1 ≤ e.evtRoom := by unfold Device.evtRoom; rw [hp']; exact Nat.le_max_right _ _
      omega
  have hd1pi : d1.reg F.MFT_EVT_PI.addr = d.reg F.MFT_EVT_PI.addr := by
    simp only [d1]
    split
    · rfl
    · obtain ⟨m, e, p, h⟩ := (inBlock_recheck d blk).rest; rw [h]; rfl
    · obtain ⟨m, e, p, h⟩ := (inBlock_recheck d blk).rest; rw [h]; rfl
    · rw [Device.reg_set, if_neg (by decide)]
      obtain ⟨m, e, p, h⟩ := (inBlock_mend d blk (d.blockClass blk)).rest
      unfold Device.count Device.setPair
      split
      · rw [h]; rfl
      · rw [Device.reg_setReg, if_neg (by decide), Device.reg_setReg, if_neg (by decide), h]; rfl
  have step : ∀ (e : Device) (x : Nat) (w : Word), Posted d e → e.reg F.MFT_EVT_PI.addr = d.reg F.MFT_EVT_PI.addr →
      windowAddr (d.get F.MFT_EVT_BASE) ≤ x → x + 4 ≤ windowAddr (d.get F.MFT_EVT_BASE) + 16 * (pi + 1) →
      Posted d (e.setWord x w) ∧ (e.setWord x w).reg F.MFT_EVT_PI.addr = d.reg F.MFT_EVT_PI.addr := by
    intro e x w he hr h1 h2
    exact ⟨he.trans (hpi e he hr x _ h1 h2), hr⟩
  have ha1 : a = windowAddr (d.get F.MFT_EVT_BASE) + 16 * pi := by simp only [a, windowAddr]; omega
  obtain ⟨p1, r1⟩ := step d1 a w0 hd1 hd1pi (by omega) (by omega)
  obtain ⟨p2, r2⟩ := step _ (a + 4) unit p1 r1 (by omega) (by omega)
  obtain ⟨p3, r3⟩ := step _ (a + 8) data p2 r2 (by omega) (by omega)
  obtain ⟨p4, r4⟩ := step _ (a + 12) w3 p3 r3 (by omega) (by omega)
  have p5 := posted_modMft d2 (fun q0 => { q0 with evtPhase := ph' }) rfl
  have hs : (d2.modMft fun q0 => { q0 with evtPhase := ph' }).evtSize = d.evtSize := evtSize_congr (p4.trans p5).regs
  refine ((p4.trans p5).trans (posted_advance _ np ph' ?_)).trans (posted_set_evt _ _ _ (Or.inl rfl))
  rw [hs]
  exact Nat.mod_lt _ (evtSize_pos d)

theorem loseEvent_posted (d : Device) : Posted d d.loseEvent := by
  unfold Device.loseEvent Device.bump
  exact (posted_modMft d _ rfl).trans (posted_set _ _ _ (by decide) (by decide) (by decide))

theorem ringEvent_posted (d : Device) (w0 unit data : Word) (time : Nat) : Posted d (d.ringEvent w0 unit data time) := by
  unfold Device.ringEvent
  split
  · exact loseEvent_posted d
  · split
    · exact writeEvent_posted d _ _ _ _
    · extract_lets n d1 d2
      have h1 : Posted d d1 := (writeEvent_posted d _ _ _ _).trans (posted_set_evt _ _ _ (Or.inr rfl))
      have h2 : Posted d d2 := h1.trans (posted_modMft d1 _ rfl)
      split
      · exact h2.trans (loseEvent_posted _)
      · exact h2.trans (writeEvent_posted _ _ _ _ _)

/-- Posting an event does nothing else. -/
theorem post_posted (d : Device) (block event : Nat) (unit data : Word) : Posted d (d.post block event unit data) := by
  unfold Device.post
  extract_lets w0 t
  split
  · exact ringEvent_posted d _ _ _ _
  · split
    · exact posted_modMft d _ rfl
    · exact loseEvent_posted d

/-- Writing back the bits a field holds changes no word. -/
theorem putBits_self (w : Word) (f : Fld) (h : f.ok) : putBits w f.hi f.lo (bitsOf w f.hi f.lo) = w := by
  apply BitVec.eq_of_getLsbD_eq
  intro i hi
  rw [putBits_getLsbD _ _ _ _ _ h.2 h.1]
  split
  · next hc =>
    rw [bitsOf_testBit]
    simp [show i - f.lo < f.hi - f.lo + 1 by omega, show f.lo + (i - f.lo) = i by omega]
  · rfl

/-- Setting a field to what it holds changes nothing that a read shows. -/
theorem posted_set_self (d : Device) (f : Fld) (v : Nat) (h : f.ok) (hv : d.get f = v) : Posted (d.set f v) d := by
  have hr : ∀ a, d.reg a = (d.set f v).reg a := by
    intro a
    rw [Device.reg_set, ← hv]
    split
    · next e => rw [e, Device.get, putBits_self _ _ h]
    · rfl
  refine ⟨⟨d.regs, d.mem, d.errs, d.poisoned, d.mft.evtPhase, d.mft.held, d.mft.lost, rfl⟩, fun a _ => hr a, fun i _ _ => by rw [hr],
    fun _ _ => rfl, ?_⟩
  simp only [Device.evtRoom, Device.evtSize, Device.get, ← hr]
  exact Nat.le_refl _

/-- Raising a flag sets it and posts its event; a flag that is set already changes nothing (R316). -/
theorem raiseAt_posted (d : Device) (f : Fld) (unit data : Word) (h : f.ok) (h1 : f.hi = f.lo) :
    Posted (d.set f 1) (d.raiseAt f unit data) := by
  unfold Device.raiseAt
  split
  · next hf =>
    apply posted_set_self d f 1 h
    have := bitsOf_lt (d.reg f.addr) f.hi f.lo
    simp only [Device.flag, Device.get, bne_iff_ne] at hf
    simp only [Device.get]
    rw [h1] at this hf ⊢
    simp only [Nat.sub_self] at this
    omega
  · exact post_posted _ _ _ _ _

theorem raise_posted (d : Device) (f : Fld) (data : Word) (h : f.ok) (h1 : f.hi = f.lo) :
    Posted (d.set f 1) (d.raise f data) := raiseAt_posted d f _ data h h1

end Sys2Proof.Machine
end

