-- ==== Sys2Proof/WellFormed.lean ====
section
/-! DEFINITION. What makes a command one that the device can meet: the codes, the list lengths and the message kinds that the manual's tables give its operands. A command that is not well formed stands for no event of the hardware. -/

namespace Sys2Proof

/-- Whether every member of a list is below a bound. -/
def allBelow (top : Nat) (l : List Nat) : Bool := l.all fun x => decide (x < top)

/-- One update interval brings a gradient for each of the 40 FFE taps, 3 channel taps and 4 levels (R61). -/
def Gradients.wf (g : Gradients) : Bool := g.ffe.length == 40 && g.mlse.length == 3 && g.level.length == 4

/-- A codeword has 30 syndromes, and each of its 544 symbols one reliability (R67, R90, R91). -/
def CwIn.wf (c : CwIn) : Bool :=
  c.syndromes.length == 30 && decide (c.weak.map (·.1)).Nodup && allBelow 544 (c.weak.map (·.1)) && allBelow 15 (c.weak.map (·.2))

/-- The blocks of an overrange window make up the window, one of the lengths of Table 2-1, and its clips are theirs (R77). -/
def WindowCount.wf (w : WindowCount) : Bool :=
  [830, 1772, 3652].contains w.blocks.length && w.blocks.foldl (fun t b => t + b.clips) 0 == w.clips && allBelow w.blocks.length w.cuts

/-- A session moves its twelve taps by signs and measures its samples at three thresholds (R219, R220). -/
def AdaptMeasure.wf (m : AdaptMeasure) : Bool :=
  m.moves.all (fun l => l.length == 12 && l.all fun x => decide (-1 ≤ x ∧ x ≤ 1)) && m.nearAdapt.length == 3 && m.nearTable.length == 3

/-- Roots and corrections lie inside the codeword (R100). -/
def PassResult.wf (r : PassResult) : Bool := allBelow 544 r.roots && allBelow 544 (r.values.map (·.1))

/-- The self-tests look at 49 macros (R535, Table 16-1). -/
def BootRun.wf (r : BootRun) : Bool := r.spares.length == 49 && allBelow 10 r.spares

/-- A window estimates 64 sub-ADCs (R495). -/
def Estimates.wf (e : Estimates) : Bool := e.offset.length == 64 && e.gain.length == 64 && e.skew.length == 64

/-- The header fields fit their widths (Table 9-1). -/
def FabMsg.wf (m : FabMsg) : Bool := decide (m.hops < 256) && decide (m.dst < 2 ^ 25) && decide (m.src < 2 ^ 25) && decide (m.rid < 2 ^ 16)

/-- The message types of Table 9-2, by body. -/
def FabBody.typeOf : FabBody → Nat
  | .beacon .. => 0x01 | .route .. => 0x02 | .hmAnnounce .. => 0x03 | .addrReq .. => 0x04 | .addrGrant .. => 0x05
  | .record .. => 0x06 | .recordAck .. => 0x07 | .recordPull .. => 0x08 | .manifest .. => 0x10 | .completion .. => 0x11
  | .data .. => 0x12 | .resend .. => 0x13 | .nonce .. => 0x14 | .unreach .. => 0x15 | .ack .. => 0x16

/-- A received message of one type. -/
def FabMsg.isType (m : FabMsg) (t : Nat) : Bool := m.wf && m.body.typeOf == t

/-- The command's operands are ones that the manual's tables give it. -/
def Instr.wellFormed : Instr → Bool
  | .rxStateRequest _ v => decide (v.toNat ≤ 4)
  | .txStateRequest _ v => decide (v.toNat ≤ 4)
  | .lpRequest _ v => decide (v.toNat ≤ 2)
  | .adaptUpdate _ g => g.wf
  | .innerCodeword _ _ soft => soft.length == 128
  | .overrangeWindowEnd _ w => w.wf
  | .innerLock _ tried zeros => allBelow 257 tried && decide (zeros < 257)
  | .frameLock _ tried zeros => allBelow 33 tried && decide (zeros < 33)
  | .codewordArrival _ _ cw => cw.wf
  | .passEnd _ r => r.wf
  | .refuseMessage _ r => decide (r < 256)
  | .exitMessage _ _ r => decide (r < 256)
  | .dpdWindowEnd _ seen => seen.length == 64
  | .dpdReport _ _ w dev => dev.length == 64 && decide (w < 2 ^ 32)
  | .adaptSessionEnd _ m => m.wf
  | .evmUpdate _ errs powers _ => errs.length == 64 && powers.length == 64
  | .syncDetection _ ms near => ms.length == 4 && allBelow 256 ms && decide (near < 256)
  | .loadmap _ ident preset pq rec codes =>
    decide (ident < 256) && decide (preset < 4) && decide (pq < 256) && decide (rec < 4) && codes.length == 64 && allBelow 16 codes
  | .loadreq _ preset => decide (preset < 4)
  | .thermal _ level step _ grade => decide (level < 4) && decide (step < 3) && (grade == 0x43 || grade == 0x48)
  | .spiWrite _ ws => !ws.isEmpty
  | .spiRead _ n => decide (0 < n)
  | .messageForward _ m => m.wf
  | .beacon _ m => m.isType 0x01
  | .route _ m => m.isType 0x02
  | .hmAnnounce _ m => m.isType 0x03
  | .addrReq _ m => m.isType 0x04
  | .addrGrant _ m => m.isType 0x05
  | .record _ m => m.isType 0x06
  | .recordAck _ m => m.isType 0x07
  | .recordPull _ m => m.isType 0x08
  | .manifestMessage _ m => m.isType 0x10
  | .completionMessage _ m => m.isType 0x11
  | .dataMessage _ m => m.isType 0x12
  | .resend _ m => m.isType 0x13
  | .nonce _ m => m.isType 0x14
  | .unreach _ m => m.isType 0x15
  | .ack _ m => m.isType 0x16
  | .resetnRise run => run.wf
  | .railGood _ run => run.wf
  | .refclkAppear run => run.wf
  | .fullReset cause run => decide (1 ≤ cause.toNat ∧ cause.toNat ≤ 7) && run.wf
  | .thermalSample t => t.length == 24
  | .estimationWindowEnd _ e => e.wf
  | .routeExpiry level _ => decide (level < 4)
  -- any value of these operands is one that the device can meet
  | .rxTransitionDone _ | .acquisitionTimeout _ | .frequencyLock _ _ | .phaseLock _
  | .parityLock _ _ | .lockLoss _ _ _ | .reacq _ | .adaptHold _ _ | .gainSetWrite _ _ | .trimBoundary _
  | .engineIdle _ | .correctionRecordTaken _ | .codewordRelease _ | .tideGaugeWindow _ | .loopInterval | .vgood
  | .poolSupplyCfgWrite _ | .loopEnWrite _ _ | .negStart | .negExit | .capMessage _ _ | .proposeMessage _ _ _ | .acceptMessage _ _ _
  | .commitMessage _ _ | .stateMessage _ _ _ | .stateTimer | .negResponseTimeout | .liveTimeout | .hostCodeword _ _ _ _ | .rehunt _
  | .groupRelease _ | .txTransitionDone _ | .txBoundary _ _ | .txonTimeout _ | .txdisnFall | .txdisnRise | .txDisWrite _ _
  | .powerIdxWrite _ _ | .dpdLutWrite _ _ _ | .bypassWrite _ _ | .dpdApplied _ _ | .dpdPeriodExpiry _ | .pilotInjectionMove _
  | .hostPllLock _ | .signalDetect _ | .cdrLock _ | .markerLock _ _ | .hostLos _ | .cdrLoss _ | .amLoss _ | .freqMismatch _
  | .recoveryDue _ | .adaptRun _ | .lpTransitionDone _ | .pilotFrameStart _ | .class4Handover _ | .fabricFrameExpiry _
  | .headerReceived _ _ | .frameReceived _ _ _ _ | .syncLoss _ | .resync _ | .loadmapTimeout _
  | .cmisWindowAccess _ _ _ _ | .registerPortRead _ | .registerPortWrite _ _ | .ringEnable | .ringDisable | .drainComplete
  | .doorbell _ | .manifestStart | .manifestComplete | .manifestTimeout _ | .completionConsumed _ | .eventConsumed _ | .reset
  | .status | .identify | .regRead | .regWrite | .commit | .laneState | .hostLp | .hostAdapt | .native | .powerState | .snapshot
  | .lookoutRead | .monConvert | .monCal | .calSave _ | .fwWrite _ | .fwActivate _ | .attest _ | .keyInstall _ | .debugUnlock _
  | .realmSet | .mftCommit _ | .stagedGroupLive _ | .commitTimeout _ | .remoteTimeout _ | .cmisLowpwrRequest | .cmisLowpwrRelease
  | .cmisTxDisable _ _ | .cmisDatapathDeinit _ | .cmisDatapathInit _ | .cmisRxOutputDisable _ | .cmisRxOutputEnable _
  | .hawserSyncAcquired _ | .hawserSyncLost _ | .beaconTimer | .adjacencyTimeout _ | .quaymasterDeclare | .harbourMasterDeclare
  | .hmAnnounceTimer | .addrReqRetry | .proposalTimeout | .hoursAdvance | .routeTimer | .manifestResend _ | .ridExpiry _ _
  | .outputReleaseTimeout | .authorityLapse | .islandSet _ | .oldKeyErase | .powerOnReset | .resetnFall _ | .railFault _
  | .hawserFrame _ _ _ _ | .refclkLoss | .vddPoolFault | .wdtKick _ | .wdtHalf | .watchdogExpiry _ | .wdtLock | .crossingReopen _ | .islandStall _
  | .clockGateWake _ | .counterLowRead _ _ | .powerStateRequest _ | .wfiSleep _ | .powerTransitionDone | .sleepTimeout | .wakenFall
  | .wakeTimer | .hostAccessWake | .offBlockWrite _ _ | .wakeStart _ | .retentionReloadDone | .opReqWrite _ _ | .vgoodCore
  | .graceExpiry | .e2DelayExpiry | .releaseExpiry | .thermalReportTimer | .enfMinWrite _ | .monInj _ | .integrationBoundary _
  | .resultWritten | .calGo | .calStepComplete | .monCalTimeout | .bdacCodeWrite _ _ | .bdacClrWrite _ _ | .clrnFall | .clrnRise
  | .clrRel | .trimWrite _ _ _ | .scrubAccess _ | .historyExpiry | .unpoison | .errorInject | .bistSliceStart | .bistSliceEnd _ _
  | .nrSubslice _ _ | .arm | .force | .stop | .lookoutSample _ | .holdoffEnd | .lookoutRearm | .freeze _ | .snap | .freezeInstant
  | .clrAll | .evselWrite _ _ | .svnAdv | .jtagAccess _ | .jtagZeroise | .sysLiveAddrWrite _ _ | .liveDataRead _
  | .registerWrite _ _ _ | .porRelease | .trngFail | .trngOk | .svnDone | .codeReloadDone _ | .cdbCommand _ | .clockGateStop _
  | .hostTxHalfRun _ | .idleGroupBoundary _ | .corePllUnlock _ | .monResRead _ _ => true

end Sys2Proof
end

