-- ==== Sys2Proof/Tests/Slice0.lean ====
section
/-! SUPPORT. The model's own tests: ill-formed commands are refused by WellFormed, and states and operands that meet the hypotheses of the statements, with what the command does there. Expected values are read from the rules that each statement cites. -/

namespace Sys2Proof.Tests

set_option Elab.async false

open Sys2Proof Sys2Proof.Machine

/-- The device after reset with some fields set and, if wanted, something else changed. -/
def st (l : List (Fld × Nat)) (f : Device → Device := id) : State :=
  { dev := f (l.foldl (fun (d : Device) p => d.set p.1 p.2) State.reset.dev), pending := [] }

/-- The device after a command. -/
def after (c : Instr) (s : State) : Device :=
  match exec c s with
  | .next t => t.dev
  | _ => s.dev

/-- The command completes, and registers, live copies and memory are then as in `d`. -/
def does (c : Instr) (s : State) (d : Device) : Bool :=
  match exec c s with
  | .next t => t.dev.regs == d.regs && t.dev.live == d.live && t.dev.mem == d.mem && t.pending.isEmpty
  | _ => false


/-! ### Ill-formed commands -/

def okRun : BootRun := { logic := [], spares := List.replicate 49 0, checkerOk := true }
def unit : Estimates := { offset := List.replicate 64 0, gain := List.replicate 64 0, skew := List.replicate 64 0, tia := 0 }
def msg (b : FabBody) : FabMsg :=
  { hops := 0, link := true, flood := false, noAddr := true, dst := 0, src := 0, srcId := 5, seq := 0, dnonce := 0, rid := 0, body := b, tagKey := none }
def meas : AdaptMeasure :=
  { moves := [List.replicate 12 1], nearAdapt := List.replicate 3 [], nearTable := [[], List.replicate 20 4, []] }
def carrier : CarrierPower := { pilot := 4, noise := 1, power := 5 }
def chain : PilotChain := { txClip := 0, sdOvl := 0, firSat := 0, rms := [], resFreq := 0, timing := [] }
def grads : Gradients := { ffe := List.replicate 40 0, mlse := [0, 0, 0], level := [0, 0, 0, 0] }
def cwIn : CwIn := { time := 0, bits := 0, syndromes := List.replicate 30 0, weak := [(5, 14), (543, 2)], marker := false }
def cwErr : CwIn := { cwIn with syndromes := 1 :: List.replicate 29 0 }
def slot0 : Desc := { w0 := 0, w1 := 0, w2 := 0, w3 := 0, w4 := 0, w5 := 0, w6 := 0, w7 := 0 }
def pass0 : PassResult := { degree := 1, roots := [3], values := [] }

def clips (k : Nat) : WindowCount :=
  { clips := k, big := 0, rms := 0, map := 0, sat := 0, blocks := List.replicate 830 { clips := 0, mean := 0 }, cuts := [] }

theorem test_wf_state_codes : (Instr.rxStateRequest 0 4).wellFormed = true ∧ (Instr.rxStateRequest 0 5).wellFormed = false ∧
    (Instr.txStateRequest 0 5).wellFormed = false ∧ (Instr.lpRequest 0 3).wellFormed = false := by decide
theorem test_wf_gradients : (Instr.adaptUpdate 0 grads).wellFormed = true ∧
    (Instr.adaptUpdate 0 { grads with ffe := [] }).wellFormed = false ∧ (Instr.adaptUpdate 0 { grads with mlse := [] }).wellFormed = false ∧
    (Instr.adaptUpdate 0 { grads with level := [] }).wellFormed = false := by decide
theorem test_wf_inner : (Instr.innerCodeword 0 0 []).wellFormed = false ∧ (Instr.innerCodeword 0 0 (List.replicate 128 0)).wellFormed = true ∧
    (Instr.innerLock 0 [] 256).wellFormed = true ∧ (Instr.innerLock 0 [257] 0).wellFormed = false ∧ (Instr.frameLock 0 [] 33).wellFormed = false := by
  decide +kernel
theorem test_wf_window : (Instr.overrangeWindowEnd 0 (clips 0)).wellFormed = true ∧ (Instr.overrangeWindowEnd 0 (clips 1)).wellFormed = false ∧
    (Instr.overrangeWindowEnd 0 { clips 0 with blocks := [] }).wellFormed = false ∧
    (Instr.overrangeWindowEnd 0 { clips 0 with cuts := [830] }).wellFormed = false := by decide +kernel
theorem test_wf_codeword : (Instr.codewordArrival 0 0 cwIn).wellFormed = true ∧
    (Instr.codewordArrival 0 0 { cwIn with syndromes := [] }).wellFormed = false ∧
    (Instr.codewordArrival 0 0 { cwIn with weak := [(5, 1), (5, 2)] }).wellFormed = false ∧
    (Instr.codewordArrival 0 0 { cwIn with weak := [(544, 1)] }).wellFormed = false ∧
    (Instr.codewordArrival 0 0 { cwIn with weak := [(5, 15)] }).wellFormed = false := by decide
theorem test_wf_pass : (Instr.passEnd 0 pass0).wellFormed = true ∧ (Instr.passEnd 0 { pass0 with roots := [544] }).wellFormed = false ∧
    (Instr.passEnd 0 { pass0 with values := [(544, 1)] }).wellFormed = false := by decide
theorem test_wf_reasons : (Instr.refuseMessage 0 256).wellFormed = false ∧ (Instr.exitMessage 0 0 256).wellFormed = false := by decide
theorem test_wf_dpd : (Instr.dpdWindowEnd 0 []).wellFormed = false ∧ (Instr.dpdReport 0 0 0 []).wellFormed = false ∧
    (Instr.dpdReport 0 0 (2 ^ 32) (List.replicate 64 0)).wellFormed = false := by decide
theorem test_wf_session :
    (Instr.adaptSessionEnd 0 meas).wellFormed = true ∧
    (Instr.adaptSessionEnd 0 { meas with moves := [[1]] }).wellFormed = false ∧
    (Instr.adaptSessionEnd 0 { meas with moves := [List.replicate 12 2] }).wellFormed = false ∧
    (Instr.adaptSessionEnd 0 { meas with nearAdapt := [] }).wellFormed = false ∧
    (Instr.adaptSessionEnd 0 { meas with nearTable := [] }).wellFormed = false := by decide
theorem test_wf_evm :
    (Instr.evmUpdate 0 [] [] chain).wellFormed = false ∧
    (Instr.evmUpdate 0 (List.replicate 64 []) (List.replicate 64 carrier) chain).wellFormed = true ∧
    (Instr.syncDetection 0 [255, 0, 0, 0] 255).wellFormed = true ∧ (Instr.syncDetection 0 [255] 0).wellFormed = false ∧
    (Instr.syncDetection 0 [256, 0, 0, 0] 0).wellFormed = false ∧ (Instr.syncDetection 0 [0, 0, 0, 0] 256).wellFormed = false := by decide
theorem test_wf_loadmap : (Instr.loadmap 0 1 1 0 0 (List.replicate 64 2)).wellFormed = true ∧
    (Instr.loadmap 0 256 1 0 0 (List.replicate 64 2)).wellFormed = false ∧ (Instr.loadmap 0 1 4 0 0 (List.replicate 64 2)).wellFormed = false ∧
    (Instr.loadmap 0 1 1 256 0 (List.replicate 64 2)).wellFormed = false ∧ (Instr.loadmap 0 1 1 0 4 (List.replicate 64 2)).wellFormed = false ∧
    (Instr.loadmap 0 1 1 0 0 []).wellFormed = false ∧ (Instr.loadmap 0 1 1 0 0 (List.replicate 64 16)).wellFormed = false ∧
    (Instr.loadreq 0 4).wellFormed = false := by decide
theorem test_wf_thermal : (Instr.thermal 0 3 2 0 0x43).wellFormed = true ∧ (Instr.thermal 0 4 0 0 0x43).wellFormed = false ∧
    (Instr.thermal 0 0 3 0 0x48).wellFormed = false ∧ (Instr.thermal 0 0 0 0 4).wellFormed = false ∧ (Instr.thermalSample []).wellFormed = false := by
  decide
theorem test_wf_spi : (Instr.spiWrite 4 []).wellFormed = false ∧ (Instr.spiRead 0 0).wellFormed = false ∧ (Instr.spiRead 1 1).wellFormed = true := by
  decide
theorem test_wf_header : (Instr.messageForward 0 { msg (.recordAck 0) with hops := 256 }).wellFormed = false ∧
    (Instr.messageForward 0 { msg (.recordAck 0) with dst := 2 ^ 25 }).wellFormed = false ∧
    (Instr.ack 0 { msg (.ack 0) with src := 2 ^ 25 }).wellFormed = false ∧ (Instr.ack 0 { msg (.ack 0) with rid := 2 ^ 16 }).wellFormed = false := by
  decide
/-- Each fabric message command takes its own type only. -/
theorem test_wf_types :
    ((fabLinks.all fun i => [Instr.beacon i, .route i, .hmAnnounce i, .addrReq i, .addrGrant i, .record i, .recordPull i, .manifestMessage i,
      .completionMessage i, .dataMessage i, .resend i, .nonce i, .unreach i, .ack i].all fun c => !(c (msg (.recordAck 0))).wellFormed) = true) ∧
    (Instr.recordAck 0 (msg (.ack 0))).wellFormed = false ∧ (Instr.recordAck 0 (msg (.recordAck 0))).wellFormed = true := by decide
theorem test_wf_boot : (Instr.resetnRise { okRun with spares := [] }).wellFormed = false ∧
    (Instr.railGood .core { okRun with spares := List.replicate 49 10 }).wellFormed = false ∧
    (Instr.refclkAppear { okRun with spares := [] }).wellFormed = false ∧ (Instr.fullReset 0 okRun).wellFormed = false ∧
    (Instr.fullReset 8 okRun).wellFormed = false ∧ (Instr.fullReset 7 { okRun with spares := [] }).wellFormed = false ∧
    (Instr.fullReset 7 okRun).wellFormed = true := by decide
theorem test_wf_estimates : (Instr.estimationWindowEnd 0 unit).wellFormed = true ∧
    (Instr.estimationWindowEnd 0 { unit with offset := [] }).wellFormed = false ∧
    (Instr.estimationWindowEnd 0 { unit with gain := [] }).wellFormed = false ∧
    (Instr.estimationWindowEnd 0 { unit with skew := [] }).wellFormed = false := by decide
theorem test_wf_route_level : (Instr.routeExpiry 4 0).wellFormed = false := by decide


/-! ### Bytes on the wire -/

/-- The bytes of R251 and Tables 4-2 and 5-4, written out by hand: multi-byte fields least significant byte first. -/
theorem test_wire_control :
    ({ cls := 2, typ := 2, seq := 0x0102, body := .propose 0x88 0x5A } : CtlMsg).bytes = [2, 2, 0x02, 0x01, 0x88, 0x5A] ∧
    ({ cls := 2, typ := 1, seq := 0, body := .cap
        { part := 0x3208, rev := 1, version := 1, capable := 0xFF, live := 0, portMap := 3, identity := 0x0102030405060708 } } : CtlMsg).bytes =
      [2, 1, 0, 0, 0x08, 0x32, 1, 1, 0xFF, 0, 3, 8, 7, 6, 5, 4, 3, 2, 1] ∧
    delivered 5 [3, 2, 9, 0, 4, 0x7F] = some (.dpdApplied 4 0x7F) ∧ delivered 5 [2, 6, 0, 0, 0x0C, 9] = some (.exitMessage 5 0x0C 9) ∧
    delivered 5 [2, 6, 0, 0, 0x0C] = none ∧ delivered 5 [9, 6, 0, 0, 0x0C, 9] = none := by decide +kernel
/-- R282, R283: command byte, address most significant byte first, data words least significant byte first, a partial word dropped; a read has
16 dummy clocks. -/
theorem test_wire_spi :
    spiCommand [0x02, 0x01, 0x23, 0x44, 0xDD, 0xCC, 0xBB, 0xAA, 0x99] = some (.spiWrite 0x012344 [0xAABBCCDD]) ∧
    spiCommand [0x0B, 0, 0, 4, 0, 0, 0, 0, 0, 0, 0, 0, 0, 0] = some (.spiRead 4 2) ∧ spiCommand [0x0A, 0, 0, 4, 1, 2, 3, 4] = none ∧
    spiReply [0xAABBCCDD] = [0xDD, 0xCC, 0xBB, 0xAA] := by decide +kernel
/-- The first bytes of SHAKE256 of the empty string, as FIPS 202 publishes them. -/
theorem test_shake : shake256 [] 4 = [0x46, 0xB9, 0xDD, 0x2B] := by decide +kernel


/-! ### Witnesses: the machine and line receive -/

/-- A queue with a command in front; its step is that command with the rest. -/
theorem wit_step : (({ State.reset with pending := [.loopInterval, .vgood] } : State).pending = .loopInterval :: [.vgood]) ∧
    State.reset.pending = [] ∧ (st [] fun d => d.modSup fun q => { q with aonGood := true }).dev.sup.aonGood = true ∧
    (st [] fun d => d.modSup fun q => { q with aonGood := false }).dev.sup.aonGood = false := by decide
theorem wit_set : (F.LRX_STATUS_ACQ_STEP 3).lo ≤ (F.LRX_STATUS_ACQ_STEP 3).hi ∧ (F.LRX_STATUS_ACQ_STEP 3).hi < 32 ∧
    (F.LRX_STATUS_ACQ_STEP 3).addr ≠ (F.LRX_STATE_RX_STATE 3).addr ∧ (F.LRX_STATUS_LOS 3).hi < (F.LRX_STATUS_ACQ_STEP 3).lo ∧
    ((F.LRX_STATUS_LOS 3).hi = (F.LRX_STATUS_LOS 3).lo) := by decide
theorem wit_raise : (st [(F.PWR_INT_STATUS_OP_DONE, 1)]).dev.get F.PWR_INT_STATUS_OP_DONE = 1 ∧ F.PWR_INT_STATUS_OP_DONE.hi = F.PWR_INT_STATUS_OP_DONE.lo ∧
    (State.reset.dev.raise F.PWR_INT_STATUS_OP_DONE 0).get F.PWR_INT_STATUS_OP_DONE = 1 := by decide +kernel
theorem wit_canonical : Canonical State.reset.dev := by constructor <;> decide
theorem wit_canonical_step : ∃ t, step State.reset = .next t := ⟨_, rfl⟩

def acq (k : Nat) (l : List (Fld × Nat) := []) (f : Device → Device := id) : State := st ((F.LRX_STATUS_LOS 3, 0) :: (F.LRX_STATUS_ACQ_STEP 3, k) :: l) f

theorem wit_locks :
    (3 ≤ (acq 3).dev.get (F.LRX_STATUS_ACQ_STEP 3) ∧ (acq 6).dev.get (F.LRX_STATUS_ACQ_STEP 3) ≤ 6 ∧ (acq 3).dev.get (F.LRX_STATUS_LOS 3) = 0 ∧
      (-300000 : Int).natAbs ≤ 300000 ∧ (after (.frequencyLock 3 ⟨-300000, 1999⟩) (acq 3)).get (F.LRX_STATUS_FREQ_LOCK 3) = 1 ∧
      (after (.frequencyLock 3 ⟨300000, -1999⟩) (acq 6)).sget (F.LRX_CDR_FREQ 3) = 300000) ∧
    (does (.frequencyLock 3 ⟨300001, 0⟩) (acq 3) (acq 3).dev = true ∧ does (.frequencyLock 3 ⟨0, -2000⟩) (acq 6) (acq 6).dev = true) ∧
    (does (.phaseLock ⟨3, -128⟩) (acq 6) (((acq 6).dev.set (F.LRX_STATUS_PHASE_LOCK 3) 1).set (F.LRX_STATUS_ACQ_STEP 3) 7) = true ∧
      does (.phaseLock ⟨3, 129⟩) (acq 6) (acq 6).dev = true) ∧
    ((acq 6 [(F.LRX_TIA_AUTO 3, 1)]).dev.get (F.LRX_TIA_AUTO 3) = 1) ∧
    ((acq 8 [(F.LRX_TIA_AUTO 3, 0)]).dev.get (F.LRX_TIA_AUTO 3) = 0) ∧
    ((after (.gainSetWrite 3 5) (acq 8 [(F.LRX_TIA_AUTO 3, 0)])).rx.get 3).gainSet = some 5 := by decide +kernel

def trk (l : List (Fld × Nat) := []) (f : Device → Device := id) : State := acq 8 l f
theorem wit_R63 : (((trk [(F.LRX_CTRL_ADAPT_HOLD 3, 1)]).dev.rx.get 3).coefWrites = [] ∧
      (trk [(F.LRX_CTRL_ADAPT_HOLD 3, 1)]).dev.tracking 3 = true ∧ (trk [(F.LRX_CTRL_ADAPT_HOLD 3, 1)]).dev.get (F.LRX_CTRL_ADAPT_HOLD 3) = 1) ∧
    ((acq 7).dev.tracking 3 = false) ∧
    ((trk [(F.LRX_CTRL_ADAPT_HOLD 3, 0), (F.LRX_ADAPT_FFE_MU_TRK 3, 14), (F.LRX_FFE_CFG_TAPS24 3, 0)]).dev.tracking 3 = true ∧
      (trk [(F.LRX_ADAPT_FFE_MU_TRK 3, 14)]).dev.get (F.LRX_CTRL_ADAPT_HOLD 3) = 0 ∧
      (trk [(F.LRX_ADAPT_FFE_MU_TRK 3, 14)]).dev.get (F.LRX_ADAPT_FFE_MU_TRK 3) = 14 ∧
      (trk [(F.LRX_ADAPT_FFE_MU_TRK 3, 14)]).dev.get (F.LRX_FFE_CFG_TAPS24 3) = 0 ∧
      (39 : Nat) ≠ (trk [(F.LRX_ADAPT_FFE_MU_TRK 3, 14)]).dev.lget (F.LRX_FFE_CFG_CURSOR 3) ∧
      (((after (.adaptUpdate 3 { grads with ffe := List.replicate 40 7 }) (trk [(F.LRX_ADAPT_FFE_MU_TRK 3, 14)])).rx.get 3).coef.ffe.getD 39 0 = -7)) := by
  decide +kernel

theorem wit_acquisition :
    ((acq 2).dev.get (F.LRX_STATUS_ACQ_STEP 3) = 2 ∧ (acq 7).dev.get (F.LRX_STATUS_LOS 3) = 0 ∧
      (after (.acquisitionTimeout 3) (acq 2)).get (F.LRX_STATUS_ACQ_STEP 3) = 3 ∧
      (after (.acquisitionTimeout 3) (acq 7)).get (F.LRX_LOCK_EVENTS_ACQ_RETRY 3) = 1 ∧
      ((after (.acquisitionTimeout 3) (acq 7)).rx.get 3).attempts = 1) ∧
    ((after (.reacq 3) (trk)).get (F.LRX_STATUS_ACQ_STEP 3) = 3 ∧ ((after (.reacq 3) trk).rx.get 3).coef = Coefs.reset ∧
      (after (.reacq 3) trk).get (F.LRX_LOCK_EVENTS_ACQ_RETRY 3) = 0 ∧ ((after (.reacq 3) trk).rx.get 3).attempts = 0) ∧
    ((acq 7).dev.mft.commits = [] ∧ (acq 7).dev.rate 3 = 1 ∧ (acq 7).dev.blockTxRun 3 = true ∧
      (after (.innerLock 3 [] 0) (acq 7)).tracking 3 = true ∧ ((after (.innerLock 3 [] 0) (acq 7)).rx.get 3).cwCount = 0 ∧
      (after (.innerLock 3 [] 0) (acq 7)).get (F.LRX_STATUS_INNER_LOCK 3) = 1 ∧ ((after (.innerLock 3 [] 0) (acq 7)).rx.get 3).attempts = 0) := by
  decide +kernel
/-- trial counts with one hit -/
def missed (o hit : Nat) : List Nat := List.replicate o (hit - 1)
def inner7 : State := acq 7 [(F.LRX_CTRL_RATE 3, 2)] fun d => { d with live := d.regs }
theorem wit_inner_trials :
    (inner7.dev.rate 3 = 2 ∧ inner7.dev.get (F.LRX_STATUS_ACQ_STEP 3) = 7 ∧ inner7.dev.blockTxRun 3 = true ∧
      (missed 63 128).all (fun z => decide (z < 128)) = true ∧ (missed 63 128 ++ [128]).getD 63 0 = 128 ∧
      ((after (.innerLock 3 (missed 63 128) 128) inner7).rx.get 3).innerOffset = 63 ∧
      (after (.innerLock 3 (missed 63 128) 128) inner7).get (F.LRX_STATUS_INNER_LOCK 3) = 1 ∧
      (after (.innerLock 3 (missed 63 128) 128) inner7).get (F.LRX_STATUS_ACQ_STEP 3) = 7 ∧
      ((after (.innerLock 3 [128] 256) inner7).rx.get 3).innerOffset = 0) ∧
    does (.innerLock 3 (List.replicate 63 127) 127) inner7 inner7.dev = true := by decide +kernel


def halfOk (s : State) : Bool :=
  decide (s.dev.mft.waiting = [] ∧ s.dev.laneHold = false ∧ s.dev.get F.PWR_STATUS_STATE ≤ 1 ∧ s.dev.get F.PWR_STATUS_TRANS ≠ 1 ∧ s.dev.sup.reload = 0)
def active : List (Fld × Nat) := [(F.PWR_STATUS_STATE, 0), (F.PWR_STATUS_TRANS, 7)]
def go (d : Device) : Device := { d with laneHold := false }
def rxs (st0 tr pd : Nat) : State :=
  st (active ++ [(F.LRX_STATE_RX_STATE 3, st0), (F.LRX_STATE_RX_TRANS 3, tr), (F.LRX_STATE_RX_PENDING 3, pd)]) go
theorem wit_rx_requests :
    (halfOk (rxs 0 1 2) = true ∧ (rxs 0 1 2).dev.get (F.LRX_STATE_RX_TRANS 3) ≠ 7 ∧
      (4#3).toNat ≠ (rxs 0 1 2).dev.get (F.LRX_STATE_RX_STATE_REQ 3) ∧
      does (.rxStateRequest 3 4) (rxs 0 1 2) ((((rxs 0 1 2).dev.set (F.LRX_STATE_RX_STATE_REQ 3) 4).set (F.LRX_STATUS_ACQ_STEP 3) 0).set
        (F.LRX_STATE_RX_PENDING 3) 4) = true ∧
      does (.rxStateRequest 3 1) (rxs 0 1 2) ((((rxs 0 1 2).dev.set (F.LRX_STATE_RX_STATE_REQ 3) 1).set (F.LRX_STATUS_ACQ_STEP 3) 0).set
        (F.LRX_STATE_RX_PENDING 3) 7) = true) ∧
    (halfOk (rxs 0 7 7) = true ∧ (rxs 0 7 7).dev.get (F.LRX_STATE_RX_STATE_REQ 3) ≠ 2 ∧
      does (.rxStateRequest 3 2) (rxs 0 7 7) (((((rxs 0 7 7).dev.set (F.LRX_STATE_RX_STATE_REQ 3) 2).set (F.LRX_STATUS_ACQ_STEP 3) 0).set
        (F.LRX_STATE_RX_TRANS 3) 1).set (F.LRX_STATE_RX_PENDING 3) 2) = true) ∧
    (does (.rxStateRequest 3 5) (rxs 0 7 7) (rxs 0 7 7).dev = true ∧ does (.rxStateRequest 3 0) (rxs 0 7 7) (rxs 0 7 7).dev = true) ∧
    ((after (.rxTransitionDone 3) (rxs 0 1 2)).get (F.LRX_STATE_RX_STATE 3) = 1 ∧
      (after (.rxTransitionDone 3) (rxs 0 1 2)).get (F.LRX_STATE_RX_TRANS 3) = 2 ∧
      (after (.rxTransitionDone 3) (rxs 0 1 2)).get (F.LRX_STATE_RX_PENDING 3) = 7) ∧
    (halfOk (rxs 0 1 7) = true ∧ (after (.rxTransitionDone 3) (rxs 0 1 7)).get (F.LRX_STATE_RX_STATE 3) = 1 ∧
      (after (.rxTransitionDone 3) (rxs 0 1 7)).get (F.LRX_STATE_RX_TRANS 3) = 7) := by decide +kernel

def clipped : WindowCount := { clips 100000 with blocks := [] }
def soft7 : List Int := List.replicate 128 7
def fast : State := trk [(F.LRX_CDR_FREQ 3, 300001)]
def nat3 : List (Fld × Nat) := [(F.LRX_STATUS_LOS 3, 0), (F.LRX_CTRL_RATE 3, 2)]
/-- lane 3 under its RATE and its live copy -/
def live (d : Device) : Device := { d with live := d.regs }
theorem wit_tracking :
    (trk.dev.get (F.LRX_TIA_AUTO 3) = 1 ∧ (trk.dev.rx.get 3).stepInWindow = false ∧ clipLimit (trk.dev.rate 3) < 100000 ∧
      ((after (.overrangeWindowEnd 3 clipped) trk).rx.get 3).step = some false ∧
      (after (.overrangeWindowEnd 3 clipped) trk).get (F.LRX_STATUS_GAIN_CUR 3) = trk.dev.get (F.LRX_STATUS_GAIN_CUR 3)) ∧
    (fast.dev.tracking 3 = true ∧ fast.dev.lossHolds 3 .cdr = true ∧ (fast.dev.rx.get 3).gainSet = none ∧
      (after (.lockLoss 3 .cdr (-5)) fast).get (F.LRX_STATUS_ACQ_STEP 3) = 3 ∧
      (after (.lockLoss 3 .cdr (-5)) fast).sget (F.LRX_CDR_FREQ 3) = -5 ∧ (after (.lockLoss 3 .cdr (-5)) fast).get (F.LRX_LOCK_EVENTS_LOCK_LOSS 3) = 1) ∧
    ((acq 8 [(F.LRX_STATUS_INNER_LOCK 3, 1)]).dev.get F.PMU_STATUS_FROZEN = 0 ∧ (acq 8 [(F.LRX_STATUS_INNER_LOCK 3, 1)]).dev.rate 3 ≠ 0 ∧
      (acq 8 [(F.LRX_STATUS_INNER_LOCK 3, 1)]).dev.get (F.LRX_STATUS_INNER_LOCK 3) = 1) := by decide +kernel
theorem chase_clean (soft : List Int) (rest : List (Option (List Nat))) : chase soft (some [] :: rest) = some [] := by
  unfold chase
  rw [List.foldl_cons]
  induction rest with
  | nil => rfl
  | cons c l ih =>
    rw [List.foldl_cons]
    cases c with
    | none => exact ih
    | some x => simpa [flipCost] using ih
/-- A message of zeros with its parity bits. -/
def cleanWord : BitVec 128 := Config.innerParity 0 ++ (0 : BitVec 120)
/-- A word whose parity bits are those of its message decodes to itself, whatever the soft values. -/
theorem wit_inner_clean : innerResult cleanWord soft7 = some [] := by
  have h0 : cleanWord.extractLsb' 0 120 = 0 := by
    exact BitVec.extractLsb'_append_eq_right
  have h1 : cleanWord.extractLsb' 120 8 = Config.innerParity 0 := by
    exact BitVec.extractLsb'_append_eq_left
  have hs : innerSyndrome cleanWord = 0 := by rw [innerSyndrome, h0, h1]; simp
  have hd : innerDecode cleanWord = some [] := by rw [innerDecode]; simp only [hs, if_true]
  have hc : innerCands cleanWord soft7 =
      ((innerDecode cleanWord).map fun more => flipBoth [] more) :: (innerCands cleanWord soft7).tail := by
    rw [innerCands]; rfl
  rw [innerResult, hc, hd]
  exact chase_clean _ _
def hunt : State := acq 9 (nat3 ++ [(F.LRX_BW_STATUS_PARITY_HUNT 3, 1), (F.LRX_BW_STATUS_PHASE 3, 32), (F.LRX_BW_STATUS_FRAME_LOCK 3, 1)])
  fun d => live { d with bw := d.bw.set 3 { d.bw.get 3 with goodRun := 4 } }
theorem wit_native_lock :
    (hunt.dev.rate 3 = 2 ∧ 4 ≤ (hunt.dev.bw.get 3).goodRun ∧ hunt.dev.get (F.LRX_BW_STATUS_PHASE 3) = 32 ∧ hunt.dev.get F.BWK_NEG_STATUS_STATE ≠ 3 ∧
      hunt.dev.mft.waiting = [] ∧ (after (.parityLock 3 32) hunt).get (F.LRX_BW_STATUS_PARITY_LOCK 3) = 1 ∧
      (after (.parityLock 3 32) hunt).get (F.LRX_STATUS_ACQ_STEP 3) = 0xA ∧ ((after (.parityLock 3 32) hunt).tx.get 3).measuring = true) ∧
    ((acq 8 (nat3 ++ [(F.LRX_STATUS_INNER_LOCK 3, 1)]) live).dev.rate 3 = 2 ∧
      (acq 8 (nat3 ++ [(F.LRX_STATUS_INNER_LOCK 3, 1)]) live).dev.get (F.LRX_BW_STATUS_FRAME_LOCK 3) = 0 ∧
      (after (.frameLock 3 (missed 271 8) 8) (acq 8 (nat3 ++ [(F.LRX_STATUS_INNER_LOCK 3, 1)]) live)).get (F.LRX_BW_STATUS_FRAME_LOCK 3) = 1 ∧
      (after (.frameLock 3 (missed 271 8) 8) (acq 8 (nat3 ++ [(F.LRX_STATUS_INNER_LOCK 3, 1)]) live)).get (F.LRX_BW_STATUS_PARITY_HUNT 3) = 1 ∧
      ((after (.frameLock 3 (missed 271 8) 8) (acq 8 (nat3 ++ [(F.LRX_STATUS_INNER_LOCK 3, 1)]) live)).rx.get 3).frameStart = 271 ∧
      does (.frameLock 3 (List.replicate 271 7) 7) (acq 8 (nat3 ++ [(F.LRX_STATUS_INNER_LOCK 3, 1)]) live)
        (acq 8 (nat3 ++ [(F.LRX_STATUS_INNER_LOCK 3, 1)]) live).dev = true) := by decide +kernel


/-! ### Witnesses: correction pool and Breakwater -/

def item : WorkItem :=
  { lane := 3, tag := 9, time := 100, syndromes := List.replicate 30 1, short := [0, 1, 2, 3, 4, 5, 6, 7], requeued := false }
def term : List (Fld × Nat) := [(F.LRX_SYN_CTRL_TERM 3, 1)]
def second : Device → Device := fun d => d.modRx 3 fun r => { r with cwCount := 5 }
def pooled (f : Device → Device := id) : State := trk term fun d => f (live d)
theorem wit_arrival :
    (pooled.dev.get (F.LRX_STATUS_ACQ_STEP 3) = 8 ∧ pooled.dev.rate 3 = 1 ∧ pooled.dev.poolUse 3 = true ∧ cwIn.zero = true ∧
      (((after (.codewordArrival 3 0 { cwIn with time := 7 }) (pooled second)).pool.flights.get 3).map fun f => (f.time, f.deadline, f.k.val, f.outcome)) =
        [(7, 7 + pooled.dev.window, 1, some .clean)]) ∧
    (streamOf 3 ((pooled second).dev.streamIndex 3 0) = streamOf 3 1 ∧ cwErr.zero = false ∧
      4 ≤ ((pooled fun d => (second d).setBerth (streamOf 3 1) (List.replicate 4 item)).dev.berth (streamOf 3 1)).length ∧
      (pooled fun d => (second d).setBerth (streamOf 3 1) (List.replicate 4 item)).dev.pool.flights.get 3 = [] ∧
      (((after (.codewordArrival 3 1 cwErr) (pooled fun d => (second d).setBerth (streamOf 3 1) (List.replicate 4 item))).pool.flights.get 3).map
        fun f => f.outcome) = [some .miss]) := by decide +kernel

def flight : Flight :=
  { tag := 9, time := 100, deadline := 2000, k := 0, bits := 5, place := none, permitted := 1, outcome := none, record := []
    poisoned := false, lost := false, through := false, busy := [] }
def passing (num : Nat) : State :=
  pooled fun d => (d.modEng 40 fun g => { g with job := .pass item 6 true num }).modPool fun p => { p with flights := p.flights.set 3 [flight] }
theorem wit_R100 :
    (((passing 1).dev.pool.engines.get 40).job = .pass item 6 true 1 ∧ (passing 1).dev.flight? 3 9 = some flight ∧
      ((passing 1).dev.pool.engines.get 40).chosen = false) ∧
    (((after (.passEnd 40 { degree := 15, roots := (List.range 14) ++ [543], values := [] }) (passing 1)).pool.engines.get 40).job ≠
        .pass item 6 true 1 ∧
      (match ((after (.passEnd 40 { degree := 15, roots := (List.range 14) ++ [543], values := [] }) (passing 1)).pool.engines.get 40).job with
        | .waiting .. => true | _ => false) = true) ∧
    ((after (.passEnd 40 { degree := 16, roots := List.range 16, values := [] }) (passing 1)).pool.engines.get 40).job = .idle ∧
    ((after (.passEnd 40 { degree := 2, roots := [3, 3], values := [] }) (passing 1)).pool.engines.get 40).job = .idle ∧
    ((after (.passEnd 40 { degree := 2, roots := [3], values := [] }) (passing 1)).pool.engines.get 40).job = .idle ∧
    ((after (.passEnd 40 { degree := 1, roots := [544], values := [] }) (passing 1)).pool.engines.get 40).job = .idle := by decide +kernel

def queued : State := pooled fun d => ((d.modPool fun p => { p with enabled := true }).setBerth 6 [item]).setBerth 9 [{ item with time := 50 }]
def waits : State := pooled fun d =>
  (d.modEng 24 fun g => { g with job := .waiting item 6 false 1 [(3, 1)] }).modPool fun p => { p with flights := p.flights.set 3 [flight] }
theorem wit_engines :
    (queued.dev.idleEngine 24 = true ∧ queued.dev.oldestHead [2 * (24 / 8), 2 * (24 / 8) + 1] = some (6, item) ∧
      ((after (.engineIdle 24) queued).pool.engines.get 24).job = .pass item 6 false 1 ∧ (after (.engineIdle 24) queued).berth 6 = [] ∧
      (after (.engineIdle 24) queued).get (F.ENG_CW 24) = 1) ∧
    ((List.range 16).all (fun b => (pooled.dev.berth b).isEmpty) = true ∧ does (.engineIdle 0) pooled pooled.dev = true) ∧
    ((waits.dev.pool.engines.get 24).job = .waiting item 6 false 1 [(3, 1)] ∧ waits.dev.recordsHeld 3 < 32 ∧ waits.dev.flight? 3 9 = some flight ∧
      waits.dev.errs = [] ∧ waits.dev.poisoned = [] ∧
      ((after (.correctionRecordTaken 24) waits).flight? 3 9).map (fun g => (g.outcome, g.record)) = some (some (.corr 1), [(3, 1)])) := by
  decide +kernel

def clean : Flight := { flight with outcome := some .clean, through := true }
def releasing : State := pooled fun d => d.modPool fun p => { p with flights := p.flights.set 3 [clean, flight] }
def dlv (b : Cw) (k : Nat := 0) : Delivered := { bits := b, how := .asReceived, k := k, place := none }
def grp : ReadyGroup := { a := [dlv 1, dlv 3], b := [dlv 2 1, dlv 4 1], base := 0 }
def grouped : State := st [(F.LRX_BW_STATUS_FRAME_LOCK 3, 1), (F.LRX_BW_STATUS_PHASE 3, 7), (F.LRX_BW_STATUS_PARITY_LOCK 3, 1)] fun d =>
  { d with bw := d.bw.set 3 { d.bw.get 3 with ready := [grp] } }
theorem wit_releases :
    (releasing.dev.errs = [] ∧ releasing.dev.poisoned = [] ∧ releasing.dev.get F.SYS_SAFE_SAFE = 0 ∧
      releasing.dev.pool.flights.get 3 = [clean, flight] ∧ releasing.dev.rate 3 = 1 ∧ clean.record = [] ∧ clean.lost = false ∧
      (after (.codewordRelease 3) releasing).pool.flights.get 3 = [flight] ∧
      (after (.codewordRelease 3) releasing).out.toList.getD 6 [] = [dlv 5]) ∧
    ((grouped.dev.bw.get 3).ready = [grp] ∧ grouped.dev.get F.SYS_SAFE_SAFE = 0 ∧ grouped.dev.errs = [] ∧
      (after (.groupRelease 3) grouped).out.toList.getD 6 [] = [dlv 1, dlv 3] ∧
      (after (.groupRelease 3) grouped).out.toList.getD 7 [] = [dlv 2 1, dlv 4 1] ∧ (grouped.dev.rx.get 3).draining = false) ∧
    (grouped.dev.rehunting 3 = false ∧ (after (.rehunt 3) grouped).get (F.LRX_BW_CTRL_REHUNT 3) = 1 ∧
      (after (.rehunt 3) grouped).rehunting 3 = true ∧
      does (.rehunt 3) { grouped with dev := after (.rehunt 3) grouped } (after (.rehunt 3) grouped) = true) ∧
    (grouped.dev.get (F.LRX_BW_STATUS_FRAME_LOCK 3) = 1 ∧ (after (.rehunt 3) grouped).get (F.LRX_BW_STATUS_PARITY_LOCK 3) = 0 ∧
      (after (.rehunt 3) grouped).get (F.LRX_BW_STATUS_PARITY_HUNT 3) = 1 ∧ (after (.rehunt 3) grouped).get (F.LRX_BW_STATUS_PHASE 3) = 0) := by
  decide +kernel

def supplied (l : List (Fld × Nat)) (m : Nat := 0) : State := st l fun d => d.modPool fun p => { p with enabled := true, misses := m, admits := 10 }
def loopOn : State :=
  let s := supplied [(F.POOL_CTRL_LOOP_EN, 1), (F.POOL_STATUS_VGOOD, 1), (F.POOL_STATUS_VDD_CODE, 10)] 10
  { s with dev := s.dev.modPool fun p => { p with railLow := 10, railHigh := 10 } }
theorem wit_supply :
    ((supplied [(F.POOL_CTRL_LOOP_EN, 0)]).dev.pool.enabled = true ∧ (supplied [(F.POOL_CTRL_LOOP_EN, 0)]).dev.pool.coefs = none ∧ (supplied [(F.POOL_CTRL_LOOP_EN, 0)]).dev.get F.POOL_CTRL_LOOP_EN = 0 ∧
      (after (.tideGaugeWindow 65535) (supplied [(F.POOL_CTRL_LOOP_EN, 0)])).get F.POOL_TIDE = 65535 ∧
      (after (.tideGaugeWindow 65535) (supplied [(F.POOL_CTRL_LOOP_EN, 0)])).get F.POOL_TIDE_PRED_TP_EO = 0xFFFF) ∧
    (loopOn.dev.get F.POOL_CTRL_LOOP_EN = 1 ∧ loopOn.dev.get F.POOL_STATUS_VGOOD = 1 ∧ loopOn.dev.get F.POOL_STATUS_VDD_CODE < loopOn.dev.vddUpper ∧
      loopOn.dev.get F.POOL_LOOP_CFG_MISS_TGT * loopOn.dev.pool.admits < loopOn.dev.pool.misses * 2 ^ 20 ∧
      (after .loopInterval loopOn).get F.POOL_STATUS_VDD_CODE = 11 ∧ (after .loopInterval loopOn).pool.misses = 0) ∧
    ((after .vgood loopOn).get F.POOL_STATUS_VGOOD = 1) ∧
    (loopOn.dev.get F.POOL_STATUS_ENF = 0 ∧ bitsOf (0x0A0A : Word) 5 0 ≤ loopOn.dev.get F.POOL_STATUS_VDD_CODE ∧
      loopOn.dev.get F.POOL_STATUS_VDD_CODE ≤ min 40 (bitsOf (0x0A0A : Word) 13 8) ∧
      (after (.poolSupplyCfgWrite 0x0A0A) loopOn).get F.POOL_SUPPLY_CFG_VMAX = 10 ∧
      (after (.poolSupplyCfgWrite 0x0A0A) loopOn).get F.POOL_STATUS_VDD_CODE = 10) ∧
    ((after (.loopEnWrite true 127) (supplied [(F.POOL_CTRL_LOOP_EN, 0)])).get F.POOL_CTRL_LOOP_EN = 1 ∧
      (after (.loopEnWrite true 127) (supplied [(F.POOL_CTRL_LOOP_EN, 0)])).get F.POOL_SUPPLY_CFG_LOOP_INT = 127) := by decide +kernel


def cap (pm : BitVec 8) : CapBody := { part := 0x3208, rev := 0, version := 1, capable := 0xFF, live := 0, portMap := pm, identity := 77 }
def negs (state : Nat) (l : List (Fld × Nat) := []) (f : Neg → Neg := id) : State :=
  st ([(F.BWK_NEG_STATUS_STATE, state), (F.LRX_STATE_RX_STATE 3, 2), (F.LTX_STATUS_STATE 3, 2)] ++ l) fun d =>
    (live d).modNeg fun g => f { g with farCap := g.farCap.set 3 (some (cap ((d.reg F.BWK_PORT_MAP.addr).setWidth 8))) }
def pm0 : BitVec 8 := (negs 0).dev.ownCap.portMap
theorem wit_exchange :
    ((negs 5 [(F.BWK_NEG_CTRL_LANE_MASK, 0x88)]).dev.negRuns = false ∧ (negs 5 [(F.BWK_NEG_CTRL_LANE_MASK, 0x88)]).dev.get F.BWK_NEG_CTRL_LANE_MASK ≠ 0 ∧
      (after .negStart (negs 5 [(F.BWK_NEG_CTRL_LANE_MASK, 0x88)])).get F.BWK_NEG_STATUS_STATE = 1 ∧
      (after .negStart (negs 5 [(F.BWK_NEG_CTRL_LANE_MASK, 0x88)])).neg.mask = 0x88 ∧
      ((after .negStart (negs 5 [(F.BWK_NEG_CTRL_LANE_MASK, 0x88)])).neg.awaiting.map fun a => (a.1, a.2.1)) = [(3, 1), (7, 1)]) ∧
    ((negs 1).dev.negRuns = true ∧ (negs 3).dev.negRuns = true ∧ does .negStart (negs 3) (negs 3).dev = true) ∧
    (maskHas (negs 0).dev.neg.capSent 3 = false ∧ ((negs 0).dev.plt.get 3).ctl = [] ∧
      (((after (.capMessage 3 (cap 9)) (negs 0)).plt.get 3).ctl.map fun c => (c.cls, c.typ)) = [(2, 1)] ∧
      (after (.capMessage 3 (cap 9)) (negs 0)).reg F.BWK_FAR_ID.addr = 77) ∧
    ((negs 0).dev.negCheck 8 (fun _ => pm0) = 0 ∧ (after (.proposeMessage 3 8 pm0) (negs 0)).get F.BWK_NEG_STATUS_STATE = 2 ∧
      (after (.proposeMessage 3 8 pm0) (negs 0)).neg.awaiting = [(3, 3, .accept 8 pm0)]) ∧
    ((negs 1).dev.negCheck 8 (fun _ => ~~~ pm0) = 3 ∧ (after (.proposeMessage 3 8 (~~~ pm0)) (negs 1)).get F.BWK_NEG_STATUS_STATE = 5 ∧
      (after (.proposeMessage 3 8 (~~~ pm0)) (negs 1)).get F.BWK_NEG_STATUS_REASON = 3 ∧
      (after (.proposeMessage 3 8 (~~~ pm0)) (negs 1)).get F.BWK_INT_STATUS_REFUSED = 1) := by decide +kernel
def proposer (state : Nat) (mask : BitVec 8 := 8) (l : List (Fld × Nat) := []) : State := negs state l fun g => { g with proposer := true, mask := mask }
theorem wit_crossing :
    ((proposer 2).dev.get F.BWK_NEG_STATUS_STATE = 2 ∧ (proposer 2).dev.neg.proposer = true ∧ ((proposer 2).dev.neg.farCap.get 3).isSome = true ∧
      (proposer 2).dev.negCheck 8 (fun _ => pm0) = 0) ∧
    (after (.acceptMessage 3 8 pm0) (proposer 2)).neg.awaiting = [(3, 5, .commit 8)] := by decide +kernel

def answers (state : Nat) (l : List (Fld × Nat) := []) : State := negs state l fun g => { g with mask := 8, awaiting := [(3, 3, .accept 8 0)] }
theorem wit_negotiation_ends :
    ((answers 2).dev.neg.proposer = false ∧ (after (.commitMessage 3 8) (answers 2)).get F.BWK_NEG_STATUS_STATE = 3 ∧
      (after (.commitMessage 3 8) (answers 2)).get F.BWK_NEG_STATUS_AGREED_MASK = 8 ∧ (after (.commitMessage 3 8) (answers 2)).neg.awaiting = []) ∧
    ((answers 3).dev.get F.BWK_NEG_STATUS_STATE = 3 ∧ ((answers 3).dev.plt.get 3).ctl.length < 8 ∧
      does (.commitMessage 3 8) (answers 3) ((answers 3).dev.modPlt 3 fun p =>
        { p with ctl := p.ctl ++ [{ cls := 2, typ := 5, seq := 0, body := .commit 8 }] }) = true) ∧
    ((proposer 1).dev.negRuns = true ∧ (after (.refuseMessage 3 15) (proposer 1)).get F.BWK_NEG_STATUS_REASON = 15 ∧
      (after (.refuseMessage 3 15) (proposer 1)).get F.BWK_NEG_STATUS_STATE = 5 ∧ (after (.refuseMessage 3 15) (proposer 1)).get F.BWK_INT_STATUS_NEG_FAIL = 1) ∧
    ((answers 2).dev.neg.resends < (answers 2).dev.get F.BWK_NEG_TIMING_RETRIES ∧ (after .negResponseTimeout (answers 2)).neg.resends = 1 ∧
      (after .negResponseTimeout (answers 2)).get F.BWK_NEG_STATUS_STATE = 2 ∧ (after .negResponseTimeout (answers 2)).neg.awaiting = (answers 2).dev.neg.awaiting) ∧
    ((answers 2 [(F.BWK_NEG_TIMING_RETRIES, 0)]).dev.get F.BWK_NEG_TIMING_RETRIES ≤ (answers 2 [(F.BWK_NEG_TIMING_RETRIES, 0)]).dev.neg.resends ∧
      (after .negResponseTimeout (answers 2 [(F.BWK_NEG_TIMING_RETRIES, 0)])).get F.BWK_NEG_STATUS_REASON = 6) ∧
    ((after .liveTimeout (answers 3)).get F.BWK_NEG_STATUS_REASON = 7 ∧ (after .liveTimeout (answers 3)).get F.BWK_INT_STATUS_NEG_FAIL = 1) ∧
    ((0x0C : BitVec 8) &&& (answers 3).dev.neg.mask ≠ 0 ∧ (after (.exitMessage 3 0x0C 0) (answers 3)).get F.BWK_NEG_STATUS_REASON = 8) ∧
    ((0x0C : BitVec 8) &&& (answers 2).dev.nativeMask = 0 ∧ does (.exitMessage 3 0x0C 0) (answers 2) (answers 2).dev = true) := by decide +kernel

/-- lane 3 of the mask is native and in parity lock -/
def liveLane (state : Nat) (mask : BitVec 8) : State :=
  negs state [(F.LRX_CTRL_RATE 3, 2), (F.LRX_BW_STATUS_PARITY_LOCK 3, 1)] fun g => { g with mask := mask, awaiting := [(3, 3, .accept 8 0)] }
theorem wit_live_negotiation :
    ((liveLane 2 8).dev.neg.mask &&& ~~~ (liveLane 2 8).dev.liveMask = 0 ∧ (liveLane 2 8).dev.neg.proposer = false ∧
      (after (.commitMessage 3 8) (liveLane 2 8)).get F.BWK_NEG_STATUS_STATE = 4) ∧
    (does (.commitMessage 3 8) (liveLane 4 8) ((liveLane 4 8).dev.modPlt 3 fun p =>
        { p with ctl := p.ctl ++ [{ cls := 2, typ := 5, seq := 0, body := .commit 8 }] }) = true) ∧
    (does .liveTimeout (liveLane 3 8) (liveLane 3 8).dev = true) ∧
    ((liveLane 3 0x18).dev.neg.mask &&& ~~~ (liveLane 3 0x18).dev.liveMask ≠ 0 ∧ 0x10 &&& (liveLane 3 0x18).dev.nativeMask = 0 ∧
      0x10 &&& (liveLane 3 0x18).dev.neg.mask ≠ 0 ∧ (liveLane 3 0x18).dev.neg.mask &&& ~~~ 0x10 ≠ 0 ∧
      (after (.exitMessage 3 0x10 0) (liveLane 3 0x18)).neg.mask = 8 ∧
      (after (.exitMessage 3 0x10 0) (liveLane 3 0x18)).get F.BWK_NEG_STATUS_STATE = 4) := by decide +kernel
def natLane (l : List (Fld × Nat) := []) (f : Device → Device := id) : State := st ((F.LRX_CTRL_RATE 3, 2) :: l) fun d => f (live d)
theorem wit_R136 :
    (natLane.dev.native 3 = true ∧ (natLane [(F.POOL_CTRL_WINDOW, 2)]).dev.get F.POOL_CTRL_WINDOW = 2 ∧ natLane.dev.get F.MFT_COMMIT_GO = 0 ∧
      (after (.mftCommit 0x0800) (natLane [(F.POOL_CTRL_WINDOW, 2)])).get F.MFT_COMMIT_STATUS_STATUS = stStageReject ∧
      (after (.mftCommit 0x0800) (natLane [(F.POOL_CTRL_WINDOW, 2)])).get F.MFT_COMMIT_STATUS_FAIL_ADDR = F.POOL_CTRL.addr ∧
      (after (.mftCommit 0x0800) (natLane [(F.POOL_CTRL_WINDOW, 2)])).mft.commits = []) ∧
    ((negs 1 [(F.POOL_CTRL_WINDOW, 3)]).dev.get F.BWK_NEG_STATUS_STATE = 1 ∧ (negs 3).dev.get F.BWK_NEG_STATUS_STATE = 3 ∧
      (after (.mftCommit 0x0800) (negs 1 [(F.POOL_CTRL_WINDOW, 3)])).get F.MFT_COMMIT_STATUS_STATUS = stStageReject) := by decide +kernel

def hosts (l : List Nat) (acq : Nat) : List (Fld × Nat) :=
  l.flatMap fun k => [(F.HLN_CTRL_RX_EN k, 1), (F.HLN_STATUS_ACQ_STEP k, acq), (F.HLN_LP_LP_STATE k, 0), (F.HLN_LP_TRANS k, 3)]
def locked : List (Fld × Nat) := hosts [6, 12, 13] 8
def slot (k : Nat) (h1 : Option Cw) : State := natLane locked fun d =>
  { d with egr := d.egr.set 3 { d.egr.get 3 with slot := k, have1 := h1, acc0 := 3 } }
def nn1 : Device → Device := fun d => d.modNeg fun g => { g with notNative := g.notNative.set 3 1 }
theorem wit_native :
    ((natLane [(F.BWK_NEG_CTRL_EXIT_MASK, 0x0C)]).dev.nativeMask = 8 ∧
      (after .negExit (natLane [(F.BWK_NEG_CTRL_EXIT_MASK, 0x0C)])).get F.BWK_NEG_STATUS_REASON = 9 ∧
      (after .negExit (natLane [(F.BWK_NEG_CTRL_EXIT_MASK, 0x0C)])).get F.BWK_INT_STATUS_NATIVE_EXIT = 1) ∧
    (((List.finRange 8).all fun k => k == 3 || !(natLane.dev.native k)) = true ∧ natLane.dev.neg.notNative.get 3 = 0 ∧ maskHas 0xF7 3 = false ∧
      does (.stateMessage 3 0xF7 0) natLane (natLane.dev.modNeg fun g => { g with notNative := g.notNative.set 3 1 }) = true) ∧
    (((natLane [] nn1).dev.neg.notNative.get 3) = 1 ∧ (natLane [] nn1).dev.get F.BWK_NEG_STATUS_STATE ≠ 3 ∧
      (after (.stateMessage 3 0xF7 0) (natLane [] nn1)).get F.BWK_NEG_STATUS_REASON = 8 ∧
      (after (.stateMessage 3 0xF7 0) (natLane [] nn1)).get F.BWK_INT_STATUS_NATIVE_EXIT = 1) ∧
    (((after .stateTimer natLane).plt.get 3).ctl.map fun c => (c.cls, c.typ)) = [(2, 7)] ∧
    ((st []).dev.nativeMask = 0 ∧ does .negExit (st [(F.BWK_NEG_CTRL_EXIT_MASK, 255)]) (st [(F.BWK_NEG_CTRL_EXIT_MASK, 255)]).dev = true ∧
      does (.stateMessage 3 0 0) (st []) (st []).dev = true ∧ does .stateTimer (st []) (st []).dev = true) := by decide +kernel
theorem wit_grid :
    ((st []).dev.native 3 = false ∧ (st []).dev.streamLocked 7 = false ∧
      ((after (.hostCodeword 7 5 true .inTime) (st [])).egr.get 3).grid = some ((st []).dev.egressSubstitute 3)) ∧
    ((st locked).dev.native 3 = false ∧ (st locked fun d => live d).dev.streamLocked 6 = true ∧
      ((after (.hostCodeword 6 5 true .late) (st locked fun d => live d)).egr.get 3).grid = some 5) := by
  refine ⟨⟨by decide +kernel, by decide +kernel, ?_⟩, by decide +kernel, by decide +kernel, by decide +kernel⟩
  rfl
theorem wit_egress :
    ((slot 31 none).dev.streamLocked 6 = true ∧ ((slot 31 none).dev.egr.get 3).have1 = none ∧
      ((after (.hostCodeword 6 5 true .inTime) (slot 31 none)).egr.get 3).have0 = some 5) ∧
    (((slot 30 (some 9)).dev.egr.get 3).have1 = some 9 ∧ ((after (.hostCodeword 6 5 true .inTime) (slot 30 (some 9))).egr.get 3).slot = 31 ∧
      ((after (.hostCodeword 6 5 true .inTime) (slot 30 (some 9))).egr.get 3).sent.length = 1 ∧
      ((after (.hostCodeword 6 5 true .inTime) (slot 30 (some 9))).egr.get 3).have1 = none) ∧
    (((after (.hostCodeword 6 5 true .inTime) (slot 31 (some 9))).egr.get 3).slot = 0 ∧
      ((after (.hostCodeword 6 5 true .inTime) (slot 31 (some 9))).egr.get 3).acc0 = 0 ∧
      ((after (.hostCodeword 6 5 true .inTime) (slot 31 (some 9))).egr.get 3).sent.length = 2) ∧
    ((after (.hostCodeword 7 5 true .early) (slot 31 none)).get (F.BWK_EGR_SLIP 7) = 1 ∧
      (after (.hostCodeword 7 5 true .early) (slot 31 none)).egr = (slot 31 none).dev.egr ∧
      (after (.hostCodeword 7 5 true .early) (slot 31 none)).get F.BWK_INT_STATUS_EGR_SLIP = 1) := by decide +kernel


/-! ### Witnesses: line transmit and host lanes -/

def txs (st0 tr pd : Nat) (l : List (Fld × Nat) := []) (f : TxLane → TxLane := id) : State :=
  st (active ++ [(F.LTX_STATUS_STATE 3, st0), (F.LTX_STATUS_TRANS 3, tr), (F.LTX_STATUS_PENDING 3, pd)] ++ l) fun d => (go d).modTx 3 f
theorem wit_tx_requests :
    (halfOk (txs 0 1 2) = true ∧ (3#3).toNat ≠ (txs 0 1 2).dev.get (F.LTX_CTRL_STATE_REQ 3) ∧
      does (.txStateRequest 3 3) (txs 0 1 2) (((txs 0 1 2).dev.set (F.LTX_CTRL_STATE_REQ 3) 3).set (F.LTX_STATUS_PENDING 3) 3) = true ∧
      does (.txStateRequest 3 1) (txs 0 1 2) (((txs 0 1 2).dev.set (F.LTX_CTRL_STATE_REQ 3) 1).set (F.LTX_STATUS_PENDING 3) 7) = true) ∧
    (halfOk (txs 0 7 7) = true ∧ (txs 0 7 7).dev.get (F.LTX_CTRL_STATE_REQ 3) ≠ 2 ∧
      does (.txStateRequest 3 2) (txs 0 7 7)
        ((((txs 0 7 7).dev.set (F.LTX_CTRL_STATE_REQ 3) 2).set (F.LTX_STATUS_TRANS 3) 1).set (F.LTX_STATUS_PENDING 3) 2) = true) ∧
    (does (.txStateRequest 3 5) (txs 0 7 7) (txs 0 7 7).dev = true ∧ does (.txStateRequest 3 0) (txs 0 7 7) (txs 0 7 7).dev = true) ∧
    ((after (.txTransitionDone 3) (txs 0 1 2)).get (F.LTX_STATUS_STATE 3) = 1 ∧ (after (.txTransitionDone 3) (txs 0 1 2)).get (F.LTX_STATUS_TRANS 3) = 2 ∧
      (after (.txTransitionDone 3) (txs 0 1 2)).get (F.LTX_STATUS_PENDING 3) = 7) ∧
    (halfOk (txs 3 7 7) = true ∧ (txs 3 7 7).dev.get (F.LTX_STATUS_LIVE 3) = 0 ∧
      does (.txonTimeout 3) (txs 3 7 7) ((txs 3 7 7).dev.set (F.LTX_INT_STATUS_TIMEOUT 3) 1) = true) ∧
    does (.txonTimeout 3) (txs 3 7 7 [(F.LTX_STATUS_LIVE 3, 1)]) (txs 3 7 7 [(F.LTX_STATUS_LIVE 3, 1)]).dev = true := by decide +kernel

def heads : State :=
  txs 3 7 7 [(F.LTX_STATUS_SQ_DIS 3, 0), (F.LTX_STATUS_SQ_SAFE 3, 0), (F.LTX_STATUS_SQ_SHUTDOWN 3, 0), (F.LTX_PWR_TBL_SWING 3 2, 55),
    (F.LTX_CFG_POWER_IDX 3, 2)] fun t => { t with heading := true, biasWait := 0 }
def liveTx (swing : Nat) : State := txs 3 7 7 [(F.LTX_STATUS_LIVE 3, 1), (F.LTX_PWR_TBL_SWING 3 15, 55)] fun t => { t with swing := swing }
def moving : State := txs 3 7 7 [] fun t => { t with pilotDue := some 2 }
theorem wit_tx_boundary :
    (does (.txBoundary 3 0) (txs 2 7 7) (txs 2 7 7).dev = true ∧ (after (.txBoundary 3 4) (txs 2 7 7)).pair (F.LTX_TX_SAT 3) = 4 ∧
      (txs 2 7 7).dev.get F.PMU_STATUS_FROZEN = 0 ∧ (after (.txBoundary 3 4) (txs 2 7 7)).get (F.LTX_INT_STATUS_TX_SAT 3) = 1) ∧
    (heads.dev.get (F.LTX_STATUS_STATE 3) = 3 ∧ heads.dev.get (F.LTX_STATUS_TRANS 3) = 7 ∧ (heads.dev.tx.get 3).ending = false ∧
      heads.dev.get (F.LTX_STATUS_SQ_DIS 3) = 0 ∧ heads.dev.get (F.LTX_STATUS_SQ_SAFE 3) = 0 ∧ heads.dev.get (F.LTX_STATUS_SQ_SHUTDOWN 3) = 0 ∧
      (heads.dev.tx.get 3).biasWait ≤ heads.dev.now ∧ heads.dev.mft.commits = [] ∧ (heads.dev.tx.get 3).dpdWrites = [] ∧
      (heads.dev.tx.get 3).dpdUpdate = none ∧ (heads.dev.tx.get 3).bypassDue = none ∧ (heads.dev.tx.get 3).held = none ∧ (heads.dev.tx.get 3).heading = true) ∧
    (does (.powerIdxWrite 3 15) (txs 3 7 7) ((txs 3 7 7).dev.set (F.LTX_CFG_POWER_IDX 3) 15) = true ∧
      (after (.powerIdxWrite 3 15) (liveTx 55)).get (F.LTX_STATUS_RAMP 3) = 0 ∧ (after (.powerIdxWrite 3 15) (liveTx 54)).get (F.LTX_STATUS_RAMP 3) = 1) ∧
    (does (.dpdLutWrite 3 63 0x3FF) (txs 3 7 7) (((txs 3 7 7).dev.set (F.LTX_DPD_LUT 3 63) 0x3FF).modTx 3 fun t =>
          { t with dpdWrites := t.dpdWrites ++ [(63, -1)] }) = true ∧
      (63 : Nat) < ((txs 2 7 7).dev.tx.get 3).dpd.length ∧ ((txs 2 7 7).dev.tx.get 3).dpdUpdate = none ∧
      ((after (.dpdLutWrite 3 63 0x3FF) (txs 2 7 7)).tx.get 3).dpd.getD 63 0 = -1) ∧
    (does (.bypassWrite 3 true) (txs 3 7 7) (((txs 3 7 7).dev.set (F.LTX_DPD_CTRL_BYPASS 3) 1).modTx 3 fun t => { t with bypassDue := some true }) = true ∧
      does (.bypassWrite 3 true) (txs 2 7 7) (((txs 2 7 7).dev.set (F.LTX_DPD_CTRL_BYPASS 3) 1).modTx 3 fun t =>
        { t with bypass := true, bypassDue := none }) = true) ∧
    ((moving.dev.tx.get 3).pilotDue = some 2 ∧ (after (.pilotInjectionMove 3) moving).get (F.LTX_STATUS_PILOT_LVL 3) = 1 ∧
      (after (.pilotInjectionMove 3) moving).get (F.LTX_STATUS_PILOT_LF 3) = 0) ∧
    (((txs 3 7 7).dev.tx.get 3).pilotDue = none ∧ does (.pilotInjectionMove 3) (txs 3 7 7) (txs 3 7 7).dev = true) := by decide +kernel

def pinEn : State := txs 3 7 7 [(F.LTX_CTRL_PIN_EN 3, 1), (F.LTX_STATUS_SQ_DIS 3, 0), (F.LTX_STATUS_LIVE 3, 1), (F.LTX_CTRL_TX_DIS 3, 0)]
  fun t => { t with pinCopy := true }
theorem wit_tx_disable :
    (pinEn.dev.get (F.LTX_CTRL_PIN_EN 3) = 1 ∧ pinEn.dev.get (F.LTX_STATUS_SQ_DIS 3) = 0 ∧ (after .txdisnFall pinEn).get (F.LTX_STATUS_SQ_DIS 3) = 1 ∧
      (after .txdisnFall pinEn).get (F.LTX_STATUS_LIVE 3) = 0 ∧ (after .txdisnFall pinEn).get (F.LTX_INT_STATUS_SQUELCH 3) = 1) ∧
    (pinEn.dev.get (F.LTX_CTRL_TX_DIS 3) = 0 ∧ (pinEn.dev.tx.get 3).cmisDis = false ∧
      (after .txdisnRise { pinEn with dev := after .txdisnFall pinEn }).get (F.LTX_STATUS_SQ_DIS 3) = 0) ∧
    ((after (.txDisWrite 3 true) pinEn).get (F.LTX_STATUS_SQ_DIS 3) = 1 ∧ (after (.txDisWrite 3 true) pinEn).get (F.LTX_STATUS_LIVE 3) = 1 ∧
      ((after (.txDisWrite 3 true) pinEn).tx.get 3).ending = true) ∧
    (pinEn.dev.txdisLow = false ∧ (after (.txDisWrite 3 false) pinEn).get (F.LTX_STATUS_SQ_DIS 3) = 0) := by decide +kernel

def trains (ovr : Bool) (held : Option (Nat × List Int) := none) : State :=
  st [(F.LRX_CTRL_RATE 3, 2), (F.LTX_STATUS_STATE 3, 3), (F.LTX_DPD_STATUS_EPOCH 3, 255), (F.PLT_STATUS_SYNC 3, 1), (F.LTX_DPD_CTRL_SRC 3, 0)] fun d =>
    (live d).modTx 3 fun t => { t with periodOver := ovr, held := held }
theorem wit_training :
    ((254 : Nat) ≠ (trains true).dev.get (F.LTX_DPD_STATUS_EPOCH 3) ∧
      does (.dpdReport 3 254 0 []) (trains true)
        (((trains true).dev.set (F.LTX_DPD_STATUS_LAST_RPT_EPOCH 3) 254).bump (F.LTX_DPD_EVENTS_DPD_STALE 3)) = true) ∧
    ((trains true).dev.mayTrain 3 = true ∧ ((after (.dpdReport 3 255 0 [1]) (trains true)).tx.get 3).dpdUpdate = some [1]) ∧
    ((trains false).dev.mayTrain 3 = false ∧ ((after (.dpdReport 3 255 0 [1]) (trains false)).tx.get 3).held = some (255, [1])) ∧
    (((after (.dpdApplied 3 9) (trains true)).tx.get 3).measuring = true ∧ ((after (.dpdApplied 3 9) (trains true)).tx.get 3).farEpoch = 9) ∧
    (((trains false).dev.tx.get 3).held = none ∧ ((after (.dpdPeriodExpiry 3) (trains false)).tx.get 3).periodOver = true) ∧
    (((trains false (some (255, [1]))).dev.modTx 3 fun t => { t with periodOver := true }).mayTrain 3 = true ∧
      ((after (.dpdPeriodExpiry 3) (trains false (some (255, [1])))).tx.get 3).dpdUpdate = some [1] ∧
      ((after (.dpdPeriodExpiry 3) (trains false (some (255, [1])))).tx.get 3).held = none) := by decide +kernel
def measures : State := st [(F.LRX_CTRL_RATE 3, 2), (F.LRX_STATUS_ACQ_STEP 3, 0xA)] fun d =>
  (live d).modTx 3 fun t => { t with measuring := true, farEpoch := 7 }
theorem wit_measurement :
    measures.dev.native 3 = true ∧ measures.dev.get (F.LRX_STATUS_ACQ_STEP 3) = 0xA ∧ (measures.dev.plt.get 3).ctl.length < 8 ∧
      ((after (.dpdWindowEnd 3 [(5, 0), (9, 4095)]) measures).tx.get 3).measuring = false ∧
      ((after (.dpdWindowEnd 3 [(5, 0), (9, 4095)]) measures).plt.get 3).ctl.map (fun c => match c.body with
        | .report n e w dev => (n, e, w, dev.length, dev.getD 0 0, dev.getD 63 0) | _ => (0, 0, 0, 0, 0, 0)) = [(3, 7, 256, 64, -128, -128)] ∧
      does (.dpdWindowEnd 3 []) (trains true) (trains true).dev = true := by decide +kernel


def hst (acq : Nat) (l : List (Fld × Nat) := []) (f : HostLane → HostLane := id) : State :=
  st (active ++ hosts [12] acq ++ [(F.HLN_STATUS_SD 12, 1), (F.HLN_CTRL_TX_EN 12, 1)] ++ l) fun d => (go (live d)).modHost 12 f
def due (l : List Nat) : HostLane → HostLane := fun h => { h with due := l }
def session : State := hst 5 [(F.HLN_STATUS_ADAPTING 12, 1), (F.HLN_STATUS_CDR_LOCK 12, 1)] fun h => { h with session := 2, due := [] }
def checks : State := hst 8 [] fun h => { h with checkMarker := true }
theorem wit_host_acquisition :
    ((hst 1).dev.hostRxActive 12 = true ∧ (hst 1).dev.markerNeeded 12 = true ∧
      does (.hostPllLock 12) (hst 1) (((hst 1).dev.set (F.HLN_STATUS_PLL_LOCK 12) 1).set (F.HLN_STATUS_ACQ_STEP 12) 2) = true ∧
      does (.signalDetect 12) (hst 2) (((hst 2).dev.set (F.HLN_STATUS_SD 12) 1).set (F.HLN_STATUS_ACQ_STEP 12) 3) = true) ∧
    (((hst 3 [] (due [])).dev.host.get 12).due = [] ∧ (after (.cdrLock 12) (hst 3 [] (due []))).get (F.HLN_STATUS_CDR_LOCK 12) = 1 ∧
      (after (.cdrLock 12) (hst 3 [] (due []))).get (F.HLN_STATUS_ACQ_STEP 12) = 4 ∧ (after (.cdrLock 12) (hst 3 [] (due []))).get F.HLN_EGR_STATUS_NONE = 0 ∧
      (after (.cdrLock 12) (hst 3 [] (due []))).get (F.HLN_STATUS_ADAPTING 12) = 0) ∧
    (((hst 3 [] (due [3, 2])).dev.host.get 12).due = [3, 2] ∧ (after (.cdrLock 12) (hst 3 [] (due [3, 2]))).get (F.HLN_STATUS_ADAPTING 12) = 1 ∧
      ((after (.cdrLock 12) (hst 3 [] (due [3, 2]))).host.get 12).session = 3 ∧ ((after (.cdrLock 12) (hst 3 [] (due [3, 2]))).host.get 12).due = [2] ∧
      (after (.cdrLock 12) (hst 3 [] (due [3, 2]))).get (F.HLN_STATUS_AM_LOCK 12) = 0) ∧
    (session.dev.hostRxActive 12 = true ∧ session.dev.markerNeeded 12 = true ∧ (session.dev.host.get 12).heldLp = none ∧ session.dev.mft.waiting = [] ∧
      (after (.adaptSessionEnd 12 meas) session).get (F.HLN_STATUS_ADAPTING 12) = 0 ∧ (after (.adaptSessionEnd 12 meas) session).get (F.HLN_STATUS_ACQ_STEP 12) = 6 ∧
      (after (.adaptSessionEnd 12 meas) session).get (F.HLN_ADAPT_RPT_CAUSE 12) = 2 ∧ (after (.adaptSessionEnd 12 meas) session).get (F.HLN_ADAPT_RPT_VALID 12) = 1 ∧
      (after (.adaptSessionEnd 12 meas) session).get (F.HLN_ADAPT_RPT_MARGIN_ADAPT 12) = 255 ∧
      (after (.adaptSessionEnd 12 meas) session).get (F.HLN_ADAPT_RPT_MARGIN_TABLE 12) = 4) ∧
    (does (.adaptSessionEnd 12 meas) (hst 5) (hst 5).dev = true) ∧
    (does (.markerLock 12 false) (hst 4) ((((hst 4).dev.set (F.HLN_STATUS_ACQ_STEP 12) 8).set (F.HLN_STATUS_AM_LOCK 12) 1).modHost 12 fun h =>
        { h with recFails := 0, recovering := false, recRan := false, rxDone := true }) = true ∧
      (after (.markerLock 12 true) (hst 7)).get (F.HLN_STATUS_ACQ_STEP 12) = 8) ∧
    ((checks.dev.host.get 12).checkMarker = true ∧ checks.dev.get (F.HLN_STATUS_ADAPTING 12) = 0 ∧
      does (.markerLock 12 true) checks (checks.dev.modHost 12 fun h => { h with checkMarker := false }) = true) := by decide +kernel

def served : State := hst 8 [(F.HLN_STATUS_CDR_LOCK 12, 1), (F.HLN_STATUS_AM_LOCK 12, 1), (F.HLN_EGR_STATUS_SRC, 3)]
def recovers : State := hst 4 [(F.HLN_STATUS_CDR_LOCK 12, 1), (F.HLN_ADAPT_CFG_REC_ADAPT 12, 1)] fun h => { h with recovering := true, due := [] }
theorem wit_host_losses :
    (served.dev.hostRxActive 12 = true ∧ served.dev.get (F.HLN_STATUS_SD 12) = 1 ∧ served.dev.get (F.HLN_STATUS_ADAPTING 12) = 0 ∧
      (after (.hostLos 12) served).get (F.HLN_STATUS_SD 12) = 0 ∧ (after (.hostLos 12) served).get (F.HLN_STATUS_ACQ_STEP 12) = 2 ∧
      (after (.hostLos 12) served).get (F.HLN_LOS_EVENTS 12) = 1 ∧ (after (.hostLos 12) served).get (F.HLN_INT_STATUS_LOS_SET 12) = 1) ∧
    ((after (.cdrLoss 12) served).get (F.HLN_STATUS_CDR_LOCK 12) = 0 ∧ (after (.cdrLoss 12) served).get (F.HLN_STATUS_ACQ_STEP 12) = 3 ∧
      (after (.cdrLoss 12) served).get (F.HLN_LOCK_EVENTS_CDR 12) = 1 ∧ (after (.cdrLoss 12) served).get (F.HLN_INT_STATUS_CDR_LOSS 12) = 1) ∧
    ((after (.amLoss 12) served).get (F.HLN_STATUS_AM_LOCK 12) = 0 ∧ (after (.amLoss 12) served).get (F.HLN_STATUS_ACQ_STEP 12) = 3 ∧
      (after (.amLoss 12) served).get (F.HLN_STATUS_CDR_LOCK 12) = 1 ∧ (after (.amLoss 12) served).get (F.HLN_LOCK_EVENTS_AM 12) = 1) ∧
    (served.dev.get F.HLN_EGR_STATUS_SRC ≠ 12 ∧ (after (.freqMismatch 12) served).get (F.HLN_STATUS_FREQ_MISMATCH 12) = 1 ∧
      (after (.freqMismatch 12) served).get (F.HLN_STATUS_CDR_LOCK 12) = 0 ∧ (after (.freqMismatch 12) served).get (F.HLN_INT_STATUS_FREQ_MISMATCH 12) = 1) ∧
    ((hst 8 [(F.HLN_EGR_STATUS_SRC, 12)]).dev.get F.HLN_EGR_STATUS_SRC = 12 ∧
      does (.freqMismatch 12) (hst 8 [(F.HLN_EGR_STATUS_SRC, 12)]) (hst 8 [(F.HLN_EGR_STATUS_SRC, 12)]).dev = true) ∧
    (recovers.dev.hostRxActive 12 = true ∧ recovers.dev.get (F.HLN_ADAPT_CFG_REC_ADAPT 12) = 1 ∧ recovers.dev.get (F.HLN_STATUS_ACQ_STEP 12) ≠ 8 ∧
      (after (.recoveryDue 12) recovers).get (F.HLN_STATUS_ADAPTING 12) = 1 ∧ ((after (.recoveryDue 12) recovers).host.get 12).session = 3) := by
  decide +kernel

def lpRun (l : List (Fld × Nat) := []) : State := hst 8 ([(F.HLN_LP_LP_REQ 12, 0), (F.HLN_STATUS_CDR_LOCK 12, 1)] ++ l)
def feeds : State := lpRun [(F.LRX_STATE_RX_STATE 6, 3)]
def quieting : State := hst 8 [(F.HLN_LP_TRANS 12, 1), (F.HLN_LP_PENDING 12, 3)]
theorem wit_host_low_power :
    (halfOk (lpRun) = true ∧ lpRun.dev.get (F.HLN_LP_LP_REQ 12) ≠ 1 ∧ lpRun.dev.get (F.HLN_STATUS_ADAPTING 12) = 0 ∧ lpRun.dev.get (F.HLN_LP_TRANS 12) = 3 ∧
      lpRun.dev.get (F.HLN_LP_LP_STATE 12) = 0 ∧ lpRun.dev.lpBlocked 12 = false ∧ lpRun.dev.lget (F.HLN_CTRL_TX_EN 12) = 1 ∧
      (after (.lpRequest 12 1) lpRun).get (F.HLN_LP_LP_REQ 12) = 1 ∧ (after (.lpRequest 12 1) lpRun).get (F.HLN_LP_TRANS 12) = 1 ∧
      (after (.lpRequest 12 1) lpRun).get (F.HLN_LP_PENDING 12) = 3 ∧ (after (.lpRequest 12 1) lpRun).get (F.HLN_LP_LP_STATE 12) = 0) ∧
    (feeds.dev.lpBlocked 12 = true ∧
      does (.lpRequest 12 1) feeds ((feeds.dev.set (F.HLN_LP_LP_REQ 12) 1).set (F.HLN_INT_STATUS_LP_REFUSED 12) 1) = true) ∧
    (does (.lpRequest 12 3) lpRun lpRun.dev = true ∧ does (.lpRequest 12 0) lpRun lpRun.dev = true) ∧
    (quieting.dev.get (F.HLN_LP_TRANS 12) = 1 ∧ (after (.lpTransitionDone 12) quieting).get (F.HLN_LP_LP_STATE 12) = 1 ∧
      (after (.lpTransitionDone 12) quieting).get (F.HLN_LP_TRANS 12) = 3 ∧ (after (.lpTransitionDone 12) quieting).get (F.HLN_INT_STATUS_LP_DONE 12) = 1 ∧
      ((after (.lpTransitionDone 12) quieting).host.get 12).txRun = false) ∧
    ((hst 8 [(F.HLN_LP_TRANS 12, 0)]).dev.get (F.HLN_LP_TRANS 12) = 0 ∧
      ((after (.hostTxHalfRun 12) (hst 8 [(F.HLN_LP_TRANS 12, 0)])).host.get 12).txDone = true ∧ does (.hostTxHalfRun 12) quieting quieting.dev = true) ∧
    (lpRun.dev.testRefused 12 = false ∧ lpRun.dev.get (F.HLN_STATUS_CDR_LOCK 12) = 1 ∧ (after (.adaptRun 12) lpRun).get (F.HLN_STATUS_ADAPTING 12) = 1 ∧
      ((after (.adaptRun 12) lpRun).host.get 12).session = 2) ∧
    (quieting.dev.testRefused 12 = true ∧ does (.adaptRun 12) quieting (quieting.dev.set (F.HLN_INT_STATUS_ADAPT_REFUSED 12) 1) = true) := by decide +kernel

theorem wit_clocks :
    (after (.crossingReopen 17) (st [(F.CLK_DOM_CLOSED, 0x3FFFF)])).bit F.CLK_DOM_CLOSED 17 = false ∧
    (after (.crossingReopen 17) (st [(F.CLK_DOM_CLOSED, 0x3FFFF)])).bit F.CLK_DOM_CLOSED 16 = true ∧
    (after (.clockGateWake 4) (st [])).domRunWord.getLsbD 4 = true ∧
    does (.islandStall .fabric) (st []) (((st []).dev.set F.CLK_INT_STATUS_ISLAND_STALL 1).bump F.FAB_ERR_D_BUF_DROP) = true ∧
    does (.corePllUnlock .a) (st []) (((st []).dev.set F.CLK_STATUS_CPLLA_LOCK 0).set F.CLK_INT_STATUS_PLL_UNLOCK 1) = true := by decide +kernel


/-! ### Witnesses: pilot channel -/

def plt (l : List (Fld × Nat)) (f : PltLane → PltLane := id) : State := st l fun d => d.modPlt 3 f
def ctl1 : CtlMsg := { cls := 2, typ := 7, seq := 0, body := .state 0 0 }
def on : PltLane → PltLane := fun p => { p with txOn := true, idled := true }
def fm (k : Nat) : FabMsg := { msg (.recordAck k) with rid := k }
def pCtl : State := plt [(F.PLT_STATUS_TX_PRESET 3, 0)] fun p => { on p with ctl := [ctl1], seq2 := 0xFFFF }
def pFab : State := plt [(F.PLT_STATUS_TX_PRESET 3, 0)] fun p => { on p with fab := [fm 1, fm 2] }
def pWait (l : List FabMsg) : State := plt [] fun p => { p with wait := [fm 3, fm 4], fab := l }
theorem wit_pilot_tx :
    ((pCtl.dev.plt.get 3).txOn = true ∧ (pCtl.dev.plt.get 3).ctl = [ctl1] ∧ pCtl.dev.preset 3 = pCtl.dev.get (F.PLT_STATUS_TX_PRESET 3) ∧
      pCtl.dev.get F.PMU_STATUS_FROZEN = 0 ∧
      ((after (.pilotFrameStart 3) pCtl).plt.get 3).sending.map (·.2) = some (.ctl { ctl1 with seq := 0xFFFF }) ∧
      ((after (.pilotFrameStart 3) pCtl).plt.get 3).seq2 = 0 ∧ (after (.pilotFrameStart 3) pCtl).pair (F.PLT_FRM_TX 3) = 1 ∧
      ((after (.pilotFrameStart 3) pCtl).plt.get 3).idled = false) ∧
    (pFab.dev.preset 3 = pFab.dev.get (F.PLT_STATUS_TX_PRESET 3) ∧
      ((after (.pilotFrameStart 3) pFab).plt.get 3).sending.map (·.2) = some (.fab (fm 1)) ∧ ((after (.pilotFrameStart 3) pFab).plt.get 3).fab = [fm 2]) ∧
    (does (.pilotFrameStart 3) (plt [] on) (plt [] on).dev = true) ∧
    (((after (.class4Handover 3) (pWait [fm 1])).plt.get 3).fab = [fm 1, fm 3] ∧ ((after (.class4Handover 3) (pWait [fm 1])).plt.get 3).wait = [fm 4] ∧
      does (.class4Handover 3) (pWait [fm 1, fm 2]) (pWait [fm 1, fm 2]).dev = true ∧
      ((after (.fabricFrameExpiry 3) (pWait [fm 1])).plt.get 3).wait = [fm 4] ∧ (after (.fabricFrameExpiry 3) (pWait [fm 1])).get (F.PLT_ERR_C_TXQ_DROP 3) = 1) ∧
    (((plt [] on).dev.plt.get 3).ctl = [] ∧ ((plt [] on).dev.plt.get 3).fab = [] ∧ ((after (.idleGroupBoundary 3) (plt [] on)).plt.get 3).idled = true) ∧
    ((List.replicate 64 4).all (fun c => (c == 0 || c == 1 || c == 2 || c == 4 || c == 6) && decide (c ≤ topBits 2)) = true ∧
      ((after (.loadmap 3 9 2 0 3 (List.replicate 64 4)) (plt [])).plt.get 3).recPreset = 3 ∧ (after (.loadmap 3 9 2 0 3 (List.replicate 64 4)) (plt [])).mapFor 3 2 = 9) ∧
    (does (.loadmap 3 9 2 0 3 [6]) (plt []) (plt []).dev = true ∧ does (.loadmap 3 9 3 0 3 [3]) (plt []) (plt []).dev = true) ∧
    ((after (.loadreq 3 1) (plt [])).plt.get 3).loadreq = true ∧
    ((plt [(F.PLT_CTRL_PRESET_AUTO 3, 1)]).dev.get (F.PLT_CTRL_PRESET_AUTO 3) = 1 ∧
      (after (.loadmapTimeout 3) (plt [(F.PLT_CTRL_PRESET_AUTO 3, 1)])).recommended 3 = 0) := by decide +kernel

def rcp (c : Bool) : Reception := { preset := 1, metric := 9, committed := c, map := 0, len := 4, gainStep := 0 }
def hears (r : Option Reception) (l : List (Fld × Nat) := []) : State := st ([(F.PLT_RX_CFG_SYNC_TH 3, 100)] ++ l) fun d =>
  (d.modPlt 3 fun p => { p with reception := r }).modRx 3 fun x => { x with pilotRx := true }
def hdr (len map : Nat) : Word := headerWord len map
def body4 : List Byte := [2, 0x55, 0, 0]
theorem wit_pilot_rx :
    ((hears none).dev.pilotRxRuns 3 = true ∧ (hears none).dev.get (F.PLT_RX_CFG_SYNC_TH 3) < 101 ∧
      ((after (.syncDetection 3 [3, 0, 101, 101] 101) (hears none)).plt.get 3).reception.map (fun r => (r.preset, r.metric, r.committed)) = some (2, 101, false) ∧
      (after (.syncDetection 3 [3, 0, 101, 101] 101) (hears none)).get (F.PLT_STATUS_RX_BUSY 3) = 1 ∧ (after (.syncDetection 3 [3, 0, 101, 101] 101) (hears none)).get (F.PLT_STATUS_AGC_FROZEN 3) = 1) ∧
    (does (.syncDetection 3 [3, 0, 101, 101] 102) (hears none) (hears none).dev = true) ∧
    (does (.syncDetection 3 [3, 0, 100, 100] 100) (hears none) (hears none).dev = true) ∧
    (does (.syncDetection 3 [3, 0, 200, 200] 200) (hears (some (rcp true))) (hears (some (rcp true))).dev = true) ∧
    (headerCrc (bitsOf (hdr 4 0 ^^^ 1) 15 0) ≠ bitsOf (hdr 4 0 ^^^ 1) 31 16 ∧
      ((after (.headerReceived 3 (hdr 4 0 ^^^ 1)) (hears (some (rcp false)))).plt.get 3).reception = none ∧
      (after (.headerReceived 3 (hdr 4 0 ^^^ 1)) (hears (some (rcp false)))).get (F.PLT_ERR_A_HDR_ERR 3) = 1) ∧
    (headerCrc (bitsOf (hdr 1152 0) 15 0) = bitsOf (hdr 1152 0) 31 16 ∧ bitsOf (hdr 1152 0) 10 0 = 1152 ∧ bitsOf (hdr 1152 0) 14 11 = 0 ∧
      (hears (some (rcp false)) [(F.PLT_STATUS_SYNC 3, 1)]).dev.get (F.PLT_STATUS_SYNC 3) = 1 ∧
      ((after (.headerReceived 3 (hdr 1152 0)) (hears (some (rcp false)) [(F.PLT_STATUS_SYNC 3, 1)])).plt.get 3).reception.map (fun r => (r.committed, r.len, r.map)) =
        some (true, 1152, 0)) ∧
    ((hears (some (rcp true))).dev.get F.PMU_STATUS_FROZEN = 0 ∧ body4.length = (rcp true).len ∧ (body4.headD 0).toNat = 2 ∧
      (after (.frameReceived 3 body4 (crc32 body4) false) (hears (some (rcp true)))).pair (F.PLT_FRM_RX 3) = 1 ∧
      ((after (.frameReceived 3 body4 (crc32 body4) false) (hears (some (rcp true)))).plt.get 3).reception = none) ∧
    (crc32 body4 ≠ crc32 body4 + 1 ∧ (after (.frameReceived 3 body4 (crc32 body4 + 1) false) (hears (some (rcp true)))).get (F.PLT_ERR_A_CRC_ERR 3) = 1 ∧
      (after (.frameReceived 3 body4 (crc32 body4 + 1) false) (hears (some (rcp true)))).pair (F.PLT_FRM_RX 3) = 0) ∧
    ((after (.syncLoss 3) (hears none [(F.PLT_STATUS_SYNC 3, 1)])).get (F.PLT_STATUS_SYNC 3) = 0 ∧
      (after (.syncLoss 3) (hears none [(F.PLT_STATUS_SYNC 3, 1)])).get (F.PLT_ERR_D_SYNC_LOSS 3) = 1 ∧ does (.syncLoss 3) (hears none) (hears none).dev = true) ∧
    ((after (.resync 3) (hears (some (rcp true)) [(F.PLT_STATUS_SYNC 3, 1)])).get (F.PLT_STATUS_SYNC 3) = 0 ∧
      ((after (.resync 3) (hears (some (rcp true)) [(F.PLT_STATUS_SYNC 3, 1)])).plt.get 3).reception = none ∧
      (after (.resync 3) (hears (some (rcp true)) [(F.PLT_STATUS_SYNC 3, 1)])).get (F.PLT_ERR_D_SYNC_LOSS 3) = 0) := by decide +kernel
theorem wit_evm : (hears none).dev.pilotRxRuns 3 = true ∧ (List.replicate 64 ([] : List (PilotSym × Nat))).length = 64 ∧
    (List.replicate 64 carrier).length = 64 ∧
    carriersOf (List.replicate 64 []) (List.replicate 64 carrier) = List.replicate 64 { errs := [], powers := carrier } := by
  decide +kernel

/-! ### Witnesses: staged groups, calibration, monitoring -/

def pend (g : Nat) (ws : List (Nat × Word)) : State := st [(F.MFT_COMMIT_GO, 1), (F.MFT_COMMIT_GROUP, g)] fun d =>
  d.modMft fun x => { x with commits := [{ group := g, words := ws, origin := .register }] }
def portMap : List (Nat × Word) := [(F.BWK_PORT_MAP.addr, 0x5A)]
theorem wit_staged :
    (does (.mftCommit 0x0900) (pend 0x0900 portMap) (pend 0x0900 portMap).dev = true) ∧
    (groupExists 0x00FF = false ∧ (after (.mftCommit 0x00FF) (st [])).get F.MFT_COMMIT_STATUS_STATUS = 7 ∧
      (after (.mftCommit 0x00FF) (st [])).live = (st []).dev.live ∧ (after (.mftCommit 0x00FF) (st [])).get F.MFT_INT_STATUS_COMMIT_DONE = 1) ∧
    (groupExists 0x0800 = true ∧
      (((natLane [(F.POOL_CTRL_WINDOW, 2)]).dev.set F.MFT_COMMIT_GROUP 0x0800).set F.MFT_COMMIT_GO 1).commitReject 0x0800
        ((natLane [(F.POOL_CTRL_WINDOW, 2)]).dev.shadowOf 0x0800) = some F.POOL_CTRL.addr) ∧
    ((pend 0x0900 portMap).dev.pendingCommit 0x0900 = some { group := 0x0900, words := portMap, origin := .register } ∧
      (after (.commitTimeout 0x0900) (pend 0x0900 portMap)).get F.MFT_COMMIT_STATUS_STATUS = 1 ∧
      (after (.commitTimeout 0x0900) (pend 0x0900 portMap)).pendingCommit 0x0900 = none) ∧
    (does (.commitTimeout 0x0900) (st []) (st []).dev = true ∧ does (.stagedGroupLive 0x0900) (st []) (st []).dev = true) ∧
    ((st [(F.BWK_PORT_MAP, 0x5A)]).dev.negRuns = false ∧ (st [(F.BWK_PORT_MAP, 0x5A)]).dev.nativeMask = 0 ∧
      (after (.mftCommit 0x0900) (st [(F.BWK_PORT_MAP, 0x5A)])).liveReg F.BWK_PORT_MAP.addr = 0x5A ∧
      (after (.mftCommit 0x0900) (st [(F.BWK_PORT_MAP, 0x5A)])).get F.MFT_COMMIT_STATUS_STATUS = 0) ∧
    ((((st []).dev.set F.MFT_COMMIT_GROUP 0x0600).set F.MFT_COMMIT_GO 1).commitReject 0x0600 ((st []).dev.shadowOf 0x0600) = none ∧
      (after (.mftCommit 0x0600) (st [])).get F.MFT_COMMIT_GO = 1 ∧ (after (.mftCommit 0x0600) (st [])).mft.commits.length = 1) ∧
    (((pend 0x0900 portMap).dev.makeLive portMap).opShort = false ∧
      (after (.stagedGroupLive 0x0900) (pend 0x0900 portMap)).liveReg F.BWK_PORT_MAP.addr = 0x5A ∧
      (after (.stagedGroupLive 0x0900) (pend 0x0900 portMap)).get F.MFT_COMMIT_STATUS_STATUS = 0) := by decide +kernel
def gain15 : State := trk [(F.LRX_TIA_AUTO 3, 0)] fun d => d.modRx 3 fun r => { r with gainSet := some 15 }
def stepUp (g : Nat) : State := trk [(F.LRX_TIA_AUTO 3, 1), (F.LRX_STATUS_GAIN_CUR 3, g)] fun d => d.modRx 3 fun r => { r with step := some true }
theorem wit_trim_boundary :
    (does (.trimBoundary ⟨3, true⟩) (acq 7) (acq 7).dev = true) ∧
    (gain15.dev.tracking 3 = true ∧ gain15.dev.mft.commits = [] ∧ gain15.dev.get (F.LRX_TIA_AUTO 3) = 0 ∧ (gain15.dev.rx.get 3).gainSet = some 15) ∧
    ((stepUp 14).dev.tracking 3 = true ∧ (stepUp 14).dev.get (F.LRX_STATUS_GAIN_CUR 3) = 14 ∧ ((stepUp 14).dev.rx.get 3).step = some true) := by decide +kernel

def est (acqStep : Nat) (f : RxLane → RxLane := id) : State := acq acqStep [(F.LRX_CAL_CTRL_EST_EN 3, 1)] fun d => d.modRx 3 f
theorem wit_estimation :
    (does (.estimationWindowEnd 3 unit) (est 1) (est 1).dev = true ∧ does (.estimationWindowEnd 3 unit) (acq 8 [(F.LRX_CAL_CTRL_EST_EN 3, 0)])
      (acq 8 [(F.LRX_CAL_CTRL_EST_EN 3, 0)]).dev = true) ∧
    ((est 2).dev.get (F.LRX_CAL_CTRL_EST_EN 3) = 1 ∧ (est 2).dev.get (F.LRX_STATUS_ACQ_STEP 3) = 2 ∧
      ((after (.estimationWindowEnd 3 unit) (est 2 fun r => { r with estSpoiled := true })).rx.get 3).firstEst = none ∧
      (after (.estimationWindowEnd 3 unit) (est 2 fun r => { r with estSpoiled := true })).get (F.LRX_CAL_STATUS_SECOND 3) = 0) ∧
    (((est 2).dev.rx.get 3).estSpoiled = false ∧ ((est 2).dev.rx.get 3).estRule.1 ≠ 1 ∧ ((est 2).dev.rx.get 3).firstEst = none ∧
      ((after (.estimationWindowEnd 3 unit) (est 2)).rx.get 3).firstEst.isSome = true ∧ (after (.estimationWindowEnd 3 unit) (est 2)).get (F.LRX_CAL_STATUS_SECOND 3) = 1) ∧
    ((st [(F.LRX_STATE_RX_STATE 3, 3)]).dev.rxInRxon 3 = true ∧
      ((after (.trimWrite 3 (.adc 63) 0xFFFFFFFF) (st [(F.LRX_STATE_RX_STATE 3, 3)])).rx.get 3).trimWrites = [(63, 0x3FFFFFF)] ∧
      (after (.trimWrite 3 (.adc 63) 0xFFFFFFFF) (st [(F.LRX_STATE_RX_STATE 3, 3)])).reg (F.LRX_ADC_TRIM 3 63).addr = 0x3FFFFFF) ∧
    ((st []).dev.rxInRxon 3 = false ∧ ((after (.trimWrite 3 (.adc 63) 5) (st [])).rx.get 3).trimLive.get 63 = 5) := by decide +kernel

def mon (f : Mon → Mon) (l : List (Fld × Nat) := []) : State := st l fun d => d.modMon f
def madc : State := st [(F.MON_CAL_CTRL_CHANNEL, 23), (F.MON_CAL_CTRL_CAL_AVG, 3)] fun d => d.modSup fun q => { q with boot := .running }
def rdo : Readout := { ch := 23, analog := .inRange 40, ofs := 0, gain := 0x10000, inj := false, man := false }
def why (x : Except Nat Nat) : Nat := match x with | .ok _ => 0 | .error r => r
def step0 (left : Nat) (man : Bool) : CalStep := { ch := 23, full := false, left := left, done := 1, sum := 3, ovr := false, man := man }
theorem wit_monitor :
    (does (.monInj 24) (st []) (st []).dev = true) ∧
    ((mon fun m => { m with queue := List.replicate 4 (1, false) }).dev.mon.queue.length = 4 ∧
      does (.monInj 23) (mon fun m => { m with queue := List.replicate 4 (1, false) })
        ((mon fun m => { m with queue := List.replicate 4 (1, false) }).dev.set F.MON_INT_STATUS_INJ_FULL 1) = true) ∧
    ((after (.monInj 23) (mon fun m => { m with work := .regular 3, queue := List.replicate 3 (1, false) })).mon.queue.length = 4 ∧
      (after (.monInj 23) (mon fun m => { m with work := .regular 3, queue := List.replicate 3 (1, false) })).get F.MON_STATUS_INJ_Q = 4) ∧
    ((after (.integrationBoundary (.inRange 7)) (mon fun m => { m with work := .regular 3 })).mon.readouts.map (fun r => (r.ch, r.analog)) = [(3, .inRange 7)]) ∧
    (does .resultWritten (st []) (st []).dev = true) ∧
    ((mon fun m => { m with readouts := [rdo, rdo] }).dev.mon.readouts = [rdo, rdo] ∧
      (after .resultWritten (mon fun m => { m with readouts := [rdo, rdo] })).mon.readouts = [rdo] ∧
      (after .resultWritten (mon fun m => { m with readouts := [rdo, rdo] })).get (F.MON_INFO_COUNT 23) = 1 ∧
      (monRange 23).1 ≤ rdo.result.1 ∧ rdo.result.1 ≤ (monRange 23).2) ∧
    (does .calGo (mon (fun m => { m with cal := some (step0 1 false) })) ((mon fun m => { m with cal := some (step0 1 false) }).dev.set F.MON_INT_STATUS_CAL_REFUSED 1) = true ∧
      does .calGo (mon id [(F.MON_CAL_CTRL_CHANNEL, 24)]) ((mon id [(F.MON_CAL_CTRL_CHANNEL, 24)]).dev.set F.MON_INT_STATUS_CAL_REFUSED 1) = true) ∧
    (madc.dev.madcRuns = true ∧
      (after .calGo madc).mon.cal.map (fun c => (c.ch, c.left, c.man)) = some (23, 8, false) ∧
      (after .calGo madc).get F.MON_CAL_CTRL_GO = 1) ∧
    (does .calStepComplete (mon fun m => { m with cal := some (step0 1 false) }) (mon fun m => { m with cal := some (step0 1 false) }).dev = true) ∧
    (why (calCoef (step0 0 false) ((st []).dev.sget (F.MON_OFS 23))) = 0 ∧
      (after .calStepComplete (mon fun m => { m with cal := some (step0 0 false) })).get F.MON_INT_STATUS_CAL_DONE = 1 ∧
      why (calCoef { step0 0 false with ovr := true } ((st []).dev.sget (F.MON_OFS 23))) ≠ 0 ∧
      (after .calStepComplete (mon fun m => { m with cal := some { step0 0 false with ovr := true } })).get F.MON_CAL_CTRL_REASON =
        why (calCoef { step0 0 false with ovr := true } ((st []).dev.sget (F.MON_OFS 23)))) ∧
    ((after .monCalTimeout (mon fun m => { m with cal := some (step0 1 true) })).mon.cal = none ∧
      does .monCalTimeout (mon fun m => { m with cal := some (step0 1 false) }) (mon fun m => { m with cal := some (step0 1 false) }).dev = true) := by decide +kernel

def low : State := st [(F.BDAC_STATUS_CLRN_LOW, 1)]
def latchSt (low : Nat) (latch : Nat) (lt : Nat) : State := st [(F.BDAC_STATUS_CLRN_LOW, low), (F.BDAC_CTRL_CLR_LATCH, latch), (F.BDAC_STATUS_LATCHED, lt)]
def freeDac : State := st ([(F.BDAC_STATUS_CLRN_LOW, 0), (F.BDAC_STATUS_LATCHED, 0), (F.SYS_SAFE_SAFE, 0), (F.THM_STATUS_SHUTDOWN, 0), (F.LTX_STATUS_SQ_DIS 7, 0)])
  fun d => d.modSup fun q => { q with unwritten := 0 }
theorem wit_bias :
    ((after (.bdacCodeWrite 7 0x1FFFF) low).bdacOut 7 = low.dev.bdacOut 7 ∧ (after (.bdacCodeWrite 7 0x1FFFF) low).reg (F.BDAC_CODE 7).addr = 0x1FFFF) ∧
    ((after (.bdacCodeWrite 7 0x1FFFF) freeDac).bdacOut 7 = 0x1FFFF ∧ (after (.bdacCodeWrite 7 0x1FFFF) freeDac).bdacOut 6 = freeDac.dev.bdacOut 6 ∧
      freeDac.dev.bdacForced 7 = false ∧ (after (.bdacCodeWrite 15 3) freeDac).bdacOut 15 = 3) ∧
    (low.dev.bdacForced 15 = true ∧ (after (.bdacClrWrite 15 0x77) low).bdacOut 15 = 0x77 ∧ (after (.bdacClrWrite 7 0x77) freeDac).bdacOut 7 = freeDac.dev.bdacOut 7) ∧
    ((after .clrnFall freeDac).get F.BDAC_STATUS_CLRN_LOW = 1 ∧ (after .clrnFall freeDac).bdacForcedBits = 0xFFFF ∧ (after .clrnFall freeDac).get F.BDAC_INT_STATUS_CLR_PIN = 1) ∧
    ((after .clrnRise (latchSt 1 1 1)).get F.BDAC_STATUS_LATCHED = 1 ∧ (after .clrnRise (latchSt 1 1 1)).bdacForcedBits = 0xFFFF ∧
      does .clrnRise (latchSt 1 0 0) ((((latchSt 1 0 0).dev.set F.BDAC_STATUS_CLRN_LOW 0).set F.BDAC_STATUS_LATCHED 0).set F.BDAC_INT_STATUS_CLR_RELEASED 1) = true ∧
      does .clrRel (latchSt 1 1 1) (latchSt 1 1 1).dev = true) ∧
    (does .clrRel (latchSt 0 1 1) (((latchSt 0 1 1).dev.set F.BDAC_STATUS_LATCHED 0).set F.BDAC_INT_STATUS_CLR_RELEASED 1) = true) := by decide +kernel
theorem wit_R490 :
    (does .clrRel (latchSt 0 0 1) (latchSt 0 0 1).dev = true) ∧ Requester.spi ≠ .procU ∧ (0x101 : Word).getLsbD 8 = true ∧
    bitsOf (0x101 : Word) 0 0 = (latchSt 1 1 1).dev.get F.BDAC_CTRL_CLR_LATCH ∧ bitsOf (0x100 : Word) 0 0 = (latchSt 0 0 1).dev.get F.BDAC_CTRL_CLR_LATCH ∧
    does (.registerWrite .spi 0x09000 0x101) (latchSt 1 1 1) (latchSt 1 1 1).dev = true ∧
    does (.registerWrite .jtag 0x09000 0x100) (latchSt 0 0 1) (latchSt 0 0 1).dev = true := by decide +kernel


/-! ### Witnesses: Lookout, counters, start-up, reset, watchdog -/

def lko (state : Nat) (f : Lko → Lko := id) (l : List (Fld × Nat) := []) : State := st ([(F.LKO_STATUS_STATE, state)] ++ l) fun d => (live d).modLko f
def smp : LkoSample := { word := .adc 0x80, level := 0 }
def e2 : State := st [(F.THM_STATUS_ENF, 2)]
def noRed : List (Fld × Nat) := [(F.LKO_RED_HIST, 0), (F.LKO_RED_EMAP, 0), (F.LKO_POST, 2), (F.LRX_STATE_RX_STATE 0, 3)] ++ (List.range 4).map fun k => (F.LKO_TU_CFG_EN k, 0)
theorem wit_lookout :
    (e2.dev.enf = 2 ∧ does .arm e2 (e2.dev.set F.LKO_INT_STATUS_ARM_REFUSED 1) = true) ∧
    ((lko 0 id noRed).dev.enf ≠ 2 ∧ (lko 0 id noRed).dev.lget F.LKO_RED_HIST = 0 ∧ (lko 0 id noRed).dev.lget F.LKO_RED_EMAP = 0 ∧
      (after .arm (lko 0 id noRed)).get F.LKO_STATUS_STATE = 1 ∧ (after .arm (lko 0 id noRed)).lko = Lko.fresh ∧ (after .arm (lko 0 id noRed)).get (F.LKO_TU_CNT 3) = 0) ∧
    ((after .force (lko 1)).lko.force = true ∧ does .force (lko 2) (lko 2).dev = true) ∧
    ((lko 1).dev.capturing = true ∧ (lko 2).dev.capturing = true ∧ (after .stop (lko 2)).get F.LKO_STATUS_STATE = 3 ∧
      (after .stop (lko 1)).get F.LKO_STATUS_STOP_CAUSE = 2 ∧ (after .stop (lko 1)).get F.LKO_INT_STATUS_STOPPED = 1) ∧
    does .stop (lko 4) (((lko 4).dev.set F.LKO_STATUS_STOP_CAUSE 2).set F.LKO_STATUS_STATE 3) = true ∧
    (does (.lookoutSample smp) (lko 0) (lko 0).dev = true ∧ does (.lookoutSample smp) (lko 3) (lko 3).dev = true) ∧
    ((lko 1 id noRed).dev.lkoClocked = true ∧ sourceOf smp.word = (lko 1 id noRed).dev.lget F.LKO_SRC_SOURCE ∧
      (lko 1).dev.lkoClocked = false ∧ does (.lookoutSample smp) (lko 1) (lko 1).dev = true ∧
      sourceOf (.soft 3 3) ≠ (lko 1 id noRed).dev.lget F.LKO_SRC_SOURCE ∧
      does (.lookoutSample { smp with word := .soft 3 3 }) (lko 1 id noRed) (lko 1 id noRed).dev = true) ∧
    (((List.range 4).all fun k => (lko 1 id noRed).dev.lget (F.LKO_TU_CFG_EN k) == 0) = true ∧ 2 ≤ ((lko 1 id noRed).dev.liveReg F.LKO_POST.addr).toNat ∧
      (after (.lookoutSample smp) (lko 1 (fun l => { l with force := true, idx := 9 }) noRed)).get F.LKO_STATUS_STATE = 2 ∧
      (after (.lookoutSample smp) (lko 1 (fun l => { l with force := true, idx := 9 }) noRed)).get F.LKO_STATUS_CAUSE = 4 ∧
      (after (.lookoutSample smp) (lko 1 (fun l => { l with force := true, idx := 9 }) noRed)).pair F.LKO_TRIG_IDX = 9 ∧
      (after (.lookoutSample smp) (lko 1 (fun l => { l with force := true, idx := 9 }) noRed)).lko.idx = 10) ∧
    ((after (.lookoutSample smp) (lko 1 (fun l => { l with idx := 2 ^ 48 - 1 }) noRed)).lko.idx = 0 ∧
      (after (.lookoutSample smp) (lko 1 id noRed)).get F.LKO_STATUS_STATE = 1) ∧
    ((after .holdoffEnd (lko 4)).lko.holdEnded = true ∧ does .holdoffEnd (lko 4 id [(F.LKO_HOLD_KIND, 1)]) (lko 4 id [(F.LKO_HOLD_KIND, 1)]).dev = true) ∧
    ((lko 4 fun l => { l with holdEnded := true }).dev.mft.begun = [] ∧ (lko 4 fun l => { l with holdEnded := true }).dev.enf ≠ 2 ∧
      (after .lookoutRearm (lko 4 fun l => { l with holdEnded := true })).get F.LKO_STATUS_STATE = 1 ∧
      (after .lookoutRearm (lko 4 fun l => { l with holdEnded := true })).get F.LKO_STATUS_CAPTURES = 1 ∧ does .lookoutRearm (lko 3) (lko 3).dev = true) := by
  decide +kernel
def asked (f : Option Bool) (b : Bool) : State := st [] fun d => { d with pmuReq := { freeze := f, snap := b }, now := 77 }
theorem wit_counters :
    ((after (.freeze true) (st [])).pmuReq.freeze = some true ∧ (after (.freeze true) (st [])).get F.PMU_CTRL_FREEZE = 1 ∧
      (after (.freeze true) (st [])).get F.PMU_STATUS_FROZEN = 0) ∧
    ((after .snap (st [])).get F.PMU_STATUS_SNAP_BUSY = 1 ∧ (after .snap (st [])).pmuReq.snap = true) ∧
    ((after .freezeInstant (asked (some true) false)).get F.PMU_STATUS_FROZEN = 1) ∧
    ((asked none true).dev.pmuReq.snap = true ∧ (after .freezeInstant (asked none true)).get F.PMU_STATUS_SNAP_VALID = 1 ∧
      (after .freezeInstant (asked none true)).pair F.PMU_SNAP_TIME = 77 ∧ (after .freezeInstant (asked none true)).get F.PMU_INT_STATUS_SNAP_DONE = 1) ∧
    ((after .clrAll (st [(F.PMU_CNT 63, 9), (F.PMU_OVF 1, 5)])).pair (F.PMU_CNT 63) = 0 ∧ (after .clrAll (st [(F.PMU_OVF 1, 5)])).get (F.PMU_OVF 1) = 0) ∧
    ((after (.evselWrite 63 0xFFFFFFFF) (st [])).get (F.PMU_EVSEL_EN 63) = 1 ∧ (after (.evselWrite 63 0x00000123) (st [])).get (F.PMU_EVSEL_EVENT 63) =
      bitsOf (0x123 : Word) (F.PMU_EVSEL_EVENT 63).hi (F.PMU_EVSEL_EVENT 63).lo) := by decide +kernel

def sup (f : Sup → Sup) (l : List (Fld × Nat) := []) : State := st l fun d => d.modSup f
def up (l : List (Fld × Nat) := []) : State := sup (fun q => { q with boot := .running, procRun := true, resetnLow := false, aonGood := true }) l
theorem wit_resets :
    ((after .powerOnReset (up [(F.POOL_CTRL_WINDOW, 3)])).sup.aonGood = false ∧ (after .powerOnReset (up [(F.POOL_CTRL_WINDOW, 3)])).get F.POOL_CTRL_WINDOW = (st []).dev.get F.POOL_CTRL_WINDOW) ∧
    ((up [(F.SYS_RST_CAUSE_CAUSE, 5)]).dev.sup.aonGood = true ∧
      (after (.resetnFall 1000) (up [(F.SYS_RST_CAUSE_CAUSE, 5), (F.POOL_CTRL_WINDOW, 3)])).get F.SYS_RST_CAUSE_CAUSE = 2 ∧
      (after (.resetnFall 1000) (up [(F.SYS_RST_CAUSE_CAUSE, 5), (F.POOL_CTRL_WINDOW, 3)])).get F.SYS_RST_CAUSE_PREV = 5 ∧
      (after (.resetnFall 1000) (up [(F.SYS_RST_CAUSE_CAUSE, 5), (F.POOL_CTRL_WINDOW, 3)])).sup.boot = .held ∧
      (after (.resetnFall 1000) (up [(F.SYS_RST_CAUSE_CAUSE, 5), (F.POOL_CTRL_WINDOW, 3)])).get F.POOL_CTRL_WINDOW = (st []).dev.get F.POOL_CTRL_WINDOW) ∧
    (after (.resetnFall 99) up).regs = up.dev.regs ∧
    ((after (.railFault .ana) up).sup.railsBad = [.ana] ∧ (after (.railFault .ana) up).get F.SYS_RST_CAUSE_CAUSE = 6 ∧ (after (.railFault .ana) up).sup.boot = .held) ∧
    ((sup fun q => { q with aonGood := false }).dev.sup.aonGood = false ∧ (after .porRelease (sup fun q => { q with aonGood := false })).get F.SYS_BOOT_STATUS_STEP = 1) ∧
    (does (.fullReset 3 okRun) up up.dev = true) ∧
    ((sup fun q => { q with due := some 3, railsBad := [.core] }).dev.sup.due = some 3 ∧
      (after (.fullReset 3 okRun) (sup fun q => { q with due := some 3, railsBad := [.core] })).get F.SYS_RST_CAUSE_CAUSE = 3 ∧
      (after (.fullReset 3 okRun) (sup fun q => { q with due := some 3, railsBad := [.core] })).get F.SYS_RST_CAUSE_COUNT = 1) := by decide +kernel

def held (f : Sup → Sup := id) (g : Device → Device := id) : State := st [] fun d => g (d.modSup fun q => f { q with boot := .held, railsBad := [], aonGood := true })
def imageOk : FwSlot := { commit := true, seq := 5, svn := 3, version := 0x10000, codeLimit := 0, reason := 0, vk1 := false, cosigned := [], written := 0 }
def slot1 (d : Device) : Device := { d with flash := { d.flash with fw := d.flash.fw.set 1 imageOk } }
theorem wit_startup :
    ((held).dev.sup.boot = .held ∧ held.dev.sup.railsBad = [] ∧ held.dev.sup.aonGood = true ∧ held.dev.get F.THM_STATUS_SHUTDOWN = 0) ∧
    ((after (.resetnRise okRun) (held fun q => { q with refOk := false })).sup.boot = .waitRef ∧
      (after (.resetnRise okRun) (held fun q => { q with refOk := false })).get F.SYS_BOOT_STATUS_FAIL_CODE = 6 ∧
      (after (.resetnRise okRun) (held fun q => { q with refOk := false })).get F.SYS_BOOT_STATUS_STEP = 4) ∧
    (okRun.logic = [] ∧ (okRun.spares.all fun x => decide (x ≤ 8)) = true ∧ held.dev.sup.refOk = true ∧
      (after (.resetnRise { okRun with checkerOk := false }) held).sup.boot = .failed ∧ (after (.resetnRise { okRun with checkerOk := false }) held).get F.SYS_BOOT_STATUS_STEP = 7) ∧
    (held.dev.firstSlot = none ∧ (held id slot1).dev.firstSlot = some 1 ∧ (held id slot1).dev.slotReason 1 = 0) ∧
    ((held).dev.sup.resetnLow = true ∧ does (.railGood .io okRun) held held.dev = true ∧
      (after (.railGood .io okRun) (held fun q => { q with resetnLow := false, refOk := false })).sup.boot = .waitRef) := by decide +kernel

def starved : State := { up with dev := live (up [(F.POOL_STATUS_VGOOD, 0), (F.LRX_SYN_CTRL_TERM 3, 1), (F.LRX_STATE_RX_STATE 3, 3)]).dev }
theorem wit_safe_state :
    (up.dev.sup.boot ≠ .waitRef ∧ does (.refclkAppear okRun) up ((((up.dev.modSup fun q => { q with refOk := true }).set F.CLK_STATUS_REF_PRESENT 1).set
      F.CLK_STATUS_REF_LOSS 0).set F.CLK_STATUS_HOLDOVER 0) = true) ∧
    ((after (.refclkAppear { okRun with checkerOk := false }) (sup fun q => { q with boot := .waitRef, refOk := false })).sup.boot = .failed ∧
      (after (.refclkAppear { okRun with checkerOk := false }) (sup fun q => { q with boot := .waitRef, refOk := false })).get F.SYS_BOOT_STATUS_FAIL_CODE = 3) ∧
    (up.dev.sup.refOk = true ∧ up.dev.get F.SYS_SAFE_SAFE = 0 ∧ (after .refclkLoss up).get F.SYS_SAFE_SAFE_CAUSE = 3 ∧ (after .refclkLoss up).get F.CLK_STATUS_HOLDOVER = 1 ∧
      (after .refclkLoss up).get (F.LTX_STATUS_SQ_SAFE 7) = 1 ∧ (after .refclkLoss (held)).get F.SYS_SAFE_SAFE = 0) ∧
    (starved.dev.get F.POOL_STATUS_VGOOD = 0 ∧ starved.dev.poolServes = true ∧ (after .vddPoolFault starved).get F.SYS_SAFE_SAFE_CAUSE = 4 ∧
      (after .vddPoolFault starved).get (F.LTX_STATUS_LIVE 7) = 0 ∧ (st []).dev.poolServes = false ∧
      does .vddPoolFault (st []) (st []).dev = true) := by decide +kernel

def dog : State := up [(F.SYS_WDT_CTRL_EN, 1)]
def stopped : State := sup fun q => { q with boot := .failed }
theorem wit_watchdog :
    (does (.wdtKick 0xC35A) dog dog.dev = true) ∧
    ((0xC35B : Word) ≠ 0x0000C35A ∧ dog.dev.wdtRuns = true ∧ dog.dev.sup.due = none ∧ (after (.wdtKick 0xC35B) dog).sup.due = some 3 ∧
      (after (.wdtKick 0xC35B) dog).sup.procRun = false) ∧
    ((after (.watchdogExpiry 0x1234) dog).reg F.SYS_WDT_CAPTURE.addr = 0x1234 ∧ (after (.watchdogExpiry 0x1234) dog).sup.due = some 3) ∧
    (stopped.dev.wdtRuns = false ∧ does (.watchdogExpiry 5) stopped stopped.dev = true ∧ does .wdtHalf stopped stopped.dev = true) ∧
    (does .wdtHalf dog (dog.dev.set F.SYS_INT_STATUS_WDT_HALF 1) = true ∧ does .wdtLock dog (dog.dev.set F.SYS_WDT_CTRL_LOCK 1) = true) := by decide +kernel


/-! ### Witnesses: power, wakes, thermal management -/

def pwr (state trans pend : Nat) (l : List (Fld × Nat) := []) (f : Sup → Sup := id) : State :=
  sup f ([(F.PWR_STATUS_STATE, state), (F.PWR_STATUS_TRANS, trans), (F.PWR_STATUS_PENDING, pend)] ++ l)
theorem wit_power :
    ((pwr 0 1 7).dev.mft.waiting = [] ∧ (pwr 0 1 7).dev.mft.begun = [] ∧ (after (.powerStateRequest 3) (pwr 0 1 7)).get F.PWR_STATUS_PENDING = 3 ∧
      (after (.powerStateRequest 3) (pwr 0 1 7)).get F.PWR_CTRL_STATE_REQ = 3 ∧ (after (.powerStateRequest 3) (pwr 0 1 7)).get F.PWR_STATUS_TRANS = 1) ∧
    ((after (.powerStateRequest 1) (pwr 1 7 2)).get F.PWR_STATUS_PENDING = 7 ∧ (after (.powerStateRequest 1) (pwr 1 7 2)).get F.PWR_STATUS_TRANS = 7 ∧
      (after (.powerStateRequest 1) (pwr 1 7 2)).sup.sleepFor = none) ∧
    ((after (.powerStateRequest 0) (pwr 1 7 7)).get F.PWR_STATUS_TRANS = 0 ∧ (after (.powerStateRequest 2) (pwr 1 7 7)).sup.sleepFor = some 2 ∧
      (after (.powerStateRequest 2) (pwr 1 7 7)).get F.PWR_STATUS_PENDING = 2 ∧
      (after (.wfiSleep true) (pwr 1 7 7 [(F.PWR_CTRL_SLEEP, 1)])).get F.PWR_STATUS_TRANS = 2 ∧ (after (.wfiSleep true) (pwr 1 7 7 [(F.PWR_CTRL_SLEEP, 1)])).sup.procRun = false) ∧
    ((after (.powerStateRequest 1) (pwr 0 7 7)).get F.PWR_STATUS_TRANS = 1 ∧ (after (.powerStateRequest 1) (pwr 0 7 7)).laneHold = true) ∧
    (does (.wfiSleep false) (pwr 1 7 7 [(F.PWR_CTRL_SLEEP, 2)]) ((pwr 1 7 7 [(F.PWR_CTRL_SLEEP, 2)]).dev.set F.PWR_INT_STATUS_SLEEP_REFUSED 1) = true ∧
      does (.wfiSleep true) (pwr 1 7 7) (pwr 1 7 7).dev = true) ∧
    ((pwr 1 7 2 [] fun q => { q with sleepFor := some 2 }).dev.sup.sleepFor = some 2 ∧
      (after .sleepTimeout (pwr 1 7 2 [] fun q => { q with sleepFor := some 2 })).get F.PWR_STATUS_PENDING = 7 ∧ does .sleepTimeout (pwr 1 7 7) (pwr 1 7 7).dev = true) ∧
    ((after .powerTransitionDone (pwr 1 0 7)).get F.PWR_STATUS_STATE = 0 ∧ (after .powerTransitionDone (pwr 1 0 7)).laneHold = false ∧
      (after .powerTransitionDone (pwr 1 0 7)).get F.PWR_INT_STATUS_STATE_DONE = 1) ∧
    ((pwr 0 1 7 [(F.LTX_STATUS_STATE 3, 3)]).dev.standbyReady = false ∧
      does .powerTransitionDone (pwr 0 1 7 [(F.LTX_STATUS_STATE 3, 3)]) (pwr 0 1 7 [(F.LTX_STATUS_STATE 3, 3)]).dev = true) ∧
    ((pwr 1 2 7).dev.get F.MFT_CTRL_ENABLE = 0) := by decide +kernel

def opAt (live goal : Nat) (f : Sup → Sup := id) : State := sup f [(F.PWR_STATUS_STATE, 1), (F.PWR_STATUS_OP_LIVE, live), (F.PWR_CTRL_OP_REQ, goal)]
theorem wit_operating_point :
    ((opAt 0 0).dev.sup.opGoal = none ∧ (opAt 0 0).dev.get F.PWR_STATUS_OP_LIVE < max 2 (max 0 (opAt 0 0).dev.opMin) ∧
      (after (.opReqWrite 2 0) (opAt 0 0)).get F.PWR_STATUS_OP_BUSY = 1 ∧ (after (.opReqWrite 2 0) (opAt 0 0)).sup.opGoal = some 2 ∧
      (after (.opReqWrite 2 0) (opAt 0 0)).get F.PWR_STATUS_OP_LIVE = 0 ∧ (after (.opReqWrite 2 0) (opAt 0 0)).get F.PWR_STATUS_VGOOD_CORE = 0) ∧
    (max 1 (max 0 (opAt 2 2).dev.opMin) < (opAt 2 2).dev.get F.PWR_STATUS_OP_LIVE ∧ (after (.opReqWrite 1 0) (opAt 2 2)).get F.PWR_STATUS_OP_LIVE = 1 ∧
      (after (.opReqWrite 1 0) (opAt 2 2)).get F.PWR_INT_STATUS_OP_DONE = 1) ∧
    ((opAt 0 2 fun q => { q with opGoal := some 2 }).dev.sup.opGoal = some (opAt 0 2).dev.opTarget ∧ (opAt 0 2).dev.mft.commits = [] ∧
      (after .vgoodCore (opAt 0 2 fun q => { q with opGoal := some 2 })).get F.PWR_STATUS_OP_LIVE = 2 ∧
      (after .vgoodCore (opAt 0 2 fun q => { q with opGoal := some 2 })).get F.PWR_INT_STATUS_OP_DONE = 1) := by decide +kernel

def asleep (en : Nat) (l : List (Fld × Nat) := []) (f : Sup → Sup := id) : State := sup f ([(F.PWR_STATUS_STATE, 2), (F.PWR_STATUS_TRANS, 7), (⟨F.PWR_WAKE_EN.addr, 3, 0⟩, en)] ++ l)
def saved1 : Saved :=
  { deep := false, regs := [((F.LTX_DPD_LUT 3 0).addr, 9), ((F.LRX_ADC_TRIM 3 0).addr, 7)], live := [((F.LRX_FFE_CFG_CURSOR 3).addr, 5)], coefs := []
    trims := [], dpd := [] }
theorem wit_wakes :
    ((asleep 1).dev.get F.PWR_STATUS_TRANS = 7 ∧ ((asleep 1).dev.reg F.PWR_WAKE_EN.addr).getLsbD 0 = true ∧ (after .wakenFall (asleep 1)).sup.wakeDue = true ∧
      ((after .wakenFall (asleep 1)).reg F.PWR_WAKE_SRC.addr).getLsbD 0 = true ∧ does .wakenFall (asleep 8) (asleep 8).dev = true) ∧
    ((after .wakeTimer (asleep 8 [(F.PWR_WAKE_TIMER, 5)])).sup.wakeDue = true ∧ ((after .wakeTimer (asleep 8 [(F.PWR_WAKE_TIMER, 5)])).reg F.PWR_WAKE_SRC.addr).getLsbD 3 = true ∧
      does .wakeTimer (asleep 8) (asleep 8).dev = true ∧ does .hostAccessWake (asleep 15) (asleep 15).dev = true) ∧
    ((pwr 3 7 7 [(⟨F.PWR_WAKE_EN.addr, 3, 0⟩, 4)]).dev.get F.PWR_STATUS_STATE = 3 ∧ (after .hostAccessWake (pwr 3 7 7 [(⟨F.PWR_WAKE_EN.addr, 3, 0⟩, 4)])).sup.wakeDue = true) ∧
    (regOn 0x2000C = false ∧ (after (.offBlockWrite 0x2000C 5) (asleep 0)).sup.heldWrites = [(0x2000C, 5)] ∧
      (after (.offBlockWrite 0x2000C 5) (asleep 0)).reg 0x2000C = (asleep 0).dev.reg 0x2000C ∧ does (.offBlockWrite 0x2000C 5) (pwr 1 7 7) (pwr 1 7 7).dev = true) ∧
    (does (.wakeStart { failed := 0, checkerOk := true }) (asleep 1) (asleep 1).dev = true ∧
      (asleep 1 [] fun q => { q with wakeDue := true }).dev.sup.saved = none ∧ (asleep 1).dev.errs = [] ∧ (asleep 1).dev.poisoned = [] ∧
      (after (.wakeStart { failed := 0, checkerOk := true }) (asleep 1 [] fun q => { q with wakeDue := true })).get F.PWR_STATUS_TRANS = 1) ∧
    ((asleep 1 [] fun q => { q with wakeDue := true, saved := some saved1 }).dev.sup.saved = some saved1 ∧ (saved1.regs.map (·.1)).Nodup ∧ (saved1.live.map (·.1)).Nodup ∧
      saved1.regs.map (fun x => regBank x.1) = [6, 5] ∧ saved1.live.map (fun x => regBank x.1) = [4] ∧
      (after (.wakeStart { failed := 32, checkerOk := true }) (asleep 1 [] fun q => { q with wakeDue := true, saved := some saved1 })).liveReg (F.LRX_FFE_CFG_CURSOR 3).addr = 5 ∧
      (after (.wakeStart { failed := 32, checkerOk := true }) (asleep 1 [] fun q => { q with wakeDue := true, saved := some saved1 })).reg (F.LTX_DPD_LUT 3 0).addr = 9 ∧
      ((after (.wakeStart { failed := 32, checkerOk := true }) (asleep 1 [] fun q => { q with wakeDue := true, saved := some saved1 })).reg F.PWR_RETAIN.addr).getLsbD 5 = true ∧
      (after (.wakeStart { failed := 32, checkerOk := true }) (asleep 1 [] fun q => { q with wakeDue := true, saved := some saved1 })).get F.PWR_INT_STATUS_RETAIN_FAIL = 1 ∧
      (after (.wakeStart { failed := 0, checkerOk := true }) (asleep 1 [] fun q => { q with wakeDue := true, saved := some saved1 })).reg (F.LTX_DPD_LUT 3 0).addr = 9) ∧
    (does .retentionReloadDone (st []) (st []).dev = true ∧ (st []).dev.newestCal = none ∧
      (sup (fun q => { q with reload := 1 }) [(F.LTX_STATUS_STATE 3, 0), (F.LTX_STATUS_TRANS 3, 7), (F.LTX_STATUS_PENDING 3, 1)]).dev.sup.reload = 1 ∧
      (after .retentionReloadDone (sup (fun q => { q with reload := 1 }) [(F.LTX_STATUS_STATE 3, 0), (F.LTX_STATUS_TRANS 3, 7), (F.LTX_STATUS_PENDING 3, 1)])).get (F.LTX_STATUS_TRANS 3) = 1) := by
  decide +kernel

def warm : State := st [(F.THM_LIMITS_WARN, 90), (F.THM_LIMITS_THROT, 95)]
theorem wit_thermal_levels :
    (warm.dev.reg F.THM_SUSPECT.addr = 0 ∧ warm.dev.get F.THM_STATUS_SHUTDOWN = 0 ∧ warm.dev.get F.THM_STATUS_THROTTLE = 0 ∧ warm.dev.enf = 0 ∧
      warm.dev.get F.THM_STATUS_WARNING = 0 ∧ warm.dev.warnAt = 90 ∧ warm.dev.throtAt = 95 ∧ warm.dev.shutAt * 256 ≤ 32000 ∧ (32000 : Int) < 2 ^ 19 ∧
      (90 : Int) * 256 ≤ 23040 ∧ (23040 : Int) < warm.dev.throtAt * 256 ∧ warm.dev.throtAt * 256 ≤ 24320 ∧ (24320 : Int) < warm.dev.shutAt * 256) := by decide +kernel
def thm (ord enfMin throt grace : Nat) (e2 : Bool := false) : State :=
  st [(F.THM_STATUS_THROTTLE, throt), (F.THM_STATUS_GRACE_RUN, grace), (F.THM_CTRL_ENF_MIN, enfMin)] fun d => { d with thm := { d.thm with ordered := ord, e2Run := e2 } }
def synced : State := { thm 0 0 1 0 with dev := (thm 0 0 1 0).dev.set (F.PLT_STATUS_SYNC 3) 1 }
theorem wit_enforcement :
    (does .graceExpiry (thm 0 0 1 0) (thm 0 0 1 0).dev = true) ∧
    ((thm 0 0 1 1).dev.get F.THM_STATUS_GRACE_RUN = 1 ∧ (thm 0 0 1 1).dev.get F.THM_STATUS_THROTTLE = 1 ∧ (thm 0 0 1 1).dev.thm.ordered = 0 ∧
      (thm 0 0 1 1).dev.get F.THM_CTRL_ENF_MIN = 0) ∧
    ((thm 1 0 1 0 true).dev.thm.e2Run = true ∧ does .e2DelayExpiry (thm 1 0 1 0) (thm 1 0 1 0).dev = true) ∧
    ((thm 2 0 0 0).dev.thm.ordered ≤ 2 ∧ (thm 2 0 0 0).dev.get F.THM_STATUS_THROTTLE = 0 ∧ does .releaseExpiry (thm 2 0 1 0) (thm 2 0 1 0).dev = true) ∧
    (synced.dev.pilotSync 3 = true ∧ ((after .thermalReportTimer synced).plt.get 3).ctl.map (fun c => (c.cls, c.typ)) = [(1, 3)]) ∧
    does .thermalReportTimer (thm 0 0 0 0) (thm 0 0 0 0).dev = true ∧
    does (.thermal 3 3 2 100 1) (st []) ((st []).dev.set F.THM_INT_STATUS_FAR_THERMAL 1) = true := by decide +kernel

/-! ### Witnesses: memories, self-test, security, rings -/

def mem (errs : List (Nat × List Nat)) (l : List (Fld × Nat) := []) (f : Device → Device := id) : State :=
  st ([(F.MEM_CTRL_SCRUB_EN, 1), (F.PWR_STATUS_STATE, 1)] ++ l) fun d => f { d with errs := errs }
def atRow (m : Fin 49) (k : Nat) : State := mem [] [] fun d => { d with scrubRow := d.scrubRow.set m k }
theorem wit_memories :
    ((mem [] [(F.MEM_CTRL_SCRUB_EN, 0)]).dev.get F.MEM_CTRL_SCRUB_EN = 0 ∧ does (.scrubAccess 0) (mem [] [(F.MEM_CTRL_SCRUB_EN, 0)]) (mem [] [(F.MEM_CTRL_SCRUB_EN, 0)]).dev = true) ∧
    ((mem []).dev.writeBack = [] ∧ (mem []).dev.blockClass 0 = .clean ∧ (after (.scrubAccess 0) (mem [])).scrubRow.get 0 = 1) ∧
    (macroRows 0 = 512 ∧ (atRow 0 511).dev.scrubRow.get 0 = 511 ∧ (atRow 0 511).dev.blockClass 511 = .clean ∧
      (after (.scrubAccess 0) (atRow 0 511)).scrubRow.get 0 = 0 ∧ (after (.scrubAccess 0) (atRow 0 511)).get F.MEM_SCRUB_PASS = 1) ∧
    ((mem [(512, [511])]).dev.poisoned = [] ∧ (mem []).dev.get F.PMU_STATUS_FROZEN = 0 ∧ (after (.scrubAccess 1) (mem [(512, [511])])).errs = [] ∧
      (after (.scrubAccess 1) (mem [(512, [511])])).pair F.MEM_CORR = 1 ∧ (after (.scrubAccess 1) (mem [(512, [511])])).get F.MEM_INT_STATUS_CORR = 1) ∧
    ((mem [] [(F.MEM_UNPOISON_MACRO, 15), (F.MEM_UNPOISON_ROW, 3)]).dev.get F.MEM_UNPOISON_MACRO = 15 ∧
      (after .unpoison (mem [] [(F.MEM_UNPOISON_MACRO, 15), (F.MEM_UNPOISON_ROW, 3)] fun d => { d with poisoned := [512 * 15 + 3] })).poisoned = [] ∧
      does .unpoison (mem [] [(F.MEM_UNPOISON_MACRO, 16)]) (mem [] [(F.MEM_UNPOISON_MACRO, 16)]).dev = true) ∧
    ((after .errorInject (mem [] [(F.MEM_INJECT_MACRO, 15), (F.MEM_INJECT_ROW, 3), (F.MEM_INJECT_WORD, 7), (F.MEM_INJECT_BIT, 63)])).errs = [(512 * 15 + 3, [511])] ∧
      does .errorInject (mem [] [(F.MEM_INJECT_MACRO, 49)]) (mem [] [(F.MEM_INJECT_MACRO, 49)]).dev = true) ∧
    (does (.codeReloadDone true) (st []) (st []).dev = true ∧ (sup fun q => { q with pages := [7800] }).dev.sup.pages = [7800] ∧
      (after (.codeReloadDone false) (sup fun q => { q with pages := [7800] })).get F.MEM_INT_STATUS_RELOAD_FAIL = 1) := by decide +kernel

def eng (job : EngJob) (l : List (Fld × Nat)) : State := st l fun d => d.modEng 63 fun g => { g with job := job }
def due63 (bt : Nat) : State := eng .idle [(F.BIST_CTRL_ENG_EN, 1), (F.PWR_STATUS_STATE, 0), (F.POOL_STATUS_BELOW_TGT, bt), (F.BIST_STATUS_NEXT_ENG, 63)]
theorem wit_bist :
    ((st [(F.BIST_CTRL_ENG_EN, 0)]).dev.get F.BIST_CTRL_ENG_EN = 0 ∧ does .bistSliceStart (st [(F.BIST_CTRL_ENG_EN, 0)]) (st [(F.BIST_CTRL_ENG_EN, 0)]).dev = true) ∧
    (((List.finRange 64).all fun e => !((due63 0).dev.pool.engines.get e).chosen) = true ∧ (due63 0).dev.get F.POOL_STATUS_BELOW_TGT = 0 ∧
      does .bistSliceStart (due63 0) (((due63 0).dev.set F.BIST_STATUS_DEFERRED 1).bump F.BIST_EVENTS_DEFERRED) = true) ∧
    ((due63 1).dev.enf = 0 ∧ (due63 1).dev.nextEngine 63 = some 63 ∧ ((after .bistSliceStart (due63 1)).pool.engines.get 63).job = .slice ∧
      (after .bistSliceStart (due63 1)).get F.BIST_STATUS_SLICE_RUN = 1) ∧
    does (.bistSliceEnd 63 true) (due63 1) (due63 1).dev = true ∧
    ((after (.bistSliceEnd 63 true) (eng .slice [])).get (F.ENG_BIST_PASSES 63) = 1 ∧ (after (.bistSliceEnd 63 false) (eng .slice [])).quarantined 63 = true ∧
      (after (.bistSliceEnd 63 false) (eng .slice [])).quarantined 62 = false ∧ (after (.bistSliceEnd 63 false) (eng .slice [])).get F.POOL_INT_STATUS_QUARANTINE = 1) ∧
    ((st [(F.BIST_CTRL_NR_EN, 1)]).dev.get F.BIST_CTRL_NR_EN = 1 ∧ (after (.nrSubslice .fft .failed) (st [(F.BIST_CTRL_NR_EN, 1)])).get F.SYS_SAFE_SAFE_CAUSE = 2 ∧
      (after (.nrSubslice .fft .failed) (st [(F.BIST_CTRL_NR_EN, 1)])).get F.MEM_INT_STATUS_BIST_FAIL = 1) := by decide +kernel

def sec (f : Sec → Sec) (l : List (Fld × Nat) := []) : State := st l fun d => { d with sec := f d.sec }
theorem wit_keys :
    ((sec fun q => { q with svnRun := 9 }).dev.flash.svn < 9 ∧ does .svnAdv (sec fun q => { q with svnRun := 9 }) ((sec fun q => { q with svnRun := 9 }).dev.set F.SEC_STATUS_SVN_BUSY 1) = true ∧
      (st []).dev.sec.svnRun ≤ (st []).dev.flash.svn ∧ does .svnAdv (st []) (st []).dev = true) ∧
    ((after .svnDone (sec (fun q => { q with svnRun := 9 }) [(F.SEC_STATUS_SVN_BUSY, 1)])).flash.svn = 9 ∧ does .svnDone (st []) (st []).dev = true) ∧
    ((st []).dev.get F.SEC_STATUS_PERMS % 4 = 0 ∧ does .jtagZeroise (st []) (st []).dev = true) ∧
    ((st [(F.SEC_STATUS_PERMS, 2)]).dev.get F.SEC_STATUS_PERMS % 4 = 2 ∧ (st []).dev.get F.SEC_STATUS_ZEROISED = 0 ∧
      (after .jtagZeroise (st [(F.SEC_STATUS_PERMS, 2)])).get F.SEC_STATUS_ZEROISED = 1 ∧ (after .jtagZeroise (st [(F.SEC_STATUS_PERMS, 2)])).get F.SEC_INT_STATUS_ZEROISE = 1) ∧
    does .trngFail (st []) (((st []).dev.set F.SEC_STATUS_TRNG_OK 0).set F.SEC_INT_STATUS_TRNG_FAIL 1) = true ∧
    ((st []).dev.sec.wantNonce = false ∧ (st []).dev.sec.wantChallenge = false ∧ does .trngOk (st []) ((st []).dev.set F.SEC_STATUS_TRNG_OK 1) = true) ∧
    (sec fun q => { q with wantNonce := true }).dev.sec.wantNonce = true ∧
    ((after .oldKeyErase (sec fun q => { q with keys := { q.keys with old := some 5 } })).sec.keys.old = none) := by decide +kernel

def ring (en ci db : Nat) (l : List (Fld × Nat) := []) : State :=
  st ([(F.PWR_STATUS_STATE, 1), (F.PWR_STATUS_TRANS, 7), (F.MFT_CTRL_ENABLE, en), (F.MFT_CMD_CI, ci), (F.MFT_DB, db), (F.MFT_CTRL_CMD_SIZE, 0), (F.MFT_CTRL_CPL_SIZE, 0), (F.MFT_CTRL_EVT_SIZE, 0),
    (F.MFT_CMD_BASE, 0x400), (F.MFT_CPL_BASE, 0x800), (F.MFT_EVT_BASE, 0xC00)] ++ l)
theorem wit_rings :
    ((ring 1 0 0).dev.get F.MFT_CTRL_ENABLE = 1 ∧ does .ringEnable (ring 1 0 0) (ring 1 0 0).dev = true) ∧
    ((ring 0 0 0 [(F.MFT_CPL_BASE, 0x400)]).dev.ringsOk = false ∧ does .ringEnable (ring 0 0 0 [(F.MFT_CPL_BASE, 0x400)]) ((ring 0 0 0 [(F.MFT_CPL_BASE, 0x400)]).dev.set F.MFT_STATUS_CFG_ERR 1) = true) ∧
    ((ring 0 5 6).dev.ringsOk = true ∧ (ring 0 5 6).dev.mft.held = [] ∧ (ring 0 5 6).dev.get F.MFT_STATUS_DRAINING = 0 ∧ (after .ringEnable (ring 0 5 6)).get F.MFT_CMD_CI = 0 ∧
      (after .ringEnable (ring 0 5 6)).get F.MFT_CPL_PI_PHASE = 1 ∧ (after .ringEnable (ring 0 5 6)).mft.evtPhase = true) ∧
    ((ring 1 0 0).dev.ringStarted = 0 ∧ (after .ringDisable (ring 1 0 0)).get F.MFT_CTRL_ENABLE = 0 ∧ (after .ringDisable (ring 1 0 0)).get F.MFT_STATUS_RUNNING = 0 ∧
      does .ringDisable (ring 0 0 0) (ring 0 0 0).dev = true) ∧
    (does .drainComplete (ring 0 0 0 [(F.MFT_STATUS_DRAINING, 1), (F.MFT_STATUS_RUNNING, 1)])
      (((ring 0 0 0 [(F.MFT_STATUS_DRAINING, 1), (F.MFT_STATUS_RUNNING, 1)]).dev.set F.MFT_STATUS_DRAINING 0).set F.MFT_STATUS_RUNNING 0) = true) ∧
    (does (.doorbell 1) (ring 0 0 0) ((ring 0 0 0).dev.set F.MFT_INT_STATUS_DB_ERR 1) = true ∧ (ring 1 0 0).dev.cmdSize ≤ 255 ∧
      (after (.doorbell 255) (ring 1 0 0)).get F.MFT_INT_STATUS_DB_ERR = 1 ∧ ((ring 1 0 0).dev.cmdSize - 1) % 256 + 1 = (ring 1 0 0).dev.cmdSize ∧
      (after (.doorbell (BitVec.ofNat 8 ((ring 1 0 0).dev.cmdSize - 1))) (ring 1 0 0)).get F.MFT_DB = (ring 1 0 0).dev.cmdSize - 1) ∧
    ((after (.completionConsumed 7) (ring 1 0 0)).get F.MFT_CPL_CI = 7 ∧ (0 : BitVec 7).toNat = (ring 1 0 0).dev.get F.MFT_EVT_PI_IDX ∧ 0 < (ring 1 0 0).dev.evtSize ∧
      (after (.eventConsumed 0) (ring 1 0 0)).get F.MFT_EVT_CI = 0 ∧ (after (.eventConsumed 0) (ring 1 0 0)).evtFull = false) := by decide +kernel


/-! ### Witnesses: fabric -/

def fb (l : List (Fld × Nat) := []) (f : Device → Device := id) : State :=
  st ([(F.FAB_STATUS_RUN, 1), (F.FAB_STATUS_ADDR_VALID, 1), (F.FAB_ADDR_ADDR, 0x42), (F.HWS_CTRL_HWS_EN 1, 1), (F.HWS_CTRL_LOOP 1, 0)] ++ l) fun d =>
    f ((d.modHws 1 fun h => { h with sync := true }).modFab fun b => { b with nonce := 5 })
def onLink (b : FabBody) : FabMsg := { msg b with tagKey := some 0, seq := 9 }
def uni (b : FabBody) : FabMsg := { msg b with link := false, noAddr := false, dst := 0x42, src := 0x43, srcId := 6, dnonce := 5, rid := 3, seq := 70, tagKey := some 0 }
def accepted (s : State) (i : Link) (m : FabMsg) : Device := if m.link then (s.dev.trustLink i m).1 else (s.dev.trustUni m).1
def receives (s : State) (i : Link) (m : FabMsg) : Bool :=
  s.dev.fabUp && s.dev.linkUp i && (if m.link then (s.dev.trustLink i m).2 else !m.flood && s.dev.ownAddr == some m.dst && (s.dev.trustUni m).2)
/-- What `receives` says is that the message is received. -/
theorem wit_received (s : State) (i : Link) (m : FabMsg) (h : receives s i m = true) : s.dev.Received i m (accepted s i m) := by
  unfold receives at h
  unfold accepted Device.Received
  cases hl : m.link <;> simp_all [Prod.ext_iff]
def rt (level number link : Nat) (id : BitVec 64 := 9) : RouteIn :=
  { entry := { level := level, withdraw := false, number := number, metric := 1, ident := id, lac := 0, count := 1, path := [] }, link := link, at_ := 0 }
def routed (l : List RouteIn) (g : Device → Device := id) : State := fb [] fun d => g (d.modFab fun b => { b with routes := l })

theorem wit_fabric_links :
    ((fb.dev.hws.get 1).sync = true ∧ fb.dev.get (F.HWS_CTRL_HWS_EN 1) = 1 ∧ fb.dev.get F.PWR_STATUS_STATE ≠ 3 ∧
      (after (.hawserFrame 1 (.ctl 0xFB) (hawserBody [1, 2, 3]) (.ctl 0xFD)) fb).pair (F.HWS_FRM_RX 1) = 1 ∧
      does (.hawserFrame 1 (.ctl 0xFB) [.data 1] (.ctl 0xFD)) fb ((fb.dev.bump (F.HWS_ERR_CRC_ERR 1)).set (F.HWS_INT_STATUS_CRC_ERR 1) 1) = true ∧
      (after (.hawserFrame 1 (.ctl 0xFB) (hawserBody [1]) .invalid) fb).get (F.HWS_ERR_CODE 1) = 1) ∧
    ((fb.dev.hws.get 0).sync = false ∧ does (.hawserFrame 0 (.ctl 0xFB) (hawserBody []) (.ctl 0xFD)) fb fb.dev = true) ∧
    ((fb [(F.HWS_CTRL_HWS_EN 0, 0)]).dev.get (F.HWS_CTRL_HWS_EN 0) = 0 ∧ (after (.hawserSyncAcquired 0) (fb [(F.HWS_CTRL_HWS_EN 0, 0)])).get (F.HWS_INT_STATUS_LINK_UP 0) = 0 ∧
      (after (.hawserSyncAcquired 0) (fb [(F.HWS_CTRL_HWS_EN 0, 0)])).get (F.HWS_STATUS_SYNC 0) = 1) ∧
    ((fb [(F.HWS_CTRL_HWS_EN 0, 1)]).dev.get (F.HWS_CTRL_LOOP 0) = 0 ∧ (after (.hawserSyncAcquired 0) (fb [(F.HWS_CTRL_HWS_EN 0, 1)])).get (F.HWS_INT_STATUS_LINK_UP 0) = 1) ∧
    ((fb.dev.fab.links.get 9).adj = none ∧ (after (.hawserSyncLost 1) fb).get (F.HWS_INT_STATUS_LINK_DOWN 1) = 1 ∧ fb.dev.get F.PWR_STATUS_STATE ≠ 2 ∧
      ((routed [rt 0 3 9] fun d => d.modLink 9 fun x => { x with adj := some 5 }).dev.fab.links.get 9).adj = some 5) ∧
    (fb.dev.fabUp = true ∧ fb.dev.linkUp 9 = true ∧ does (.messageForward 9 (onLink (.recordAck 0))) fb fb.dev = true) ∧
    ((fb [] fun d => d.modFab fun b => { b with floods := [(6, 70)] }).dev.fab.floods.contains (6, 70) = true) ∧
    ((routed [rt 0 4 12]).dev.ownAddr = some 0x42 ∧ (routed [rt 0 4 12]).dev.hop 0x44 = some (rt 0 4 12) ∧
      (((after (.messageForward 9 { uni (.recordAck 1) with dst := 0x44, hops := 31 }) (routed [rt 0 4 12])).hws.get 4).txq.map fun x => x.hops) = [32] ∧
      (after (.messageForward 9 { uni (.recordAck 1) with dst := 0x44, hops := 32, noAddr := true }) (routed [rt 0 4 12])).get F.FAB_ERR_B_HOP_LIMIT = 1) ∧
    ((fb.dev.acceptKeys.contains 7) = false ∧ (after (.ack 9 { uni (.ack 1) with tagKey := some 7 }) fb).get F.FAB_ERR_A_TAG_FAIL = 1 ∧
      (after (.ack 9 { uni (.ack 1) with tagKey := some 7 }) fb).get F.FAB_INT_STATUS_TAG_FAIL = 1) ∧
    (fb.dev.acceptKeys.contains 0 = true ∧ fb.dev.fab.nonce = 5 ∧
      (fb [] fun d => d.modFab fun b => { b with replay := [(6, 134, 1)] }).dev.fab.replay.find? (fun p => p.1 == 6) = some (6, 134, 1) ∧
      (after (.ack 9 (uni (.ack 1))) (fb [] fun d => d.modFab fun b => { b with replay := [(6, 134, 1)] })).get F.FAB_ERR_A_REPLAY = 1) ∧
    (receives fb 9 (onLink (.recordAck 1)) = true ∧ receives fb 9 (uni (.recordAck 1)) = true) := by decide +kernel

def beaconOf (heard : BitVec 64) : FabMsg := onLink (.beacon heard 1 2 0 0)
def adj (who : BitVec 64) : State := fb [] fun d => d.modLink 9 fun x => { x with adj := some who }
theorem wit_beacon_own : receives fb 9 (beaconOf Config.identity) = true ∧ (0 : Nat) ≤ fb.dev.get F.FAB_EPOCH := ⟨rfl, Nat.zero_le _⟩
theorem wit_not_own : Config.identity + 1 ≠ Config.identity := by
  intro h
  have h1 := congrArg BitVec.toNat h
  rw [BitVec.toNat_add] at h1
  have h2 := Config.identity.isLt
  simp at h1
  omega
def routeMsg (w : Bool) (number : Nat) : FabMsg := onLink (.route [{ (rt 0 number 9).entry with withdraw := w }])
theorem wit_routes :
    ((fb.dev.fab.links.get 9).adj = none ∧ ((adj 5).dev.fab.links.get 9).adj = some (beaconOf 1).srcId ∧ receives (adj 5) 9 (beaconOf 1) = true) ∧
    (receives fb 9 (routeMsg false 63) = true ∧ fb.dev.ownAddr = some 0x42 ∧ (63 : Nat) ≠ aDevice 0x42 ∧ fb.dev.routeCount 0 < 64 ∧ receives (routed [rt 0 4 9, rt 0 4 10, rt 0 5 9]) 9 (routeMsg true 4) = true ∧ (4 : Nat) ≠ aDevice 0x42) ∧
    (up.dev.sup.boot = .running ∧ up.dev.get F.PWR_STATUS_STATE ≠ 3 ∧ (up [(F.FAB_CFG_FAB_EN, 1)]).dev.get F.FAB_CFG_FAB_EN = 1 ∧
      (after .beaconTimer (up [(F.FAB_CFG_FAB_EN, 0), (F.FAB_STATUS_RUN, 1)])).get F.FAB_STATUS_RUN = 0 ∧ does .beaconTimer (st []) (st []).dev = true) ∧
    (does (.adjacencyTimeout 9) fb fb.dev = true ∧ ((adj 5).dev.fab.links.get 9).adj ≠ none) ∧
    (((after .routeTimer (routed [rt 0 4 9])).fab.links.get 12).dirty.contains (0, 4) = true ∧ (after .routeTimer (routed [rt 0 4 9])).fab.routes = [rt 0 4 9]) ∧
    (does (.routeExpiry 0 5) (routed [rt 0 4 9]) (routed [rt 0 4 9]).dev = true ∧
      ((routed [rt 0 4 9, rt 1 4 9]).dev.fab.routes.filter fun x => x.entry.level == 0 && x.entry.number == 4) = [rt 0 4 9]) := by decide +kernel

def rec0 : IslandRec := { epoch := 7, realm := 1, island := 2, hours := 0, entries := [{ identity := 9, cluster := 0, device := 1, seen := 0 }] }
def kept (r : Option IslandRec) (l : List (Fld × Nat) := []) (g : Fab → Fab := id) : State :=
  fb l fun d => { d with flash := { d.flash with record := r } }.modFab g
def master (auth : Nat) : State := kept (some rec0) [(F.FAB_STATUS_HM, 1), (F.FAB_STATUS_AUTH, auth)]
def asksPort : State := fb [(F.FAB_STATUS_ADDR_VALID, 0)] fun d => d.modLink 9 fun x => { x with adj := some 5, flags := 1 }
def announce (epoch island realm : Nat) (auth : Bool) : FabMsg := uni (.hmAnnounce epoch 1 1 0 9 island realm auth)
theorem lowest_one (x : BitVec 64) : lowest [x] = x := by
  unfold lowest
  by_cases h : x = 0
  · simp [h]
  · rw [List.filter_cons_of_pos (by simpa using h)]
    simp
theorem wit_cluster_low : fb.dev.clusterLow = Config.identity := lowest_one _
theorem wit_island_lac : (fb [(F.FAB_CFG_HM_CAP, 1)] fun d => { d with sec := { d.sec with keys := { d.sec.keys with key := some (1, 0) } } }).dev.islandLac =
    Config.identity := (lowest_one _).trans (lowest_one _)
theorem wit_roles :
    ((fb [(F.FAB_STATUS_QM, 1)]).dev.get F.FAB_STATUS_QM = 1 ∧ fb.dev.get F.FAB_STATUS_QM = 0) ∧
    (fb.dev.capable = false ∧ does .harbourMasterDeclare fb fb.dev = true) ∧
    ((fb [(F.FAB_CFG_HM_CAP, 1)] fun d => { d with sec := { d.sec with keys := { d.sec.keys with key := some (1, 0) } } }).dev.capable = true ∧
      fb.dev.get F.FAB_STATUS_HM = 0 ∧ fb.dev.flash.record = none ∧ fb.dev.get F.FAB_STATUS_HM_KNOWN = 0) ∧
    (does .hmAnnounceTimer fb fb.dev = true ∧ does .hoursAdvance fb fb.dev = true) ∧
    ((master 1).dev.get F.FAB_STATUS_PULLING = 0 ∧ (master 1).dev.flash.record = some rec0 ∧ (master 1).dev.fab.requests = [] ∧
      rec0.entries.length < 2 * (master 1).dev.reachedCount) ∧
    ((after .authorityLapse (fb [(F.FAB_STATUS_HM_KNOWN, 1)])).get F.FAB_STATUS_HM_KNOWN = 1 ∧
      (after .authorityLapse (fb [(F.FAB_STATUS_HM_KNOWN, 1)] fun d => { d with now := 3000000000 })).get F.FAB_STATUS_HM_KNOWN = 0) ∧
    (does (.islandSet 0x10203) fb ((fb.dev.set F.FAB_ISL_ISL_DEFAULT 2).set F.FAB_ISL_ISL_SET 3) = true ∧
      does (.islandSet 0x00203) (master 1) (((master 1).dev.set F.FAB_ISL_ISL_DEFAULT 2).set F.FAB_ISL_ISL_SET 3) = true) ∧
    ((master 0).dev.get F.FAB_STATUS_AUTH = 0 ∧ ((after .hoursAdvance (master 0)).fab.requests.map fun q => q.kind) = [2] ∧
      ((after (.islandSet 0x10203) (master 0)).fab.requests.map fun q => (q.kind, q.who)) = [(4, 3)] ∧
      receives (master 0) 9 (onLink (.addrReq 33 none 1)) = true ∧ ((after (.addrReq 9 (onLink (.addrReq 33 none 1))) (master 0)).fab.requests.map fun q => (q.kind, q.who)) = [(1, 33)]) ∧
    (does .addrReqRetry (st []) (st []).dev = true) ∧
    (asksPort.dev.ownAddr = none ∧ asksPort.dev.fabUp = true ∧ asksPort.dev.flash.record = none ∧
      (fabLinks.filter fun i => !isPilot i && (asksPort.dev.fab.links.get i).adj.isSome && (asksPort.dev.fab.links.get i).flags.getLsbD 0 && asksPort.dev.linkUp i) = [9] ∧
      ((after .addrReqRetry asksPort).hws.get 1).txq.length = 1) ∧
    (receives (kept none) 9 (announce 0 2 1 true) = true ∧ (after (.hmAnnounce 9 (announce 0 2 1 true)) (kept none)).get F.FAB_STATUS_HM_KNOWN = 1) ∧
    (receives (kept (some rec0)) 9 (announce 0 3 1 true) = true ∧ rec0.island ≠ 3 ∧ (kept (some rec0)).dev.fab.stored = none) ∧
    (receives (kept (some rec0) [(F.FAB_EPOCH, 7)]) 9 (announce 7 2 1 true) = true ∧
      (after (.hmAnnounce 9 (announce 7 2 1 true)) (kept (some rec0) [(F.FAB_EPOCH, 7)])).get F.FAB_STATUS_AUTH = 1) := by decide +kernel

def delta (epoch : Nat) (full : Bool) : FabMsg := uni (.record epoch full none none none [])
def prop0 : Proposal := { next := { rec0 with epoch := 8 }, acks := [], req := { who := 1, persisted := none, kind := 1, cluster := 0, back := 9 } }
def wide : IslandRec := { rec0 with entries := (List.range 4).map fun k => { identity := BitVec.ofNat 64 (6 + k), cluster := 0, device := k, seen := 0 } }
theorem wit_grant : receives fb 9 (onLink (.addrGrant Config.identity 0x99 1)) = true := rfl
theorem wit_island_record :
    (((fb.dev.fab.relays.all fun r => r.1 != Config.identity + 1) = true) ∧ fb.dev.fab.relays = []) ∧
    (receives (kept (some rec0)) 9 (delta 8 false) = true ∧ (kept (some rec0)).dev.flash.record = some rec0 ∧
      ((after (.record 9 (delta 8 false)) (kept (some rec0))).fab.stored.map fun r => r.epoch) = some 8 ∧
      (after (.record 9 (delta 9 false)) (kept (some rec0))).fab.stored = none) ∧
    (receives (kept (some rec0)) 9 (delta 9 true) = true ∧ (kept (some rec0)).dev.get F.FAB_STATUS_PULLING = 0 ∧
      receives (kept (some rec0) [(F.FAB_STATUS_PULLING, 1), (F.FAB_EPOCH, 7)]) 9 (delta 9 true) = true ∧
      (after (.record 9 (delta 9 true)) (kept (some rec0) [(F.FAB_STATUS_PULLING, 1), (F.FAB_EPOCH, 7)])).get F.FAB_STATUS_PULLING = 0 ∧
      ((after (.record 9 (delta 9 true)) (kept (some rec0) [(F.FAB_STATUS_PULLING, 1), (F.FAB_EPOCH, 7)])).flash.record.map fun r => r.epoch) = some 9) ∧
    (receives (kept (some wide) [] fun b => { b with proposal := some prop0 }) 9 (uni (.recordAck 8)) = true ∧ enough wide ([] ++ [6]) = false ∧ enough rec0 ([] ++ [9]) = true ∧
      ((after (.recordAck 9 (uni (.recordAck 8))) (kept (some wide) [] fun b => { b with proposal := some prop0 })).fab.proposal.map fun p => p.acks) = some [6] ∧
      receives (kept (some rec0) [] fun b => { b with proposal := some prop0 }) 9 { uni (.recordAck 8) with srcId := 9 } = true) ∧
    (receives (kept (some rec0)) 9 (uni (.recordPull 7)) = true ∧ rec0.epoch ≤ 7 ∧
      receives (kept (some rec0) [] fun b => { b with routes := [rt 0 3 12] }) 9 (uni (.recordPull 6)) = true ∧
      (kept (some rec0) [] fun b => { b with routes := [rt 0 3 12] }).dev.hop 0x43 = some (rt 0 3 12) ∧
      ((after (.recordPull 9 (uni (.recordPull 6))) (kept (some rec0) [] fun b => { b with routes := [rt 0 3 12] })).hws.get 4).txq.length = 1) ∧
    (does .proposalTimeout fb fb.dev = true ∧ (after .proposalTimeout (kept (some rec0) [] fun b => { b with proposal := some prop0 })).fab.proposal = none ∧
      prop0.req.kind ≠ 3) := by decide +kernel


/-! ### Witnesses: manifests from the fabric and remote ones -/

/-- A descriptor with its CRC. -/
def desc (op w2 w3 : Nat) (w4 w5 : Nat := 0) (w1 : Nat := 0) (seq : Nat := 0) : Desc :=
  let c : Desc := { w0 := BitVec.ofNat 32 op, w1 := BitVec.ofNat 32 w1, w2 := BitVec.ofNat 32 w2, w3 := BitVec.ofNat 32 w3, w4 := BitVec.ofNat 32 w4,
                    w5 := BitVec.ofNat 32 w5, w6 := 0, w7 := BitVec.ofNat 32 (seq * 2 ^ 16) }
  { c with w7 := c.w7 ||| BitVec.ofNat 32 (crc16 (c.bytes.take 28)) }
def ident : Desc := desc 3 0 0
def regw : Desc := desc 9 0 0x1C 5 0xF
def fmsg (c : Desc) : FabMsg := uni (.manifest c 0 (crc32 []))
def fman (c : Desc) (buf : Nat) : Manifest := { desc := c, origin := .fabric 0x43 6 3 9, buf := buf }
def far (classes : Nat) (proc : Bool) (g : Fab → Fab := id) : State := fb [(F.FAB_ACL_DEF, classes)] fun d =>
  (live (d.modSup fun q => { q with procRun := proc, boot := .running })).modFab g
def pair (taken : Bool) (input : List Byte := []) (out : Option (List Byte) := none) : Served :=
  { srcId := 6, src := 0x43, rid := 3, link := 9, input := input, taken := taken, entry := none, out := out, area := (0, 0), seq := 0, held := false }
def holds (p : Served) (l : List RouteIn := []) : State := far 7 true fun b => { b with served := [p], routes := l }
theorem wit_served :
    (receives (holds (pair true)) 9 (fmsg regw) = true ∧ (accepted (holds (pair true)) 9 (fmsg regw)).pairOf 6 3 = some (pair true)) ∧
    (receives (far 7 false) 9 (fmsg ident) = true ∧ (accepted (far 7 false) 9 (fmsg ident)).pairOf 6 3 = none ∧ ident.check none = none ∧ ident.opcode = 3 ∧
      (accepted (far 7 false) 9 (fmsg ident)).authorised (fmsg ident) ident = true) ∧
    (receives (far 7 true) 9 (fmsg regw) = true ∧ regw.check none = none ∧ 3 < regw.opcode ∧ (accepted (far 7 true) 9 (fmsg regw)).sup.procRun = true ∧ regw.buffer = none ∧
      (accepted (far 7 true) 9 (fmsg regw)).authorised (fmsg regw) regw = true ∧ (accepted (far 7 true) 9 (fmsg regw)).fab.served = [] ∧
      ((after (.manifestMessage 9 (fmsg regw)) (far 7 true)).mft.fabricQueue.map fun m => (m.origin, m.buf)) = [(.fabric 0x43 6 3 9, 0x30000)]) ∧
    (receives (far 1 true) 9 (fmsg regw) = true ∧ (accepted (far 1 true) 9 (fmsg regw)).authorised (fmsg regw) regw = false ∧
      (after (.manifestMessage 9 (fmsg regw)) (far 1 true)).get F.FAB_ERR_D_NOT_AUTH = 1 ∧
      ((after (.manifestMessage 9 (fmsg regw)) (far 1 true)).mft.done.map fun x => x.status) = [stNotAuthorised]) ∧
    (receives (far 7 true) 9 (uni (.data false 0 [1, 2])) = true ∧ ((after (.dataMessage 9 (uni (.data false 0 [1, 2]))) (far 7 true)).pairOf 6 3).map (fun p => p.input) = some [1, 2] ∧
      ((after (.dataMessage 9 (uni (.data false 4 [1, 2]))) (far 7 true)).pairOf 6 3).map (fun p => p.input) = some []) ∧
    (receives (holds (pair false [7])) 9 (uni (.data false 1 [1, 2])) = true ∧
      ((after (.dataMessage 9 (uni (.data false 1 [1, 2]))) (holds (pair false [7]))).pairOf 6 3).map (fun p => p.input) = some [7, 1, 2]) ∧
    (receives (holds (pair true [] (some [5])) [rt 0 3 12]) 9 (uni (.resend true 0)) = true ∧ (holds (pair true [] (some [5])) [rt 0 3 12]).dev.hop 0x43 = some (rt 0 3 12) ∧
      (accepted (holds (pair true [] (some [5])) [rt 0 3 12]) 9 (uni (.resend true 0))).fab.served.find? (fun x => x.src == 0x43 && x.out.isSome && x.rid == 3) = some (pair true [] (some [5])) ∧
      ((after (.resend 9 (uni (.resend true 0))) (holds (pair true [] (some [5])) [rt 0 3 12])).hws.get 4).txq.map (fun x => x.body) = [.data true 0 [5]]) ∧
    (receives (holds (pair true [] (some [5]))) 9 (uni (.ack 1)) = true ∧ ((after (.ack 9 (uni (.ack 1))) (holds (pair true [] (some [5])))).pairOf 6 3).map (fun p => p.out) = some none) ∧
    (does .outputReleaseTimeout (holds (pair true)) (holds (pair true)).dev = true ∧ (holds (pair true [] (some [5]))).dev.fab.served = [pair true [] (some [5])] ∧
      ((after .outputReleaseTimeout (holds (pair true [] (some [5])))).fab.served.map fun p => p.out) = [none]) ∧
    ((after (.ridExpiry 6 3) (holds (pair true))).fab.served = [pair true] ∧ (after (.ridExpiry 6 3) (holds { pair true with entry := some (0, 0, 0, 0) })).fab.served = []) := by
  decide +kernel

def remote (target : Nat) (rid : Nat) (held : Bool) : Remote :=
  { rid := rid, man := { desc := desc 8 0 4 0xFFFFFFFF 0 target, origin := .ring 2, buf := 0 }, held := held, seq := 20, entry := none, out := [] }
def owes (l : List Remote) (rts : List RouteIn := []) (nonces : List (Nat × Word) := []) : State := far 7 true fun b => { b with remotes := l, routes := rts, nonces := nonces }
def okEntry : Word := 0x00000000
theorem wit_remote :
    (receives (owes []) 9 (uni (.completion 0 0 0 0)) = true ∧ (accepted (owes []) 9 (uni (.completion 0 0 0 0))).remoteOf 3 0x43 = none ∧
      (after (.completionMessage 9 (uni (.completion 0 0 0 0))) (owes [])).get F.MFT_REMOTE_LATE = 1) ∧
    (receives (owes [remote 0x43 3 false]) 9 (uni (.completion 0x0A000000 7 8 0)) = true ∧
      (accepted (owes [remote 0x43 3 false]) 9 (uni (.completion 0x0A000000 7 8 0))).remoteOf 3 0x43 = some (remote 0x43 3 false) ∧
      outputLen (remote 0x43 3 false).man.desc.opcode (bitsOf (0x0A000000 : Word) 31 24) 7 = 0 ∧
      ((after (.completionMessage 9 (uni (.completion 0x0A000000 7 8 0))) (owes [remote 0x43 3 false])).mft.done.map fun x => (x.status, x.r0, x.r1, x.far)) = [(0x0A, 7, 8, true)] ∧
      (after (.completionMessage 9 (uni (.completion 0x0A000000 7 8 0))) (owes [remote 0x43 3 false])).fab.remotes = []) ∧
    (receives (owes [remote 0x43 3 false]) 9 (uni (.data true 0 [1])) = true ∧
      ((after (.dataMessage 9 (uni (.data true 0 [1]))) (owes [remote 0x43 3 false])).remoteOf 3 0x43).map (fun r => r.out) = some [1] ∧
      ((after (.dataMessage 9 (uni (.data true 5 [1]))) (owes [remote 0x43 3 false])).remoteOf 3 0x43).map (fun r => r.out) = some []) ∧
    (receives (owes []) 9 (uni (.nonce 77 4)) = true ∧ (after (.nonce 9 (uni (.nonce 77 4))) (owes [])).nonceOf 0x43 = some 77 ∧
      receives (owes [] [] [(0x43, 5)]) 9 (uni (.nonce 77 4)) = true ∧ (after (.nonce 9 (uni (.nonce 77 4))) (owes [] [] [(0x43, 5)])).nonceOf 0x43 = some 5) ∧
    (receives (owes [remote 0x43 3 true]) 9 (uni (.nonce 77 20)) = true ∧
      (accepted (owes [remote 0x43 3 true]) 9 (uni (.nonce 77 20))).fab.remotes.find? (fun x => x.man.desc.target == 0x43 && x.seq == 20) = some (remote 0x43 3 true) ∧
      (after (.nonce 9 (uni (.nonce 77 20))) (owes [remote 0x43 3 true] [] [(0x43, 5)])).nonceOf 0x43 = none ∧
      (after (.nonce 9 (uni (.nonce 77 20))) (owes [remote 0x43 3 false] [rt 0 3 12])).nonceOf 0x43 = some 77 ∧ (remote 0x43 3 false).man.desc.buffer = none) ∧
    (does (.manifestResend 4) (owes [remote 0x43 3 false]) (owes [remote 0x43 3 false]).dev = true ∧ does (.remoteTimeout 4) (owes [remote 0x43 3 false]) (owes [remote 0x43 3 false]).dev = true ∧
      ((after (.remoteTimeout 3) (owes [remote 0x43 3 false])).mft.done.map fun x => x.status) = [stRemoteTimeout] ∧
      (owes [remote 0x43 3 false] [rt 0 3 12]).dev.hop 0x43 = some (rt 0 3 12) ∧
      ((after (.manifestResend 3) (owes [remote 0x43 3 false] [rt 0 3 12])).hws.get 4).txq.length = 1) ∧
    (receives (owes [remote 0x44 3 false]) 9 (uni (.unreach 0x45 0)) = true ∧ receives (owes [remote 0x44 3 false, remote 0x45 4 false]) 9 (uni (.unreach 0x44 0)) = true ∧
      ((after (.unreach 9 (uni (.unreach 0x44 0))) (owes [remote 0x44 3 false, remote 0x45 4 false])).fab.remotes.map fun r => r.rid) = [4] ∧
      ((after (.unreach 9 (uni (.unreach 0x44 0))) (owes [remote 0x44 3 false, remote 0x45 4 false])).mft.done.map fun x => x.status) = [stUnreachable]) := by decide +kernel

/-! ### Witnesses: registers, ports, manifests -/

/-- Accesses narrower than a word, and one in U-mode. -/
theorem wit_narrow_access :
    (userAccess .procM8 = false ∧ accessBytes .procM8 ≠ 4 ∧ accessBytes .procM16 ≠ 4 ∧ inWindow 4 = false ∧
      does (.registerWrite .procM8 4 1) (st []) ((st []).dev.busError 0 true 2 4) = true ∧
      does (.registerWrite .procM16 4 1) (st []) ((st []).dev.busError 0 true 2 4) = true) ∧
    (userAccess .procU8 = true ∧ does (.registerWrite .procU8 4 0) (st []) ((st []).dev.busError 1 true 3 4) = true) ∧
    (userAccess .spi = false ∧ accessBytes .spi = 4) := by decide +kernel
def locked1 : State := st [(F.SYS_WDT_CTRL_LOCK, 1)]
def liveAt (a : Word) : State := st [] fun d => d.modBank .jtag fun b => { b with live := a }
theorem wit_register_access :
    (locked1.dev.get F.SYS_WDT_CTRL_LOCK = 1 ∧ (after (.registerWrite .spi 0x0000C 0) locked1).reg 0x0000C = locked1.dev.reg 0x0000C) ∧
    ((st []).dev.userMay true 4 0 = false ∧ does (.registerWrite .procU 4 0) (st []) ((st []).dev.busError 1 true 3 4) = true) ∧
    (Requester.spi ≠ .procU ∧ does (.registerWrite .spi 5 0) (st []) ((st []).dev.busError (reqCode .spi) true 2 5) = true ∧ (findRow 0x7FFFC).isNone = true ∧
      does (.registerWrite .spi 0x7FFFC 0) (st []) ((st []).dev.busError (reqCode .spi) true 1 0x7FFFC) = true ∧
      does (.registerWrite .manifestLocal 0x80000 0) (st []) ((st []).dev.busError (reqCode .manifestLocal) true 5 0x80000) = true ∧
      does (.registerWrite .spi 0x00018 1) (st [(F.SYS_INT_STATUS_WDT_HALF, 1)]) ((st [(F.SYS_INT_STATUS_WDT_HALF, 1)]).dev.set F.SYS_INT_STATUS_WDT_HALF 0) = true ∧
      (after (.registerWrite .jtag 0x0001C 0xFF) (st [])).reg 0x0001C = 0xF) ∧
    (((after (.sysLiveAddrWrite .jtag 0xFFFFFFFF) (st [])).bankAt .jtag).live = 0xFFFFC) ∧
    ((match findRow (F.PMU_CNT 0).addr with | some (r, _) => r.pair | none => false) = true ∧ (F.PMU_CNT 0).addr + 4 ≠ F.SYS_LIVE_ADDR.addr ∧
      ((after (.counterLowRead .spi (BitVec.ofNat 20 (F.PMU_CNT 0).addr)) (st [(F.PMU_CNT 0, 9)])).bankAt .spi).out = [9]) ∧
    ((findRow ((liveAt 0x4).dev.bankAt .jtag).live.toNat).isSome = true ∧ ((after (.liveDataRead .jtag) (liveAt 0x4)).bankAt .jtag).out.length = 1 ∧
      (findRow ((liveAt 0x7FFFC).dev.bankAt .jtag).live.toNat).isNone = true ∧ ((after (.liveDataRead .jtag) (liveAt 0x7FFFC)).bankAt .jtag).out = [0]) ∧
    (((after (.monResRead .spi 23) (st [(F.MON_INFO_COUNT 23, 7)])).bankAt .spi).info = some (23, (st [(F.MON_INFO_COUNT 23, 7)]).dev.reg (F.MON_INFO 23).addr)) := by decide +kernel

def host (pst : Nat) (l : List (Fld × Nat) := []) (f : Sup → Sup := id) : State :=
  sup (fun q => f { q with boot := .running, procRun := true, aonGood := true }) ([(F.PWR_STATUS_STATE, pst), (F.PWR_STATUS_TRANS, 7)] ++ l)
theorem wit_host_ports :
    ((st []).dev.served = false ∧ does (.spiWrite 4 [1]) (st []) (st []).dev = true ∧ does (.spiRead 4 2) (st []) (st []).dev = true) ∧
    ((host 1).dev.served = true ∧ does (.spiWrite 5 [1]) (host 1) ((host 1).dev.busError 2 true 2 5) = true ∧
      ((after (.spiRead 5 2) (host 1)).bankAt .spi).out = [0xFFFFFFFF, 0xFFFFFFFF] ∧ does (.spiWrite 0xFFFFF [1]) (host 1) ((host 1).dev.busError 2 true 2 0xFFFFF) = true) ∧
    ((after (.spiWrite 0x0001C [3]) (host 1)).reg 0x0001C = 3 ∧ ((after (.spiRead 0xFFFFC 1) (host 1)).bankAt .spi).out.length = 1) ∧
    ((host 1).dev.errs = [] ∧ (host 1).dev.poisoned = [] ∧ (after (.cmisWindowAccess 7 255 127 (some 0x5A)) (host 1)).byte (windowAddr (pageOffset 7 255 127)) = 0x5A) ∧
    ((host 1).dev.heldUp = false ∧ (after (.registerPortWrite 3 9) (host 1)).mft.b8Status = 0x80 ∧ (after (.registerPortWrite 0x1C 9) (host 1)).reg 0x1C = 9 ∧
      (after (.registerPortRead 0x1C) (host 1)).mft.b8Status = 0) ∧
    (stopped.dev.heldShows 0 = true ∧ stopped.dev.heldShows 0x1C = false ∧ (after (.registerPortRead 0) stopped).mft.b8Data = stopped.dev.reg 0 ∧ (after (.registerPortRead 0x1C) stopped).mft.b8Status = 0x80) ∧
    ((after .cmisLowpwrRequest (host 0)).get F.PWR_STATUS_TRANS = 1 ∧ (after .cmisLowpwrRelease (host 1)).get F.PWR_STATUS_TRANS = 0 ∧ (after .cmisLowpwrRequest (host 0)).mft.cmisLowPwr = true) ∧
    ((after (.cmisTxDisable 7 true) (host 0)).get (F.LTX_STATUS_SQ_DIS 7) = 1 ∧ (host 0 [(F.LTX_CTRL_TX_DIS 7, 0)]).dev.txdisLow = false ∧
      (after (.cmisTxDisable 7 false) (host 0 [(F.LTX_CTRL_TX_DIS 7, 0)])).get (F.LTX_STATUS_SQ_DIS 7) = 0) ∧
    ((after (.cmisDatapathDeinit 31) (host 0)).get (F.HLN_LP_LP_REQ 31) = 2 ∧ (after (.cmisDatapathInit 31) (host 0)).get (F.HLN_LP_LP_REQ 31) = 0 ∧
      (after (.cmisRxOutputDisable 31) (host 0)).get (F.HLN_LP_LP_REQ 31) = 1 ∧ (after (.cmisRxOutputEnable 31) (host 0)).get (F.HLN_LP_LP_REQ 31) = 0) ∧
    ((host 1).dev.sup.procRun = true ∧ (host 1).dev.sec.activated = false ∧
      ((after (.cdbCommand (.download 0 [1, 2, 3, 4] true)) (host 1)).flash.fw.get (host 1).dev.targetSlot).written = 4) ∧
    (does (.jtagAccess .bypass) (host 1) (host 1).dev = true ∧ (host 1).dev.perm 2 = false ∧ (host 1).dev.tapShows 0x1C = false ∧ does (.jtagAccess (.readReg 0x1C)) (host 1) (host 1).dev = true ∧
      ((after (.jtagAccess (.readReg 0)) (host 1)).bankAt .jtag).out.length = 1 ∧ does (.jtagAccess (.writeReg 0x1C 3)) (host 1) (host 1).dev = true ∧
      (host 1 [(F.SEC_STATUS_PERMS, 4)]).dev.perm 2 = true ∧ (after (.jtagAccess (.writeReg 0x1C 3)) (host 1 [(F.SEC_STATUS_PERMS, 4)])).reg 0x1C = 3) := by decide +kernel

/-- The first slot of an enabled ring holds a descriptor. -/
def submit (c : Desc) : State :=
  { host 1 with dev := ((host 1).dev.setBytes (windowAddr 0x400) c.bytes).set F.MFT_CTRL_ENABLE 1 |>.set F.MFT_CMD_BASE 0x400 |>.set F.MFT_CPL_BASE 0x800 |>.set F.MFT_DB 1 }
def stat : Desc := desc 2 0 0 0 0 0x2000000
def badCrc : Desc := { stat with w7 := stat.w7 ^^^ 1 }
def man (c : Desc) (buf : Nat := 0) : Manifest := { desc := c, origin := .ring 0, buf := buf }
def begun (c : Desc) (buf : Nat := 0) (l : List (Fld × Nat) := []) (f : Device → Device := id) : State :=
  { host 0 l with dev := f (((host 0 l).dev.modMft fun x => { x with begun := [man c buf] })) }
def done (c : Desc) (status : Nat) : State := { host 1 with dev := (host 1).dev.modMft fun x => { x with done := [{ man := man c, status := status, r0 := 7, r1 := 8 }] } }
theorem wit_ring_start :
    ((st []).dev.mayStart = false ∧ does .manifestStart (st []) (st []).dev = true) ∧
    ((submit stat).dev.mayStart = true ∧ (submit stat).dev.ringReady = true ∧ (submit stat).dev.mft.fabricQueue = [] ∧ (submit stat).dev.errs = [] ∧
      stat = descOf ((submit stat).dev.bytes (windowAddr ((submit stat).dev.get F.MFT_CMD_BASE + 32 * (submit stat).dev.get F.MFT_CMD_CI)) 32) ∧
      stat.check (some 0) = none ∧ stat.fence = false ∧ stat.isLocal = true ∧ (submit stat).dev.refusal (man stat stat.bufOffset) = none ∧ (submit stat).dev.poisoned = [] ∧
      (submit stat).dev.mft.seq = 0) ∧
    (badCrc.crcOk = false ∧ badCrc = descOf ((submit badCrc).dev.bytes (windowAddr ((submit badCrc).dev.get F.MFT_CMD_BASE + 32 * (submit badCrc).dev.get F.MFT_CMD_CI)) 32)) ∧
    (does .manifestComplete (st []) (st []).dev = true ∧ stat.irq = false ∧
      (after .manifestComplete (done stat 0)).bytes (windowAddr ((done stat 0).dev.get F.MFT_CPL_BASE)) 16 =
        (({ man := man stat, status := 0, r0 := 7, r1 := 8 } : DoneMan).words (done stat 0).dev.mft.cplPhase).flatMap wordBytes) ∧
    ((desc 1 0 0xA5C3).opcode = 1 ∧ (after .manifestComplete (done (desc 1 0 0xA5C3) 0)).sup.due = some 4) ∧
    ((man stat).number = 0 ∧ does (.manifestTimeout 5) (begun stat) (begun stat).dev = true ∧ ((after (.manifestTimeout 0) (begun stat)).mft.done.map fun x => x.status) = [stTimeout]) := by
  decide +kernel
def lane3 (w3 : Nat) : Desc := desc 0x10 0x0103 w3
theorem wit_ring_opcodes :
    ((st []).dev.mft.begun = [] ∧ does .regWrite (st []) (st []).dev = true) ∧
    ((begun (desc 1 0 0xA5C3)).dev.begunOf 0x01 = some (man (desc 1 0 0xA5C3))) ∧ ((begun stat).dev.begunOf 0x02 = some (man stat)) ∧ ((begun ident).dev.begunOf 0x03 = some (man ident)) ∧
    ((begun (desc 8 0 4 0xFFFFFFFF)).dev.begunOf 0x08 = some (man (desc 8 0 4 0xFFFFFFFF)) ∧ (desc 8 0 4 0xFFFFFFFF).w4 = BitVec.allOnes 32) ∧
    ((begun regw).dev.begunOf 0x09 = some (man regw) ∧ ((begun regw).dev.bankAt (man regw).requester).copy = none ∧ ((begun regw).dev.bankAt (man regw).requester).info = none ∧
      (after .regWrite (begun regw)).reg 0x1C = 5 ∧ ((after .regWrite (begun regw)).mft.done.map fun x => (x.status, x.r0)) = [(stOk, 5)]) ∧
    (groupExists 0xFF = false ∧ (begun (desc 0x0A 0 0xFF)).dev.begunOf 0x0A = some (man (desc 0x0A 0 0xFF)) ∧
      ((after .commit (begun (desc 0x0A 0 0xFF))).mft.done.map fun x => (x.status, x.r0)) = [(stBadOperand, 0xFF)]) ∧
    (groupExists 0x0600 = true ∧ ((begun (desc 0x0A 0 0x600)).dev.takenUp 0x0A).commitReject 0x0600 (((begun (desc 0x0A 0 0x600)).dev.takenUp 0x0A).shadowOf 0x0600) = none ∧
      (begun (desc 0x0A 0 0x600)).dev.boundaryNow 0x0600 = false ∧ (begun (desc 0x0A 0 0x600)).dev.pendingCommit 0x0600 = none ∧
      (after .commit (begun (desc 0x0A 0 0x600))).mft.waiting.length = 1) ∧
    ((((begun (desc 0x0A 0 0x800) 0 [(F.POOL_CTRL_WINDOW, 7)]).dev.takenUp 0x0A).commitReject 0x0800
        (((begun (desc 0x0A 0 0x800) 0 [(F.POOL_CTRL_WINDOW, 7)]).dev.takenUp 0x0A).shadowOf 0x0800)).isSome = true) ∧
    ((begun (lane3 0)).dev.begunOf 0x10 = some (man (lane3 0)) ∧ (lane3 0).index = 3 ∧ ((after .laneState (begun (lane3 0))).mft.done.map fun x => (x.status, x.r0)) = [(stOk, (begun (lane3 0)).dev.laneResult 3)] ∧
      bitsOf (lane3 0x0C).w3 2 0 = 4 ∧ (after .laneState (begun (lane3 0x0C) 0 [] go)).get (F.LTX_CTRL_STATE_REQ 3) = 4 ∧ (begun (lane3 0x0A)).dev.laneHold = true ∧
      ((after .laneState (begun (lane3 0x0A))).mft.done.map fun x => x.status) = [stBusy]) := by decide +kernel
def lp31 (v : Nat) : Desc := desc 0x11 0x021F v
theorem wit_ring_lanes :
    ((begun (lp31 2)).dev.begunOf 0x11 = some (man (lp31 2)) ∧ (lp31 2).index = 31 ∧ (after .hostLp (begun (lp31 2) 0 [] go)).get (F.HLN_LP_LP_REQ 31) = 2) ∧
    ((begun (desc 0x12 0x021F 0)).dev.begunOf 0x12 = some (man (desc 0x12 0x021F 0)) ∧ (begun (desc 0x12 0x021F 0)).dev.testRefused 31 = true ∧
      ((after .hostAdapt (begun (desc 0x12 0x021F 0))).mft.done.map fun x => x.status) = [stBusy]) ∧
    ((begun (desc 0x12 0x020C 0) 0 (hosts [12] 3) live).dev.testRefused 12 = false ∧ (begun (desc 0x12 0x020C 0) 0 (hosts [12] 3) live).dev.get (F.HLN_STATUS_CDR_LOCK 12) = 0) ∧
    ((begun (desc 0x13 0 0x08)).dev.begunOf 0x13 = some (man (desc 0x13 0 0x08)) ∧ (begun (desc 0x13 0 0x08)).dev.negRuns = false ∧ (after .native (begun (desc 0x13 0 0x08))).get F.BWK_NEG_STATUS_STATE = 1) ∧
    ((begun (desc 0x14 0 0)).dev.begunOf 0x14 = some (man (desc 0x14 0 0)) ∧ (after .powerState (begun (desc 0x14 0 3))).get F.PWR_CTRL_STATE_REQ = 3 ∧
      ((after .powerState (begun (desc 0x14 0 0))).mft.done.map fun x => (x.status, x.r0)) = [(stOk, 0)] ∧ (begun (desc 0x14 0 0)).dev.mft.waiting = []) := by decide +kernel

def lkr (len : Nat) : Desc := desc 0x21 0 (0x40000 - len) 0x100 len
def hasOut (g : FwSlot → FwSlot) (d : Device) : Device := { d with flash := { d.flash with fw := d.flash.fw.set d.targetSlot (g imageOk) } }
def calRec (seq slot : Nat) : CalRec := { seq := seq, slot := slot, whole := true, words := [], kEo := 0, kEr := 0, floor := 0, slopes := [], dpd := [], page02 := [] }
def saved2 (d : Device) : Device := { d with flash := { d.flash with cal := (d.flash.cal.set 0 (some (calRec 4 0))).set 1 (some (calRec 5 1)) } }
def ask (k : Nat) (d : Device) : Device := d.setByte (windowAddr 0) (BitVec.ofNat 8 k)
theorem wit_store :
    (does .snapshot (st []) (st []).dev = true ∧ (begun (desc 0x20 0 1)).dev.begunOf 0x20 = some (man (desc 0x20 0 1)) ∧ (after .snapshot (begun (desc 0x20 0 1))).pmuReq.freeze = some true ∧
      (after .snapshot (begun (desc 0x20 0 1))).get F.PMU_STATUS_SNAP_BUSY = 1) ∧
    ((begun (lkr 4) 0x100).dev.begunOf 0x21 = some (man (lkr 4) 0x100) ∧ (begun (lkr 4) 0x100).dev.get F.LKO_STATUS_STATE = 0 ∧ (lkr 4).op0 + (lkr 4).op2 ≤ 0x40000 ∧
      (after .lookoutRead (begun (lkr 4) 0x100 [] fun d => d.setByte (lookoutAddr 0x3FFFF) 9)).byte (windowAddr 0x103) = 9 ∧
      ((after .lookoutRead (begun (lkr 4) 0x100 [(F.LKO_STATUS_STATE, 2)])).mft.done.map fun x => x.status) = [stBusy]) ∧
    ((begun (desc 0x22 0 23)).dev.begunOf 0x22 = some (man (desc 0x22 0 23)) ∧ (begun (desc 0x22 0 23)).dev.mon.queue.length < 4 ∧ (after .monConvert (begun (desc 0x22 0 23))).mft.waiting.length = 1 ∧
      ((after .monConvert (begun (desc 0x22 0 23) 0 [] fun d => d.modMon fun m => { m with queue := List.replicate 4 (1, false) })).mft.done.map fun x => x.status) = [stBusy]) ∧
    ((begun (desc 0x23 0 0x117)).dev.begunOf 0x23 = some (man (desc 0x23 0 0x117)) ∧ (begun (desc 0x23 0 0x117)).dev.mon.cal = none ∧ (after .monCal (begun (desc 0x23 0 0x117))).mft.waiting.length = 1 ∧
      ((after .monCal (begun (desc 0x23 0 0x117) 0 [] fun d => d.modMon fun m => { m with cal := some (step0 1 false) })).mft.done.map fun x => x.status) = [stBusy]) ∧
    ((begun (desc 0x24 0 0) 0 [] saved2).dev.begunOf 0x24 = some (man (desc 0x24 0 0)) ∧ (begun (desc 0x24 0 0) 0 [] saved2).dev.newestCal = some (calRec 5 1)) ∧
    ((begun (desc 0x30 0 0 0 4)).dev.begunOf 0x30 = some (man (desc 0x30 0 0 0 4)) ∧ (begun (desc 0x30 0 0 0 4)).dev.sec.activated = false ∧
      ((after (.fwWrite true) (begun (desc 0x30 0 0 0 4))).flash.fw.get (begun (desc 0x30 0 0 0 4)).dev.targetSlot).written = 4 ∧
      ((after (.fwWrite true) (begun (desc 0x30 0 0 0 4) 0 [] fun d => { d with sec := { d.sec with activated := true } })).mft.done.map fun x => x.status) = [stBusy]) ∧
    ((begun (desc 0x31 0 0) 0 [] (hasOut id)).dev.begunOf 0x31 = some (man (desc 0x31 0 0)) ∧ (begun (desc 0x31 0 0) 0 [] (hasOut id)).dev.zeroised = false ∧
      ((begun (desc 0x31 0 0) 0 [] (hasOut id)).dev.flash.fw.get (begun (desc 0x31 0 0) 0 [] (hasOut id)).dev.targetSlot).commit = true ∧
      (begun (desc 0x31 0 0) 0 [] (hasOut id)).dev.slotReason (begun (desc 0x31 0 0) 0 [] (hasOut id)).dev.targetSlot = 0 ∧
      ((begun (desc 0x31 0 0) 0 [] (hasOut id)).dev.flash.fw.get (1 - (begun (desc 0x31 0 0) 0 [] (hasOut id)).dev.targetSlot)).commit = false ∧
      (after (.fwActivate imageOk) (begun (desc 0x31 0 0) 0 [] (hasOut id))).sec.activated = true ∧
      ((after (.fwActivate imageOk) (begun (desc 0x31 0 0) 0 [(F.SEC_STATUS_ZEROISED, 1)])).mft.done.map fun x => (x.status, x.r0)) = [(stFailed, 0x14)]) := by decide +kernel
def fails : EnvCheck := { sigOk := false, stored := false }
theorem wit_prove :
    ((begun (desc 0x32 0 0 29919)).dev.begunOf 0x32 = some (man (desc 0x32 0 0 29919)) ∧ ((after (.attest []) (begun (desc 0x32 0 0 29919))).mft.done.map fun x => x.status) = [stBadOperand]) ∧
    ((begun (desc 0x32 0 0 29920) 0 [] (ask 1)).dev.word (windowAddr 0) = 1 ∧ (desc 0x32 0 0 29920).op1 = 29920 ∧ (begun (desc 0x32 0 0 29920) 0 [] (ask 1)).dev.zeroised = false ∧
      (begun (desc 0x32 0 0 29920) 0 [] (ask 1)).dev.errs = [] ∧ (begun (desc 0x32 0 0 29920) 0 [] (ask 1)).dev.poisoned = [] ∧
      ((after (.attest []) (begun (desc 0x32 0 0 29920) 0 [] (ask 1))).mft.done.map fun x => (x.status, x.r0)) = [(stFailed, 0x16)]) ∧
    ((begun (desc 0x33 0 0 4)).dev.begunOf 0x33 = some (man (desc 0x33 0 0 4)) ∧ (begun (desc 0x33 0 0 4) 0 [(F.SEC_STATUS_ZEROISED, 1)]).dev.zeroised = true ∧
      (begun (desc 0x33 0 0 4)).dev.keyReason (man (desc 0x33 0 0 4)) ((begun (desc 0x33 0 0 4)).dev.bytes (windowAddr 0) 4) fails = 0x10 ∧
      ((after (.keyInstall fails) (begun (desc 0x33 0 0 4))).mft.done.map fun x => (x.status, x.r0)) = [(stFailed, 0x10)]) ∧
    ((begun (desc 0x34 0 0 4)).dev.begunOf 0x34 = some (man (desc 0x34 0 0 4)) ∧
      (begun (desc 0x34 0 0 4)).dev.unlockReason (man (desc 0x34 0 0 4)) ((begun (desc 0x34 0 0 4)).dev.bytes (windowAddr 0) 4) fails = 0x10) ∧
    ((begun (desc 0x35 0 5)).dev.begunOf 0x35 = some (man (desc 0x35 0 5)) ∧ (begun (desc 0x35 0 5)).dev.get F.FAB_STATUS_HM = 0 ∧
      ((after .realmSet (begun (desc 0x35 0 5))).mft.done.map fun x => (x.status, x.r0)) = [(stFailed, 1)] ∧
      ((after .realmSet (begun (desc 0x35 0 5) 0 [(F.FAB_STATUS_HM, 1)])).fab.requests.map fun q => (q.kind, q.who)) = [(3, 5)] ∧ (begun (desc 0x35 0 5)).dev.get F.FAB_STATUS_AUTH = 0) := by
  decide +kernel


/-! ### Witnesses: envelopes that pass -/

/-- An envelope's header for this device lies in the window, the rest of the buffer being zero. -/
def envelope (kind body : Byte) : List Host.Cell :=
  let w := windowAddr 0
  let d := Config.identity
  [(w, 0x08), (w + 1, 0x32), (w + 2, 0x0A), (w + 3, 0x0E), (w + 4, kind), (w + 5, 0), (w + 6, body), (w + 7, 0),
   (w + 8, d.extractLsb' 0 8), (w + 9, d.extractLsb' 8 8), (w + 10, d.extractLsb' 16 8), (w + 11, d.extractLsb' 24 8),
   (w + 12, d.extractLsb' 32 8), (w + 13, d.extractLsb' 40 8), (w + 14, d.extractLsb' 48 8), (w + 15, d.extractLsb' 56 8)]
def passes : EnvCheck := { sigOk := true, stored := true }
def envSt (op len : Nat) (kind body : Byte) (owners : Nat) : State := begun (desc op 0 0 len) 0 [] fun d =>
  { d with mem := envelope kind body, flash := { d.flash with ownerKeys := List.replicate owners [] } }
theorem bytes_getD (d : Device) (a n i : Nat) (h : i < n) : (d.bytes a n).getD i 0 = d.byte (a + i) := by
  simp [Device.bytes, List.getD, h]
theorem bytes_join (x : BitVec 64) :
    bytesWord (x.extractLsb' 32 8) (x.extractLsb' 40 8) (x.extractLsb' 48 8) (x.extractLsb' 56 8) ++
      bytesWord (x.extractLsb' 0 8) (x.extractLsb' 8 8) (x.extractLsb' 16 8) (x.extractLsb' 24 8) = x := by
  unfold bytesWord
  ext i hi
  simp only [BitVec.getElem_append, BitVec.getElem_extractLsb']
  repeat' split
  all_goals (rw [← BitVec.getLsbD_eq_getElem]; congr 1; omega)
theorem bytes_part (d : Device) (a n : Nat) (h : 48 ≤ n) : ((d.bytes a n).drop 16).take 32 = (List.range 32).map fun i => d.byte (a + (16 + i)) := by
  apply List.ext_getElem
  · simp [Device.bytes]; omega
  · intro i h1 h2; simp [Device.bytes]
theorem join4 (a b c d : Byte) : BitVec.ofNat 32 (leNat [a, b, c, d]) = bytesWord a b c d := by
  have h : (bytesWord a b c d).toNat = (((d.toNat * 256 + c.toNat) * 256) + b.toNat) * 256 + a.toNat := by
    have e1 : ∀ {w : Nat} (x : BitVec w) (y : Byte), (x ++ y).toNat = x.toNat * 256 + y.toNat := by
      intro w x y
      rw [BitVec.toNat_append, Nat.shiftLeft_eq, Nat.mul_comm, ← Nat.two_pow_add_eq_or_of_lt y.isLt]
    unfold bytesWord
    rw [e1, e1, e1]
  apply BitVec.eq_of_toNat_eq
  rw [h]; simp [leNat]; omega
theorem bytes_slice (d : Device) (a n i : Nat) (h : i + 3 < n) :
    ((d.bytes a n).drop i).take 4 = [d.byte (a + i), d.byte (a + (i + 1)), d.byte (a + (i + 2)), d.byte (a + (i + 3))] := by
  apply List.ext_getElem
  · simp [Device.bytes]; omega
  · intro k h1 h2
    have h3 : k < 4 := by simpa using h2
    have h4 : k = 0 ∨ k = 1 ∨ k = 2 ∨ k = 3 := by omega
    rcases h4 with rfl | rfl | rfl | rfl <;> simp [Device.bytes]
theorem word_at (d : Device) (a n i : Nat) (h : i + 3 < n) :
    wordAt (d.bytes a n) i = bytesWord (d.byte (a + i)) (d.byte (a + (i + 1))) (d.byte (a + (i + 2))) (d.byte (a + (i + 3))) := by
  unfold wordAt fieldAt
  rw [bytes_slice _ _ _ _ h]
  exact join4 _ _ _ _
theorem wit_form2 : envForm ((envSt 0x33 29876 2 68 0).dev.bytes (windowAddr 0) 29876) 29876 [1, 2] = true := by
  unfold envForm
  rw [word_at _ _ _ _ (by decide), word_at _ _ _ _ (by decide), word_at _ _ _ _ (by decide), word_at _ _ _ _ (by decide), bytes_getD _ _ _ _ (by decide), Bool.and_eq_true]
  refine ⟨by decide +kernel, ?_⟩
  rw [beq_iff_eq]
  exact bytes_join Config.identity
theorem wit_form3 : envForm ((envSt 0x34 29844 3 36 1).dev.bytes (windowAddr 0) 29844) 29844 [3] = true := by
  unfold envForm
  rw [word_at _ _ _ _ (by decide), word_at _ _ _ _ (by decide), word_at _ _ _ _ (by decide), word_at _ _ _ _ (by decide), bytes_getD _ _ _ _ (by decide), Bool.and_eq_true]
  refine ⟨by decide +kernel, ?_⟩
  rw [beq_iff_eq]
  exact bytes_join Config.identity
/-- The first owner key, from the local ring. -/
theorem wit_owner_key : (envSt 0x33 29876 2 68 0).dev.begunOf 0x33 = some (man (desc 0x33 0 0 29876)) ∧ (desc 0x33 0 0 29876).op1 = 29876 ∧
    (envSt 0x33 29876 2 68 0).dev.errs = [] ∧ (envSt 0x33 29876 2 68 0).dev.poisoned = [] ∧ (envSt 0x33 29876 2 68 0).dev.zeroised = false ∧
    ((envSt 0x33 29876 2 68 0).dev.bytes (windowAddr 0) 29876).getD 4 0 = 2 ∧
    (envSt 0x33 29876 2 68 0).dev.keyReason (man (desc 0x33 0 0 29876)) ((envSt 0x33 29876 2 68 0).dev.bytes (windowAddr 0) 29876) passes = 0 := by
  refine ⟨by decide +kernel, by decide +kernel, rfl, rfl, by decide +kernel, ?_, ?_⟩
  · rw [bytes_getD _ _ _ _ (by decide)]; decide +kernel
  · unfold Device.keyReason
    rw [show (man (desc 0x33 0 0 29876)).desc.op1 = 29876 from by decide +kernel, wit_form2, bytes_getD _ _ _ _ (by decide), bytes_getD _ _ _ _ (by decide)]
    decide +kernel
/-- An envelope for the challenge that stands. -/
theorem wit_unlock : (envSt 0x34 29844 3 36 1).dev.begunOf 0x34 = some (man (desc 0x34 0 0 29844)) ∧ (envSt 0x34 29844 3 36 1).dev.errs = [] ∧
    (envSt 0x34 29844 3 36 1).dev.poisoned = [] ∧
    (envSt 0x34 29844 3 36 1).dev.unlockReason (man (desc 0x34 0 0 29844)) ((envSt 0x34 29844 3 36 1).dev.bytes (windowAddr 0) 29844) passes = 0 := by
  refine ⟨by decide +kernel, rfl, rfl, ?_⟩
  unfold Device.unlockReason
  rw [show (man (desc 0x34 0 0 29844)).desc.op1 = 29844 from by decide +kernel, wit_form3, bytes_part _ _ _ (by decide)]
  decide +kernel


end Sys2Proof.Tests
end

section
/-! The chapter of scope and conventions: what setting a field does, and what a reset leaves (R9, R11, R13, R382, R397). -/

namespace Sys2Proof.Machine

/-! ### Commands whose meaning is a change of the device -/

/-- A command that completes with the device `e` gives whatever `e` satisfies. -/
theorem Gives.of_exec {c : Instr} {s : State} {e : Device} {P : Device → Prop} (h : exec c s = .next { s with dev := e }) (hP : P e) :
    Gives c s P := ⟨_, h, rfl, hP⟩

/-- A command that completes with the device `e` does just that. -/
theorem Does.of_exec {c : Instr} {s : State} {e : Device} (h : exec c s = .next { s with dev := e }) : Does c s e :=
  ⟨_, h, rfl, Posted.refl e⟩

/-! ### The resets of chapter 10 as commands -/

theorem exec_powerOnReset (s : State) : exec .powerOnReset s = .next { s with dev := s.dev.powerOnReset } := rfl
theorem exec_resetnFall (width : Nat) (s : State) : exec (.resetnFall width) s = .next { s with dev := s.dev.resetnFall width } := rfl
theorem exec_railFault (r : Rail) (s : State) : exec (.railFault r) s = .next { s with dev := s.dev.railFault r } := rfl
theorem exec_porRelease (s : State) : exec .porRelease s = .next { s with dev := s.dev.porRelease } := rfl
theorem exec_fullReset (cause : Byte) (run : BootRun) (s : State) :
    exec (.fullReset cause run) s = .next { s with dev := s.dev.resetNow cause.toNat run } := rfl

/-! ### Registers under a run of writes -/

theorem Device.reg_setReg_of_ne (d : Device) (w : Word) {a b : Nat} (h : a ≠ b) : (d.setReg b w).reg a = d.reg a := by
  rw [Device.reg_setReg, if_neg h]

theorem Device.reg_set_of_ne (d : Device) (f : Fld) (v : Nat) {a : Nat} (h : a ≠ f.addr) : (d.set f v).reg a = d.reg a :=
  d.reg_setReg_of_ne _ h

theorem Device.reg_setB_of_ne (d : Device) (f : Fld) (b : Bool) {a : Nat} (h : a ≠ f.addr) : (d.setB f b).reg a = d.reg a :=
  d.reg_setReg_of_ne _ h

/-- `e` differs from `d` in its registers at most. -/
def Device.RegsOnly (d e : Device) : Prop := ∃ regs, e = { d with regs := regs }

theorem Device.RegsOnly.refl (d : Device) : d.RegsOnly d := ⟨d.regs, rfl⟩

theorem Device.RegsOnly.setReg {d e : Device} (h : d.RegsOnly e) (a : Nat) (w : Word) : d.RegsOnly (e.setReg a w) := by
  obtain ⟨r, rfl⟩ := h
  exact ⟨_, rfl⟩

theorem Device.RegsOnly.set {d e : Device} (h : d.RegsOnly e) (f : Fld) (v : Nat) : d.RegsOnly (e.set f v) := h.setReg _ _

theorem Device.RegsOnly.setB {d e : Device} (h : d.RegsOnly e) (f : Fld) (b : Bool) : d.RegsOnly (e.setB f b) := h.setReg _ _

/-! ### The parts of a full reset -/

/-- Registers of which something survives even a POR: the part code and grade, the thresholds of the die, and the CLRn pin. -/
def porSurvivors : List Nat := [F.SYS_ID.addr, F.THM_LIMITS.addr, F.BDAC_STATUS.addr]

/-- Registers that every other full reset keeps whole (R382, R397). -/
def keptRegs : List Nat := [F.SYS_WDT_CAPTURE.addr, (F.POOL_QUAR 0).addr, (F.POOL_QUAR 1).addr]

/-- The part code and the grade. -/
def Device.keepId (d e : Device) : Device := e.setReg F.SYS_ID.addr (d.reg F.SYS_ID.addr)

/-- The survivors of a POR. -/
def Device.keepDie (d e : Device) : Device :=
  (if d.get F.SYS_ID_GRADE = 0x48 then (d.keepId e).setReg F.THM_LIMITS.addr 0x7D7169 else d.keepId e).setB F.BDAC_STATUS_CLRN_LOW
    (d.flag F.BDAC_STATUS_CLRN_LOW)

/-- `e` with the listed registers as they stand in `d`. -/
def Device.keepRegs (d e : Device) (l : List Nat) : Device := l.foldl (fun x a => x.setReg a (d.reg a)) e

/-- The BIST result of an engine, if it is quarantined. -/
def Device.keepBist (d e : Device) (k : Nat) : Device :=
  if d.quarantined k then e.setReg (F.ENG_BIST k).addr (d.reg (F.ENG_BIST k).addr &&& fieldMask 2 1) else e

/-- The fused SVN after a full reset, which may cut its writing short (R580). -/
def Device.resetSvn (d : Device) : Nat :=
  if d.flag F.SEC_STATUS_SVN_BUSY then d.flash.svn + (Config.freeWord d.draws).toNat % (d.sec.svnRun - d.flash.svn + 1) else d.flash.svn

/-- What a full reset starts from: every register at its reset value and every block as after reset, with the flash, the pins and the rails
as they are. -/
def Device.resetBase (d : Device) (por : Bool) : Device :=
  { Device.initial with
    flash := { d.flash with svn := d.resetSvn },
    draws := d.draws + 1, txdisLow := d.txdisLow,
    sup := { Sup.fresh with
      resetnLow := d.sup.resetnLow, refOk := d.sup.refOk, railsBad := d.sup.railsBad, aonGood := d.sup.aonGood,
      ranBefore := if por then 0 else d.sup.ranBefore + d.now },
    thm := if d.flag F.THM_STATUS_SHUTDOWN && !por then { Thermal.fresh with last := d.thm.last } else Thermal.fresh }

/-- SYS_RST_CAUSE after a reset of this cause, `d` being the device before it (R382). -/
def Device.nameCause (d e : Device) (cause : Nat) : Device :=
  (((e.set F.SYS_RST_CAUSE_CAUSE cause).set F.SYS_RST_CAUSE_PREV (d.get F.SYS_RST_CAUSE_CAUSE)).set F.SYS_RST_CAUSE_COUNT
    (min 255 (d.get F.SYS_RST_CAUSE_COUNT + 1))).set F.SYS_RST_CAUSE_HOURS_LAST (min 255 d.hoursRun)

theorem Device.survivors_por (d e : Device) : d.survivors true e = d.keepDie e := rfl

theorem Device.survivors_reset (d e : Device) :
    d.survivors false e =
      ((List.range 64).foldl d.keepBist (d.keepRegs (d.keepDie e) keptRegs)).setB F.THM_STATUS_SHUTDOWN (d.flag F.THM_STATUS_SHUTDOWN) := rfl

theorem Device.fullReset_eq (d : Device) (cause : Nat) :
    d.fullReset cause =
      if cause == 1 then d.survivors (cause == 1) (d.resetBase (cause == 1))
      else d.nameCause (d.survivors (cause == 1) (d.resetBase (cause == 1))) cause := rfl

theorem Device.fullReset_por (d : Device) : d.fullReset 1 = d.survivors true (d.resetBase true) := by
  rw [d.fullReset_eq, show ((1 : Nat) == 1) = true from rfl, if_pos rfl]

theorem Device.fullReset_of_ne_por (d : Device) {cause : Nat} (h : cause ≠ 1) :
    d.fullReset cause = d.nameCause (d.survivors false (d.resetBase false)) cause := by
  have hc : (cause == 1) = false := by simpa using h
  rw [d.fullReset_eq, hc, if_neg Bool.false_ne_true]

/-! ### What each part leaves alone -/

theorem Device.keepDie_regsOnly (d e : Device) : e.RegsOnly (d.keepDie e) := by
  have h : e.RegsOnly (d.keepId e) := (Device.RegsOnly.refl e).setReg _ _
  unfold Device.keepDie
  split
  · exact (h.setReg _ _).setB _ _
  · exact h.setB _ _

theorem Device.RegsOnly.keepBist {e x : Device} (h : e.RegsOnly x) (d : Device) (k : Nat) : e.RegsOnly (d.keepBist x k) := by
  unfold Device.keepBist
  split
  · exact h.setReg _ _
  · exact h

theorem Device.survivors_regsOnly (d e : Device) (por : Bool) : e.RegsOnly (d.survivors por e) := by
  cases por with
  | true => exact d.keepDie_regsOnly e
  | false =>
    rw [Device.survivors_reset]
    have hk : e.RegsOnly (d.keepRegs (d.keepDie e) keptRegs) := (((d.keepDie_regsOnly e).setReg _ _).setReg _ _).setReg _ _
    exact (List.foldlRecOn _ d.keepBist hk fun x hx k _ => hx.keepBist d k).setB _ _

/-- A full reset is its base, up to registers. -/
theorem Device.fullReset_regsOnly (d : Device) (cause : Nat) : (d.resetBase (cause == 1)).RegsOnly (d.fullReset cause) := by
  by_cases h : cause = 1
  · subst h
    rw [d.fullReset_por, show ((1 : Nat) == 1) = true from rfl]
    exact d.survivors_regsOnly _ _
  · rw [d.fullReset_of_ne_por h, show (cause == 1) = false by simpa using h]
    exact ((((d.survivors_regsOnly _ _).set _ _).set _ _).set _ _).set _ _

theorem Device.sup_fullReset (d : Device) (cause : Nat) : (d.fullReset cause).sup = (d.resetBase (cause == 1)).sup := by
  obtain ⟨r, h⟩ := d.fullReset_regsOnly cause
  rw [h]

theorem Device.mft_fullReset (d : Device) (cause : Nat) : (d.fullReset cause).mft = Mft.fresh := by
  obtain ⟨r, h⟩ := d.fullReset_regsOnly cause
  rw [h]
  rfl

theorem Device.fw_fullReset (d : Device) (cause : Nat) : (d.fullReset cause).flash.fw = d.flash.fw := by
  obtain ⟨r, h⟩ := d.fullReset_regsOnly cause
  rw [h]
  rfl

/-! ### Registers after a full reset (R13) -/

theorem Device.reg_resetBase (d : Device) (por : Bool) (a : Nat) : (d.resetBase por).reg a = regReset a := rfl

theorem Device.reg_keepDie (d e : Device) {a : Nat} (h : a ∉ porSurvivors) : (d.keepDie e).reg a = e.reg a := by
  simp only [porSurvivors, List.mem_cons, List.not_mem_nil, or_false, not_or] at h
  obtain ⟨hid, hlim, hclr⟩ := h
  unfold Device.keepDie
  rw [Device.reg_setB_of_ne _ F.BDAC_STATUS_CLRN_LOW _ hclr]
  split
  · exact (Device.reg_setReg_of_ne _ _ hlim).trans (e.reg_setReg_of_ne _ hid)
  · exact e.reg_setReg_of_ne _ hid

theorem Device.reg_keepRegs (d e : Device) (l : List Nat) (a : Nat) :
    (d.keepRegs e l).reg a = if a ∈ l then d.reg a else e.reg a := by
  unfold Device.keepRegs
  induction l generalizing e with
  | nil => rfl
  | cons b l ih =>
    rw [List.foldl_cons, ih, Device.reg_setReg]
    by_cases hb : a = b <;> simp [hb]

theorem Device.reg_keepBist (d e : Device) (k : Nat) {a : Nat} (h : a ≠ (F.ENG_BIST k).addr) : (d.keepBist e k).reg a = e.reg a := by
  unfold Device.keepBist
  split
  · exact e.reg_setReg_of_ne _ h
  · rfl

/-- A register with no engine's BIST result and no shutdown latch in it. -/
theorem Device.reg_survivors (d e : Device) {a : Nat} (hs : a ≠ F.THM_STATUS.addr) (hb : ∀ k < 64, a ≠ (F.ENG_BIST k).addr) :
    (d.survivors false e).reg a = if a ∈ keptRegs then d.reg a else (d.keepDie e).reg a := by
  rw [Device.survivors_reset, Device.reg_setB_of_ne _ F.THM_STATUS_SHUTDOWN _ hs, ← d.reg_keepRegs]
  exact List.foldlRecOn (motive := fun x => x.reg a = (d.keepRegs (d.keepDie e) keptRegs).reg a) _ d.keepBist rfl
    fun x hx k hk => (d.reg_keepBist x k (hb k (List.mem_range.1 hk))).trans hx

theorem Device.reg_nameCause (d e : Device) (cause : Nat) {a : Nat} (h : a ≠ F.SYS_RST_CAUSE.addr) : (d.nameCause e cause).reg a = e.reg a := by
  unfold Device.nameCause
  rw [Device.reg_set_of_ne _ F.SYS_RST_CAUSE_HOURS_LAST _ h, Device.reg_set_of_ne _ F.SYS_RST_CAUSE_COUNT _ h,
    Device.reg_set_of_ne _ F.SYS_RST_CAUSE_PREV _ h, Device.reg_set_of_ne _ F.SYS_RST_CAUSE_CAUSE _ h]

theorem Device.reg_fullReset_por (d : Device) {a : Nat} (h : a ∉ porSurvivors) : (d.fullReset 1).reg a = regReset a := by
  rw [Device.fullReset_por, Device.survivors_por, d.reg_keepDie _ h, Device.reg_resetBase]

/-- A register that no survivor lies in. -/
theorem Device.reg_fullReset (d : Device) {cause a : Nat} (hc : cause ≠ 1) (hd : a ∉ porSurvivors) (hk : a ∉ keptRegs)
    (hn : a ≠ F.SYS_RST_CAUSE.addr) (hs : a ≠ F.THM_STATUS.addr) (hb : ∀ k < 64, a ≠ (F.ENG_BIST k).addr) :
    (d.fullReset cause).reg a = regReset a := by
  rw [d.fullReset_of_ne_por hc, d.reg_nameCause _ _ hn, d.reg_survivors _ hs hb, if_neg hk, d.reg_keepDie _ hd, Device.reg_resetBase]

/-- No kept register is SYS_RST_CAUSE, THM_STATUS or an engine's BIST result. -/
theorem keptRegs_apart {a : Nat} (h : a ∈ keptRegs) :
    a ≠ F.SYS_RST_CAUSE.addr ∧ a ≠ F.THM_STATUS.addr ∧ ∀ k < 64, a ≠ (F.ENG_BIST k).addr := by
  have hall : ∀ a ∈ keptRegs, a ≠ F.SYS_RST_CAUSE.addr ∧ a ≠ F.THM_STATUS.addr ∧ a < 0x31010 := by decide
  obtain ⟨hn, hs, hlt⟩ := hall a h
  refine ⟨hn, hs, fun k _ => ?_⟩
  simp only [F.ENG_BIST]
  omega

theorem Device.reg_fullReset_kept (d : Device) {cause a : Nat} (hc : cause ≠ 1) (h : a ∈ keptRegs) :
    (d.fullReset cause).reg a = d.reg a := by
  obtain ⟨hn, hs, hb⟩ := keptRegs_apart h
  rw [d.fullReset_of_ne_por hc, d.reg_nameCause _ _ hn, d.reg_survivors _ hs hb, if_pos h]

/-- The quarantine set survives (R36, R382). -/
theorem Device.quarantined_fullReset (d : Device) {cause k : Nat} (hc : cause ≠ 1) (hk : k < 64) :
    (d.fullReset cause).quarantined k = d.quarantined k := by
  have hmem : (F.POOL_QUAR (k / 32)).addr ∈ keptRegs := by
    obtain h | h : k / 32 = 0 ∨ k / 32 = 1 := by omega
    · rw [h]; decide
    · rw [h]; decide
  rw [Device.quarantined, d.reg_fullReset_kept hc hmem, Device.quarantined]

/-! ### SYS_RST_CAUSE after a full reset -/

theorem Device.get_nameCause_cause (d e : Device) (cause : Nat) : (d.nameCause e cause).get F.SYS_RST_CAUSE_CAUSE = cause % 256 := by
  unfold Device.nameCause
  rw [Device.get_set_apart _ _ _ _ (by decide) (by decide) (by decide), Device.get_set_apart _ _ _ _ (by decide) (by decide) (by decide),
    Device.get_set_apart _ _ _ _ (by decide) (by decide) (by decide), Device.get_set_same _ _ _ (by decide)]
  rfl

theorem Device.get_nameCause_prev (d e : Device) (cause : Nat) :
    (d.nameCause e cause).get F.SYS_RST_CAUSE_PREV = d.get F.SYS_RST_CAUSE_CAUSE := by
  have hlt : d.get F.SYS_RST_CAUSE_CAUSE < 256 := bitsOf_lt _ 7 0
  unfold Device.nameCause
  rw [Device.get_set_apart _ _ _ _ (by decide) (by decide) (by decide), Device.get_set_apart _ _ _ _ (by decide) (by decide) (by decide),
    Device.get_set_same _ _ _ (by decide)]
  exact Nat.mod_eq_of_lt hlt

theorem Device.get_nameCause_count (d e : Device) (cause : Nat) :
    (d.nameCause e cause).get F.SYS_RST_CAUSE_COUNT = min 255 (d.get F.SYS_RST_CAUSE_COUNT + 1) := by
  unfold Device.nameCause
  rw [Device.get_set_apart _ _ _ _ (by decide) (by decide) (by decide), Device.get_set_same _ _ _ (by decide)]
  exact Nat.mod_eq_of_lt (Nat.lt_succ_of_le (Nat.min_le_left _ _))

/-- A full reset other than a POR names its cause, keeps the one before and counts itself (R382). -/
theorem Device.cause_fullReset (d : Device) {cause : Nat} (hc : cause ≠ 1) :
    (d.fullReset cause).get F.SYS_RST_CAUSE_CAUSE = cause % 256 ∧
    (d.fullReset cause).get F.SYS_RST_CAUSE_PREV = d.get F.SYS_RST_CAUSE_CAUSE ∧
    (d.fullReset cause).get F.SYS_RST_CAUSE_COUNT = min 255 (d.get F.SYS_RST_CAUSE_COUNT + 1) := by
  rw [d.fullReset_of_ne_por hc]
  exact ⟨d.get_nameCause_cause _ _, d.get_nameCause_prev _ _, d.get_nameCause_count _ _⟩

/-! ### When a reset acts -/

/-- A pulse under 100 ns only draws (R380). -/
theorem Device.resetnFall_short (d : Device) {width : Nat} (h : width < 100) : d.resetnFall width = d.draw := by
  have h1 : ¬ 1000 ≤ width := by omega
  have h2 : ¬ 100 ≤ width := by omega
  simp [Device.resetnFall, h1, h2]

/-- A pulse of 1 µs resets a device whose VDD_AON is good (R380). -/
theorem Device.resetnFall_long (d : Device) {width : Nat} (h : 1000 ≤ width) (ha : d.sup.aonGood = true) :
    d.resetnFall width = (d.draw.modSup fun q => { q with resetnLow := true }).fullReset 2 := by
  simp [Device.resetnFall, h, ha, Device.draw]

/-- The rails that are out of range once `r` is. -/
def Device.railsWith (d : Device) (r : Rail) : List Rail :=
  if d.sup.railsBad.contains r then d.sup.railsBad else d.sup.railsBad ++ [r]

theorem Device.mem_railsWith (d : Device) (r : Rail) : r ∈ d.railsWith r := by
  unfold Device.railsWith
  split
  · next h => exact List.contains_iff_mem.1 h
  · exact List.mem_append_right _ (List.mem_singleton_self r)

theorem Device.railFault_aonGood (d : Device) (r : Rail) (ha : d.sup.aonGood = true) :
    d.railFault r = (d.modSup fun q => { q with railsBad := d.railsWith r }).fullReset 6 := by
  simp only [Device.railFault, ha]
  rfl

theorem Device.porRelease_aonBad (d : Device) (ha : d.sup.aonGood = false) :
    d.porRelease = (d.modSup fun q => { q with aonGood := true }).set F.SYS_BOOT_STATUS_STEP 1 := by
  simp [Device.porRelease, ha]

/-- A full reset whose source is absent does not happen. -/
theorem Device.resetNow_absent (d : Device) {cause : Nat} (run : BootRun) (h : d.resetDue cause = false) : d.resetNow cause run = d := by
  simp [Device.resetNow, h]

/-- A bad rail holds start-up (R372). -/
theorem Device.tryStart_railsBad (d : Device) (run : BootRun) (h : d.sup.railsBad ≠ []) : d.tryStart run = d := by
  simp [Device.tryStart, Device.canStart, h]

/-- A due full reset with a bad rail ends held. -/
theorem Device.resetNow_held (d : Device) {cause : Nat} (run : BootRun) (hd : d.resetDue cause = true) (hr : d.sup.railsBad ≠ []) :
    d.resetNow cause run = d.fullReset cause := by
  rw [Device.resetNow, if_pos hd]
  exact Device.tryStart_railsBad _ run (by rw [Device.sup_fullReset]; exact hr)

/-! ### The commands -/

theorem powerOnReset_leaves (s : State) :
    Gives .powerOnReset s fun e => e.sup.aonGood = false ∧ e.mft = Mft.fresh ∧
      ∀ a, a ∉ [F.SYS_ID.addr, F.THM_LIMITS.addr, F.BDAC_STATUS.addr] → e.reg a = regReset a := by
  refine .of_exec (exec_powerOnReset s) ⟨?_, Device.mft_fullReset _ 1, fun a ha => Device.reg_fullReset_por _ ha⟩
  rw [Device.powerOnReset, Device.sup_fullReset]
  rfl

theorem resetnFall_leaves (s : State) (ha : s.dev.sup.aonGood = true) (width : Nat) (hw : 1000 ≤ width) :
    Gives (.resetnFall width) s fun e => e.sup.resetnLow = true ∧ e.sup.boot = .held ∧ e.mft = Mft.fresh ∧ e.flash.fw = s.dev.flash.fw ∧
      e.get F.SYS_RST_CAUSE_CAUSE = 2 ∧ e.get F.SYS_RST_CAUSE_PREV = s.dev.get F.SYS_RST_CAUSE_CAUSE ∧
      e.reg F.SYS_WDT_CAPTURE.addr = s.dev.reg F.SYS_WDT_CAPTURE.addr ∧ (∀ k < 64, e.quarantined k = s.dev.quarantined k) ∧
      ∀ a, a ∉ [F.SYS_ID.addr, F.SYS_RST_CAUSE.addr, F.THM_LIMITS.addr, F.BDAC_STATUS.addr, F.SYS_WDT_CAPTURE.addr, (F.POOL_QUAR 0).addr,
        (F.POOL_QUAR 1).addr, F.THM_STATUS.addr] → (∀ k < 64, a ≠ (F.ENG_BIST k).addr) → e.reg a = regReset a := by
  refine .of_exec (exec_resetnFall width s) ?_
  rw [s.dev.resetnFall_long hw ha]
  generalize hd : (s.dev.draw.modSup fun q => { q with resetnLow := true }) = d
  have hreg : ∀ a, d.reg a = s.dev.reg a := fun a => hd ▸ rfl
  obtain ⟨hcause, hprev, -⟩ := d.cause_fullReset (cause := 2) (by decide)
  refine ⟨?_, ?_, d.mft_fullReset 2, ?_, hcause, ?_, ?_, fun k hk => ?_, fun a hout hb => ?_⟩
  · rw [d.sup_fullReset, ← hd]; rfl
  · rw [d.sup_fullReset]; rfl
  · rw [d.fw_fullReset, ← hd]; rfl
  · rw [hprev, ← hd]; rfl
  · rw [d.reg_fullReset_kept (by decide) (by decide), hreg]
  · rw [d.quarantined_fullReset (by decide) hk, Device.quarantined, hreg, Device.quarantined]
  · simp only [List.mem_cons, List.not_mem_nil, or_false, not_or] at hout
    obtain ⟨hid, hn, hlim, hclr, hwdt, hq0, hq1, hs⟩ := hout
    exact d.reg_fullReset (by decide) (by simp [porSurvivors, hid, hlim, hclr]) (by simp [keptRegs, hwdt, hq0, hq1]) hn hs hb

theorem railFault_leaves (s : State) (ha : s.dev.sup.aonGood = true) (r : Rail) :
    Gives (.railFault r) s fun e => r ∈ e.sup.railsBad ∧ e.sup.boot = .held ∧ e.get F.SYS_RST_CAUSE_CAUSE = 6 ∧
      e.get F.SYS_RST_CAUSE_PREV = s.dev.get F.SYS_RST_CAUSE_CAUSE ∧ e.mft = Mft.fresh := by
  refine .of_exec (exec_railFault r s) ?_
  rw [s.dev.railFault_aonGood r ha]
  obtain ⟨hcause, hprev, -⟩ := (s.dev.modSup fun q => { q with railsBad := s.dev.railsWith r }).cause_fullReset (cause := 6) (by decide)
  refine ⟨?_, ?_, hcause, hprev, Device.mft_fullReset _ 6⟩
  · rw [Device.sup_fullReset]
    exact s.dev.mem_railsWith r
  · rw [Device.sup_fullReset]
    rfl

theorem fullReset_held_leaves (s : State) (run : BootRun) (hdue : s.dev.sup.due = some 3) (hr : s.dev.sup.railsBad ≠ []) :
    Gives (.fullReset 3 run) s fun e => e.sup.due = none ∧ e.sup.boot = .held ∧ e.get F.SYS_RST_CAUSE_CAUSE = 3 ∧
      e.get F.SYS_RST_CAUSE_COUNT = min 255 (s.dev.get F.SYS_RST_CAUSE_COUNT + 1) := by
  refine .of_exec (exec_fullReset 3 run s) ?_
  rw [s.dev.resetNow_held run (by simp [Device.resetDue, hdue]) hr]
  obtain ⟨hcause, -, hcount⟩ := s.dev.cause_fullReset (cause := 3) (by decide)
  refine ⟨?_, ?_, hcause, hcount⟩
  · rw [Device.sup_fullReset]
    rfl
  · rw [Device.sup_fullReset]
    rfl

end Sys2Proof.Machine

open Sys2Proof Sys2Proof.Machine

/-- Settles O5, by the laws of a read after a write of a field. -/
theorem setFieldReadsBack : Obligations.SetFieldReadsBack := by
  intro d f v hlo hhi
  exact ⟨d.get_set_same f v ⟨hlo, hhi⟩, fun g glo ghi hg => d.get_set_apart f g v ⟨hlo, hhi⟩ ⟨glo, ghi⟩ hg,
    fun a ha => d.reg_set_of_ne f v ha, rfl, rfl, rfl⟩

/-- Settles O39, command by command: a full reset is its base with the survivors put back and its cause named. -/
theorem resetsAndSurvivors : Obligations.ResetsAndSurvivors := by
  intro s
  refine ⟨powerOnReset_leaves s, resetnFall_leaves s, fun width hw => .of_exec ?_, railFault_leaves s, fun ha => .of_exec ?_,
    fun run => ⟨fun hdue => .of_exec ?_, fullReset_held_leaves s run⟩⟩
  · rw [exec_resetnFall, s.dev.resetnFall_short hw]
  · rw [exec_porRelease, s.dev.porRelease_aonBad ha]
  · rw [exec_fullReset, s.dev.resetNow_absent run (by simp [Device.resetDue, hdue])]

end

section
/-! Frames of the shared operations: what posting an event, counting, the checked memories and the Lookout map leave of the correction pool, and
which registers flags and counters leave as they are. -/

namespace Sys2Proof.Machine

/-! ### A fold whose every step keeps a part keeps it -/

theorem foldl_keeps {α β : Type} (φ : Device → β) (f : Device → α → Device) (l : List α) (d : Device)
    (h : ∀ s, ∀ x ∈ l, φ (f s x) = φ s) : φ (l.foldl f d) = φ d :=
  List.foldlRecOn (motive := fun s => φ s = φ d) l f rfl fun s hs x hx => (h s x hx).trans hs

/-! ### Events and counters -/

theorem Posted.pool {d e : Device} (h : Posted d e) : e.pool = d.pool := by
  obtain ⟨_, _, _, _, _, _, _, rfl⟩ := h.rest
  rfl

theorem InBlock.pool {blk : Nat} {d e : Device} (h : InBlock blk d e) : e.pool = d.pool := by
  obtain ⟨_, _, _, rfl⟩ := h.rest
  rfl

@[simp] theorem Device.pool_post (d : Device) (block event : Nat) (unit data : Word) : (d.post block event unit data).pool = d.pool :=
  (post_posted d block event unit data).pool

@[simp] theorem Device.pool_raiseAt (d : Device) (f : Fld) (unit data : Word) : (d.raiseAt f unit data).pool = d.pool := by
  unfold Device.raiseAt
  split
  · rfl
  · exact Device.pool_post _ _ _ _ _

@[simp] theorem Device.pool_raise (d : Device) (f : Fld) (data : Word) : (d.raise f data).pool = d.pool := d.pool_raiseAt f _ data

@[simp] theorem Device.pool_count (d : Device) (f : Fld) (n : Nat) : (d.count f n).pool = d.pool := by
  unfold Device.count
  split <;> rfl

@[simp] theorem Device.live_count (d : Device) (f : Fld) (n : Nat) : (d.count f n).live = d.live := by
  unfold Device.count
  split <;> rfl

theorem Device.pool_pmuAdd (d : Device) (ev unit n : Nat) (l : List Nat) : (d.pmuAdd ev unit n l).1.pool = d.pool := by
  induction l with
  | nil => rfl
  | cons i is ih =>
    unfold Device.pmuAdd
    split
    next e ws he =>
    rw [he] at ih
    split
    · exact ih
    · exact ih

/-- A general counter's overflow bit is set, and OVF under OVF_INT (R560). -/
def Device.pmuOverflow (s : Device) (i : Nat) : Device :=
  let s1 := s.setReg (F.PMU_OVF (i / 32)).addr (s.reg (F.PMU_OVF (i / 32)).addr ||| BitVec.ofNat 32 (2 ^ (i % 32)))
  if s1.flag (F.PMU_EVSEL_OVF_INT i) then s1.raise F.PMU_INT_STATUS_OVF (BitVec.ofNat 32 i) else s1

/-- The general counters count, and those that wrap overflow. -/
theorem Device.pmu_eq (d : Device) (ev unit n : Nat) :
    d.pmu ev unit n = if n = 0 then d else
      (d.pmuAdd ev unit n d.pmuActive).2.foldl Device.pmuOverflow (d.pmuAdd ev unit n d.pmuActive).1 := rfl

@[simp] theorem Device.pool_pmuOverflow (d : Device) (i : Nat) : (d.pmuOverflow i).pool = d.pool := by
  unfold Device.pmuOverflow
  extract_lets s1
  split
  · exact s1.pool_raise _ _
  · rfl

@[simp] theorem Device.pool_pmu (d : Device) (ev unit n : Nat) : (d.pmu ev unit n).pool = d.pool := by
  rw [d.pmu_eq]
  split
  · rfl
  · exact (foldl_keeps Device.pool _ _ _ fun s i _ => s.pool_pmuOverflow i).trans (d.pool_pmuAdd ev unit n _)

/-! ### The checked memories and the Lookout map -/

@[simp] theorem Device.pool_recordCorrection (d : Device) (blk : Nat) (loc : Word) : (d.recordCorrection blk loc).pool = d.pool := by
  unfold Device.recordCorrection
  extract_lets key kept m
  split
  · rfl
  · extract_lets n d1 d2
    have h1 : d1.pool = d.pool := Device.pool_post _ _ _ _ _
    split
    · rfl
    · split
      · split
        · simpa [Device.setFlips, d2] using h1
        · split
          · exact h1
          · simpa using h1
      · exact h1

@[simp] theorem Device.pool_countCorrection (d : Device) (blk : Nat) (c : BlockClass) : (d.countCorrection blk c).pool = d.pool := by
  simp [Device.countCorrection]

@[simp] theorem Device.pool_ownPrepare (d : Device) (blk : Nat) : (d.ownPrepare blk).pool = d.pool := by
  unfold Device.ownPrepare
  split
  · rfl
  · exact (inBlock_recheck d blk).pool
  · exact (inBlock_recheck d blk).pool
  · exact (Device.pool_countCorrection _ _ _).trans (inBlock_mend d blk _).pool

@[simp] theorem Device.pool_ownClean (d : Device) (a n : Nat) : (d.ownClean a n).pool = d.pool := by
  refine foldl_keeps Device.pool _ _ d fun s b _ => ?_
  split
  · rfl
  · split
    · exact (inBlock_recheck s b).pool
    · exact s.pool_ownPrepare b

@[simp] theorem Device.pool_setBytes (d : Device) (a : Nat) (vs : List Byte) : (d.setBytes a vs).pool = d.pool := by
  induction vs generalizing d a with
  | nil => rfl
  | cons v vs ih => exact ih (d.setByte a v) (a + 1)

@[simp] theorem Device.pool_captureInc (d : Device) (off : Nat) : (d.captureInc off).pool = d.pool := by
  unfold Device.captureInc
  extract_lets w
  split
  · rfl
  · simp [Device.capturePut, Device.ownWrite]

@[simp] theorem Device.pool_fecEvent (d : Device) (n : Lane) (ev : Nat) : (d.fecEvent n ev).pool = d.pool := by
  unfold Device.fecEvent
  extract_lets st
  split <;> rfl

@[simp] theorem Device.live_fecEvent (d : Device) (n : Lane) (ev : Nat) : (d.fecEvent n ev).live = d.live := by
  unfold Device.fecEvent
  extract_lets st
  split <;> rfl

@[simp] theorem Device.pool_emapCount (d : Device) (n : Lane) (which : Nat) : (d.emapCount n which).pool = d.pool := by
  unfold Device.emapCount
  split <;> simp

@[simp] theorem Device.pool_classify (d : Device) (busy : List Nat) (retired : Bool) (event : Nat) :
    (d.classify busy retired event).pool = d.pool := by
  rw [Device.classify, Device.pool_pmu]
  exact (foldl_keeps Device.pool _ _ _ fun s g _ => s.pool_pmu _ _ _).trans (d.pool_count _ _)

/-! ### Registers under flags and counters -/

theorem Device.get_congr {d e : Device} {f : Fld} (h : e.reg f.addr = d.reg f.addr) : e.get f = d.get f := by
  rw [Device.get, h, Device.get]

theorem Device.flag_eq_true {d : Device} {f : Fld} (h : d.get f = 1) : d.flag f = true := by simp [Device.flag, h]

theorem Device.flag_eq_false {d : Device} {f : Fld} (h : d.get f = 0) : d.flag f = false := by simp [Device.flag, h]

/-- The registers that posting an event writes lie below the PMU's. -/
theorem not_mem_eventRegs_of_le {a : Nat} (h : F.PMU_CTRL.addr ≤ a) : a ∉ eventRegs := fun hm =>
  absurd h (Nat.not_le_of_lt ((by decide : ∀ b ∈ eventRegs, b < F.PMU_CTRL.addr) a hm))

theorem Device.reg_raise (d : Device) {f : Fld} (data : Word) (hok : f.ok) (h1 : f.hi = f.lo) {a : Nat} (ha : a ∉ eventRegs)
    (hf : a ≠ f.addr) : (d.raise f data).reg a = d.reg a :=
  ((raise_posted d f data hok h1).regs a ha).trans (d.reg_set_of_ne f 1 hf)

/-- A flag that is raised reads 1. -/
theorem Device.get_raise_same (d : Device) {f : Fld} (data : Word) (hok : f.ok) (h1 : f.hi = f.lo) (ha : f.addr ∉ eventRegs) :
    (d.raise f data).get f = 1 := by
  rw [Device.get_congr ((raise_posted d f data hok h1).regs _ ha), Device.get_set_same _ _ _ hok, h1]
  simp

theorem Device.reg_count (d : Device) {f : Fld} (n : Nat) {a : Nat} (hl : a ≠ f.addr) (hh : a ≠ f.addr + 4) :
    (d.count f n).reg a = d.reg a := by
  unfold Device.count Device.setPair
  split
  · rfl
  · rw [Device.reg_setReg_of_ne _ _ hh, Device.reg_setReg_of_ne _ _ hl]

/-- The general counters that count are listed ones, and so are those that wrap. -/
theorem Device.reg_pmuAdd (d : Device) (ev unit n : Nat) (l : List Nat) (hl : ∀ i ∈ l, i < 64) {a : Nat} (ha : F.MON_CTRL.addr ≤ a) :
    (d.pmuAdd ev unit n l).1.reg a = d.reg a ∧ ∀ i ∈ (d.pmuAdd ev unit n l).2, i < 64 := by
  induction l with
  | nil => exact ⟨rfl, by simp [Device.pmuAdd]⟩
  | cons i is ih =>
    obtain ⟨hi, his⟩ := List.forall_mem_cons.1 hl
    obtain ⟨hreg, hws⟩ := ih his
    have hne : a ≠ (F.PMU_CNT i).addr ∧ a ≠ (F.PMU_CNT i).addr + 4 := by
      simp only [F.PMU_CNT, F.MON_CTRL] at *
      omega
    unfold Device.pmuAdd
    split
    next e ws he =>
    rw [he] at hreg hws
    split
    · refine ⟨?_, ?_⟩
      · rw [← hreg]
        exact (Device.reg_setReg_of_ne _ _ hne.2).trans (Device.reg_setReg_of_ne _ _ hne.1)
      · dsimp only
        split
        · exact List.forall_mem_cons.2 ⟨hi, hws⟩
        · exact hws
    · exact ⟨hreg, hws⟩

theorem Device.reg_pmuOverflow (d : Device) {i : Nat} (hi : i < 64) {a : Nat} (ha : F.MON_CTRL.addr ≤ a) :
    (d.pmuOverflow i).reg a = d.reg a := by
  have hne : a ≠ (F.PMU_OVF (i / 32)).addr ∧ a ≠ F.PMU_INT_STATUS_OVF.addr := by
    simp only [F.PMU_OVF, F.PMU_INT_STATUS_OVF, F.MON_CTRL] at *
    omega
  unfold Device.pmuOverflow
  extract_lets s1
  have hs1 : s1.reg a = d.reg a := d.reg_setReg_of_ne _ hne.1
  split
  · rw [Device.reg_raise _ _ (by decide) rfl (not_mem_eventRegs_of_le (Nat.le_trans (by decide) ha)) hne.2, hs1]
  · exact hs1

/-- Counting an event on the general counters writes no register beyond the PMU's. -/
theorem Device.reg_pmu (d : Device) (ev unit n : Nat) {a : Nat} (ha : F.MON_CTRL.addr ≤ a) : (d.pmu ev unit n).reg a = d.reg a := by
  obtain ⟨hreg, hws⟩ := d.reg_pmuAdd ev unit n d.pmuActive (fun i hi => List.mem_range.1 (List.mem_filter.1 hi).1) ha
  rw [d.pmu_eq]
  split
  · rfl
  · exact (foldl_keeps (fun s => s.reg a) _ _ _ fun s i hi => s.reg_pmuOverflow (hws i hi) ha).trans hreg

end Sys2Proof.Machine
end

section
/-! The correction pool: what the arrival of a codeword leaves (R88 to R92, Table 3-1). -/

namespace Sys2Proof.Machine

theorem exec_codewordArrival (n : Lane) (k : Fin 2) (c : CwIn) (s : State) :
    exec (.codewordArrival n k c) s = .next { s with dev := s.dev.arrive n k c } := rfl

/-! ### The parts of an arrival -/

/-- The device once an arriving codeword of stream index `k` is counted, and its nonzero syndrome if it has one. -/
def Device.counted (d : Device) (n : Lane) (k : Fin 2) (c : CwIn) : Device :=
  let d1 := (((d.count (F.LRX_CW_TOTAL n k)).learnMarker n k c).storeWrite n k).modRx n fun r => { r with cwCount := r.cwCount + 1 }
  if c.zero then d1 else (d1.count (F.LRX_CW_NZ n k)).fecEvent n 0

/-- A codeword as it is held from its arrival on, in the device that has counted it. -/
def Device.newFlight (d : Device) (n : Lane) (k : Fin 2) (c : CwIn) : Flight :=
  let m := (d.rx.get n).markers.get k
  { tag := d.pool.nextTag, time := c.time, deadline := if !d.poolUse n then c.time else c.time + d.window, k := k, bits := c.bits,
    place := if m.period.isSome then m.since else none,
    permitted := if d.pool.laneEnf.get n = 0 then d.lget F.POOL_CTRL_MAX_PASS else 1,
    outcome := if c.zero || !d.poolUse n then some .clean else none, record := [], poisoned := false, lost := false,
    through := !d.poolUse n, busy := List.replicate 8 0 }

/-- A codeword is held: the newest of its lane in flight. -/
def Device.holdFlight (d : Device) (n : Lane) (f : Flight) : Device :=
  d.modPool fun _ => { d.pool with nextTag := d.pool.nextTag + 1, flights := d.pool.flights.set n (d.pool.flights.get n ++ [f]) }

/-- The work item of a codeword that arrives with errors. -/
def arrivalItem (n : Lane) (tag : Nat) (c : CwIn) : WorkItem :=
  { lane := n, tag := tag, time := c.time, syndromes := c.syndromes, short := shortlistOf c.weak, requeued := false }

/-- The device once an arriving codeword is counted and held. -/
def Device.takenIn (d : Device) (n : Lane) (k : Fin 2) (c : CwIn) : Device :=
  (d.counted n k c).holdFlight n ((d.counted n k c).newFlight n k c)

/-- A work item enters its berth and is offered (R92, R93). -/
def Device.enterBerth (d : Device) (b : Nat) (x : WorkItem) : Device :=
  let e := ((d.setBerth b (d.berth b ++ [x])).count F.POOL_ADMIT).pmu 0x020A b
  (e.modPool fun _ => { e.pool with admits := e.pool.admits + 1, windowAdmits := e.pool.windowAdmits + 1 }).offer b x

/-- A held codeword with errors enters berth `b`, unless the berth is full or the cap of the window is reached (R92, R121). -/
def Device.berthOrRefuse (d : Device) (n : Lane) (b tag : Nat) (c : CwIn) : Device :=
  if 4 ≤ (d.berth b).length || d.capOf d.pool.capBand ≤ d.pool.windowAdmits then d.refuse n tag else d.enterBerth b (arrivalItem n tag c)

/-- An arrival is a count, a codeword held, and where it is due an entry into a berth. -/
theorem Device.arrive_eq (d : Device) (n : Lane) (k0 : Fin 2) (c : CwIn) :
    d.arrive n k0 c =
      if !d.tracking n || (d.native n && !d.flag (F.LRX_BW_STATUS_FRAME_LOCK n)) then d
      else
        let k := d.streamIndex n k0
        let e := d.counted n k c
        if c.zero || !e.poolUse n then d.takenIn n k c else (d.takenIn n k c).berthOrRefuse n (streamOf n k) e.pool.nextTag c := by
  unfold Device.arrive
  rfl

/-! ### Counting leaves the pool and the live registers as they are -/

@[simp] theorem Device.pool_learnMarker (d : Device) (n : Lane) (k : Fin 2) (c : CwIn) : (d.learnMarker n k c).pool = d.pool := by
  unfold Device.learnMarker
  split <;> rfl

@[simp] theorem Device.live_learnMarker (d : Device) (n : Lane) (k : Fin 2) (c : CwIn) : (d.learnMarker n k c).live = d.live := by
  unfold Device.learnMarker
  split <;> rfl

theorem Device.lget_congr {d e : Device} (h : e.live = d.live) (f : Fld) : e.lget f = d.lget f := by
  rw [Device.lget, Device.liveReg, h]
  rfl

theorem Device.window_congr {d e : Device} (h : e.live = d.live) : e.window = d.window := by
  rw [Device.window, Device.lget_congr h, Device.window]

theorem Device.native_congr {d e : Device} (h : e.live = d.live) (n : Lane) : e.native n = d.native n := by
  rw [Device.native, Device.rate, Device.lget_congr h, Device.native, Device.rate]

theorem Device.poolUse_congr {d e : Device} (h : e.live = d.live) (n : Lane) : e.poolUse n = d.poolUse n := by
  rw [Device.poolUse, Device.native_congr h, Device.lget_congr h, Device.poolUse]

/-- The delay store of a standard lane is no group buffer. -/
theorem Device.storeWrite_standard (d : Device) {n : Lane} (h : d.native n = false) (k : Nat) : d.storeWrite n k = d := by
  simp [Device.storeWrite, h]

/-- Counting a codeword of a standard lane. -/
theorem Device.counted_keeps (d : Device) {n : Lane} (h : d.native n = false) (k : Fin 2) (c : CwIn) :
    (d.counted n k c).pool = d.pool ∧ (d.counted n k c).live = d.live := by
  have hl : ((d.count (F.LRX_CW_TOTAL n k)).learnMarker n k c).live = d.live := by simp
  rw [Device.counted, Device.storeWrite_standard _ ((Device.native_congr hl n).trans h)]
  split <;> simp

/-! ### Holding and refusing -/

@[simp] theorem Device.flights_holdFlight (d : Device) (n : Lane) (f : Flight) :
    (d.holdFlight n f).pool.flights.get n = d.pool.flights.get n ++ [f] :=
  Vector.getElem_set_self n.isLt

theorem Device.flights_modFlight (d : Device) (n : Lane) (tag : Nat) (g : Flight → Flight) :
    (d.modFlight n tag g).pool.flights.get n = (d.pool.flights.get n).map fun x => if x.tag = tag then g x else x :=
  Vector.getElem_set_self n.isLt

/-- A codeword that becomes a deadline miss is classified and counted; of the pool only its outcome and the count of misses change. -/
theorem Device.pool_decideCw_miss (d : Device) {n : Lane} {tag : Nat} {f : Flight} (h : d.flight? n tag = some f)
    (rec : List (Nat × BitVec 10)) :
    (d.decideCw n tag .miss rec).pool =
      { (d.modFlight n tag fun x => { x with outcome := some .miss, record := rec }).pool with misses := d.pool.misses + 1 } := by
  simp [Device.decideCw, h, Device.modPool, Device.modFlight]

theorem Device.pool_refuse (d : Device) (n : Lane) (tag : Nat) : (d.refuse n tag).pool = (d.decideCw n tag .miss []).pool := by
  simp [Device.refuse]

/-- The newest codeword of a lane is refused: it is a deadline miss, and those before it and the berths stand. -/
theorem Device.refuse_newest (d : Device) (n : Lane) (f : Flight) (hnew : ∀ g ∈ d.pool.flights.get n, g.tag ≠ f.tag) :
    ((d.holdFlight n f).refuse n f.tag).pool.flights.get n = d.pool.flights.get n ++ [{ f with outcome := some .miss, record := [] }] ∧
    ((d.holdFlight n f).refuse n f.tag).pool.berths = d.pool.berths := by
  have hfind : (d.holdFlight n f).flight? n f.tag = some f := by
    have hnone : (d.pool.flights.get n).find? (fun x => x.tag == f.tag) = none := by simpa using hnew
    simp [Device.flight?, hnone]
  have hold : (d.pool.flights.get n).map (fun x => if x.tag = f.tag then { x with outcome := some .miss, record := [] } else x)
      = d.pool.flights.get n :=
    (List.map_congr_left fun g hg => if_neg (hnew g hg)).trans (List.map_id _)
  rw [Device.pool_refuse, Device.pool_decideCw_miss _ hfind]
  refine ⟨?_, rfl⟩
  rw [Device.flights_modFlight, Device.flights_holdFlight, List.map_append, hold]
  simp

/-- A codeword taken in is the newest in flight of its lane; the berths stand. -/
theorem Device.takenIn_keeps (d : Device) {n : Lane} (hn : d.native n = false) (k : Fin 2) (c : CwIn) :
    (d.takenIn n k c).pool.flights.get n = d.pool.flights.get n ++ [(d.counted n k c).newFlight n k c] ∧
    (d.takenIn n k c).pool.berths = d.pool.berths := by
  obtain ⟨hp, -⟩ := d.counted_keeps hn k c
  refine ⟨?_, ?_⟩
  · rw [Device.takenIn, Device.flights_holdFlight, hp]
  · rw [← hp]
    rfl

/-! ### The arrival at a standard lane that uses the pool, by its syndrome -/

/-- What is kept of a codeword that is taken in. -/
theorem Device.newFlight_counted (d : Device) {n : Lane} (k : Fin 2) (c : CwIn) (hn : d.native n = false) (hu : d.poolUse n = true) :
    ((d.counted n k c).newFlight n k c).tag = d.pool.nextTag ∧ ((d.counted n k c).newFlight n k c).deadline = c.time + d.window ∧
    ((d.counted n k c).newFlight n k c).outcome = if c.zero then some .clean else none := by
  obtain ⟨hp, hl⟩ := d.counted_keeps hn k c
  refine ⟨congrArg Pool.nextTag hp, ?_, ?_⟩
  · simp [Device.newFlight, Device.poolUse_congr hl, hu, Device.window_congr hl]
  · simp [Device.newFlight, Device.poolUse_congr hl, hu]

section
variable (d : Device) {n : Lane} (k : Fin 2) {c : CwIn} (ht : d.tracking n = true) (hn : d.native n = false) (hu : d.poolUse n = true)
include ht hn

/-- A zero syndrome: no more than taken in. -/
theorem Device.arrive_zero (hz : c.zero = true) : d.arrive n k c = d.takenIn n (d.streamIndex n k) c := by
  simp [Device.arrive_eq, ht, hn, hz]

include hu

/-- A nonzero syndrome with no room in its berth: taken in and refused. -/
theorem Device.arrive_full (hz : c.zero = false) (hfull : 4 ≤ (d.berth (streamOf n (d.streamIndex n k))).length) :
    d.arrive n k c = (d.takenIn n (d.streamIndex n k) c).refuse n d.pool.nextTag := by
  obtain ⟨hp, hl⟩ := d.counted_keeps hn (d.streamIndex n k) c
  have hb : ∀ b, (d.takenIn n (d.streamIndex n k) c).berth b = d.berth b := fun b => by
    rw [Device.berth, (d.takenIn_keeps hn _ c).2, Device.berth]
  simp [Device.arrive_eq, ht, hn, hz, Device.poolUse_congr hl, hu, hp, Device.berthOrRefuse, hb, hfull]

end

/-! ### The command -/

theorem codewordArrival_zero (s : State) (n : Lane) (k : Fin 2) (c : CwIn) (ht : s.dev.tracking n = true) (hn : s.dev.native n = false)
    (hu : s.dev.poolUse n = true) (hz : c.zero = true) :
    Gives (.codewordArrival n k c) s fun e => ∃ f : Flight,
      e.pool.flights.get n = s.dev.pool.flights.get n ++ [f] ∧ f.time = c.time ∧ f.deadline = c.time + s.dev.window ∧
      f.k.val = (s.dev.rx.get n).cwCount % 2 ∧ f.bits = c.bits ∧ f.outcome = some .clean ∧ e.pool.berths = s.dev.pool.berths := by
  refine .of_exec (exec_codewordArrival n k c s) ?_
  rw [s.dev.arrive_zero k ht hn hz]
  obtain ⟨hfl, hb⟩ := s.dev.takenIn_keeps hn (s.dev.streamIndex n k) c
  obtain ⟨-, hdl, hout⟩ := s.dev.newFlight_counted (s.dev.streamIndex n k) c hn hu
  refine ⟨_, hfl, rfl, hdl, ?_, rfl, hout.trans (if_pos hz), hb⟩
  simp [Device.newFlight, Device.streamIndex, hn]

theorem codewordArrival_full (s : State) (n : Lane) (k : Fin 2) (c : CwIn) (ht : s.dev.tracking n = true) (hn : s.dev.native n = false)
    (hu : s.dev.poolUse n = true) (hz : c.zero = false) (hfull : 4 ≤ (s.dev.berth (streamOf n (s.dev.streamIndex n k))).length)
    (hnew : ∀ f ∈ s.dev.pool.flights.get n, f.tag ≠ s.dev.pool.nextTag) :
    Gives (.codewordArrival n k c) s fun e => ∃ f : Flight,
      e.pool.flights.get n = s.dev.pool.flights.get n ++ [f] ∧ f.deadline = c.time + s.dev.window ∧
      f.outcome = some .miss ∧ e.pool.berths = s.dev.pool.berths := by
  refine .of_exec (exec_codewordArrival n k c s) ?_
  obtain ⟨hp, -⟩ := s.dev.counted_keeps hn (s.dev.streamIndex n k) c
  obtain ⟨htag, hdl, -⟩ := s.dev.newFlight_counted (s.dev.streamIndex n k) c hn hu
  rw [s.dev.arrive_full k ht hn hu hz hfull, Device.takenIn, ← htag]
  obtain ⟨hfl, hb⟩ := (s.dev.counted n (s.dev.streamIndex n k) c).refuse_newest n
    ((s.dev.counted n (s.dev.streamIndex n k) c).newFlight n (s.dev.streamIndex n k) c) (by rw [hp, htag]; exact hnew)
  exact ⟨{ (s.dev.counted n (s.dev.streamIndex n k) c).newFlight n (s.dev.streamIndex n k) c with outcome := some .miss, record := [] },
    by rw [hfl, hp], hdl, rfl, by rw [hb, hp]⟩

end Sys2Proof.Machine

open Sys2Proof Sys2Proof.Machine

/-- Settles O14, by the arrival's parts: the codeword is counted and held, and with its berth full it is refused. -/
theorem codewordArrival : Obligations.CodewordArrival := by
  intro s n k c ht hr hu
  have hn : s.dev.native n = false := by simp [Device.native, hr]
  exact ⟨codewordArrival_zero s n k c ht hn hu, codewordArrival_full s n k c ht hn hu⟩

end

section
/-! The safe state (R389 to R392): which registers its entry leaves as they are, and what it shows. -/

namespace Sys2Proof.Machine

/-! ### The pilot's injection point and the manifests -/

@[simp] theorem Device.reg_pilotTx (d : Device) (n : Lane) (a : Nat) : (d.pilotTx n).reg a = d.reg a := by
  unfold Device.pilotTx
  extract_lets on
  split <;> rfl

/-- Moving the injection point writes LTX_STATUS of the lane. -/
theorem Device.reg_aimInject (d : Device) (n : Lane) {a : Nat} (h : a ≠ (F.LTX_STATUS n).addr) : (d.aimInject n).reg a = d.reg a := by
  unfold Device.aimInject
  extract_lets v
  split
  · rfl
  · split
    · rfl
    · rw [Device.setInject, Device.reg_pilotTx, Device.reg_modTx, Device.reg_setB_of_ne _ (F.LTX_STATUS_PILOT_LVL n) _ h,
      Device.reg_setB_of_ne _ (F.LTX_STATUS_PILOT_LF n) _ h]

theorem Device.reg_aimAll (d : Device) {a : Nat} (h : ∀ n : Lane, a ≠ (F.LTX_STATUS n).addr) :
    (lanes.foldl (fun s n => s.aimInject n) d).reg a = d.reg a :=
  foldl_keeps (fun s => s.reg a) _ _ _ fun s n _ => s.reg_aimInject n (h n)

theorem Device.reg_dataEnd (d : Device) (n : Lane) {a : Nat} (h : a ≠ (F.LTX_STATUS n).addr) : (d.dataEnd n).reg a = d.reg a := by
  rw [Device.dataEnd, Device.reg_aimInject _ _ h, Device.reg_modTx, Device.reg_set_of_ne _ (F.LTX_STATUS_RAMP n) _ h,
    Device.reg_set_of_ne _ (F.LTX_STATUS_LIVE n) _ h]

@[simp] theorem Device.reg_resultWord (d : Device) (stated : Bool) (w : Word) (a : Nat) : (d.resultWord stated w).1.reg a = d.reg a := by
  unfold Device.resultWord
  split <;> rfl

@[simp] theorem Device.reg_finish (d : Device) (m : Manifest) (status : Nat) (r0 r1 : Word) (a : Nat) :
    (d.finish m status r0 r1).reg a = d.reg a :=
  (Device.reg_resultWord _ _ _ a).trans (d.reg_resultWord _ _ a)

@[simp] theorem Device.reg_settle (d : Device) (p : Goal → Bool) (status : Nat) (r0 r1 : Word) (a : Nat) :
    (d.settle p status r0 r1).reg a = d.reg a :=
  foldl_keeps (fun s => s.reg a) _ _ _ fun s w _ => s.reg_finish w.man status r0 r1 a

/-! ### The entry -/

/-- A lane's output is squelched by the safe state (R390). -/
def Device.squelchSafe (d : Device) (n : Lane) : Device :=
  let e := (d.set (F.LTX_STATUS_SQ_SAFE n) 1).raise (F.LTX_INT_STATUS_SQUELCH n)
  if e.flag (F.LTX_STATUS_LIVE n) then e.dataEnd n else e.aimInject n

/-- SYS_SAFE shows the safe state and its cause, and SAFE is flagged. -/
def Device.showSafe (d : Device) (cause : Nat) : Device :=
  ((d.set F.SYS_SAFE_SAFE 1).set F.SYS_SAFE_SAFE_CAUSE cause).raise F.SYS_INT_STATUS_SAFE

/-- A queued power request is discarded (R392). -/
def Device.dropPower (d : Device) : Device :=
  let p := d.get F.PWR_STATUS_PENDING
  if p = 7 then d
  else (d.set F.PWR_STATUS_PENDING 7).settle (fun g => g == .power p && p != d.get F.PWR_STATUS_TRANS) stBusy

theorem Device.enterSafe_eq (d : Device) (cause : Nat) :
    d.enterSafe cause = if d.flag F.SYS_SAFE_SAFE then d else (lanes.foldl Device.squelchSafe (d.showSafe cause)).dropPower := rfl

/-- A register that neither an event nor the squelch of a lane writes. -/
def apartFromSquelch (a : Nat) : Prop :=
  a ∉ eventRegs ∧ ∀ n : Lane, a ≠ (F.LTX_STATUS n).addr ∧ a ≠ (F.LTX_INT_STATUS n).addr

theorem Device.reg_squelchSafe (d : Device) (n : Lane) {a : Nat} (h : apartFromSquelch a) : (d.squelchSafe n).reg a = d.reg a := by
  obtain ⟨hev, hl⟩ := h
  have he : ((d.set (F.LTX_STATUS_SQ_SAFE n) 1).raise (F.LTX_INT_STATUS_SQUELCH n)).reg a = d.reg a := by
    rw [Device.reg_raise _ (f := F.LTX_INT_STATUS_SQUELCH n) _ ⟨Nat.le_refl 0, Nat.zero_lt_succ 31⟩ rfl hev (hl n).2,
      Device.reg_set_of_ne _ (F.LTX_STATUS_SQ_SAFE n) _ (hl n).1]
  unfold Device.squelchSafe
  extract_lets e
  split
  · exact (e.reg_dataEnd n (hl n).1).trans he
  · exact (e.reg_aimInject n (hl n).1).trans he

theorem Device.reg_showSafe (d : Device) (cause : Nat) {a : Nat} (h : a ∉ eventRegs) (hs : a ≠ F.SYS_SAFE.addr)
    (hi : a ≠ F.SYS_INT_STATUS.addr) : (d.showSafe cause).reg a = d.reg a := by
  rw [Device.showSafe, Device.reg_raise _ (f := F.SYS_INT_STATUS_SAFE) _ (by decide) rfl h hi,
    Device.reg_set_of_ne _ F.SYS_SAFE_SAFE_CAUSE _ hs, Device.reg_set_of_ne _ F.SYS_SAFE_SAFE _ hs]

theorem Device.reg_dropPower (d : Device) {a : Nat} (h : a ≠ F.PWR_STATUS.addr) : d.dropPower.reg a = d.reg a := by
  unfold Device.dropPower
  extract_lets p
  split
  · rfl
  · rw [Device.reg_settle, Device.reg_set_of_ne _ F.PWR_STATUS_PENDING _ h]

/-- What follows the showing of the safe state. -/
theorem Device.reg_safeRest (d : Device) {a : Nat} (h : apartFromSquelch a) (hp : a ≠ F.PWR_STATUS.addr) :
    (lanes.foldl Device.squelchSafe d).dropPower.reg a = d.reg a :=
  (Device.reg_dropPower _ hp).trans (foldl_keeps (fun s => s.reg a) _ _ _ fun s n _ => s.reg_squelchSafe n h)

/-- Entry into the safe state writes SYS_SAFE, its flag, the power request, the lanes' outputs and what events write. -/
theorem Device.reg_enterSafe (d : Device) (cause : Nat) {a : Nat} (h : apartFromSquelch a)
    (hs : a ≠ F.SYS_SAFE.addr) (hi : a ≠ F.SYS_INT_STATUS.addr) (hp : a ≠ F.PWR_STATUS.addr) : (d.enterSafe cause).reg a = d.reg a := by
  rw [d.enterSafe_eq]
  split
  · rfl
  · exact (Device.reg_safeRest _ h hp).trans (d.reg_showSafe cause h.1 hs hi)

/-- The safe state entered shows its cause. -/
theorem Device.enterSafe_shows (d : Device) (cause : Nat) (h : d.get F.SYS_SAFE_SAFE = 0) :
    (d.enterSafe cause).get F.SYS_SAFE_SAFE = 1 ∧ (d.enterSafe cause).get F.SYS_SAFE_SAFE_CAUSE = cause % 256 := by
  have hreg : (d.enterSafe cause).reg F.SYS_SAFE.addr = ((d.set F.SYS_SAFE_SAFE 1).set F.SYS_SAFE_SAFE_CAUSE cause).reg F.SYS_SAFE.addr := by
    rw [d.enterSafe_eq, Device.flag_eq_false h, if_neg Bool.false_ne_true, Device.reg_safeRest _ ⟨by decide, by decide⟩ (by decide), Device.showSafe,
      Device.reg_raise _ _ (by decide) rfl (by decide) (by decide)]
  constructor
  · rw [Device.get_congr (f := F.SYS_SAFE_SAFE) hreg, Device.get_set_apart _ _ _ _ (by decide) (by decide) (by decide), Device.get_set_same _ _ _ (by decide)]
    rfl
  · rw [Device.get_congr (f := F.SYS_SAFE_SAFE_CAUSE) hreg, Device.get_set_same _ _ _ (by decide)]
    rfl

/-- The pool's and the engines' registers lie beyond those that the safe state writes. -/
theorem Device.reg_quarantineJudge (d : Device) {a : Nat} (ha : F.POOL_CTRL.addr ≤ a) : d.quarantineJudge.reg a = d.reg a := by
  have hev : a ∉ eventRegs := not_mem_eventRegs_of_le (Nat.le_trans (by decide) ha)
  simp only [F.POOL_CTRL] at ha
  have hl : ∀ n : Lane, a ≠ (F.LTX_STATUS n).addr ∧ a ≠ (F.LTX_INT_STATUS n).addr := fun n => by
    simp only [F.LTX_STATUS, F.LTX_INT_STATUS]
    omega
  have hs : a ≠ F.SYS_SAFE.addr ∧ a ≠ F.SYS_INT_STATUS.addr ∧ a ≠ F.PWR_STATUS.addr := by
    simp only [F.SYS_SAFE, F.SYS_INT_STATUS, F.PWR_STATUS]
    omega
  unfold Device.quarantineJudge
  split
  · exact d.reg_enterSafe 1 ⟨hev, hl⟩ hs.1 hs.2.1 hs.2.2
  · rfl

/-- Below LTX_STATUS of lane 0 no register is one of the lanes' outputs. -/
theorem Device.reg_aimAll_low (d : Device) {a : Nat} (h : a < (F.LTX_STATUS 0).addr) : (lanes.foldl (fun s n => s.aimInject n) d).reg a = d.reg a :=
  d.reg_aimAll fun n => by
    simp only [F.LTX_STATUS] at *
    omega

theorem apartFromSquelch_of_low {a : Nat} (hev : a ∉ eventRegs) (h : a < (F.LTX_STATUS 0).addr) : apartFromSquelch a :=
  ⟨hev, fun n => by
    simp only [F.LTX_STATUS, F.LTX_INT_STATUS] at *
    omega⟩

end Sys2Proof.Machine
end

section
/-! In-field BIST: the slices of the engines and the sub-slices of the blocks without redundancy (R35, R536 to R538). -/

namespace Sys2Proof.Machine

theorem exec_bistSliceStart (s : State) : exec .bistSliceStart s = .next { s with dev := s.dev.sliceStart } := rfl
theorem exec_bistSliceEnd (i : Eng) (pass : Bool) (s : State) :
    exec (.bistSliceEnd i pass) s = .next { s with dev := s.dev.sliceEnd i pass } := rfl
theorem exec_nrSubslice (b : NrBlock) (r : NrResult) (s : State) :
    exec (.nrSubslice b r) s = .next { s with dev := s.dev.nrSubslice b r } := rfl

/-! ### An engine's job -/

@[simp] theorem Device.engine_modEng (d : Device) (i : Eng) (g : Engine → Engine) :
    (d.modEng i g).pool.engines.get i = g (d.pool.engines.get i) :=
  Vector.getElem_set_self i.isLt

theorem Device.release_chosen (d : Device) {i : Eng} (h : (d.pool.engines.get i).chosen = true) :
    d.release i = ((d.modEng i fun g => { g with job := .slice }).set F.BIST_STATUS_SLICE_RUN 1).bump F.BIST_EVENTS_RUN := if_pos h

theorem Device.release_unchosen (d : Device) {i : Eng} (h : (d.pool.engines.get i).chosen = false) :
    d.release i = d.modEng i fun g => { g with job := .idle } := if_neg (by simp [h])

/-- A register from the converter's up that the taking of an item does not write: no counter of the engine's, and not POOL_STOLEN. -/
def apartFromWork (i a : Nat) : Prop :=
  F.MON_CTRL.addr ≤ a ∧ a ≠ (F.ENG_CW i).addr ∧ a ≠ (F.ENG_STOLEN i).addr ∧ a ≠ F.POOL_STOLEN.addr ∧ a ≠ F.POOL_STOLEN.addr + 4

theorem engBist_apartFromWork (i : Nat) : apartFromWork i (F.ENG_BIST i).addr := by
  simp only [apartFromWork, F.MON_CTRL, F.ENG_CW, F.ENG_STOLEN, F.ENG_BIST, F.POOL_STOLEN]
  omega

theorem quar_apartFromWork (i : Nat) {k : Nat} (hk : k < 64) : apartFromWork i (F.POOL_QUAR (k / 32)).addr := by
  simp only [apartFromWork, F.MON_CTRL, F.ENG_CW, F.ENG_STOLEN, F.POOL_QUAR, F.POOL_STOLEN]
  omega

/-- Taking an item leaves the engine's choice for a slice as it is. -/
theorem Device.takeItem_keeps (d : Device) (i : Eng) (b : Nat) (x : WorkItem) :
    ((d.takeItem i b x).pool.engines.get i).chosen = (d.pool.engines.get i).chosen ∧
    ∀ a, apartFromWork i a → (d.takeItem i b x).reg a = d.reg a := by
  unfold Device.takeItem
  extract_lets stolen d1 d2
  have hch : (d1.pool.engines.get i).chosen = (d.pool.engines.get i).chosen := by
    rw [Device.engine_modEng]
    rfl
  have hreg : ∀ a, a ≠ (F.ENG_CW i).addr → d2.reg a = d.reg a := fun a h => d1.reg_set_of_ne _ _ h
  split
  · refine ⟨?_, fun a ⟨ha, hcw, hst, hl, hh⟩ => ?_⟩
    · rw [Device.pool_pmu, Device.pool_count]
      exact hch
    · rw [Device.reg_pmu _ _ _ _ ha, Device.reg_count _ _ hl hh, Device.bump, Device.reg_set_of_ne _ _ _ hst, hreg a hcw]
  · exact ⟨hch, fun a ⟨_, hcw, _⟩ => hreg a hcw⟩

/-- An engine that becomes idle takes an item or stays as it is. -/
theorem Device.engineIdle_cases (d : Device) (i : Eng) : d.engineIdle i = d ∨ ∃ b x, d.engineIdle i = d.takeItem i b x := by
  unfold Device.engineIdle
  extract_lets g
  split
  · split
    · exact .inr ⟨_, _, rfl⟩
    · split
      · exact .inr ⟨_, _, rfl⟩
      · exact .inl rfl
  · exact .inl rfl

theorem Device.engineIdle_keeps (d : Device) (i : Eng) :
    ((d.engineIdle i).pool.engines.get i).chosen = (d.pool.engines.get i).chosen ∧
    ∀ a, apartFromWork i a → (d.engineIdle i).reg a = d.reg a := by
  obtain h | ⟨b, x, h⟩ := d.engineIdle_cases i
  · rw [h]
    exact ⟨rfl, fun _ _ => rfl⟩
  · rw [h]
    exact d.takeItem_keeps i b x

/-! ### The quarantine set -/

theorem Device.quarantined_congr {d e : Device} {k : Nat} (h : e.reg (F.POOL_QUAR (k / 32)).addr = d.reg (F.POOL_QUAR (k / 32)).addr) :
    e.quarantined k = d.quarantined k := by
  rw [Device.quarantined, h, Device.quarantined]

/-- An engine joins the quarantine set, and no other does. -/
theorem Device.quarantined_quarantine (d : Device) (i k : Nat) : (d.quarantine i).quarantined k = (d.quarantined k || decide (k = i)) := by
  have hw : k / 32 = i / 32 → (k % 32 = i % 32 ↔ k = i) := by omega
  unfold Device.quarantine Device.quarantined
  extract_lets a
  rw [Device.reg_setReg]
  by_cases h : k / 32 = i / 32
  · have hbit : (BitVec.ofNat 32 (2 ^ (i % 32))).getLsbD (k % 32) = decide (k = i) := by
      rw [BitVec.getLsbD_ofNat, Nat.testBit_two_pow, decide_eq_true (Nat.mod_lt k (by decide)), Bool.true_and, decide_eq_decide, eq_comm, hw h]
    rw [if_pos (by rw [h]), BitVec.getLsbD_or, hbit, h]
  · have ha : (F.POOL_QUAR (k / 32)).addr ≠ a := by simp only [a, F.POOL_QUAR]; omega
    have hk : k ≠ i := fun e => h (e ▸ rfl)
    simp [ha, hk]

/-- The quarantine set lies behind POOL_INT_STATUS and before the engines' results. -/
theorem quar_between {k : Nat} (hk : k < 64) (i : Nat) :
    F.POOL_INT_STATUS.addr < (F.POOL_QUAR (k / 32)).addr ∧ (F.POOL_QUAR (k / 32)).addr < (F.ENG_BIST i).addr := by
  simp only [F.POOL_QUAR, F.ENG_BIST, F.POOL_INT_STATUS]
  omega

/-! ### A slice falls due -/

theorem Device.sliceStart_off (d : Device) (h : d.get F.BIST_CTRL_ENG_EN = 0) : d.sliceStart = d := by
  simp [Device.sliceStart, Device.flag_eq_false h]

/-- The next engine is chosen for its slice. -/
def Device.choose (d : Device) (i : Eng) : Device :=
  ((d.set F.BIST_STATUS_DEFERRED 0).set F.BIST_STATUS_NEXT_ENG ((d.nextEngine (i.val + 1)).getD ((i.val + 1) % 64))).modEng i
    fun g => { g with chosen := true }

theorem Device.engine_choose (d : Device) (i : Eng) :
    (d.choose i).pool.engines.get i = { d.pool.engines.get i with chosen := true } :=
  Device.engine_modEng _ i _

theorem Device.deferred_choose (d : Device) (i : Eng) : (d.choose i).get F.BIST_STATUS_DEFERRED = 0 := by
  rw [Device.choose, Device.get_modEng, Device.get_set_apart _ _ _ _ (by decide) (by decide) (by decide), Device.get_set_same _ _ _ (by decide)]
  rfl

theorem Device.run_choose (d : Device) (i : Eng) : (d.choose i).get F.BIST_EVENTS_RUN = d.get F.BIST_EVENTS_RUN :=
  Device.get_congr ((Device.reg_set_of_ne _ F.BIST_STATUS_NEXT_ENG _ (by decide)).trans (d.reg_set_of_ne F.BIST_STATUS_DEFERRED _ (by decide)))

/-- A chosen engine that is released starts its slice, which is shown and counted. -/
theorem Device.release_starts (d : Device) {i : Eng} (h : (d.pool.engines.get i).chosen = true) :
    ((d.release i).pool.engines.get i).job = .slice ∧ (d.release i).get F.BIST_STATUS_SLICE_RUN = 1 ∧
    (d.release i).get F.BIST_STATUS_DEFERRED = d.get F.BIST_STATUS_DEFERRED ∧
    (d.release i).get F.BIST_EVENTS_RUN = (d.get F.BIST_EVENTS_RUN + 1) % 2 ^ 16 := by
  rw [d.release_chosen h, Device.bump]
  refine ⟨?_, ?_, ?_, ?_⟩
  · rw [Device.pool_set, Device.pool_set, Device.engine_modEng]
  · rw [Device.get_set_apart _ _ _ _ (by decide) (by decide) (by decide), Device.get_set_same _ _ _ (by decide)]
    rfl
  · rw [Device.get_set_apart _ _ _ _ (by decide) (by decide) (by decide), Device.get_set_apart _ _ _ _ (by decide) (by decide) (by decide),
      Device.get_modEng]
  · rw [Device.get_set_same _ _ _ (by decide), Device.get_set_apart _ _ _ _ (by decide) (by decide) (by decide), Device.get_modEng]
    rfl

section
variable (d : Device) (hen : d.get F.BIST_CTRL_ENG_EN = 1) (hrun : d.get F.PWR_STATUS_STATE = 0)
  (hch : ∀ e : Eng, (d.pool.engines.get e).chosen = false)
include hen hrun hch

/-- A slice falls due while in-field BIST is on, in RUN, and no engine is chosen already. -/
theorem Device.sliceStart_due :
    (!d.flag F.BIST_CTRL_ENG_EN || d.get F.PWR_STATUS_STATE ≠ 0 || engs.any (fun e => (d.pool.engines.get e).chosen)) = false := by
  simp [Device.flag_eq_true hen, hrun, hch]

/-- The conditions of R35 fail: deferred. -/
theorem Device.sliceStart_deferred (hno : d.get F.POOL_STATUS_BELOW_TGT = 0 ∨ d.enf ≠ 0) :
    d.sliceStart = (d.set F.BIST_STATUS_DEFERRED 1).bump F.BIST_EVENTS_DEFERRED := by
  have hmay : d.mayTest = false := by
    obtain h | h := hno
    · simp [Device.mayTest, Device.flag_eq_false h]
    · simp [Device.mayTest, h]
  rw [Device.sliceStart, d.sliceStart_due hen hrun hch, if_neg Bool.false_ne_true, hmay]
  rfl

/-- They hold: the next engine is chosen and, being idle, starts its slice at once. -/
theorem Device.sliceStart_idle {i : Eng} (hb : d.get F.POOL_STATUS_BELOW_TGT = 1) (henf : d.enf = 0)
    (hnext : d.nextEngine (d.get F.BIST_STATUS_NEXT_ENG) = some i.val) (hidle : (d.pool.engines.get i).job = .idle) :
    d.sliceStart = (d.choose i).release i := by
  have hmay : d.mayTest = true := by simp [Device.mayTest, Device.flag_eq_true hb, henf]
  have hi : Fin.ofNat 64 i.val = i := Fin.ext (Nat.mod_eq_of_lt i.isLt)
  have hjob : ((d.choose i).pool.engines.get i).job = .idle := by rw [d.engine_choose, hidle]
  rw [Device.sliceStart, d.sliceStart_due hen hrun hch, if_neg Bool.false_ne_true, hmay, hnext]
  simp only [hi]
  exact if_pos (beq_iff_eq.2 hjob)

end

theorem bistSliceStart_starts (s : State) (i : Eng) (hen : s.dev.get F.BIST_CTRL_ENG_EN = 1) (hrun : s.dev.get F.PWR_STATUS_STATE = 0)
    (hch : ∀ e : Eng, (s.dev.pool.engines.get e).chosen = false) (hb : s.dev.get F.POOL_STATUS_BELOW_TGT = 1) (henf : s.dev.enf = 0)
    (hnext : s.dev.nextEngine (s.dev.get F.BIST_STATUS_NEXT_ENG) = some i.val) (hidle : (s.dev.pool.engines.get i).job = .idle) :
    Gives .bistSliceStart s fun e => (e.pool.engines.get i).job = .slice ∧ e.get F.BIST_STATUS_SLICE_RUN = 1 ∧
      e.get F.BIST_STATUS_DEFERRED = 0 ∧ e.get F.BIST_EVENTS_RUN = (s.dev.get F.BIST_EVENTS_RUN + 1) % 2 ^ 16 := by
  refine .of_exec (exec_bistSliceStart s) ?_
  obtain ⟨hjob, hshown, hdef, hcount⟩ := (s.dev.choose i).release_starts (i := i) (by rw [s.dev.engine_choose])
  rw [s.dev.sliceStart_idle hen hrun hch hb henf hnext hidle]
  exact ⟨hjob, hshown, hdef.trans (s.dev.deferred_choose i), by rw [hcount, s.dev.run_choose]⟩

/-! ### A slice ends -/

/-- A slice is over: its engine is without work and counts as tested. -/
def Device.sliceOver (d : Device) (i : Eng) : Device :=
  (((d.modEng i fun g => { g with chosen := false }).release i).set F.BIST_STATUS_SLICE_RUN 0).set (F.ENG_BIST_TESTED i) 1

theorem Device.sliceEnd_none (d : Device) {i : Eng} (h : (d.pool.engines.get i).job ≠ .slice) (pass : Bool) : d.sliceEnd i pass = d :=
  if_pos (by simpa using h)

theorem Device.sliceEnd_pass (d : Device) {i : Eng} (h : (d.pool.engines.get i).job = .slice) :
    d.sliceEnd i true = ((d.sliceOver i).bump (F.ENG_BIST_PASSES i)).engineIdle i :=
  if_neg (by simp [h])

theorem Device.sliceEnd_fail (d : Device) {i : Eng} (h : (d.pool.engines.get i).job = .slice) :
    d.sliceEnd i false =
      ((((d.sliceOver i).quarantine i.val).set (F.ENG_BIST_FIELD_FAIL i) 1).raise F.POOL_INT_STATUS_QUARANTINE).quarantineJudge :=
  if_neg (by simp [h])

theorem Device.sliceOver_eq (d : Device) (i : Eng) :
    d.sliceOver i = ((((d.modEng i fun g => { g with chosen := false }).modEng i fun g => { g with job := .idle }).set F.BIST_STATUS_SLICE_RUN 0).set
      (F.ENG_BIST_TESTED i) 1) := by
  rw [Device.sliceOver, Device.release_unchosen _ (by rw [Device.engine_modEng])]

theorem Device.chosen_sliceOver (d : Device) (i : Eng) : ((d.sliceOver i).pool.engines.get i).chosen = false := by
  rw [Device.sliceOver_eq, Device.pool_set, Device.pool_set, Device.engine_modEng, Device.engine_modEng]

theorem Device.reg_sliceOver (d : Device) (i : Eng) {a : Nat} (hs : a ≠ F.BIST_STATUS.addr) (ht : a ≠ (F.ENG_BIST i).addr) :
    (d.sliceOver i).reg a = d.reg a := by
  rw [Device.sliceOver_eq, Device.reg_set_of_ne _ (F.ENG_BIST_TESTED i) _ ht, Device.reg_set_of_ne _ F.BIST_STATUS_SLICE_RUN _ hs]
  rfl

theorem tested_ok (i : Nat) : (F.ENG_BIST_TESTED i).ok := ⟨Nat.le_refl 0, (by decide : 0 < 32)⟩
theorem fieldFail_ok (i : Nat) : (F.ENG_BIST_FIELD_FAIL i).ok := ⟨Nat.le_refl 1, (by decide : 1 < 32)⟩
theorem passes_ok (i : Nat) : (F.ENG_BIST_PASSES i).ok := ⟨(by decide : 16 ≤ 31), (by decide : 31 < 32)⟩

theorem Device.passes_sliceOver (d : Device) (i : Eng) : (d.sliceOver i).get (F.ENG_BIST_PASSES i) = d.get (F.ENG_BIST_PASSES i) := by
  have hb : (F.ENG_BIST_PASSES i).addr ≠ F.BIST_STATUS_SLICE_RUN.addr := by
    simp only [F.ENG_BIST_PASSES, F.BIST_STATUS_SLICE_RUN]
    omega
  rw [Device.sliceOver_eq, Device.get_set_apart _ _ _ _ (tested_ok i) (passes_ok i) (.inr (.inl (by decide : 0 < 16))),
    Device.get_set_apart _ _ _ _ (by decide) (passes_ok i) (.inl hb.symm)]
  rfl

theorem Device.quarantined_sliceOver (d : Device) (i : Eng) {k : Nat} (hk : k < 64) : (d.sliceOver i).quarantined k = d.quarantined k := by
  obtain ⟨hlo, hhi⟩ := quar_between hk i
  exact Device.quarantined_congr (d.reg_sliceOver i (Nat.ne_of_gt (Nat.lt_trans (by decide) hlo)) (Nat.ne_of_lt hhi))

theorem bistSliceEnd_pass (s : State) (i : Eng) (h : (s.dev.pool.engines.get i).job = .slice) :
    Gives (.bistSliceEnd i true) s fun e => (e.pool.engines.get i).chosen = false ∧ e.get (F.ENG_BIST_TESTED i) = 1 ∧
      e.get (F.ENG_BIST_PASSES i) = (s.dev.get (F.ENG_BIST_PASSES i) + 1) % 2 ^ 16 ∧ ∀ k < 64, e.quarantined k = s.dev.quarantined k := by
  refine .of_exec (exec_bistSliceEnd i true s) ?_
  rw [s.dev.sliceEnd_pass h]
  obtain ⟨hch, hreg⟩ := ((s.dev.sliceOver i).bump (F.ENG_BIST_PASSES i)).engineIdle_keeps i
  have hkept : (((s.dev.sliceOver i).bump (F.ENG_BIST_PASSES i)).engineIdle i).reg (F.ENG_BIST i).addr =
      ((s.dev.sliceOver i).bump (F.ENG_BIST_PASSES i)).reg (F.ENG_BIST i).addr :=
    hreg _ (engBist_apartFromWork i)
  refine ⟨?_, ?_, ?_, fun k hk => ?_⟩
  · rw [hch, Device.bump, Device.pool_set, s.dev.chosen_sliceOver]
  · rw [Device.get_congr (f := F.ENG_BIST_TESTED i) hkept, Device.bump,
      Device.get_set_apart _ _ _ _ (passes_ok i) (tested_ok i) (.inr (.inr (by decide : 0 < 16))), Device.sliceOver, Device.get_set_same _ _ _ (tested_ok i)]
    rfl
  · rw [Device.get_congr (f := F.ENG_BIST_PASSES i) hkept, Device.bump, Device.get_set_same _ _ _ (passes_ok i), s.dev.passes_sliceOver]
    rfl
  · rw [← s.dev.quarantined_sliceOver i hk]
    exact Device.quarantined_congr ((hreg _ (quar_apartFromWork i hk)).trans
      (Device.reg_set_of_ne _ (F.ENG_BIST_PASSES i) _ (Nat.ne_of_lt (quar_between hk i).2)))

/-- Flagging a quarantine and judging the set leave the pool's other registers and the engines' as they are. -/
theorem Device.reg_flagQuarantine (d : Device) {a : Nat} (ha : F.POOL_CTRL.addr ≤ a) (hne : a ≠ F.POOL_INT_STATUS.addr) :
    (d.raise F.POOL_INT_STATUS_QUARANTINE).quarantineJudge.reg a = d.reg a :=
  (Device.reg_quarantineJudge _ ha).trans (d.reg_raise _ (by decide) rfl (not_mem_eventRegs_of_le (Nat.le_trans (by decide) ha)) hne)

theorem Device.quarantined_sliceEnd_fail (d : Device) {i : Eng} (h : (d.pool.engines.get i).job = .slice) {k : Nat} (hk : k < 64) :
    (d.sliceEnd i false).quarantined k = (d.quarantined k || decide (k = i.val)) := by
  obtain ⟨hint, hbist⟩ := quar_between hk i
  rw [d.sliceEnd_fail h, Device.quarantined_congr (Device.reg_flagQuarantine _ (Nat.le_trans (by decide) (Nat.le_of_lt hint)) (Nat.ne_of_gt hint)),
    ← d.quarantined_sliceOver i hk, ← Device.quarantined_quarantine]
  exact Device.quarantined_congr (Device.reg_set_of_ne _ (F.ENG_BIST_FIELD_FAIL i) _ (Nat.ne_of_lt hbist))

theorem bistSliceEnd_fail (s : State) (i : Eng) (h : (s.dev.pool.engines.get i).job = .slice) :
    Gives (.bistSliceEnd i false) s fun e => e.quarantined i.val = true ∧ e.get (F.ENG_BIST_FIELD_FAIL i) = 1 ∧
      e.get F.POOL_INT_STATUS_QUARANTINE = 1 ∧ ∀ k < 64, k ≠ i.val → e.quarantined k = s.dev.quarantined k := by
  refine .of_exec (exec_bistSliceEnd i false s) ⟨?_, ?_, ?_, fun k hk hne => ?_⟩
  · rw [s.dev.quarantined_sliceEnd_fail h i.isLt, decide_eq_true rfl, Bool.or_true]
  · obtain ⟨hint, hbist⟩ := quar_between i.isLt i
    have hlt : F.POOL_INT_STATUS.addr < (F.ENG_BIST_FIELD_FAIL i).addr := Nat.lt_trans hint hbist
    rw [s.dev.sliceEnd_fail h, Device.get_congr (Device.reg_flagQuarantine _ (Nat.le_trans (by decide) (Nat.le_of_lt hlt)) (Nat.ne_of_gt hlt)),
      Device.get_set_same _ _ _ (fieldFail_ok i)]
    rfl
  · rw [s.dev.sliceEnd_fail h, Device.get_congr (f := F.POOL_INT_STATUS_QUARANTINE) (Device.reg_quarantineJudge _ (by decide)),
      Device.get_raise_same _ _ (by decide) rfl (by decide)]
  · rw [s.dev.quarantined_sliceEnd_fail h hk, decide_eq_false hne, Bool.or_false]

/-! ### Blocks without redundancy -/

theorem Device.nrSubslice_passed (d : Device) (b : NrBlock) : d.nrSubslice b .passed = d := by
  unfold Device.nrSubslice
  split <;> rfl

/-- A failing pilot FFT engine shows in NR_FAIL, is flagged, and puts the device into the safe state. -/
theorem Device.nrSubslice_fft_failed (d : Device) (h : d.get F.BIST_CTRL_NR_EN = 1) :
    d.nrSubslice .fft .failed =
      lanes.foldl (fun s n => s.aimInject n)
        (((d.set F.BIST_STATUS_NR_FAIL (d.get F.BIST_STATUS_NR_FAIL ||| 2 ^ nrBit .fft)).raise F.MEM_INT_STATUS_BIST_FAIL).enterSafe 2) := by
  rw [Device.nrSubslice, Device.flag_eq_true h]
  rfl

theorem nrSubslice_fft_failed_leaves (s : State) (hen : s.dev.get F.BIST_CTRL_NR_EN = 1) (hsafe : s.dev.get F.SYS_SAFE_SAFE = 0) :
    Gives (.nrSubslice .fft .failed) s fun e => e.get F.BIST_STATUS_NR_FAIL % 2 = 1 ∧ e.get F.MEM_INT_STATUS_BIST_FAIL = 1 ∧
      e.get F.SYS_SAFE_SAFE = 1 ∧ e.get F.SYS_SAFE_SAFE_CAUSE = 2 := by
  refine .of_exec (exec_nrSubslice .fft .failed s) ?_
  rw [s.dev.nrSubslice_fft_failed hen]
  generalize hd : s.dev.set F.BIST_STATUS_NR_FAIL (s.dev.get F.BIST_STATUS_NR_FAIL ||| 2 ^ nrBit .fft) = d
  have hsafe' : (d.raise F.MEM_INT_STATUS_BIST_FAIL).get F.SYS_SAFE_SAFE = 0 := by
    rw [Device.get_congr (f := F.SYS_SAFE_SAFE) (d.reg_raise _ (by decide) rfl (by decide) (by decide)), ← hd,
      Device.get_set_apart _ _ _ _ (by decide) (by decide) (by decide), hsafe]
  have hkept : ∀ a ∈ [F.BIST_STATUS.addr, F.MEM_INT_STATUS.addr], (lanes.foldl (fun s n => s.aimInject n)
      ((d.raise F.MEM_INT_STATUS_BIST_FAIL).enterSafe 2)).reg a = (d.raise F.MEM_INT_STATUS_BIST_FAIL).reg a := by
    intro a ha
    obtain ⟨hev, hlow, hs, hi, hp⟩ := (by decide : ∀ a ∈ [F.BIST_STATUS.addr, F.MEM_INT_STATUS.addr], a ∉ eventRegs ∧
      a < (F.LTX_STATUS 0).addr ∧ a ≠ F.SYS_SAFE.addr ∧ a ≠ F.SYS_INT_STATUS.addr ∧ a ≠ F.PWR_STATUS.addr) a ha
    exact (Device.reg_aimAll_low _ hlow).trans (Device.reg_enterSafe _ 2 (apartFromSquelch_of_low hev hlow) hs hi hp)
  obtain ⟨hs, hc⟩ := (d.raise F.MEM_INT_STATUS_BIST_FAIL).enterSafe_shows 2 hsafe'
  refine ⟨?_, ?_, ?_, ?_⟩
  · rw [Device.get_congr (f := F.BIST_STATUS_NR_FAIL) (hkept _ (by decide)),
      Device.get_congr (f := F.BIST_STATUS_NR_FAIL) (d.reg_raise _ (by decide) rfl (by decide) (by decide)), ← hd, Device.get_set_same _ _ _ (by decide),
      Nat.mod_mod_of_dvd _ (by decide), Nat.or_mod_two_eq_one]
    exact .inr rfl
  · rw [Device.get_congr (f := F.MEM_INT_STATUS_BIST_FAIL) (hkept _ (by decide)), Device.get_raise_same _ _ (by decide) rfl (by decide)]
  · rw [Device.get_congr (f := F.SYS_SAFE_SAFE) (Device.reg_aimAll_low _ (by decide)), hs]
  · rw [Device.get_congr (f := F.SYS_SAFE_SAFE_CAUSE) (Device.reg_aimAll_low _ (by decide)), hc]

end Sys2Proof.Machine

open Sys2Proof Sys2Proof.Machine

/-- Settles O47, command by command: when a slice falls due, how it ends, and what a block without redundancy does to the device. -/
theorem inFieldBist : Obligations.InFieldBist := by
  intro s
  refine ⟨fun hoff => .of_exec ?_, fun hen hrun hch => ⟨fun hno => .of_exec ?_, fun i => bistSliceStart_starts s i hen hrun hch⟩,
    fun i hjob pass => .of_exec ?_, fun i hjob => ⟨bistSliceEnd_pass s i hjob, bistSliceEnd_fail s i hjob⟩, fun b => .of_exec ?_,
    nrSubslice_fft_failed_leaves s⟩
  · rw [exec_bistSliceStart, s.dev.sliceStart_off hoff]
  · rw [exec_bistSliceStart, s.dev.sliceStart_deferred hen hrun hch hno]
  · rw [exec_bistSliceEnd, s.dev.sliceEnd_none hjob]
  · rw [exec_nrSubslice, s.dev.nrSubslice_passed b]

end

section
/-! The engines of the correction pool: what taking an item, ending a pass and deciding a codeword leave (R93 to R101, Table 3-13). -/

namespace Sys2Proof.Machine

theorem exec_passEnd (e : Eng) (r : PassResult) (s : State) : exec (.passEnd e r) s = .next { s with dev := s.dev.passEnd e r } := rfl

/-! ### An engine takes an item -/

/-- An engine starts the first pass that an item has still to make. -/
def Device.startPass (d : Device) (e : Eng) (b : Nat) (x : WorkItem) : Device :=
  d.modEng e fun g => { g with job := .pass x b (b / 2 != e.val / 8) (if x.requeued then 2 else 1) }

/-- Of the pool, taking an item changes the berth and the engine. -/
theorem Device.pool_takeItem (d : Device) (e : Eng) (b : Nat) (x : WorkItem) :
    (d.takeItem e b x).pool = ((d.setBerth b ((d.berth b).filter fun y => y != x)).startPass e b x).pool := by
  unfold Device.takeItem
  extract_lets stolen d1 d2
  split
  · rw [Device.pool_pmu, Device.pool_count]
    rfl
  · rfl

theorem Device.engine_modEng_of_ne (d : Device) {i k : Eng} (h : i ≠ k) (g : Engine → Engine) :
    (d.modEng i g).pool.engines.get k = d.pool.engines.get k :=
  Vector.getElem_set_ne i.isLt k.isLt fun hv => h (Fin.ext hv)

/-- An item that is offered is taken by one engine or by none (R93, R95). -/
theorem Device.offer_cases (d : Device) (b : Nat) (x : WorkItem) : d.offer b x = d ∨ ∃ e, d.offer b x = d.takeItem e b x := by
  unfold Device.offer
  split
  · exact .inr ⟨_, rfl⟩
  · exact .inl rfl

/-- An engine goes on with its job, or has been the one to take the item. -/
theorem Device.job_offer (d : Device) (e : Eng) (b : Nat) (x : WorkItem) :
    ((d.offer b x).pool.engines.get e).job = (d.pool.engines.get e).job ∨
    ∃ stolen, ((d.offer b x).pool.engines.get e).job = .pass x b stolen (if x.requeued then 2 else 1) := by
  obtain h | ⟨i, h⟩ := d.offer_cases b x
  · rw [h]
    exact .inl rfl
  · rw [h, Device.pool_takeItem, Device.startPass]
    by_cases hi : i = e
    · subst hi
      exact .inr ⟨_, by rw [Device.engine_modEng]⟩
    · rw [Device.engine_modEng_of_ne _ hi]
      exact .inl rfl

/-! ### A codeword is decided -/

/-- Deciding a codeword changes it, and the count of misses; the engines go on. -/
@[simp] theorem Device.engines_decideCw (d : Device) (n : Lane) (tag : Nat) (o : CwOutcome) (rec : List (Nat × BitVec 10)) :
    (d.decideCw n tag o rec).pool.engines = d.pool.engines := by
  unfold Device.decideCw
  split
  · rfl
  · cases o <;> simp [Device.modFlight, Device.modPool]

/-! ### A pass ends -/

/-- R100, condition by condition. -/
theorem passSucceeds_iff (num : Nat) (r : PassResult) :
    passSucceeds num r = true ↔
      r.roots.length = r.degree ∧ r.roots.Nodup ∧ (∀ p ∈ r.roots, p < 544) ∧ 2 * r.degree + erasures num ≤ 30 := by
  simp [passSucceeds, and_assoc]

/-- A codeword whose first pass has failed goes back to its berth for the erasure passes, if the berth has room (R98). -/
def Device.requeue (d : Device) (b : Nat) (x : WorkItem) : Device :=
  if 4 ≤ (d.berth b).length then d.refuse x.lane x.tag
  else
    let y := { x with requeued := true }
    ((d.setBerth b (y :: d.berth b)).count F.POOL_REQUEUE).offer b y

/-- What an engine without work does after re-queueing an item: nothing, or the second pass of that item. -/
theorem Device.job_requeue (d : Device) (e : Eng) (b : Nat) (x : WorkItem) :
    ((d.requeue b x).pool.engines.get e).job = (d.pool.engines.get e).job ∨
    ∃ stolen, ((d.requeue b x).pool.engines.get e).job = .pass { x with requeued := true } b stolen 2 := by
  unfold Device.requeue
  split
  · rw [Device.pool_refuse, Device.engines_decideCw]
    exact .inl rfl
  · extract_lets y
    have h := ((d.setBerth b (y :: d.berth b)).count F.POOL_REQUEUE).job_offer e b y
    rw [Device.pool_count] at h
    exact h

section
variable (d : Device) {e : Eng} {r : PassResult} {x : WorkItem} {b num : Nat} {stolen : Bool} {f : Flight}
  (hjob : (d.pool.engines.get e).job = .pass x b stolen num) (hf : d.flight? x.lane x.tag = some f)
include hjob hf

theorem Device.passEnd_success (hr : passSucceeds num r = true) :
    d.passEnd e r = d.modEng e fun g => { g with job := .waiting x b stolen num (recordOf num x.short r) } := by
  simp [Device.passEnd, hjob, hf, hr]

/-- A failed pass: back to the berth after pass 1, on to the next erasure pass, or the end of the codeword (R98 to R101). -/
theorem Device.passEnd_failure (hr : passSucceeds num r = false) :
    d.passEnd e r =
      if num < f.permitted then
        if num = 1 then (d.release e).requeue b x else d.modEng e fun g => { g with job := .pass x b stolen (num + 1) }
      else (d.release e).decideCw x.lane x.tag .fail [] := by
  by_cases h1 : num = 1
  · subst h1
    simp [Device.passEnd, hjob, hf, hr, Device.requeue]
  · simp [Device.passEnd, hjob, hf, hr, h1]

/-- After a failed pass an engine that no slice awaits is idle or makes a pass of another number. -/
theorem Device.job_passEnd_failure (hch : (d.pool.engines.get e).chosen = false) (hr : passSucceeds num r = false) :
    ((d.passEnd e r).pool.engines.get e).job = .idle ∨
    ∃ y stolen' m, m ≠ num ∧ ((d.passEnd e r).pool.engines.get e).job = .pass y b stolen' m := by
  have hidle : ((d.release e).pool.engines.get e).job = .idle := by rw [d.release_unchosen hch, Device.engine_modEng]
  rw [d.passEnd_failure hjob hf hr]
  split
  · split
    case isTrue h1 =>
      obtain h | ⟨st, h⟩ := (d.release e).job_requeue e b x
      · exact .inl (h.trans hidle)
      · exact .inr ⟨_, st, 2, by omega, h⟩
    case isFalse =>
      exact .inr ⟨x, stolen, num + 1, Nat.succ_ne_self num, by rw [Device.engine_modEng]⟩
  · rw [Device.engines_decideCw]
    exact .inl hidle

end

end Sys2Proof.Machine

open Sys2Proof Sys2Proof.Machine

/-- Settles O15, by whether the locator meets R100: a pass that does waits with its record, any other is over. -/
theorem passSucceedsExactly : Obligations.PassSucceedsExactly := by
  intro s e r x b stolen num f hjob hf hch
  refine .of_exec (exec_passEnd e r s) ⟨fun h => ?_, fun h rec => ?_⟩
  · rw [s.dev.passEnd_success hjob hf ((passSucceeds_iff num r).2 h), Device.engine_modEng]
  · have hr : passSucceeds num r = false := Bool.eq_false_iff.2 fun ht => h ((passSucceeds_iff num r).1 ht)
    obtain hj | ⟨y, st, m, hm, hj⟩ := s.dev.job_passEnd_failure hjob hf hch hr
    · simp [hj]
    · simp [hj, hm]

end

section
/-! The correction pool: which item an idle engine takes, and what the reorder buffer's input makes of a record (R94, R637). -/

namespace Sys2Proof.Machine

theorem exec_engineIdle (e : Eng) (s : State) : exec (.engineIdle e) s = .next { s with dev := s.dev.engineIdle e } := rfl
theorem exec_correctionRecordTaken (e : Eng) (s : State) :
    exec (.correctionRecordTaken e) s = .next { s with dev := s.dev.recordTaken e } := rfl

/-! ### The oldest head -/

/-- The oldest head of some berths heads one of them. -/
theorem Device.oldestHead_eq_some (d : Device) {bs : List Nat} {b : Nat} {x : WorkItem} (h : d.oldestHead bs = some (b, x)) :
    b ∈ bs ∧ (d.berth b).head? = some x := by
  refine List.foldlRecOn (motive := fun best => ∀ c y, best = some (c, y) → c ∈ bs ∧ (d.berth c).head? = some y) bs _
    (by rintro _ _ ⟨⟩) (fun best hbest c hc => ?_) b x h
  split
  next => exact hbest
  next y hy =>
    rintro _ _ ⟨⟩
    exact ⟨hc, hy⟩
  next y _ z hy =>
    split
    · rintro _ _ ⟨⟩
      exact ⟨hc, hy⟩
    · exact hbest

theorem Device.oldestHead_empty (d : Device) (h : ∀ b, d.berth b = []) (bs : List Nat) : d.oldestHead bs = none := by
  cases ho : d.oldestHead bs with
  | none => rfl
  | some p =>
    obtain ⟨-, hx⟩ := d.oldestHead_eq_some ho
    simp [h] at hx

/-! ### An engine becomes idle -/

theorem Device.engineIdle_empty (d : Device) (e : Eng) (h : ∀ b, d.berth b = []) : d.engineIdle e = d := by
  simp [Device.engineIdle, d.oldestHead_empty h]

theorem Device.engineIdle_home (d : Device) {e : Eng} {b : Nat} {x : WorkItem} (hi : d.idleEngine e = true)
    (ho : d.oldestHead [2 * (e.val / 8), 2 * (e.val / 8) + 1] = some (b, x)) : d.engineIdle e = d.takeItem e b x := by
  simp [Device.engineIdle, hi, ho]

theorem Device.berth_setBerth_same (d : Device) {b : Nat} (h : b < 16) (l : List WorkItem) : (d.setBerth b l).berth b = l := by
  simp [Device.berth, Device.setBerth, Device.modPool, h]

theorem Device.berth_setBerth_of_ne (d : Device) {b c : Nat} (h : c ≠ b) (l : List WorkItem) : (d.setBerth b l).berth c = d.berth c := by
  simp [Device.berth, Device.setBerth, Device.modPool, List.getElem?_set_ne h.symm]

theorem Device.berth_congr {d e : Device} (h : e.pool.berths = d.pool.berths) (b : Nat) : e.berth b = d.berth b := by
  rw [Device.berth, h, Device.berth]

/-- The berths after an item is taken. -/
theorem Device.berth_takeItem (d : Device) (e : Eng) (b : Nat) (x : WorkItem) (c : Nat) :
    (d.takeItem e b x).berth c = (d.setBerth b ((d.berth b).filter fun y => y != x)).berth c :=
  Device.berth_congr (by rw [Device.pool_takeItem]; rfl) c

/-- What the taking of an item from berth `b` of the engine's own gang leaves (R94). -/
theorem Device.takeItem_home (d : Device) (e : Eng) {b : Nat} (x : WorkItem) (hb : b / 2 = e.val / 8) :
    ((d.takeItem e b x).pool.engines.get e).job = .pass x b false (if x.requeued then 2 else 1) ∧ x ∉ (d.takeItem e b x).berth b ∧
    (∀ c, c ≠ b → (d.takeItem e b x).berth c = d.berth c) ∧
    (d.takeItem e b x).get (F.ENG_CW e) = (d.get (F.ENG_CW e) + 1) % 2 ^ 32 := by
  refine ⟨?_, ?_, fun c hc => ?_, ?_⟩
  · rw [Device.pool_takeItem, Device.startPass, Device.engine_modEng, hb, bne_self_eq_false]
  · rw [Device.berth_takeItem, Device.berth_setBerth_same _ (by omega)]
    simp
  · rw [Device.berth_takeItem, Device.berth_setBerth_of_ne _ hc]
  · have hstolen : ¬ (b / 2 != e.val / 8) = true := by simp [hb]
    rw [Device.takeItem, if_neg hstolen, Device.bump, Device.get_set_same _ _ _ ⟨Nat.zero_le _, Nat.lt_succ_self 31⟩]
    rfl

theorem engineIdle_takes (s : State) (e : Eng) (b : Nat) (x : WorkItem) (hi : s.dev.idleEngine e = true)
    (ho : s.dev.oldestHead [2 * (e.val / 8), 2 * (e.val / 8) + 1] = some (b, x)) :
    Gives (.engineIdle e) s fun t =>
      (t.pool.engines.get e).job = .pass x b false (if x.requeued then 2 else 1) ∧ x ∉ t.berth b ∧
      (∀ c, c ≠ b → t.berth c = s.dev.berth c) ∧ t.get (F.ENG_CW e) = (s.dev.get (F.ENG_CW e) + 1) % 2 ^ 32 := by
  obtain ⟨hmem, -⟩ := s.dev.oldestHead_eq_some ho
  have hb : b / 2 = e.val / 8 := by
    obtain h | h : b = 2 * (e.val / 8) ∨ b = 2 * (e.val / 8) + 1 := by simpa using hmem
    · omega
    · omega
  refine .of_exec (exec_engineIdle e s) ?_
  rw [s.dev.engineIdle_home hi ho]
  exact s.dev.takeItem_home e x hb

/-! ### A record is taken -/

/-- A change of a codeword that keeps its tag. -/
theorem Device.flight?_modFlight (d : Device) {n : Lane} {tag : Nat} {f : Flight} (hf : d.flight? n tag = some f) (g : Flight → Flight)
    (hg : ∀ y, (g y).tag = y.tag) : (d.modFlight n tag g).flight? n tag = some (g f) := by
  have htag : f.tag = tag := by simpa using List.find?_some hf
  have hsame : (fun y : Flight => y.tag == tag) ∘ (fun y => if y.tag = tag then g y else y) = fun y => y.tag == tag := by
    funext y
    by_cases hy : y.tag = tag <;> simp [hy, hg]
  rw [Device.flight?, Device.flights_modFlight, List.find?_map, hsame]
  rw [Device.flight?] at hf
  simp [hf, htag]

theorem Device.flight?_congr {d e : Device} (h : e.pool.flights = d.pool.flights) (n : Lane) (tag : Nat) : e.flight? n tag = d.flight? n tag := by
  rw [Device.flight?, h, Device.flight?]

@[simp] theorem Device.flights_release (d : Device) (e : Eng) : (d.release e).pool.flights = d.pool.flights := by
  unfold Device.release
  split <;> rfl

/-- A corrected codeword keeps its record until it leaves. -/
theorem Device.flight?_decideCw_corr (d : Device) {n : Lane} {tag : Nat} {f : Flight} (hf : d.flight? n tag = some f) (num : Nat)
    (rec : List (Nat × BitVec 10)) :
    (d.decideCw n tag (.corr num) rec).flight? n tag = some { f with outcome := some (.corr num), record := rec } := by
  rw [← d.flight?_modFlight hf (fun y => { y with outcome := some (.corr num), record := rec }) fun _ => rfl]
  refine Device.flight?_congr ?_ n tag
  simp [Device.decideCw, hf]

/-- With sound memories the input has no block to mend. -/
theorem Device.suspects_none (d : Device) (he : d.errs = []) (hp : d.poisoned = []) (p : Nat → Bool) : d.suspects p = [] := by
  simp [Device.suspects, he, hp]

theorem Device.recordTaken_room (d : Device) {e : Eng} {x : WorkItem} {b num : Nat} {stolen : Bool} {rec : List (Nat × BitVec 10)}
    (hjob : (d.pool.engines.get e).job = .waiting x b stolen num rec) (hroom : d.recordsHeld x.lane < 32) (he : d.errs = [])
    (hp : d.poisoned = []) : d.recordTaken e = (d.release e).decideCw x.lane x.tag (.corr num) rec := by
  simp [Device.recordTaken, hjob, Nat.not_le.2 hroom, d.suspects_none he hp]

theorem correctionRecordTaken_corrects (s : State) (e : Eng) (x : WorkItem) (b : Nat) (stolen : Bool) (num : Nat)
    (rec : List (Nat × BitVec 10)) (f : Flight) (hjob : (s.dev.pool.engines.get e).job = .waiting x b stolen num rec)
    (hroom : s.dev.recordsHeld x.lane < 32) (hf : s.dev.flight? x.lane x.tag = some f) (he : s.dev.errs = []) (hp : s.dev.poisoned = []) :
    Gives (.correctionRecordTaken e) s fun t => ∃ g, t.flight? x.lane x.tag = some g ∧ g.outcome = some (.corr num) ∧ g.record = rec := by
  refine .of_exec (exec_correctionRecordTaken e s) ?_
  rw [s.dev.recordTaken_room hjob hroom he hp]
  have hf' : (s.dev.release e).flight? x.lane x.tag = some f := (Device.flight?_congr (s.dev.flights_release e) _ _).trans hf
  exact ⟨_, Device.flight?_decideCw_corr _ hf' num rec, rfl, rfl⟩

end Sys2Proof.Machine

open Sys2Proof Sys2Proof.Machine

/-- Settles O16: the head is of a home berth, so nothing is stolen; with no head at all nothing happens; a record taken decides its codeword. -/
theorem enginesAndRecords : Obligations.EnginesAndRecords := by
  intro s e
  refine ⟨engineIdle_takes s e, fun h => .of_exec ?_, correctionRecordTaken_corrects s e⟩
  rw [exec_engineIdle, s.dev.engineIdle_empty e h]

end

section
/-! Release from the reorder buffer and from the group buffers, and the restart of the hunt for the group phase (R103, R150, R161). -/

namespace Sys2Proof.Machine

theorem exec_codewordRelease (n : Lane) (s : State) : exec (.codewordRelease n) s = .next { s with dev := s.dev.releaseCodeword n } := rfl
theorem exec_groupRelease (n : Lane) (s : State) : exec (.groupRelease n) s = .next { s with dev := s.dev.releaseGroup n } := rfl
theorem exec_rehunt (n : Lane) (s : State) : exec (.rehunt n) s = .next { s with dev := s.dev.rehunt n } := rfl

@[simp] theorem Device.bwRx_modBw (d : Device) (n : Lane) (g : BwRx → BwRx) : (d.modBw n g).bw.get n = g (d.bw.get n) :=
  Vector.getElem_set_self n.isLt

/-! ### Towards the host -/

/-- Outside the safe state a stream puts out what it is given. -/
theorem Device.putOut_unsafe (d : Device) (h : d.get F.SYS_SAFE_SAFE = 0) (j : Nat) (l : List Delivered) :
    d.putOut j l = d.modOut fun _ => d.out.setIfInBounds j l := by
  simp [Device.putOut, Device.flag_eq_false h]

/-- The codewords that the last release delivered on a stream. -/
def Device.stream (d : Device) (j : Nat) : List Delivered := d.out.toList.getD j []

theorem Device.stream_congr {d e : Device} (h : e.out = d.out) (j : Nat) : e.stream j = d.stream j := by
  rw [Device.stream, h, Device.stream]

theorem Device.stream_putOut_same (d : Device) (h : d.get F.SYS_SAFE_SAFE = 0) {j : Nat} (hj : j < 16) (l : List Delivered) :
    (d.putOut j l).stream j = l := by
  simp [d.putOut_unsafe h, Device.stream, Device.modOut, hj]

theorem Device.stream_putOut_of_ne (d : Device) (h : d.get F.SYS_SAFE_SAFE = 0) {i j : Nat} (hij : i ≠ j) (l : List Delivered) :
    (d.putOut i l).stream j = d.stream j := by
  simp [d.putOut_unsafe h, Device.stream, Device.modOut, List.getElem?_set_ne hij]

/-! ### The end of draining -/

/-- What is left undecided when a lane stops delivers nothing by itself, and keeps the codewords in flight (R636). -/
theorem Device.bwPartial_keeps (d : Device) (n : Lane) : (d.bwPartial n).pool = d.pool ∧ (d.bwPartial n).out = d.out := by
  unfold Device.bwPartial
  extract_lets b0 data
  split
  · exact ⟨rfl, rfl⟩
  · exact ⟨rfl, rfl⟩

theorem Device.drainCheck_keeps (d : Device) (n : Lane) : (d.drainCheck n).pool = d.pool ∧ (d.drainCheck n).out = d.out := by
  unfold Device.drainCheck
  split
  · extract_lets d1
    have h1 : d1.pool = d.pool ∧ d1.out = d.out := d.bwPartial_keeps n
    split
    · exact h1
    · exact h1
  · exact ⟨rfl, rfl⟩

theorem Device.drainCheck_running (d : Device) (n : Lane) (h : (d.rx.get n).draining = false) : d.drainCheck n = d := by
  simp [Device.drainCheck, h]

/-! ### A codeword is released -/

/-- The oldest codeword of a lane leaves the reorder buffer. -/
def Device.dropOldest (d : Device) (n : Lane) (rest : List Flight) : Device :=
  d.modPool fun q => { q with flights := d.pool.flights.set n rest }

/-- A codeword that is decided before its deadline. -/
theorem Device.deadline_decided (d : Device) {n : Lane} {tag : Nat} {f : Flight} (hf : d.flight? n tag = some f) (ho : f.outcome.isSome = true) :
    d.deadline n tag = d := by
  have hno : ¬ f.outcome.isNone = true := by simpa [Option.isSome_iff_ne_none] using ho
  simp [Device.deadline, hf, hno]

/-- With sound memories a release reads its codeword as it was stored. -/
theorem Device.readStore_sound (d : Device) (n : Lane) (f : Flight) (he : d.errs = []) (hp : d.poisoned = []) :
    d.readStore n f = (d, true) := by
  simp [Device.readStore, he, hp]

/-- A CLEAN codeword of a standard lane is put out as it was received (Table 3-3). -/
theorem Device.releaseCodeword_clean (d : Device) {n : Lane} {f : Flight} {rest : List Flight} (hfl : d.pool.flights.get n = f :: rest)
    (hn : d.native n = false) (ho : f.outcome = some .clean) (hl : f.lost = false) (hpo : f.poisoned = false) (he : d.errs = [])
    (hp : d.poisoned = []) :
    d.releaseCodeword n =
      ((d.dropOldest n rest).putOut (2 * n.val) [{ bits := f.bits, how := .asReceived, k := f.k, place := f.place }]).drainCheck n := by
  have hf : d.flight? n f.tag = some f := by simp [Device.flight?, hfl]
  have hrs : (d.dropOldest n rest).readStore n f = (d.dropOldest n rest, true) := Device.readStore_sound _ n f he hp
  have hn' : (d.dropOldest n rest).native n = false := hn
  unfold Device.dropOldest at hrs hn' ⊢
  simp [Device.releaseCodeword, hfl, d.deadline_decided hf, ho, hf, hl, hrs, hpo, Device.settleCw, Device.countOutcome, hn']

theorem codewordRelease_clean (s : State) (n : Lane) (he : s.dev.errs = []) (hp : s.dev.poisoned = []) (hs : s.dev.get F.SYS_SAFE_SAFE = 0)
    (f : Flight) (rest : List Flight) (hfl : s.dev.pool.flights.get n = f :: rest) (hr : s.dev.rate n = 1) (ho : f.outcome = some .clean)
    (hl : f.lost = false) (hpo : f.poisoned = false) :
    Gives (.codewordRelease n) s fun e => e.pool.flights.get n = rest ∧
      e.out.toList.getD (2 * n.val) [] = [{ bits := f.bits, how := .asReceived, k := f.k, place := f.place }] := by
  refine .of_exec (exec_codewordRelease n s) ?_
  rw [s.dev.releaseCodeword_clean hfl (by simp [Device.native, hr]) ho hl hpo he hp]
  have hs' : (s.dev.dropOldest n rest).get F.SYS_SAFE_SAFE = 0 := hs
  obtain ⟨hpool, hout⟩ := Device.drainCheck_keeps ((s.dev.dropOldest n rest).putOut (2 * n.val)
    [{ bits := f.bits, how := .asReceived, k := f.k, place := f.place }]) n
  refine ⟨?_, (Device.stream_congr hout _).trans (Device.stream_putOut_same _ hs' (by omega) _)⟩
  rw [hpool, Device.putOut_unsafe _ hs', Device.pool_modOut]
  exact Vector.getElem_set_self n.isLt

/-! ### A group is released -/

/-- With sound memories a group leaves as it was decided. -/
theorem Device.readSlots_sound (d : Device) (n : Lane) (g : ReadyGroup) (mark : Delivered → Delivered) (he : d.errs = []) (hp : d.poisoned = []) :
    d.readSlots n g mark = (d, g.a, g.b) := by
  simp [Device.readSlots, he, hp]

/-- The oldest decided group of a lane leaves the group buffers. -/
def Device.dropGroup (d : Device) (n : Lane) (rest : List ReadyGroup) : Device := d.modBw n fun b => { b with ready := rest }

theorem Device.releaseGroup_sound (d : Device) {n : Lane} {g : ReadyGroup} {rest : List ReadyGroup} (hg : (d.bw.get n).ready = g :: rest)
    (he : d.errs = []) (hp : d.poisoned = []) :
    d.releaseGroup n = (((d.dropGroup n rest).putOut (2 * n.val) g.a).putOut (2 * n.val + 1) g.b).drainCheck n := by
  have hrs : ∀ mark, (d.dropGroup n rest).readSlots n g mark = (d.dropGroup n rest, g.a, g.b) := fun mark =>
    Device.readSlots_sound _ n g mark he hp
  unfold Device.dropGroup at hrs ⊢
  simp [Device.releaseGroup, hg, hrs]

theorem groupRelease_streams (s : State) (n : Lane) (he : s.dev.errs = []) (hp : s.dev.poisoned = []) (hs : s.dev.get F.SYS_SAFE_SAFE = 0)
    (g : ReadyGroup) (rest : List ReadyGroup) (hg : (s.dev.bw.get n).ready = g :: rest) (hd : (s.dev.rx.get n).draining = false) :
    Gives (.groupRelease n) s fun e => (e.bw.get n).ready = rest ∧
      e.out.toList.getD (2 * n.val) [] = g.a ∧ e.out.toList.getD (2 * n.val + 1) [] = g.b := by
  refine .of_exec (exec_groupRelease n s) ?_
  have hs1 : (s.dev.dropGroup n rest).get F.SYS_SAFE_SAFE = 0 := hs
  have hput : (s.dev.dropGroup n rest).putOut (2 * n.val) g.a = _ := Device.putOut_unsafe _ hs1 _ _
  have hs2 : ((s.dev.dropGroup n rest).putOut (2 * n.val) g.a).get F.SYS_SAFE_SAFE = 0 := by rw [hput, Device.get_modOut, hs1]
  rw [s.dev.releaseGroup_sound hg he hp, Device.drainCheck_running _ n (by rw [Device.putOut_unsafe _ hs2, hput]; exact hd)]
  refine ⟨?_, ?_, Device.stream_putOut_same _ hs2 (by omega) _⟩
  · rw [Device.putOut_unsafe _ hs2, hput, Device.bw_modOut, Device.bw_modOut, Device.dropGroup, Device.bwRx_modBw]
  · exact (Device.stream_putOut_of_ne _ hs2 (Nat.succ_ne_self _) _).trans (Device.stream_putOut_same _ hs1 (by omega) _)

/-! ### The hunt restarts -/

theorem Device.acqStep_cases (d : Device) (n : Lane) (v : Nat) : d.acqStep n v = d ∨ d.acqStep n v = d.set (F.LRX_STATUS_ACQ_STEP n) v := by
  unfold Device.acqStep
  split
  · exact .inl rfl
  · exact .inr rfl

/-- ACQ_STEP lies in LRX_STATUS. -/
theorem Device.reg_acqStep (d : Device) (n : Lane) (v : Nat) {a : Nat} (h : a ≠ (F.LRX_STATUS n).addr) : (d.acqStep n v).reg a = d.reg a := by
  obtain e | e := d.acqStep_cases n v
  · rw [e]
  · rw [e]
    exact d.reg_set_of_ne _ _ h

theorem parityLock_ok (n : Nat) : (F.LRX_BW_STATUS_PARITY_LOCK n).ok := ⟨Nat.le_refl 2, (by decide : 2 < 32)⟩
theorem parityHunt_ok (n : Nat) : (F.LRX_BW_STATUS_PARITY_HUNT n).ok := ⟨Nat.le_refl 3, (by decide : 3 < 32)⟩
theorem phase_ok (n : Nat) : (F.LRX_BW_STATUS_PHASE n).ok := ⟨(by decide : 8 ≤ 13), (by decide : 13 < 32)⟩
theorem rehunt_ok (n : Nat) : (F.LRX_BW_CTRL_REHUNT n).ok := ⟨Nat.le_refl 0, (by decide : 0 < 32)⟩

/-- LRX_BW_STATUS of a lane is neither its LRX_BW_CTRL nor its LRX_STATUS. -/
theorem bwStatus_apart (n : Nat) : (F.LRX_BW_STATUS n).addr ≠ (F.LRX_BW_CTRL n).addr ∧ (F.LRX_BW_STATUS n).addr ≠ (F.LRX_STATUS n).addr := by
  simp only [F.LRX_BW_STATUS, F.LRX_BW_CTRL, F.LRX_STATUS]
  omega

/-- The hunt starts at phase 0, without lock (R150). -/
theorem Device.startHunt_shows (d : Device) (n : Lane) :
    (d.startHunt n).get (F.LRX_BW_STATUS_PARITY_LOCK n) = 0 ∧ (d.startHunt n).get (F.LRX_BW_STATUS_PARITY_HUNT n) = 1 ∧
    (d.startHunt n).get (F.LRX_BW_STATUS_PHASE n) = 0 := by
  have hctrl : ∀ e : Device, (e.set (F.LRX_BW_CTRL_REHUNT n) 0).reg (F.LRX_BW_STATUS n).addr = e.reg (F.LRX_BW_STATUS n).addr := fun e =>
    e.reg_set_of_ne (F.LRX_BW_CTRL_REHUNT n) 0 (bwStatus_apart n).1
  refine ⟨?_, ?_, ?_⟩
  · rw [Device.startHunt, Device.get_modBw, Device.get_congr (f := F.LRX_BW_STATUS_PARITY_LOCK n) (hctrl _),
      Device.get_set_apart _ _ _ _ (phase_ok n) (parityLock_ok n) (.inr (.inr (by decide : 2 < 8))),
      Device.get_set_apart _ _ _ _ (parityHunt_ok n) (parityLock_ok n) (.inr (.inr (by decide : 2 < 3))),
      Device.get_set_same _ _ _ (parityLock_ok n), Nat.zero_mod]
  · rw [Device.startHunt, Device.get_modBw, Device.get_congr (f := F.LRX_BW_STATUS_PARITY_HUNT n) (hctrl _),
      Device.get_set_apart _ _ _ _ (phase_ok n) (parityHunt_ok n) (.inr (.inr (by decide : 3 < 8))),
      Device.get_set_same _ _ _ (parityHunt_ok n)]
    rfl
  · rw [Device.startHunt, Device.get_modBw, Device.get_congr (f := F.LRX_BW_STATUS_PHASE n) (hctrl _),
      Device.get_set_same _ _ _ (phase_ok n), Nat.zero_mod]

theorem Device.rehunt_none (d : Device) (n : Lane) (h : d.rehunting n = true) : d.rehunt n = d := by
  simp [Device.rehunt, h]

theorem Device.rehunt_starts (d : Device) (n : Lane) (hf : d.get (F.LRX_BW_STATUS_FRAME_LOCK n) = 1) (h : d.rehunting n = false) :
    d.rehunt n = ((d.startHunt n).acqStep n 8).set (F.LRX_BW_CTRL_REHUNT n) 1 := by
  simp [Device.rehunt, h, Device.flag_eq_true hf]

theorem rehunt_shows (s : State) (n : Lane) (hf : s.dev.get (F.LRX_BW_STATUS_FRAME_LOCK n) = 1) (h : s.dev.rehunting n = false) :
    Gives (.rehunt n) s fun e => e.get (F.LRX_BW_STATUS_PARITY_LOCK n) = 0 ∧ e.get (F.LRX_BW_STATUS_PARITY_HUNT n) = 1 ∧
      e.get (F.LRX_BW_STATUS_PHASE n) = 0 ∧ e.get (F.LRX_BW_CTRL_REHUNT n) = 1 := by
  refine .of_exec (exec_rehunt n s) ?_
  rw [s.dev.rehunt_starts n hf h]
  have hreg : (((s.dev.startHunt n).acqStep n 8).set (F.LRX_BW_CTRL_REHUNT n) 1).reg (F.LRX_BW_STATUS n).addr =
      (s.dev.startHunt n).reg (F.LRX_BW_STATUS n).addr :=
    (Device.reg_set_of_ne _ (F.LRX_BW_CTRL_REHUNT n) 1 (bwStatus_apart n).1).trans (Device.reg_acqStep _ n 8 (bwStatus_apart n).2)
  obtain ⟨hlock, hhunt, hphase⟩ := s.dev.startHunt_shows n
  refine ⟨(Device.get_congr (f := F.LRX_BW_STATUS_PARITY_LOCK n) hreg).trans hlock,
    (Device.get_congr (f := F.LRX_BW_STATUS_PARITY_HUNT n) hreg).trans hhunt,
    (Device.get_congr (f := F.LRX_BW_STATUS_PHASE n) hreg).trans hphase, ?_⟩
  rw [Device.get_set_same _ _ _ (rehunt_ok n)]
  rfl

end Sys2Proof.Machine

open Sys2Proof Sys2Proof.Machine

/-- Settles O17, command by command: with sound memories and outside the safe state a release puts out what was stored. -/
theorem releasesInOrder : Obligations.ReleasesInOrder := by
  intro s n he hp hs
  refine ⟨fun f rest hfl hr ho _ hl hpo => codewordRelease_clean s n he hp hs f rest hfl hr ho hl hpo, groupRelease_streams s n he hp hs,
    rehunt_shows s n, fun h => .of_exec ?_⟩
  rw [exec_rehunt, s.dev.rehunt_none n h]

end

section
/-! The supply of the correction pool: the tide gauge, the loop, VGOOD and the writes of the limits (R114 to R123). -/

namespace Sys2Proof.Machine

theorem exec_tideGaugeWindow (period : Nat) (s : State) :
    exec (.tideGaugeWindow period) s = .next { s with dev := s.dev.tideWindow period } := rfl
theorem exec_loopInterval (s : State) : exec .loopInterval s = .next { s with dev := s.dev.loopInterval } := rfl
theorem exec_vgood (s : State) : exec .vgood s = .next { s with dev := s.dev.vgood } := rfl
theorem exec_poolSupplyCfgWrite (w : Word) (s : State) :
    exec (.poolSupplyCfgWrite w) s = .next { s with dev := s.dev.supplyCfgWrite w } := rfl
theorem exec_loopEnWrite (en : Bool) (i : BitVec 7) (s : State) :
    exec (.loopEnWrite en i) s = .next { s with dev := s.dev.loopEnWrite en i.toNat } := rfl

/-! ### The tide gauge -/

/-- A window's end without coefficients shows the period, predicts the longest times and opens the next window (R114). -/
def Device.showTide (d : Device) (period : Nat) : Device :=
  (((d.set F.POOL_TIDE period).set F.POOL_TIDE_PRED_TP_EO 0xFFFF).set F.POOL_TIDE_PRED_TP_ER 0xFFFF).modPool
    fun q => { q with windowAdmits := 0 }

theorem Device.reg_showTide (d : Device) (period : Nat) {a : Nat} (ht : a ≠ F.POOL_TIDE.addr) (hp : a ≠ F.POOL_TIDE_PRED.addr) :
    (d.showTide period).reg a = d.reg a := by
  rw [Device.showTide, Device.reg_modPool, Device.reg_set_of_ne _ F.POOL_TIDE_PRED_TP_ER _ hp,
    Device.reg_set_of_ne _ F.POOL_TIDE_PRED_TP_EO _ hp, Device.reg_set_of_ne _ F.POOL_TIDE _ ht]

/-- With the loop off the fast guard does not act. -/
theorem Device.tideWindow_off (d : Device) (period : Nat) (hen : d.pool.enabled = true) (hc : d.pool.coefs = none)
    (hoff : d.get F.POOL_CTRL_LOOP_EN = 0) : d.tideWindow period = d.showTide period := by
  have hflag : (d.showTide period).flag F.POOL_CTRL_LOOP_EN = false :=
    Device.flag_eq_false ((Device.get_congr (d.reg_showTide period (by decide) (by decide))).trans hoff)
  unfold Device.showTide at hflag ⊢
  unfold Device.tideWindow
  simp only [hen, hc, hflag, Bool.not_true, Bool.false_and, Bool.false_eq_true, if_false]

theorem tideGaugeWindow_shows (s : State) (period : Nat) (hp : period < 2 ^ 16) (hen : s.dev.pool.enabled = true) (hc : s.dev.pool.coefs = none)
    (hoff : s.dev.get F.POOL_CTRL_LOOP_EN = 0) :
    Gives (.tideGaugeWindow period) s fun e => e.get F.POOL_TIDE = period ∧ e.get F.POOL_TIDE_PRED_TP_EO = 0xFFFF ∧
      e.get F.POOL_TIDE_PRED_TP_ER = 0xFFFF ∧ e.pool.windowAdmits = 0 := by
  refine .of_exec (exec_tideGaugeWindow period s) ?_
  rw [s.dev.tideWindow_off period hen hc hoff, Device.showTide]
  refine ⟨?_, ?_, ?_, rfl⟩
  · rw [Device.get_modPool, Device.get_set_apart _ _ _ _ (by decide) (by decide) (by decide),
      Device.get_set_apart _ _ _ _ (by decide) (by decide) (by decide), Device.get_set_same _ _ _ (by decide)]
    exact Nat.mod_eq_of_lt (Nat.lt_trans hp (by decide))
  · rw [Device.get_modPool, Device.get_set_apart _ _ _ _ (by decide) (by decide) (by decide), Device.get_set_same _ _ _ (by decide)]
    rfl
  · rw [Device.get_modPool, Device.get_set_same _ _ _ (by decide)]
    rfl

/-! ### The target moves -/

/-- What a change of the target keeps, and that POOL_STATUS shows it. -/
theorem Device.setCode_shows (d : Device) {code : Nat} (hc : code < 64) (hne : code ≠ d.get F.POOL_STATUS_VDD_CODE) :
    (d.setCode code).get F.POOL_STATUS_VDD_CODE = code ∧ (d.setCode code).pool.admits = d.pool.admits ∧
    (d.setCode code).pool.misses = d.pool.misses := by
  unfold Device.setCode
  extract_lets old lo hi near far d0 d1 d2
  have hd1 : d1.get F.POOL_STATUS_VDD_CODE = code := by
    rw [Device.get_modPool, Device.get_set_apart _ _ _ _ (by decide) (by decide) (by decide), Device.get_set_same _ _ _ (by decide)]
    exact Nat.mod_eq_of_lt hc
  have hvgood : ∀ e : Device, (e.set F.POOL_STATUS_VGOOD 0).get F.POOL_STATUS_VDD_CODE = e.get F.POOL_STATUS_VDD_CODE := fun e =>
    e.get_set_apart _ _ _ (by decide) (by decide) (by decide)
  have hd2 : d2.get F.POOL_STATUS_VDD_CODE = code ∧ d2.pool = d1.pool := by
    simp only [d2]
    split
    · exact ⟨hd1, rfl⟩
    · split
      · exact ⟨(hvgood d1).trans hd1, rfl⟩
      · split
        · exact ⟨hd1, rfl⟩
        · exact ⟨(hvgood d1.draw).trans hd1, rfl⟩
  obtain ⟨hget, hpool⟩ := hd2
  have hkept : d2.pool.admits = d.pool.admits ∧ d2.pool.misses = d.pool.misses := by
    rw [hpool]
    exact ⟨rfl, rfl⟩
  rw [if_neg hne]
  split
  · exact ⟨hget, hkept⟩
  · exact ⟨hget, hkept⟩

/-! ### A loop interval ends -/

/-- The interval's counts restart, and LOOP_AT_MAX awaits the judgement. -/
def Device.nextInterval (d : Device) : Device :=
  (d.set F.POOL_STATUS_LOOP_AT_MAX 0).modPool fun q => { q with admits := 0, misses := 0 }

/-- The end of an interval with too many misses, once the target has moved. -/
def Device.judgeLoop (d : Device) : Device :=
  let atMax := d.get F.POOL_STATUS_VDD_CODE == d.vddUpper
  (((d.setB F.POOL_STATUS_LOOP_AT_MAX atMax).raiseIf atMax F.POOL_INT_STATUS_LOOP_AT_MAX).set F.POOL_STATUS_BELOW_TGT 0).modPool
    fun q => { q with quiet := 0 }

theorem Device.reg_raiseIf (d : Device) (b : Bool) {f : Fld} (hok : f.ok) (h1 : f.hi = f.lo) {a : Nat} (ha : a ∉ eventRegs) (hf : a ≠ f.addr) :
    (d.raiseIf b f).reg a = d.reg a := by
  unfold Device.raiseIf
  split
  · exact d.reg_raise _ hok h1 ha hf
  · rfl

@[simp] theorem Device.pool_raiseIf (d : Device) (b : Bool) (f : Fld) (data : Word) : (d.raiseIf b f data).pool = d.pool := by
  unfold Device.raiseIf
  split
  · exact d.pool_raise f data
  · rfl

/-- Of the fields and counts of the interval the judgement changes LOOP_AT_MAX, BELOW_TGT and the quiet count. -/
theorem Device.judgeLoop_shows (d : Device) :
    d.judgeLoop.get F.POOL_STATUS_VDD_CODE = d.get F.POOL_STATUS_VDD_CODE ∧ d.judgeLoop.pool.admits = d.pool.admits ∧
    d.judgeLoop.pool.misses = d.pool.misses ∧ d.judgeLoop.get F.POOL_STATUS_BELOW_TGT = 0 := by
  unfold Device.judgeLoop
  extract_lets atMax
  have hpool : ((d.setB F.POOL_STATUS_LOOP_AT_MAX atMax).raiseIf atMax F.POOL_INT_STATUS_LOOP_AT_MAX).pool = d.pool := Device.pool_raiseIf _ _ _ _
  rw [← hpool]
  refine ⟨?_, rfl, rfl, ?_⟩
  · rw [Device.get_modPool, Device.get_set_apart _ _ _ _ (by decide) (by decide) (by decide),
      Device.get_congr (f := F.POOL_STATUS_VDD_CODE) (Device.reg_raiseIf _ _ (by decide) rfl (by decide) (by decide)), Device.setB,
      Device.get_set_apart _ _ _ _ (by decide) (by decide) (by decide)]
  · rw [Device.get_modPool, Device.get_set_same _ _ _ (by decide)]
    rfl

theorem Device.vddUpper_congr {d e : Device} (henf : e.get F.THM_STATUS_ENF = d.get F.THM_STATUS_ENF)
    (hcfg : e.reg F.POOL_SUPPLY_CFG.addr = d.reg F.POOL_SUPPLY_CFG.addr) : e.vddUpper = d.vddUpper := by
  rw [Device.vddUpper, Device.vddUpper, Device.enf, Device.enf, henf, Device.get_congr (f := F.POOL_SUPPLY_CFG_VMAX) hcfg,
    Device.get_congr (f := F.POOL_SUPPLY_CFG_VLIM_E1) hcfg]

/-- No limit lies above 0.800 V (R117). -/
theorem Device.vddUpper_le (d : Device) : d.vddUpper ≤ 40 := by
  unfold Device.vddUpper
  extract_lets vmax
  split <;> omega

/-- Too many misses under the upper limit, with VGOOD at 1: one step up (R118, R120). -/
theorem Device.loopInterval_up (d : Device) (hon : d.get F.POOL_CTRL_LOOP_EN = 1) (hen : d.pool.enabled = true)
    (hvg : d.get F.POOL_STATUS_VGOOD = 1) (hup : d.get F.POOL_STATUS_VDD_CODE < d.vddUpper)
    (hmiss : d.get F.POOL_LOOP_CFG_MISS_TGT * d.pool.admits < d.pool.misses * 2 ^ 20) :
    d.loopInterval = (d.nextInterval.setCode (d.get F.POOL_STATUS_VDD_CODE + 1)).judgeLoop := by
  have hvg' : d.nextInterval.get F.POOL_STATUS_VGOOD = 1 := by
    rw [Device.nextInterval, Device.get_modPool, Device.get_set_apart _ _ _ _ (by decide) (by decide) (by decide), hvg]
  have hupper : d.nextInterval.vddUpper = d.vddUpper :=
    Device.vddUpper_congr (d.get_set_apart _ _ _ (by decide) (by decide) (by decide)) (d.reg_set_of_ne _ _ (by decide))
  have hstep : (decide (d.get F.POOL_STATUS_VDD_CODE < d.nextInterval.vddUpper) && d.nextInterval.flag F.POOL_STATUS_VGOOD) = true := by
    simp [hupper, hup, Device.flag_eq_true hvg']
  rw [Device.loopInterval, Device.flag_eq_true hon, hen, if_neg (by decide)]
  extract_lets c shown counts d0 d1
  rw [if_pos hmiss]
  have hd1 : d1 = d.nextInterval.setCode (c + 1) := if_pos hstep
  rw [← hd1]
  rfl

theorem loopInterval_steps (s : State) (hon : s.dev.get F.POOL_CTRL_LOOP_EN = 1) (hen : s.dev.pool.enabled = true)
    (hvg : s.dev.get F.POOL_STATUS_VGOOD = 1) (hup : s.dev.get F.POOL_STATUS_VDD_CODE < s.dev.vddUpper)
    (hmiss : s.dev.get F.POOL_LOOP_CFG_MISS_TGT * s.dev.pool.admits < s.dev.pool.misses * 2 ^ 20) :
    Gives .loopInterval s fun e => e.get F.POOL_STATUS_VDD_CODE = s.dev.get F.POOL_STATUS_VDD_CODE + 1 ∧ e.pool.admits = 0 ∧
      e.pool.misses = 0 ∧ e.get F.POOL_STATUS_BELOW_TGT = 0 := by
  refine .of_exec (exec_loopInterval s) ?_
  rw [s.dev.loopInterval_up hon hen hvg hup hmiss]
  have hcode : s.dev.nextInterval.get F.POOL_STATUS_VDD_CODE = s.dev.get F.POOL_STATUS_VDD_CODE := by
    rw [Device.nextInterval, Device.get_modPool, Device.get_set_apart _ _ _ _ (by decide) (by decide) (by decide)]
  have hle := s.dev.vddUpper_le
  obtain ⟨hget, hadm, hmis⟩ := s.dev.nextInterval.setCode_shows (code := s.dev.get F.POOL_STATUS_VDD_CODE + 1) (by omega) (by omega)
  obtain ⟨jget, jadm, jmis, jtgt⟩ := (s.dev.nextInterval.setCode (s.dev.get F.POOL_STATUS_VDD_CODE + 1)).judgeLoop_shows
  exact ⟨jget.trans hget, jadm.trans hadm, jmis.trans hmis, jtgt⟩

/-! ### VGOOD -/

theorem vgood_shows (s : State) (hen : s.dev.pool.enabled = true) :
    Gives .vgood s fun e => e.get F.POOL_STATUS_VGOOD = 1 ∧ e.pool.capBand = s.dev.get F.POOL_STATUS_BAND := by
  refine .of_exec (exec_vgood s) ?_
  have hoff : ¬ (!s.dev.pool.enabled) = true := by simp [hen]
  rw [Device.vgood, if_neg hoff]
  refine ⟨?_, s.dev.get_set_apart _ _ _ (by decide) (by decide) (by decide)⟩
  rw [Device.get_modPool, Device.get_set_same _ _ _ (by decide)]
  rfl

/-! ### Writes of the limits and of LOOP_EN -/

/-- The limits and the interval as a write of POOL_SUPPLY_CFG gives them. -/
def Device.storeLimits (d : Device) (w : Word) : Device :=
  (((d.set F.POOL_SUPPLY_CFG_LOOP_INT (bitsOf w 30 24)).set F.POOL_SUPPLY_CFG_VLIM_E1 (bitsOf w 21 16)).set
    F.POOL_SUPPLY_CFG_VMAX (bitsOf w 13 8)).set F.POOL_SUPPLY_CFG_VMIN (bitsOf w 5 0)

theorem Device.storeLimits_shows (d : Device) (w : Word) :
    (d.storeLimits w).get F.POOL_SUPPLY_CFG_VMIN = bitsOf w 5 0 ∧ (d.storeLimits w).get F.POOL_SUPPLY_CFG_VMAX = bitsOf w 13 8 ∧
    ∀ a, a ≠ F.POOL_SUPPLY_CFG.addr → (d.storeLimits w).reg a = d.reg a := by
  refine ⟨?_, ?_, fun a ha => ?_⟩
  · rw [Device.storeLimits, Device.get_set_same _ _ _ (by decide)]
    exact Nat.mod_eq_of_lt (bitsOf_lt w 5 0)
  · rw [Device.storeLimits, Device.get_set_apart _ _ _ _ (by decide) (by decide) (by decide), Device.get_set_same _ _ _ (by decide)]
    exact Nat.mod_eq_of_lt (bitsOf_lt w 13 8)
  · rw [Device.storeLimits, Device.reg_set_of_ne _ F.POOL_SUPPLY_CFG_VMIN _ ha, Device.reg_set_of_ne _ F.POOL_SUPPLY_CFG_VMAX _ ha,
      Device.reg_set_of_ne _ F.POOL_SUPPLY_CFG_VLIM_E1 _ ha, Device.reg_set_of_ne _ F.POOL_SUPPLY_CFG_LOOP_INT _ ha]

/-- A target inside the limits stays. -/
theorem Device.clampCode_inside (d : Device) (hlo : d.vddLower ≤ d.get F.POOL_STATUS_VDD_CODE) (hhi : d.get F.POOL_STATUS_VDD_CODE ≤ d.vddUpper) :
    d.clampCode = d := by
  simp [Device.clampCode, Nat.not_lt.2 hlo, Nat.not_lt.2 hhi]

/-- The write stores the limits, restarts the loop's grid under a new interval, and moves a target that lies outside them (R116, R118). -/
theorem Device.supplyCfgWrite_eq (d : Device) (w : Word) :
    ∃ e : Device, d.supplyCfgWrite w = e.clampCode ∧ ∀ a, e.reg a = (d.storeLimits w).reg a := by
  unfold Device.supplyCfgWrite
  extract_lets old d1 d2
  refine ⟨d2, rfl, fun a => ?_⟩
  simp only [d2]
  split
  · rfl
  · exact d1.reg_modPool _ a

theorem poolSupplyCfgWrite_inside (s : State) (w : Word) (henf : s.dev.enf = 0) (hlo : bitsOf w 5 0 ≤ s.dev.get F.POOL_STATUS_VDD_CODE)
    (hhi : s.dev.get F.POOL_STATUS_VDD_CODE ≤ min 40 (bitsOf w 13 8)) :
    Gives (.poolSupplyCfgWrite w) s fun e => e.get F.POOL_SUPPLY_CFG_VMIN = bitsOf w 5 0 ∧ e.get F.POOL_SUPPLY_CFG_VMAX = bitsOf w 13 8 ∧
      e.get F.POOL_STATUS_VDD_CODE = s.dev.get F.POOL_STATUS_VDD_CODE := by
  refine .of_exec (exec_poolSupplyCfgWrite w s) ?_
  obtain ⟨hmin, hmax, hother⟩ := s.dev.storeLimits_shows w
  obtain ⟨e, he, hreg⟩ := s.dev.supplyCfgWrite_eq w
  have emin : e.get F.POOL_SUPPLY_CFG_VMIN = bitsOf w 5 0 := (Device.get_congr (hreg _)).trans hmin
  have emax : e.get F.POOL_SUPPLY_CFG_VMAX = bitsOf w 13 8 := (Device.get_congr (hreg _)).trans hmax
  have ecode : e.get F.POOL_STATUS_VDD_CODE = s.dev.get F.POOL_STATUS_VDD_CODE :=
    Device.get_congr ((hreg F.POOL_STATUS.addr).trans (hother _ (by decide)))
  have eenf : e.enf = 0 := (Device.get_congr (f := F.THM_STATUS_ENF) ((hreg F.THM_STATUS_ENF.addr).trans (hother _ (by decide)))).trans henf
  have hupper : e.vddUpper = min 40 (bitsOf w 13 8) := by rw [Device.vddUpper, eenf, emax, if_pos rfl]
  have hlower : e.vddLower ≤ bitsOf w 5 0 := by
    rw [Device.vddLower, emin]
    exact Nat.min_le_left _ _
  rw [he, e.clampCode_inside (ecode ▸ Nat.le_trans hlower hlo) (by rw [ecode, hupper]; exact hhi)]
  exact ⟨emin, emax, ecode⟩

theorem loopEnWrite_on (s : State) (i : BitVec 7) (hoff : s.dev.get F.POOL_CTRL_LOOP_EN = 0) :
    Gives (.loopEnWrite true i) s fun e => e.get F.POOL_CTRL_LOOP_EN = 1 ∧ e.get F.POOL_SUPPLY_CFG_LOOP_INT = i.toNat ∧ e.pool.quiet = 0 := by
  refine .of_exec (exec_loopEnWrite true i s) ?_
  have hrestart : (true && !s.dev.flag F.POOL_CTRL_LOOP_EN || s.dev.get F.POOL_SUPPLY_CFG_LOOP_INT != i.toNat) = true := by
    simp [Device.flag_eq_false hoff]
  rw [Device.loopEnWrite, if_pos hrestart, Device.restartLoop]
  refine ⟨?_, ?_, rfl⟩
  · rw [Device.get_modPool, Device.get_set_apart _ _ _ _ (by decide) (by decide) (by decide), Device.setB, Device.get_set_same _ _ _ (by decide)]
    rfl
  · rw [Device.get_modPool, Device.get_set_same _ _ _ (by decide)]
    exact Nat.mod_eq_of_lt i.isLt

end Sys2Proof.Machine

open Sys2Proof Sys2Proof.Machine

/-- Settles O18, command by command: each has an equation for the device it leaves, whose fields are then read one by one. -/
theorem poolSupplyLoop : Obligations.PoolSupplyLoop := by
  intro s
  exact ⟨tideGaugeWindow_shows s, loopInterval_steps s, vgood_shows s, poolSupplyCfgWrite_inside s, loopEnWrite_on s⟩

end

section
/-! Host lanes: reads of a lane's fields after writes of its registers, what raising a flag keeps of a lane, and manifests that none awaits. -/

namespace Sys2Proof.Machine

/-! ### Fields by their bits -/

/-- Two fields lie inside their words and have no bit number in common. -/
def Fld.beside (f g : Fld) : Bool := decide (f.ok ∧ g.ok ∧ (f.hi < g.lo ∨ g.hi < f.lo))

/-- A field lies inside its word and has room for a value. -/
def Fld.fits (f : Fld) (v : Nat) : Bool := decide (f.ok ∧ v < 2 ^ (f.hi - f.lo + 1))

/-- Fields with no bit number in common are apart in whatever registers they lie. -/
theorem Device.get_set_beside (d : Device) (f g : Fld) (v : Nat) (h : f.beside g = true) : (d.set f v).get g = d.get g := by
  obtain ⟨hf, hg, hb⟩ := of_decide_eq_true h
  exact d.get_set_apart f g v hf hg (.inr hb)

theorem Device.get_set_fits (d : Device) (f : Fld) (v : Nat) (h : f.fits v = true) : (d.set f v).get f = v := by
  obtain ⟨hok, hv⟩ := of_decide_eq_true h
  rw [d.get_set_same f v hok, Nat.mod_eq_of_lt hv]

theorem Device.get_set_elsewhere (d : Device) (f g : Fld) (v : Nat) (h : g.addr ≠ f.addr) : (d.set f v).get g = d.get g :=
  Device.get_congr (d.reg_set_of_ne f v h)

/-! ### The registers of a host lane -/

theorem hostReg_ne (k : Nat) {a b : Nat} (h : a ≠ b) : a + 0x400 * k ≠ b + 0x400 * k := by omega

/-- A lane's registers lie below those of all host lanes. -/
theorem hostReg_ne_egr (k : HLane) {a : Nat} (h : a < 0x40400) : a + 0x400 * k.val ≠ F.HLN_EGR_STATUS.addr := by
  simp only [F.HLN_EGR_STATUS]
  omega

theorem hostReg_not_event (k : Nat) {a : Nat} (h : 0x40000 ≤ a) : a + 0x400 * k ∉ eventRegs :=
  not_mem_eventRegs_of_le (Nat.le_trans (by decide) (Nat.le_trans h (Nat.le_add_right a _)))

@[simp] theorem Device.hostLane_modHost (d : Device) (k : HLane) (g : HostLane → HostLane) : (d.modHost k g).host.get k = g (d.host.get k) :=
  Vector.getElem_set_self k.isLt

/-! ### What raising a flag keeps -/

/-- What neither a register nor the posting of an event holds. -/
theorem Device.raise_keeps {β : Type} (φ : Device → β) (hset : ∀ (d : Device) (f : Fld) (v : Nat), φ (d.set f v) = φ d)
    (hpost : ∀ {d e : Device}, Posted d e → φ e = φ d) (d : Device) (f : Fld) (data : Word) : φ (d.raise f data) = φ d := by
  suffices h : ∀ unit, φ (d.raiseAt f unit data) = φ d from h _
  intro unit
  unfold Device.raiseAt
  split
  · rfl
  · exact (hpost (post_posted _ _ _ _ _)).trans (hset d f 1)

@[simp] theorem Device.live_raise (d : Device) (f : Fld) (data : Word) : (d.raise f data).live = d.live :=
  Device.raise_keeps Device.live (fun _ _ _ => rfl) (fun ⟨⟨_, _, _, _, _, _, _, he⟩, _, _, _, _⟩ => he ▸ rfl) d f data

@[simp] theorem Device.host_raise (d : Device) (f : Fld) (data : Word) : (d.raise f data).host = d.host :=
  Device.raise_keeps Device.host (fun _ _ _ => rfl) (fun ⟨⟨_, _, _, _, _, _, _, he⟩, _, _, _, _⟩ => he ▸ rfl) d f data

@[simp] theorem Device.waiting_raise (d : Device) (f : Fld) (data : Word) : (d.raise f data).mft.waiting = d.mft.waiting :=
  Device.raise_keeps (fun d => d.mft.waiting) (fun _ _ _ => rfl) (fun ⟨⟨_, _, _, _, _, _, _, he⟩, _, _, _, _⟩ => he ▸ rfl) d f data

/-- A flag of a host lane that is raised reads 1; the lane's other flags and registers stand. -/
theorem Device.raise_hostFlag (d : Device) (k : HLane) {f : Fld} (hf : f.addr = (F.HLN_INT_STATUS k).addr) (hok : f.ok) (h1 : f.hi = f.lo) :
    (d.raise f).get f = 1 ∧ (∀ g : Fld, f.beside g = true → g.addr = f.addr → (d.raise f).get g = d.get g) ∧
    ∀ a, 0x40000 ≤ a → a ≠ 0x40020 → (d.raise f).reg (a + 0x400 * k.val) = d.reg (a + 0x400 * k.val) := by
  have hev : f.addr ∉ eventRegs := hf ▸ hostReg_not_event k (by decide)
  refine ⟨d.get_raise_same _ hok h1 hev, fun g hg ha => ?_, fun a hlo hne => ?_⟩
  · rw [Device.get_congr (f := g) ((raise_posted d f _ hok h1).regs g.addr (ha ▸ hev)), d.get_set_beside f g 1 hg]
  · exact d.reg_raise _ hok h1 (hostReg_not_event k hlo) (hf ▸ hostReg_ne k hne)

/-! ### Manifests that none awaits -/

theorem Device.modMft_waiting_none (d : Device) (h : d.mft.waiting = []) : (d.modMft fun q => { q with waiting := [] }) = d := by
  rw [← h]
  rfl

theorem Device.settle_none (d : Device) (h : d.mft.waiting = []) (p : Goal → Bool) (status : Nat) (r0 r1 : Word) :
    d.settle p status r0 r1 = d := by
  simpa [Device.settle, h] using d.modMft_waiting_none h

theorem Device.advanceHostLp_none (d : Device) (h : d.mft.waiting = []) (k : HLane) : d.advanceHostLp k = d := by
  unfold Device.advanceHostLp
  extract_lets st upd d1
  have hd1 : d1 = d := by simpa [d1, h] using d.modMft_waiting_none h
  rw [hd1, d.settle_none h]

/-! ### Whether a lane works -/

theorem Device.feeder_congr {d e : Device} (hl : e.live = d.live) (k : HLane) : e.feeder k = d.feeder k := by
  rw [Device.feeder, Device.lget_congr hl, Device.feeder]

theorem Device.hostUsed_congr {d e : Device} (hl : e.live = d.live) (k : HLane) : e.hostUsed k = d.hostUsed k := by
  simp only [Device.hostUsed, Device.hostUsedAt, Device.rate, Device.feeder_congr hl, Device.lget_congr hl]

theorem Device.markerNeeded_congr {d e : Device} (hl : e.live = d.live) (k : HLane) : e.markerNeeded k = d.markerNeeded k := by
  simp only [Device.markerNeeded, Device.rate, Device.feeder_congr hl, Device.lget_congr hl]

/-- The RX half works as long as its live configuration, the lane's low-power state and its late start stand. -/
theorem Device.hostRxActive_congr {d e : Device} {k : HLane} (hl : e.live = d.live) (hlp : e.reg (F.HLN_LP k).addr = d.reg (F.HLN_LP k).addr)
    (hlate : (e.host.get k).lateRx = (d.host.get k).lateRx) : e.hostRxActive k = d.hostRxActive k := by
  simp only [Device.hostRxActive, Device.lget_congr hl, Device.hostUsed_congr hl, hlate, Device.get_congr (f := F.HLN_LP_TRANS k) hlp,
    Device.get_congr (f := F.HLN_LP_LP_STATE k) hlp]

theorem Device.hostRxActive_set (d : Device) (k : HLane) (f : Fld) (v : Nat) (h : (F.HLN_LP k).addr ≠ f.addr) :
    (d.set f v).hostRxActive k = d.hostRxActive k :=
  Device.hostRxActive_congr (d := d) rfl (d.reg_set_of_ne f v h) rfl

theorem Device.rxEnabled_of_active {d : Device} {k : HLane} (h : d.hostRxActive k = true) : d.lget (F.HLN_CTRL_RX_EN k) = 1 := by
  simp only [Device.hostRxActive, Bool.and_eq_true, beq_iff_eq] at h
  obtain ⟨⟨⟨hrx, -⟩, -⟩, -⟩ := h
  exact hrx

/-! ### The EGR source -/

theorem Device.egrUpdate_regsOnly (d : Device) : d.RegsOnly d.egrUpdate := by
  have h1 : d.RegsOnly (d.setB F.HLN_EGR_STATUS_NONE (!(hlanes.any d.rxLocked))) := (Device.RegsOnly.refl d).setB _ _
  unfold Device.egrUpdate
  extract_lets d1
  split
  · exact (h1.set _ _).set _ _
  · exact h1.set _ _

@[simp] theorem Device.live_egrUpdate (d : Device) : d.egrUpdate.live = d.live := by
  obtain ⟨r, h⟩ := d.egrUpdate_regsOnly
  rw [h]

@[simp] theorem Device.host_egrUpdate (d : Device) : d.egrUpdate.host = d.host := by
  obtain ⟨r, h⟩ := d.egrUpdate_regsOnly
  rw [h]

theorem Device.reg_egrUpdate (d : Device) {a : Nat} (h : a ≠ F.HLN_EGR_STATUS.addr) : d.egrUpdate.reg a = d.reg a := by
  have h1 : (d.setB F.HLN_EGR_STATUS_NONE (!(hlanes.any d.rxLocked))).reg a = d.reg a := d.reg_setB_of_ne _ _ h
  unfold Device.egrUpdate
  extract_lets d1
  split
  · rw [Device.reg_set_of_ne _ F.HLN_EGR_STATUS_HOLD _ h, Device.reg_set_of_ne _ F.HLN_EGR_STATUS_SRC _ h, h1]
  · rw [Device.reg_set_of_ne _ F.HLN_EGR_STATUS_HOLD _ h, h1]

/-- A lane with CDR lock can be a source (R207). -/
theorem Device.egrUpdate_none (d : Device) {k : HLane} (h : d.rxLocked k = true) : d.egrUpdate.get F.HLN_EGR_STATUS_NONE = 0 := by
  have hany : hlanes.any d.rxLocked = true := List.any_eq_true.2 ⟨k, List.mem_finRange k, h⟩
  unfold Device.egrUpdate
  extract_lets d1
  have hd1 : d1.get F.HLN_EGR_STATUS_NONE = 0 := by
    simp only [d1, hany]
    exact d.get_set_fits _ _ rfl
  split
  · rw [Device.get_set_beside _ _ _ _ rfl, Device.get_set_beside _ _ _ _ rfl, hd1]
  · rw [Device.get_set_beside _ _ _ _ rfl, hd1]

end Sys2Proof.Machine
end

section
/-! Acquisition of a host lane: from PLL lock to marker lock, with the session in between (R211, R217 to R220). -/

namespace Sys2Proof.Machine

theorem exec_hostPllLock (k : HLane) (s : State) : exec (.hostPllLock k) s = .next { s with dev := s.dev.hostPllLock k } := rfl
theorem exec_signalDetect (k : HLane) (s : State) : exec (.signalDetect k) s = .next { s with dev := s.dev.signalDetect k } := rfl
theorem exec_cdrLock (k : HLane) (s : State) : exec (.cdrLock k) s = .next { s with dev := s.dev.hostCdrLock k } := rfl
theorem exec_adaptSessionEnd (k : HLane) (m : AdaptMeasure) (s : State) :
    exec (.adaptSessionEnd k m) s = .next { s with dev := s.dev.sessionEnd k m } := rfl
theorem exec_markerLock (k : HLane) (inPlace : Bool) (s : State) :
    exec (.markerLock k inPlace) s = .next { s with dev := s.dev.markerLock k inPlace } := rfl

/-! ### The locks -/

theorem Device.hostPllLock_step (d : Device) {k : HLane} (h : d.hostRxActive k = true) (hs : d.get (F.HLN_STATUS_ACQ_STEP k) = 1) :
    d.hostPllLock k = (d.set (F.HLN_STATUS_PLL_LOCK k) 1).set (F.HLN_STATUS_ACQ_STEP k) 2 := by
  have hact : (d.set (F.HLN_STATUS_PLL_LOCK k) 1).hostRxActive k = true :=
    (d.hostRxActive_set k (F.HLN_STATUS_PLL_LOCK k) 1 (hostReg_ne k (by decide))).trans h
  have hstep : (d.set (F.HLN_STATUS_PLL_LOCK k) 1).get (F.HLN_STATUS_ACQ_STEP k) = 1 := (d.get_set_beside _ _ _ rfl).trans hs
  simp [Device.hostPllLock, hact, hstep, Device.setHostStep]

theorem Device.signalDetect_step (d : Device) {k : HLane} (h : d.hostRxActive k = true) (hs : d.get (F.HLN_STATUS_ACQ_STEP k) = 2) :
    d.signalDetect k = (d.set (F.HLN_STATUS_SD k) 1).set (F.HLN_STATUS_ACQ_STEP k) 3 := by
  simp [Device.signalDetect, h, hs, Device.setHostStep]

/-- CDR lock is taken: the lane is at step 4 of Table 6-4 and may be the EGR source. -/
def Device.takeCdr (d : Device) (k : HLane) : Device :=
  (((d.set (F.HLN_STATUS_CDR_LOCK k) 1).set (F.HLN_STATUS_FREQ_MISMATCH k) 0).setHostStep k 4).egrUpdate

theorem Device.hostCdrLock_step (d : Device) {k : HLane} (h : d.hostRxActive k = true) (hs : d.get (F.HLN_STATUS_ACQ_STEP k) = 3) :
    d.hostCdrLock k = (d.takeCdr k).afterCdr k := by
  simp [Device.hostCdrLock, h, hs, Device.takeCdr]

@[simp] theorem Device.live_takeCdr (d : Device) (k : HLane) : (d.takeCdr k).live = d.live := Device.live_egrUpdate _

@[simp] theorem Device.host_takeCdr (d : Device) (k : HLane) : (d.takeCdr k).host = d.host := Device.host_egrUpdate _

theorem Device.takeCdr_shows (d : Device) {k : HLane} (hrx : d.lget (F.HLN_CTRL_RX_EN k) = 1) :
    (d.takeCdr k).get (F.HLN_STATUS_CDR_LOCK k) = 1 ∧ (d.takeCdr k).get (F.HLN_STATUS_ACQ_STEP k) = 4 ∧
    (d.takeCdr k).get F.HLN_EGR_STATUS_NONE = 0 ∧ (d.takeCdr k).get (F.HLN_STATUS_ADAPTING k) = d.get (F.HLN_STATUS_ADAPTING k) := by
  unfold Device.takeCdr Device.setHostStep
  generalize he : ((d.set (F.HLN_STATUS_CDR_LOCK k) 1).set (F.HLN_STATUS_FREQ_MISMATCH k) 0).set (F.HLN_STATUS_ACQ_STEP k) 4 = e
  have hcdr : e.get (F.HLN_STATUS_CDR_LOCK k) = 1 := by
    rw [← he, Device.get_set_beside _ _ _ _ rfl, Device.get_set_beside _ _ _ _ rfl, Device.get_set_fits _ _ _ rfl]
  have hstep : e.get (F.HLN_STATUS_ACQ_STEP k) = 4 := by rw [← he, Device.get_set_fits _ _ _ rfl]
  have hadapt : e.get (F.HLN_STATUS_ADAPTING k) = d.get (F.HLN_STATUS_ADAPTING k) := by
    rw [← he, Device.get_set_beside _ _ _ _ rfl, Device.get_set_beside _ _ _ _ rfl, Device.get_set_beside _ _ _ _ rfl]
  have hreg : e.egrUpdate.reg (F.HLN_STATUS k).addr = e.reg (F.HLN_STATUS k).addr := e.reg_egrUpdate (hostReg_ne_egr k (by decide))
  have hlocked : e.rxLocked k = true := by
    have hlive : e.lget (F.HLN_CTRL_RX_EN k) = 1 := he ▸ hrx
    simp [Device.rxLocked, hlive, Device.flag_eq_true hcdr]
  exact ⟨(Device.get_congr (f := F.HLN_STATUS_CDR_LOCK k) hreg).trans hcdr, (Device.get_congr (f := F.HLN_STATUS_ACQ_STEP k) hreg).trans hstep,
    e.egrUpdate_none hlocked, (Device.get_congr (f := F.HLN_STATUS_ADAPTING k) hreg).trans hadapt⟩

/-! ### After CDR lock -/

/-- With no session due a lane that needs marker lock waits for it. -/
theorem Device.afterCdr_wait (d : Device) {k : HLane} (hdue : (d.host.get k).due = []) (hm : d.markerNeeded k = true) : d.afterCdr k = d := by
  simp [Device.afterCdr, Device.serviceOrWait, hdue, hm]

theorem Device.afterCdr_session (d : Device) {k : HLane} {c : Nat} {rest : List Nat} (hdue : (d.host.get k).due = c :: rest) :
    d.afterCdr k = d.startSession k := by
  simp [Device.afterCdr, hdue]

/-- The session that has been due longest runs, and the lane is out of service (R219, R222). -/
theorem Device.startSession_shows (d : Device) {k : HLane} {c : Nat} {rest : List Nat} (hdue : (d.host.get k).due = c :: rest) :
    (d.startSession k).get (F.HLN_STATUS_ADAPTING k) = 1 ∧ (d.startSession k).get (F.HLN_STATUS_AM_LOCK k) = 0 ∧
    ((d.startSession k).host.get k).session = c ∧ ((d.startSession k).host.get k).due = rest ∧
    ((d.startSession k).host.get k).recovering = (d.host.get k).recovering := by
  unfold Device.startSession
  refine ⟨?_, ?_, ?_⟩
  · rw [Device.get_modHost, Device.get_set_beside _ _ _ _ rfl, Device.get_set_fits _ _ _ rfl]
  · rw [Device.get_modHost, Device.get_set_fits _ _ _ rfl]
  · simp [Device.setHostStep, hdue]

theorem cdrLock_waits (s : State) (k : HLane) (h : s.dev.hostRxActive k = true) (hm : s.dev.markerNeeded k = true)
    (hs : s.dev.get (F.HLN_STATUS_ACQ_STEP k) = 3) (hdue : (s.dev.host.get k).due = []) :
    Gives (.cdrLock k) s fun e => e.get (F.HLN_STATUS_CDR_LOCK k) = 1 ∧ e.get (F.HLN_STATUS_ACQ_STEP k) = 4 ∧
      e.get F.HLN_EGR_STATUS_NONE = 0 ∧ e.get (F.HLN_STATUS_ADAPTING k) = s.dev.get (F.HLN_STATUS_ADAPTING k) := by
  refine .of_exec (exec_cdrLock k s) ?_
  rw [s.dev.hostCdrLock_step h hs, Device.afterCdr_wait _ (by rw [Device.host_takeCdr, hdue])
    ((Device.markerNeeded_congr (s.dev.live_takeCdr k) k).trans hm)]
  exact s.dev.takeCdr_shows (Device.rxEnabled_of_active h)

theorem cdrLock_starts (s : State) (k : HLane) (h : s.dev.hostRxActive k = true) (c : Nat) (rest : List Nat)
    (hs : s.dev.get (F.HLN_STATUS_ACQ_STEP k) = 3) (hdue : (s.dev.host.get k).due = c :: rest) :
    Gives (.cdrLock k) s fun e => e.get (F.HLN_STATUS_ADAPTING k) = 1 ∧ e.get (F.HLN_STATUS_AM_LOCK k) = 0 ∧
      (e.host.get k).session = c ∧ (e.host.get k).due = rest := by
  refine .of_exec (exec_cdrLock k s) ?_
  have hdue' : ((s.dev.takeCdr k).host.get k).due = c :: rest := by rw [Device.host_takeCdr, hdue]
  obtain ⟨hadapt, ham, hses, hrest, -⟩ := (s.dev.takeCdr k).startSession_shows hdue'
  rw [s.dev.hostCdrLock_step h hs, Device.afterCdr_session _ hdue']
  exact ⟨hadapt, ham, hses, hrest⟩

/-! ### A session ends -/

/-- The taps that a session's moves have reached stand in HLN_ADAPT_DFE (R220). -/
def Device.showTaps (d : Device) (k : HLane) (taps : List Int) : Device :=
  (List.range 3).foldl (fun s i => s.setReg (F.HLN_ADAPT_DFE k i).addr (tapWord (taps.drop (4 * i)))) d

/-- The report of a session with margins `a` and `t`, of the adapted taps and of the entry's (R220). -/
def Device.showReport (d : Device) (k : HLane) (cause : Nat) (sat : Bool) (a t : Nat) : Device :=
  (((((d.set (F.HLN_ADAPT_RPT_VALID k) 1).set (F.HLN_ADAPT_RPT_CAUSE k) cause).setB (F.HLN_ADAPT_RPT_SAT k) sat).sset
    (F.HLN_ADAPT_RPT_MARGIN_DIFF k) ((a : Int) - t)).set (F.HLN_ADAPT_RPT_MARGIN_ADAPT k) a).set (F.HLN_ADAPT_RPT_MARGIN_TABLE k) t

/-- The session is over: step 6 of Table 6-4. -/
def Device.closeSession (d : Device) (k : HLane) (cause : Nat) : Device :=
  ((d.set (F.HLN_STATUS_ADAPTING k) 0).setHostStep k 6).modHost k fun h =>
    { h with session := 0, recRan := h.recRan || cause == 3, recovering := h.recovering || cause == 3 }

/-- A session's report and its end, before its flag. -/
def Device.reported (d : Device) (k : HLane) (m : AdaptMeasure) : Device :=
  let r := signSign (d.entryTaps k) m.moves
  (((d.showTaps k r.1).showReport k (d.host.get k).session r.2 (marginOf m.nearAdapt) (marginOf m.nearTable)).closeSession k (d.host.get k).session)

theorem Device.sessionEnd_eq (d : Device) (k : HLane) (m : AdaptMeasure) :
    d.sessionEnd k m = if !d.flag (F.HLN_STATUS_ADAPTING k) then d else
      ((((d.reported k m).raise (F.HLN_INT_STATUS_ADAPT_DONE k)).settle (fun g => g == .hostAdapt k) stOk
        ((d.reported k m).reg (F.HLN_ADAPT_RPT k).addr) ((d.reported k m).reg (F.HLN_ADAPT_DFE k 0).addr)).afterCdr k).takeHeldLp k := rfl

theorem Device.sessionEnd_none (d : Device) {k : HLane} (h : d.get (F.HLN_STATUS_ADAPTING k) = 0) (m : AdaptMeasure) : d.sessionEnd k m = d := by
  rw [d.sessionEnd_eq, Device.flag_eq_false h]
  rfl

theorem Device.takeHeldLp_none (d : Device) {k : HLane} (h : (d.host.get k).heldLp = none) : d.takeHeldLp k = d := by
  simp [Device.takeHeldLp, h]

theorem marginOf_le (near : List (List Nat)) : marginOf near ≤ 255 :=
  List.foldlRecOn (motive := fun m => m ≤ 255) near _ (Nat.le_refl 255) fun m hm l _ => Nat.le_trans (Nat.min_le_left m (thresholdMargin l)) hm

theorem Device.showTaps_regsOnly (d : Device) (k : HLane) (taps : List Int) : d.RegsOnly (d.showTaps k taps) :=
  (((Device.RegsOnly.refl d).setReg _ _).setReg _ _).setReg _ _

theorem Device.showReport_regsOnly (d : Device) (k : HLane) (cause : Nat) (sat : Bool) (a t : Nat) :
    d.RegsOnly (d.showReport k cause sat a t) :=
  ((((((Device.RegsOnly.refl d).set _ _).set _ _).setB _ _).set _ _).set _ _).set _ _

/-- Reading the report of a session. -/
theorem Device.showReport_shows (d : Device) (k : HLane) {cause : Nat} (sat : Bool) {a t : Nat} (hc : cause < 8) (ha : a < 256) (ht : t < 256) :
    (d.showReport k cause sat a t).get (F.HLN_ADAPT_RPT_VALID k) = 1 ∧ (d.showReport k cause sat a t).get (F.HLN_ADAPT_RPT_CAUSE k) = cause ∧
    (d.showReport k cause sat a t).get (F.HLN_ADAPT_RPT_MARGIN_ADAPT k) = a ∧
    (d.showReport k cause sat a t).get (F.HLN_ADAPT_RPT_MARGIN_TABLE k) = t := by
  unfold Device.showReport Device.setB Device.sset
  refine ⟨?_, ?_, ?_, ?_⟩
  · rw [Device.get_set_beside _ _ _ _ rfl, Device.get_set_beside _ _ _ _ rfl, Device.get_set_beside _ _ _ _ rfl,
      Device.get_set_beside _ _ _ _ rfl, Device.get_set_beside _ _ _ _ rfl, Device.get_set_fits _ _ _ rfl]
  · rw [Device.get_set_beside _ _ _ _ rfl, Device.get_set_beside _ _ _ _ rfl, Device.get_set_beside _ _ _ _ rfl,
      Device.get_set_beside _ _ _ _ rfl, Device.get_set_same _ _ _ (of_decide_eq_true rfl)]
    exact Nat.mod_eq_of_lt hc
  · rw [Device.get_set_beside _ _ _ _ rfl, Device.get_set_same _ _ _ (of_decide_eq_true rfl)]
    exact Nat.mod_eq_of_lt ha
  · rw [Device.get_set_same _ _ _ (of_decide_eq_true rfl)]
    exact Nat.mod_eq_of_lt ht

theorem Device.closeSession_shows (d : Device) (k : HLane) (cause : Nat) :
    (d.closeSession k cause).get (F.HLN_STATUS_ADAPTING k) = 0 ∧ (d.closeSession k cause).get (F.HLN_STATUS_ACQ_STEP k) = 6 ∧
    (d.closeSession k cause).reg (F.HLN_ADAPT_RPT k).addr = d.reg (F.HLN_ADAPT_RPT k).addr := by
  have hne : (F.HLN_ADAPT_RPT k).addr ≠ (F.HLN_STATUS k).addr := hostReg_ne k (by decide)
  unfold Device.closeSession Device.setHostStep
  refine ⟨?_, ?_, ?_⟩
  · rw [Device.get_modHost, Device.get_set_beside _ _ _ _ rfl, Device.get_set_fits _ _ _ rfl]
  · rw [Device.get_modHost, Device.get_set_fits _ _ _ rfl]
  · rw [Device.reg_modHost, Device.reg_set_of_ne _ (F.HLN_STATUS_ACQ_STEP k) _ hne, Device.reg_set_of_ne _ (F.HLN_STATUS_ADAPTING k) _ hne]

/-- What a session's end leaves of the lane before its flag: the report, step 6, and what waits. -/
theorem Device.reported_shows (d : Device) (k : HLane) (m : AdaptMeasure) (hc : (d.host.get k).session < 8) :
    ((d.reported k m).get (F.HLN_STATUS_ADAPTING k) = 0 ∧ (d.reported k m).get (F.HLN_STATUS_ACQ_STEP k) = 6) ∧
    (d.reported k m).get (F.HLN_ADAPT_RPT_VALID k) = 1 ∧ (d.reported k m).get (F.HLN_ADAPT_RPT_CAUSE k) = (d.host.get k).session ∧
    (d.reported k m).get (F.HLN_ADAPT_RPT_MARGIN_ADAPT k) = marginOf m.nearAdapt ∧
    (d.reported k m).get (F.HLN_ADAPT_RPT_MARGIN_TABLE k) = marginOf m.nearTable := by
  unfold Device.reported
  extract_lets r
  generalize d.showTaps k r.1 = e
  obtain ⟨hadapt, hstep, hrpt⟩ := (e.showReport k (d.host.get k).session r.2 (marginOf m.nearAdapt) (marginOf m.nearTable)).closeSession_shows k
    (d.host.get k).session
  rw [Device.get_congr (f := F.HLN_ADAPT_RPT_VALID k) hrpt, Device.get_congr (f := F.HLN_ADAPT_RPT_CAUSE k) hrpt,
    Device.get_congr (f := F.HLN_ADAPT_RPT_MARGIN_ADAPT k) hrpt, Device.get_congr (f := F.HLN_ADAPT_RPT_MARGIN_TABLE k) hrpt]
  exact ⟨⟨hadapt, hstep⟩, e.showReport_shows k r.2 hc (Nat.lt_succ_of_le (marginOf_le _)) (Nat.lt_succ_of_le (marginOf_le _))⟩

/-- A session's end leaves what waits of the lane. -/
theorem Device.reported_keeps (d : Device) (k : HLane) (m : AdaptMeasure) :
    (d.reported k m).live = d.live ∧ (d.reported k m).mft = d.mft ∧ ((d.reported k m).host.get k).due = (d.host.get k).due ∧
    ((d.reported k m).host.get k).heldLp = (d.host.get k).heldLp := by
  unfold Device.reported
  extract_lets r
  obtain ⟨_, htaps⟩ := d.showTaps_regsOnly k r.1
  obtain ⟨_, hreport⟩ := (d.showTaps k r.1).showReport_regsOnly k (d.host.get k).session r.2 (marginOf m.nearAdapt) (marginOf m.nearTable)
  rw [hreport, htaps]
  simp [Device.closeSession, Device.setHostStep]

/-- With nothing else waiting the lane goes on to step 7. -/
theorem Device.sessionEnd_waits (d : Device) {k : HLane} (m : AdaptMeasure) (hm : d.markerNeeded k = true)
    (hA : d.get (F.HLN_STATUS_ADAPTING k) = 1) (hdue : (d.host.get k).due = []) (hlp : (d.host.get k).heldLp = none)
    (hw : d.mft.waiting = []) : d.sessionEnd k m = (d.reported k m).raise (F.HLN_INT_STATUS_ADAPT_DONE k) := by
  obtain ⟨hlive, hmft, hdue', hlp'⟩ := d.reported_keeps k m
  have hnot : (!d.flag (F.HLN_STATUS_ADAPTING k)) = false := by rw [Device.flag_eq_true hA]; rfl
  rw [d.sessionEnd_eq, hnot, if_neg Bool.false_ne_true, Device.settle_none _ (by rw [Device.waiting_raise, hmft, hw]),
    Device.afterCdr_wait _ (by rw [Device.host_raise, hdue', hdue]) ((Device.markerNeeded_congr (by rw [Device.live_raise, hlive]) k).trans hm),
    Device.takeHeldLp_none _ (by rw [Device.host_raise, hlp', hlp])]

theorem adaptSessionEnd_reports (s : State) (k : HLane) (hm : s.dev.markerNeeded k = true) (m : AdaptMeasure)
    (hA : s.dev.get (F.HLN_STATUS_ADAPTING k) = 1) (hses : (s.dev.host.get k).session = 2) (hdue : (s.dev.host.get k).due = [])
    (hlp : (s.dev.host.get k).heldLp = none) (hw : s.dev.mft.waiting = []) :
    Gives (.adaptSessionEnd k m) s fun e => e.get (F.HLN_STATUS_ADAPTING k) = 0 ∧ e.get (F.HLN_STATUS_ACQ_STEP k) = 6 ∧
      e.get (F.HLN_ADAPT_RPT_VALID k) = 1 ∧ e.get (F.HLN_ADAPT_RPT_CAUSE k) = 2 ∧
      e.get (F.HLN_ADAPT_RPT_MARGIN_ADAPT k) = marginOf m.nearAdapt ∧ e.get (F.HLN_ADAPT_RPT_MARGIN_TABLE k) = marginOf m.nearTable := by
  refine .of_exec (exec_adaptSessionEnd k m s) ?_
  rw [s.dev.sessionEnd_waits m hm hA hdue hlp hw]
  obtain ⟨⟨hadapt, hstep⟩, hvalid, hcause, hma, hmt⟩ := s.dev.reported_shows k m (hses ▸ by decide)
  obtain ⟨-, -, hreg⟩ := (s.dev.reported k m).raise_hostFlag k (f := F.HLN_INT_STATUS_ADAPT_DONE k) rfl (of_decide_eq_true rfl) rfl
  have hstatus := hreg 0x40004 (by decide) (by decide)
  have hrpt := hreg 0x40010 (by decide) (by decide)
  exact ⟨(Device.get_congr hstatus).trans hadapt, (Device.get_congr hstatus).trans hstep, (Device.get_congr hrpt).trans hvalid,
    (Device.get_congr hrpt).trans (hcause.trans hses), (Device.get_congr hrpt).trans hma, (Device.get_congr hrpt).trans hmt⟩

/-! ### Marker lock -/

/-- Marker lock at step 4 to 6 takes the lane into service. -/
theorem Device.markerLock_serves (d : Device) {k : HLane} (h : d.hostRxActive k = true) (hlo : 4 ≤ d.get (F.HLN_STATUS_ACQ_STEP k))
    (hhi : d.get (F.HLN_STATUS_ACQ_STEP k) < 8) (hA : d.get (F.HLN_STATUS_ADAPTING k) = 0) (inPlace : Bool) :
    d.markerLock k inPlace = d.inService k := by
  have hne : d.get (F.HLN_STATUS_ACQ_STEP k) ≠ 8 := Nat.ne_of_lt hhi
  simp [Device.markerLock, h, hlo, hhi, hne, Device.flag_eq_false hA]

/-- The marker found in its place on leaving QUIET ends the check (R231). -/
theorem Device.markerLock_inPlace (d : Device) {k : HLane} (hc : (d.host.get k).checkMarker = true) (hs : d.get (F.HLN_STATUS_ACQ_STEP k) = 8) :
    d.markerLock k true = d.modHost k fun h => { h with checkMarker := false } := by
  simp [Device.markerLock, hc, hs]

end Sys2Proof.Machine

open Sys2Proof Sys2Proof.Machine

/-- Settles O27, step by step of Table 6-4: each lock has an equation for the device it leaves, and the session's end one for its report. -/
theorem hostAcquisition : Obligations.HostAcquisition := by
  intro s k h hm
  refine ⟨fun hs => .of_exec ?_, fun hs => .of_exec ?_, cdrLock_waits s k h hm, cdrLock_starts s k h, adaptSessionEnd_reports s k hm,
    fun hA m => .of_exec ?_, fun inPlace hlo hhi hA => .of_exec ?_, fun hc hs => .of_exec ?_⟩
  · rw [exec_hostPllLock, s.dev.hostPllLock_step h hs]
  · rw [exec_signalDetect, s.dev.signalDetect_step h hs]
  · rw [exec_adaptSessionEnd, s.dev.sessionEnd_none hA]
  · rw [exec_markerLock, s.dev.markerLock_serves h hlo hhi hA]
    rfl
  · rw [exec_markerLock, s.dev.markerLock_inPlace hc hs]

end

section
/-! Losses of a host lane and its recovery (R208, R209, R221). -/

namespace Sys2Proof.Machine

theorem exec_hostLos (k : HLane) (s : State) : exec (.hostLos k) s = .next { s with dev := s.dev.hostLos k } := rfl
theorem exec_cdrLoss (k : HLane) (s : State) : exec (.cdrLoss k) s = .next { s with dev := s.dev.cdrLoss k } := rfl
theorem exec_amLoss (k : HLane) (s : State) : exec (.amLoss k) s = .next { s with dev := s.dev.amLoss k } := rfl
theorem exec_freqMismatch (k : HLane) (s : State) : exec (.freqMismatch k) s = .next { s with dev := s.dev.freqMismatch k } := rfl
theorem exec_recoveryDue (k : HLane) (s : State) : exec (.recoveryDue k) s = .next { s with dev := s.dev.recoveryDue k } := rfl

/-! ### The restart of acquisition -/

/-- The lane waits for its signal or, with one, for CDR lock (R221). -/
def Device.awaitLock (d : Device) (k : HLane) : Device :=
  (d.set (F.HLN_STATUS_AM_LOCK k) 0).setHostStep k (if d.flag (F.HLN_STATUS_SD k) then 3 else 2)

theorem Device.abandonSession_none (d : Device) {k : HLane} (h : d.get (F.HLN_STATUS_ADAPTING k) = 0) : d.abandonSession k = d := by
  simp [Device.abandonSession, Device.flag_eq_false h]

theorem Device.adapting_awaitLock (d : Device) (k : HLane) :
    (d.awaitLock k).get (F.HLN_STATUS_ADAPTING k) = d.get (F.HLN_STATUS_ADAPTING k) := by
  rw [Device.awaitLock, Device.setHostStep, Device.get_set_beside _ _ _ _ rfl, Device.get_set_beside _ _ _ _ rfl]

/-- With no session to abandon a restart writes the lane's status alone; from service REC_TO starts beside it. -/
theorem Device.reg_hostRestart (d : Device) {k : HLane} (h : d.get (F.HLN_STATUS_ADAPTING k) = 0) (a : Nat) :
    (d.hostRestart k).reg a = (d.awaitLock k).reg a := by
  unfold Device.hostRestart
  extract_lets d1 d2
  have hd2 : ∀ a, d2.reg a = (d.awaitLock k).reg a := by
    intro a
    simp only [d2, d1]
    split <;> rfl
  rw [d2.abandonSession_none ((Device.get_congr (hd2 _)).trans ((d.adapting_awaitLock k).trans h)), hd2]

theorem Device.reg_awaitLock (d : Device) (k : HLane) {a : Nat} (h : a ≠ (F.HLN_STATUS k).addr) : (d.awaitLock k).reg a = d.reg a := by
  rw [Device.awaitLock, Device.setHostStep, Device.reg_set_of_ne _ (F.HLN_STATUS_ACQ_STEP k) _ h, Device.reg_set_of_ne _ (F.HLN_STATUS_AM_LOCK k) _ h]

theorem Device.awaitLock_shows (d : Device) (k : HLane) :
    (d.awaitLock k).get (F.HLN_STATUS_AM_LOCK k) = 0 ∧
    (d.awaitLock k).get (F.HLN_STATUS_ACQ_STEP k) = (if d.flag (F.HLN_STATUS_SD k) then 3 else 2) ∧
    (d.awaitLock k).get (F.HLN_STATUS_SD k) = d.get (F.HLN_STATUS_SD k) ∧
    (d.awaitLock k).get (F.HLN_STATUS_CDR_LOCK k) = d.get (F.HLN_STATUS_CDR_LOCK k) ∧
    (d.awaitLock k).get (F.HLN_STATUS_FREQ_MISMATCH k) = d.get (F.HLN_STATUS_FREQ_MISMATCH k) := by
  unfold Device.awaitLock Device.setHostStep
  refine ⟨?_, ?_, ?_, ?_, ?_⟩
  · rw [Device.get_set_beside _ _ _ _ rfl, Device.get_set_fits _ _ _ rfl]
  · split
    · rw [Device.get_set_fits _ _ _ rfl]
    · rw [Device.get_set_fits _ _ _ rfl]
  · rw [Device.get_set_beside _ _ _ _ rfl, Device.get_set_beside _ _ _ _ rfl]
  · rw [Device.get_set_beside _ _ _ _ rfl, Device.get_set_beside _ _ _ _ rfl]
  · rw [Device.get_set_beside _ _ _ _ rfl, Device.get_set_beside _ _ _ _ rfl]

/-! ### A loss -/

/-- A loss is counted and flagged, and the lane restarts (R221). -/
def Device.lose (d : Device) (k : HLane) (counter flag : Fld) : Device := ((d.bump counter).raise flag).hostRestart k

/-- What a loss does to the lane, `c` being one of its event counters and `f` one of its flags. -/
theorem Device.lose_shows (d : Device) {k : HLane} {c f : Fld} (hA : d.get (F.HLN_STATUS_ADAPTING k) = 0) (hc : c.ok) (hf : f.ok)
    (h1 : f.hi = f.lo) (hca : c.addr = (F.HLN_LOCK_EVENTS k).addr ∨ c.addr = (F.HLN_LOS_EVENTS k).addr)
    (hfa : f.addr = (F.HLN_INT_STATUS k).addr) :
    ((d.lose k c f).get (F.HLN_STATUS_AM_LOCK k) = 0 ∧
      (d.lose k c f).get (F.HLN_STATUS_ACQ_STEP k) = (if d.flag (F.HLN_STATUS_SD k) then 3 else 2) ∧
      (d.lose k c f).get (F.HLN_STATUS_SD k) = d.get (F.HLN_STATUS_SD k) ∧
      (d.lose k c f).get (F.HLN_STATUS_CDR_LOCK k) = d.get (F.HLN_STATUS_CDR_LOCK k) ∧
      (d.lose k c f).get (F.HLN_STATUS_FREQ_MISMATCH k) = d.get (F.HLN_STATUS_FREQ_MISMATCH k)) ∧
    (d.lose k c f).get c = (d.get c + 1) % 2 ^ (c.hi - c.lo + 1) ∧ (d.lose k c f).get f = 1 ∧
    ∀ g : Fld, f.beside g = true → g.addr = f.addr → (d.lose k c f).get g = d.get g := by
  have hcs : c.addr ≠ (F.HLN_STATUS k).addr ∧ c.addr ≠ (F.HLN_INT_STATUS k).addr ∧ c.addr ∉ eventRegs := by
    obtain h | h := hca
    · exact h ▸ ⟨hostReg_ne k (by decide), hostReg_ne k (by decide), hostReg_not_event k (by decide)⟩
    · exact h ▸ ⟨hostReg_ne k (by decide), hostReg_ne k (by decide), hostReg_not_event k (by decide)⟩
  obtain ⟨hcs, hci, hcev⟩ := hcs
  have hfs : f.addr ≠ (F.HLN_STATUS k).addr := hfa ▸ hostReg_ne k (by decide)
  obtain ⟨hraised, hothers, hraise⟩ := (d.bump c).raise_hostFlag k hfa hf h1
  have hstatus : ((d.bump c).raise f).reg (F.HLN_STATUS k).addr = d.reg (F.HLN_STATUS k).addr :=
    (hraise 0x40004 (by decide) (by decide)).trans (d.reg_set_of_ne c _ hcs.symm)
  have hreg := ((d.bump c).raise f).reg_hostRestart (k := k) ((Device.get_congr (f := F.HLN_STATUS_ADAPTING k) hstatus).trans hA)
  have hrest : ∀ a, a ≠ (F.HLN_STATUS k).addr → (d.lose k c f).reg a = ((d.bump c).raise f).reg a := fun a ha =>
    (hreg a).trans (Device.reg_awaitLock _ k ha)
  obtain ⟨ham, hstep, hsd, hcdr, hfm⟩ := ((d.bump c).raise f).awaitLock_shows k
  refine ⟨⟨?_, ?_, ?_, ?_, ?_⟩, ?_, ?_, fun g hg hga => ?_⟩
  · exact (Device.get_congr (hreg _)).trans ham
  · rw [Device.flag, Device.get_congr (f := F.HLN_STATUS_SD k) hstatus] at hstep
    exact (Device.get_congr (hreg _)).trans hstep
  · exact ((Device.get_congr (hreg _)).trans hsd).trans (Device.get_congr hstatus)
  · exact ((Device.get_congr (hreg _)).trans hcdr).trans (Device.get_congr hstatus)
  · exact ((Device.get_congr (hreg _)).trans hfm).trans (Device.get_congr hstatus)
  · rw [Device.get_congr (hrest _ hcs), Device.get_congr ((d.bump c).reg_raise _ hf h1 hcev (hfa ▸ hci)), Device.bump, d.get_set_same _ _ hc]
  · rw [Device.get_congr (hrest _ hfs), hraised]
  · rw [Device.get_congr (hrest _ (hga ▸ hfs)), hothers g hg hga, Device.bump, d.get_set_elsewhere c g _ (by rw [hga, hfa]; exact hci.symm)]

/-! ### The three losses -/

theorem Device.hostLos_eq (d : Device) {k : HLane} (h : d.hostRxActive k = true) (hsd : d.get (F.HLN_STATUS_SD k) = 1) :
    d.hostLos k = (((d.set (F.HLN_STATUS_SD k) 0).set (F.HLN_STATUS_CDR_LOCK k) 0).lose k (F.HLN_LOS_EVENTS k) (F.HLN_INT_STATUS_LOS_SET k)).egrUpdate :=
  if_pos (by rw [h, Device.flag_eq_true hsd]; rfl)

theorem Device.cdrLoss_eq (d : Device) {k : HLane} (h : d.hostRxActive k = true) (hcdr : d.get (F.HLN_STATUS_CDR_LOCK k) = 1) :
    d.cdrLoss k = ((d.set (F.HLN_STATUS_CDR_LOCK k) 0).lose k (F.HLN_LOCK_EVENTS_CDR k) (F.HLN_INT_STATUS_CDR_LOSS k)).egrUpdate :=
  if_pos (by rw [h, Device.flag_eq_true hcdr]; rfl)

theorem Device.amLoss_eq (d : Device) {k : HLane} (h : d.hostRxActive k = true) (ham : d.get (F.HLN_STATUS_AM_LOCK k) = 1) :
    d.amLoss k = d.lose k (F.HLN_LOCK_EVENTS_AM k) (F.HLN_INT_STATUS_AM_LOSS k) :=
  if_pos (by rw [h, Device.flag_eq_true ham]; rfl)

/-- Of a lane's fields the EGR source's update changes none. -/
theorem Device.get_egrUpdate_hostReg (d : Device) (k : HLane) (g : Fld) {a : Nat} (h : a < 0x40400) (hg : g.addr = a + 0x400 * k.val) :
    d.egrUpdate.get g = d.get g :=
  Device.get_congr (d.reg_egrUpdate (hg ▸ hostReg_ne_egr k h))

theorem hostLos_shows (s : State) (k : HLane) (h : s.dev.hostRxActive k = true) (hsd : s.dev.get (F.HLN_STATUS_SD k) = 1)
    (hA : s.dev.get (F.HLN_STATUS_ADAPTING k) = 0) :
    Gives (.hostLos k) s fun e => e.get (F.HLN_STATUS_SD k) = 0 ∧ e.get (F.HLN_STATUS_CDR_LOCK k) = 0 ∧ e.get (F.HLN_STATUS_ACQ_STEP k) = 2 ∧
      e.get (F.HLN_LOS_EVENTS k) = (s.dev.get (F.HLN_LOS_EVENTS k) + 1) % 2 ^ 16 ∧ e.get (F.HLN_INT_STATUS_LOS_SET k) = 1 := by
  refine .of_exec (exec_hostLos k s) ?_
  rw [s.dev.hostLos_eq h hsd]
  generalize he : (s.dev.set (F.HLN_STATUS_SD k) 0).set (F.HLN_STATUS_CDR_LOCK k) 0 = e
  have eA : e.get (F.HLN_STATUS_ADAPTING k) = 0 := by
    rw [← he, Device.get_set_beside _ _ _ _ rfl, Device.get_set_beside _ _ _ _ rfl, hA]
  have esd : e.get (F.HLN_STATUS_SD k) = 0 := by rw [← he, Device.get_set_beside _ _ _ _ rfl, Device.get_set_fits _ _ _ rfl]
  have ecdr : e.get (F.HLN_STATUS_CDR_LOCK k) = 0 := by rw [← he, Device.get_set_fits _ _ _ rfl]
  have ecount : e.get (F.HLN_LOS_EVENTS k) = s.dev.get (F.HLN_LOS_EVENTS k) := by
    rw [← he, Device.get_set_elsewhere _ (F.HLN_STATUS_CDR_LOCK k) _ _ (hostReg_ne k (by decide)),
      Device.get_set_elsewhere _ (F.HLN_STATUS_SD k) _ _ (hostReg_ne k (by decide))]
  obtain ⟨⟨-, hstep, lsd, lcdr, -⟩, hcount, hflag, -⟩ := e.lose_shows (k := k) (c := F.HLN_LOS_EVENTS k) (f := F.HLN_INT_STATUS_LOS_SET k) eA
    (of_decide_eq_true rfl) (of_decide_eq_true rfl) rfl (.inr rfl) rfl
  refine ⟨?_, ?_, ?_, ?_, ?_⟩
  · rw [Device.get_egrUpdate_hostReg _ k _ (by decide) rfl, lsd, esd]
  · rw [Device.get_egrUpdate_hostReg _ k _ (by decide) rfl, lcdr, ecdr]
  · rw [Device.get_egrUpdate_hostReg _ k _ (by decide) rfl, hstep, Device.flag_eq_false esd]
    rfl
  · rw [Device.get_egrUpdate_hostReg _ k _ (by decide) rfl, hcount, ecount]
    rfl
  · rw [Device.get_egrUpdate_hostReg _ k _ (by decide) rfl, hflag]

/-- What the loss of CDR lock leaves of a lane with signal, as one command and as part of a mismatch. -/
theorem Device.cdrLoss_shows (d : Device) {k : HLane} (h : d.hostRxActive k = true) (hsd : d.get (F.HLN_STATUS_SD k) = 1)
    (hA : d.get (F.HLN_STATUS_ADAPTING k) = 0) (hcdr : d.get (F.HLN_STATUS_CDR_LOCK k) = 1) :
    ((d.cdrLoss k).get (F.HLN_STATUS_CDR_LOCK k) = 0 ∧ (d.cdrLoss k).get (F.HLN_STATUS_AM_LOCK k) = 0 ∧
      (d.cdrLoss k).get (F.HLN_STATUS_ACQ_STEP k) = 3 ∧
      (d.cdrLoss k).get (F.HLN_LOCK_EVENTS_CDR k) = (d.get (F.HLN_LOCK_EVENTS_CDR k) + 1) % 2 ^ 16 ∧
      (d.cdrLoss k).get (F.HLN_INT_STATUS_CDR_LOSS k) = 1) ∧
    (d.cdrLoss k).get (F.HLN_STATUS_FREQ_MISMATCH k) = d.get (F.HLN_STATUS_FREQ_MISMATCH k) ∧
    (d.cdrLoss k).get (F.HLN_INT_STATUS_FREQ_MISMATCH k) = d.get (F.HLN_INT_STATUS_FREQ_MISMATCH k) := by
  rw [d.cdrLoss_eq h hcdr]
  generalize he : d.set (F.HLN_STATUS_CDR_LOCK k) 0 = e
  have eA : e.get (F.HLN_STATUS_ADAPTING k) = 0 := by rw [← he, Device.get_set_beside _ _ _ _ rfl, hA]
  have esd : e.get (F.HLN_STATUS_SD k) = 1 := by rw [← he, Device.get_set_beside _ _ _ _ rfl, hsd]
  have ecdr : e.get (F.HLN_STATUS_CDR_LOCK k) = 0 := by rw [← he, Device.get_set_fits _ _ _ rfl]
  have efm : e.get (F.HLN_STATUS_FREQ_MISMATCH k) = d.get (F.HLN_STATUS_FREQ_MISMATCH k) := by rw [← he, Device.get_set_beside _ _ _ _ rfl]
  have ecount : e.get (F.HLN_LOCK_EVENTS_CDR k) = d.get (F.HLN_LOCK_EVENTS_CDR k) := by
    rw [← he, Device.get_set_elsewhere _ (F.HLN_STATUS_CDR_LOCK k) _ _ (hostReg_ne k (by decide))]
  have eint : e.get (F.HLN_INT_STATUS_FREQ_MISMATCH k) = d.get (F.HLN_INT_STATUS_FREQ_MISMATCH k) := by rw [← he, Device.get_set_beside _ _ _ _ rfl]
  obtain ⟨⟨ham, hstep, -, lcdr, lfm⟩, hcount, hflag, hothers⟩ := e.lose_shows (k := k) (c := F.HLN_LOCK_EVENTS_CDR k)
    (f := F.HLN_INT_STATUS_CDR_LOSS k) eA (of_decide_eq_true rfl) (of_decide_eq_true rfl) rfl (.inl rfl) rfl
  refine ⟨⟨?_, ?_, ?_, ?_, ?_⟩, ?_, ?_⟩
  · rw [Device.get_egrUpdate_hostReg _ k _ (by decide) rfl, lcdr, ecdr]
  · rw [Device.get_egrUpdate_hostReg _ k _ (by decide) rfl, ham]
  · rw [Device.get_egrUpdate_hostReg _ k _ (by decide) rfl, hstep, Device.flag_eq_true esd]
    rfl
  · rw [Device.get_egrUpdate_hostReg _ k _ (by decide) rfl, hcount, ecount]
    rfl
  · rw [Device.get_egrUpdate_hostReg _ k _ (by decide) rfl, hflag]
  · rw [Device.get_egrUpdate_hostReg _ k _ (by decide) rfl, lfm, efm]
  · rw [Device.get_egrUpdate_hostReg _ k _ (by decide) rfl, hothers (F.HLN_INT_STATUS_FREQ_MISMATCH k) rfl rfl, eint]

theorem amLoss_shows (s : State) (k : HLane) (h : s.dev.hostRxActive k = true) (hsd : s.dev.get (F.HLN_STATUS_SD k) = 1)
    (hA : s.dev.get (F.HLN_STATUS_ADAPTING k) = 0) (ham : s.dev.get (F.HLN_STATUS_AM_LOCK k) = 1) :
    Gives (.amLoss k) s fun e => e.get (F.HLN_STATUS_AM_LOCK k) = 0 ∧ e.get (F.HLN_STATUS_ACQ_STEP k) = 3 ∧
      e.get (F.HLN_STATUS_CDR_LOCK k) = s.dev.get (F.HLN_STATUS_CDR_LOCK k) ∧
      e.get (F.HLN_LOCK_EVENTS_AM k) = (s.dev.get (F.HLN_LOCK_EVENTS_AM k) + 1) % 2 ^ 16 := by
  refine .of_exec (exec_amLoss k s) ?_
  rw [s.dev.amLoss_eq h ham]
  obtain ⟨⟨lam, hstep, -, hcdr, -⟩, hcount, -⟩ := s.dev.lose_shows (k := k) (c := F.HLN_LOCK_EVENTS_AM k) (f := F.HLN_INT_STATUS_AM_LOSS k) hA
    (of_decide_eq_true rfl) (of_decide_eq_true rfl) rfl (.inl rfl) rfl
  rw [Device.flag_eq_true hsd] at hstep
  exact ⟨lam, hstep, hcdr, hcount⟩

/-! ### A lane off the source's frequency -/

/-- The EGR source has no mismatch with itself. -/
theorem Device.freqMismatch_source (d : Device) {k : HLane} (h : d.get F.HLN_EGR_STATUS_SRC = k.val) : d.freqMismatch k = d := by
  simp [Device.freqMismatch, h]

/-- A mismatch is shown and flagged. -/
def Device.showMismatch (d : Device) (k : HLane) : Device :=
  (d.set (F.HLN_STATUS_FREQ_MISMATCH k) 1).raise (F.HLN_INT_STATUS_FREQ_MISMATCH k)

/-- Any other lane with CDR lock counts as out of it (R208). -/
theorem Device.freqMismatch_eq (d : Device) {k : HLane} (h : d.hostRxActive k = true) (hcdr : d.get (F.HLN_STATUS_CDR_LOCK k) = 1)
    (hne : d.get F.HLN_EGR_STATUS_SRC ≠ k.val) : d.freqMismatch k = (d.showMismatch k).cdrLoss k :=
  if_pos (by simp [h, Device.flag_eq_true hcdr, hne])

theorem freqMismatch_shows (s : State) (k : HLane) (h : s.dev.hostRxActive k = true) (hsd : s.dev.get (F.HLN_STATUS_SD k) = 1)
    (hA : s.dev.get (F.HLN_STATUS_ADAPTING k) = 0) (hcdr : s.dev.get (F.HLN_STATUS_CDR_LOCK k) = 1)
    (hne : s.dev.get F.HLN_EGR_STATUS_SRC ≠ k.val) :
    Gives (.freqMismatch k) s fun e => e.get (F.HLN_STATUS_FREQ_MISMATCH k) = 1 ∧ e.get (F.HLN_STATUS_CDR_LOCK k) = 0 ∧
      e.get (F.HLN_INT_STATUS_FREQ_MISMATCH k) = 1 := by
  refine .of_exec (exec_freqMismatch k s) ?_
  rw [s.dev.freqMismatch_eq h hcdr hne]
  obtain ⟨hraised, -, hreg⟩ := (s.dev.set (F.HLN_STATUS_FREQ_MISMATCH k) 1).raise_hostFlag k (f := F.HLN_INT_STATUS_FREQ_MISMATCH k) rfl
    (of_decide_eq_true rfl) rfl
  have hstatus := hreg 0x40004 (by decide) (by decide)
  have hactive : (s.dev.showMismatch k).hostRxActive k = true := by
    rw [← h, ← s.dev.hostRxActive_set k (F.HLN_STATUS_FREQ_MISMATCH k) 1 (hostReg_ne k (by decide))]
    exact Device.hostRxActive_congr (Device.live_raise _ _ _) (hreg 0x40008 (by decide) (by decide)) (by rw [Device.showMismatch, Device.host_raise])
  have hkept : ∀ g : Fld, g.addr = (F.HLN_STATUS k).addr → (F.HLN_STATUS_FREQ_MISMATCH k).beside g = true →
      (s.dev.showMismatch k).get g = s.dev.get g := fun g hg hb =>
    (Device.get_congr (hg ▸ hstatus)).trans (s.dev.get_set_beside _ g 1 hb)
  obtain ⟨⟨lcdr, -⟩, lfm, lint⟩ := (s.dev.showMismatch k).cdrLoss_shows hactive ((hkept (F.HLN_STATUS_SD k) rfl rfl).trans hsd)
    ((hkept (F.HLN_STATUS_ADAPTING k) rfl rfl).trans hA) ((hkept (F.HLN_STATUS_CDR_LOCK k) rfl rfl).trans hcdr)
  refine ⟨?_, lcdr, lint.trans hraised⟩
  rw [lfm]
  exact (Device.get_congr hstatus).trans (s.dev.get_set_fits _ 1 rfl)

/-! ### Recovery -/

/-- A recovery session that has failed is counted; every third flags RX_FAIL (R221). Nothing else of the lane changes. -/
theorem Device.recoveryFailed_keeps (d : Device) (k : HLane) :
    (d.recoveryFailed k).live = d.live ∧ ((d.recoveryFailed k).host.get k).due = (d.host.get k).due ∧
    ((d.recoveryFailed k).host.get k).lateRx = (d.host.get k).lateRx ∧
    ∀ a, 0x40000 ≤ a → a ≠ 0x40020 → (d.recoveryFailed k).reg (a + 0x400 * k.val) = d.reg (a + 0x400 * k.val) := by
  unfold Device.recoveryFailed Device.raiseIf
  extract_lets c
  split
  · split
    · refine ⟨by simp, by simp, by simp, fun a ha hne => ?_⟩
      obtain ⟨-, -, hreg⟩ := (d.modHost k fun h => { h with recFails := c, recRan := false }).raise_hostFlag k (f := F.HLN_INT_STATUS_RX_FAIL k) rfl
        (of_decide_eq_true rfl) rfl
      exact hreg a ha hne
    · exact ⟨rfl, by simp, by simp, fun _ _ _ => rfl⟩
  · exact ⟨rfl, rfl, rfl, fun _ _ _ => rfl⟩

/-- A recovery session joins those that are due, and REC_TO has run out. -/
def Device.recoveryAsked (d : Device) (k : HLane) : Device := d.modHost k fun h => { h.addDue 3 with recovering := false }

theorem Device.recoveryDue_starts (d : Device) {k : HLane} (h : d.hostRxActive k = true) (hA : d.get (F.HLN_STATUS_ADAPTING k) = 0)
    (hcdr : d.get (F.HLN_STATUS_CDR_LOCK k) = 1) (hrec : d.get (F.HLN_ADAPT_CFG_REC_ADAPT k) = 1)
    (hrecovering : (d.host.get k).recovering = true) (hs : d.get (F.HLN_STATUS_ACQ_STEP k) ≠ 8) :
    d.recoveryDue k = ((d.recoveryFailed k).recoveryAsked k).startSession k := by
  obtain ⟨hlive, -, hlate, hreg⟩ := d.recoveryFailed_keeps k
  have hstatus := hreg 0x40004 (by decide) (by decide)
  have hguard : (d.lget (F.HLN_CTRL_RX_EN k) == 1 && (d.host.get k).recovering && d.get (F.HLN_STATUS_ACQ_STEP k) != 8) = true := by
    simp [Device.rxEnabled_of_active h, hrecovering, hs]
  have hcfg : (d.recoveryFailed k).flag (F.HLN_ADAPT_CFG_REC_ADAPT k) = true :=
    Device.flag_eq_true ((Device.get_congr (hreg 0x4000C (by decide) (by decide))).trans hrec)
  have hlate' : (((d.recoveryFailed k).recoveryAsked k).host.get k).lateRx = (d.host.get k).lateRx := by
    rw [Device.recoveryAsked, Device.hostLane_modHost, ← hlate, HostLane.addDue]
    split <;> rfl
  have hactive : ((d.recoveryFailed k).recoveryAsked k).hostRxActive k = true :=
    (Device.hostRxActive_congr (d := d) (e := (d.recoveryFailed k).recoveryAsked k) hlive (hreg 0x40008 (by decide) (by decide)) hlate').trans h
  have hready : (((d.recoveryFailed k).recoveryAsked k).hostRxActive k &&
      ((d.recoveryFailed k).recoveryAsked k).flag (F.HLN_STATUS_CDR_LOCK k) &&
      !((d.recoveryFailed k).recoveryAsked k).flag (F.HLN_STATUS_ADAPTING k)) = true := by
    have hcdr' : ((d.recoveryFailed k).recoveryAsked k).get (F.HLN_STATUS_CDR_LOCK k) = 1 := (Device.get_congr hstatus).trans hcdr
    have hA' : ((d.recoveryFailed k).recoveryAsked k).get (F.HLN_STATUS_ADAPTING k) = 0 := (Device.get_congr hstatus).trans hA
    rw [hactive, Device.flag_eq_true hcdr', Device.flag_eq_false hA']
    rfl
  rw [Device.recoveryDue, if_pos hguard]
  exact (if_pos hcfg).trans (if_pos hready)

theorem recoveryDue_starts (s : State) (k : HLane) (h : s.dev.hostRxActive k = true) (hA : s.dev.get (F.HLN_STATUS_ADAPTING k) = 0)
    (hcdr : s.dev.get (F.HLN_STATUS_CDR_LOCK k) = 1) (hrec : s.dev.get (F.HLN_ADAPT_CFG_REC_ADAPT k) = 1)
    (hrecovering : (s.dev.host.get k).recovering = true) (hs : s.dev.get (F.HLN_STATUS_ACQ_STEP k) ≠ 8) (hdue : (s.dev.host.get k).due = []) :
    Gives (.recoveryDue k) s fun e => e.get (F.HLN_STATUS_ADAPTING k) = 1 ∧ (e.host.get k).session = 3 ∧ (e.host.get k).recovering = false := by
  refine .of_exec (exec_recoveryDue k s) ?_
  rw [s.dev.recoveryDue_starts h hA hcdr hrec hrecovering hs]
  obtain ⟨-, hkept, -⟩ := s.dev.recoveryFailed_keeps k
  have hdue' : (((s.dev.recoveryFailed k).recoveryAsked k).host.get k).due = [3] := by
    simp [Device.recoveryAsked, HostLane.addDue, hkept, hdue]
  obtain ⟨hadapt, -, hses, -, hover⟩ := ((s.dev.recoveryFailed k).recoveryAsked k).startSession_shows hdue'
  refine ⟨hadapt, hses, hover.trans ?_⟩
  rw [Device.recoveryAsked, Device.hostLane_modHost]

end Sys2Proof.Machine

open Sys2Proof Sys2Proof.Machine

/-- Settles O28, loss by loss: each is counted, flagged and followed by the restart, and REC_TO makes the recovery session due. -/
theorem hostLosses : Obligations.HostLosses := by
  intro s k h hsd hA
  refine ⟨hostLos_shows s k h hsd hA, fun hcdr => .of_exec (exec_cdrLoss k s) (s.dev.cdrLoss_shows h hsd hA hcdr).1,
    amLoss_shows s k h hsd hA, freqMismatch_shows s k h hsd hA, fun hsrc => .of_exec ?_,
    fun hcdr hrec hrecovering hs hdue => recoveryDue_starts s k h hA hcdr hrec hrecovering hs hdue⟩
  rw [exec_freqMismatch, s.dev.freqMismatch_source hsrc]

end

section
/-! Low power and test sessions of a host lane (R222, R226 to R230). -/

namespace Sys2Proof.Machine

theorem exec_lpRequest (k : HLane) (v : BitVec 2) (s : State) : exec (.lpRequest k v) s = .next { s with dev := s.dev.lpWrite k v.toNat } := rfl
theorem exec_lpTransitionDone (k : HLane) (s : State) : exec (.lpTransitionDone k) s = .next { s with dev := s.dev.lpDone k } := rfl
theorem exec_hostTxHalfRun (k : HLane) (s : State) : exec (.hostTxHalfRun k) s = .next { s with dev := s.dev.hostTxHalf k } := rfl
theorem exec_adaptRun (k : HLane) (s : State) : exec (.adaptRun k) s = .next { s with dev := s.dev.adaptRun k } := rfl

/-! ### A request and its refusal -/

/-- The line lanes' registers lie below the host lanes'. -/
theorem lrxState_ne_hostReg (n : Lane) (k : Nat) {a : Nat} (h : 0x40000 ≤ a) : (F.LRX_STATE n).addr ≠ a + 0x400 * k := by
  simp only [F.LRX_STATE]
  omega

/-- Whether R229 blocks a request is for the configuration and the line lanes to say. -/
theorem Device.lpBlocked_congr {d e : Device} {k : HLane} (hl : e.live = d.live)
    (hr : ∀ n : Lane, e.reg (F.LRX_STATE n).addr = d.reg (F.LRX_STATE n).addr) : e.lpBlocked k = d.lpBlocked k := by
  have hx : ∀ n : Lane, e.rxInRxon n = d.rxInRxon n := fun n => by
    rw [Device.rxInRxon, Device.get_congr (f := F.LRX_STATE_RX_STATE n) (hr n), Device.get_congr (f := F.LRX_STATE_RX_TRANS n) (hr n), Device.rxInRxon]
  simp only [Device.lpBlocked, Device.feeder_congr hl, Device.hostUsed_congr hl, hx]

theorem Device.lpBlocked_set (d : Device) (k : HLane) (f : Fld) (v : Nat) {a j : Nat} (hf : f.addr = a + 0x400 * j) (ha : 0x40000 ≤ a) :
    (d.set f v).lpBlocked k = d.lpBlocked k :=
  Device.lpBlocked_congr (d := d) rfl fun n => d.reg_set_of_ne f v (hf ▸ lrxState_ne_hostReg n j ha)

/-- The value that the field holds, and code 3, make no request (R228). -/
theorem Device.lpWrite_none (d : Device) {k : HLane} {v : Nat} (h : v = 3 ∨ v = d.get (F.HLN_LP_LP_REQ k)) : d.lpWrite k v = d := if_pos h

/-- LP_REQ as a write leaves it. -/
def Device.lpAsked (d : Device) (k : HLane) (v : Nat) : Device := d.set (F.HLN_LP_LP_REQ k) v

/-- Another value is a request, which no hold of the lanes and no low device state keeps back. -/
theorem Device.lpWrite_asks (d : Device) {k : HLane} {v : Nat} (hv : v ≠ 3) (hne : d.get (F.HLN_LP_LP_REQ k) ≠ v) (hold : d.laneHold = false)
    (hp : d.get F.PWR_STATUS_STATE ≤ 1) : d.lpWrite k v = (d.lpAsked k v).lpRequest k v := by
  have hstate : (d.lpAsked k v).get F.PWR_STATUS_STATE ≤ 1 := by
    rw [Device.lpAsked, Device.get_set_elsewhere _ (F.HLN_LP_LP_REQ k) F.PWR_STATUS_STATE _ (by simp only [F.HLN_LP_LP_REQ, F.PWR_STATUS_STATE]; omega)]
    exact hp
  have hheld : ¬ (d.lpAsked k v).laneHeld (v ≠ 2) = true := by
    have hlow : ¬ 2 ≤ (d.lpAsked k v).get F.PWR_STATUS_STATE := by omega
    have hold' : (d.lpAsked k v).laneHold = false := hold
    simp [Device.laneHeld, hold', hlow]
  rw [Device.lpWrite, if_neg (not_or.2 ⟨hv, hne.symm⟩)]
  exact if_neg hheld

/-- Recording a request changes nothing that its taking looks at. -/
theorem Device.lpAsked_keeps (d : Device) (k : HLane) (v : Nat) :
    (d.lpAsked k v).get (F.HLN_STATUS_ADAPTING k) = d.get (F.HLN_STATUS_ADAPTING k) ∧
    (d.lpAsked k v).get (F.HLN_LP_TRANS k) = d.get (F.HLN_LP_TRANS k) ∧
    (d.lpAsked k v).get (F.HLN_LP_LP_STATE k) = d.get (F.HLN_LP_LP_STATE k) ∧ (d.lpAsked k v).lpBlocked k = d.lpBlocked k :=
  ⟨d.get_set_beside _ _ _ rfl, d.get_set_beside _ _ _ rfl, d.get_set_beside _ _ _ rfl, d.lpBlocked_set k _ _ rfl (by decide)⟩

theorem Device.supersedeLp_none (d : Device) (h : d.mft.waiting = []) (k : HLane) (v : Nat) : d.supersedeLp k v = d :=
  d.settle_none h _ _ _ _

/-- Outside a session a request that R229 refuses sets its flag. -/
theorem Device.lpRequest_refused (d : Device) {k : HLane} (hA : d.get (F.HLN_STATUS_ADAPTING k) = 0) (hb : d.lpBlocked k = true) {v : Nat} (hv : v ≠ 0) :
    d.lpRequest k v = d.raise (F.HLN_INT_STATUS_LP_REFUSED k) := by
  simp [Device.lpRequest, Device.lpRefused, Device.flag_eq_false hA, hb, hv]

/-- The request stands in PENDING, and no other is held. -/
def Device.lpQueued (d : Device) (k : HLane) (v : Nat) : Device :=
  (d.modHost k fun h => { h with heldLp := none }).set (F.HLN_LP_PENDING k) v

theorem Device.lpRequest_queues (d : Device) {k : HLane} (hw : d.mft.waiting = []) (hA : d.get (F.HLN_STATUS_ADAPTING k) = 0)
    (hb : d.lpBlocked k = false) (v : Nat) : d.lpRequest k v = (d.lpQueued k v).lpRun k 4 := by
  simp [Device.lpRequest, Device.lpRefused, Device.flag_eq_false hA, hb, d.supersedeLp_none hw, Device.lpQueued]

/-! ### The transition to QUIET -/

/-- A queued request that differs from the state and is not blocked begins its transition. -/
theorem Device.lpRun_begins (d : Device) {k : HLane} {p : Nat} (fuel : Nat) (ht : d.get (F.HLN_LP_TRANS k) = 3) (hp : d.get (F.HLN_LP_PENDING k) = p)
    (hp3 : p ≠ 3) (hst : d.get (F.HLN_LP_LP_STATE k) ≠ p) (hb : d.lpBlocked k = false) :
    d.lpRun k (fuel + 1) = ((d.set (F.HLN_LP_PENDING k) 3).lpBegin k p).lpRun k fuel := by
  have hst' : p ≠ (d.set (F.HLN_LP_PENDING k) 3).get (F.HLN_LP_LP_STATE k) := by
    rw [d.get_set_beside _ _ _ rfl]
    exact hst.symm
  have hb' : (d.set (F.HLN_LP_PENDING k) 3).lpBlocked k = false := (d.lpBlocked_set k _ _ rfl (by decide)).trans hb
  rw [Device.lpRun, if_pos ht]
  simp [hp, hp3, hst', hb']

/-- Nothing more happens while a half is on its way. -/
theorem Device.lpRun_waits (d : Device) {k : HLane} (fuel : Nat) (ht : d.get (F.HLN_LP_TRANS k) ≠ 3) (htx : (d.host.get k).txDone = false) :
    d.lpRun k fuel = d := by
  cases fuel with
  | zero => rfl
  | succ fuel => simp [Device.lpRun, ht, htx]

/-- Nothing more happens with no request queued. -/
theorem Device.lpRun_rests (d : Device) {k : HLane} (fuel : Nat) (ht : d.get (F.HLN_LP_TRANS k) = 3) (hp : d.get (F.HLN_LP_PENDING k) = 3) :
    d.lpRun k fuel = d := by
  cases fuel with
  | zero => rfl
  | succ fuel => simp [Device.lpRun, ht, hp]

/-- The transition from RUN to QUIET has begun on a lane with its TX half enabled. -/
def Device.toQuiet (d : Device) (k : HLane) : Device :=
  (d.set (F.HLN_LP_TRANS k) 1).modHost k fun h =>
    { h with
      txDone := false, rxDone := !(d.lget (F.HLN_CTRL_RX_EN k) == 1 && d.hostUsed k && !(d.host.get k).lateRx), txRun := false, checkMarker := false }

theorem Device.lpBegin_quiet (d : Device) {k : HLane} (hst : d.get (F.HLN_LP_LP_STATE k) = 0) (htx : d.lget (F.HLN_CTRL_TX_EN k) = 1) :
    d.lpBegin k 1 = d.toQuiet k := by
  simp [Device.lpBegin, Device.toQuiet, hst, htx]

/-- A request for QUIET that is taken in RUN: nothing stays queued, and the TX half is on its way. -/
theorem Device.lpRequest_quiet (d : Device) {k : HLane} (hw : d.mft.waiting = []) (hA : d.get (F.HLN_STATUS_ADAPTING k) = 0)
    (hb : d.lpBlocked k = false) (ht : d.get (F.HLN_LP_TRANS k) = 3) (hst : d.get (F.HLN_LP_LP_STATE k) = 0)
    (htx : d.lget (F.HLN_CTRL_TX_EN k) = 1) : d.lpRequest k 1 = ((d.lpQueued k 1).set (F.HLN_LP_PENDING k) 3).toQuiet k := by
  generalize he : d.lpQueued k 1 = e
  have ht' : e.get (F.HLN_LP_TRANS k) = 3 := by rw [← he, Device.lpQueued, Device.get_set_beside _ _ _ _ rfl, Device.get_modHost, ht]
  have hst' : e.get (F.HLN_LP_LP_STATE k) = 0 := by rw [← he, Device.lpQueued, Device.get_set_beside _ _ _ _ rfl, Device.get_modHost, hst]
  have hp : e.get (F.HLN_LP_PENDING k) = 1 := by rw [← he, Device.lpQueued, Device.get_set_fits _ _ _ rfl]
  have hb' : e.lpBlocked k = false := by
    rw [← he, Device.lpQueued, Device.lpBlocked_set _ k _ _ rfl (by decide)]
    exact hb
  have htx' : (e.set (F.HLN_LP_PENDING k) 3).lget (F.HLN_CTRL_TX_EN k) = 1 := he ▸ htx
  have hst'' : (e.set (F.HLN_LP_PENDING k) 3).get (F.HLN_LP_LP_STATE k) = 0 := by rw [Device.get_set_beside _ _ _ _ rfl, hst']
  have hmoving : ((e.set (F.HLN_LP_PENDING k) 3).toQuiet k).get (F.HLN_LP_TRANS k) = 1 := by
    rw [Device.toQuiet, Device.get_modHost, Device.get_set_fits _ _ _ rfl]
  rw [d.lpRequest_queues hw hA hb 1, he, e.lpRun_begins 3 ht' hp (by decide) (by rw [hst']; decide) hb', Device.lpBegin_quiet _ hst'' htx',
    Device.lpRun_waits _ 3 (by rw [hmoving]; decide) (by rw [Device.toQuiet, Device.hostLane_modHost])]

/-- Reading the lane's low-power register once the transition has begun. -/
theorem Device.toQuiet_shows (d : Device) (k : HLane) :
    (((d.lpQueued k 1).set (F.HLN_LP_PENDING k) 3).toQuiet k).get (F.HLN_LP_LP_REQ k) = d.get (F.HLN_LP_LP_REQ k) ∧
    (((d.lpQueued k 1).set (F.HLN_LP_PENDING k) 3).toQuiet k).get (F.HLN_LP_TRANS k) = 1 ∧
    (((d.lpQueued k 1).set (F.HLN_LP_PENDING k) 3).toQuiet k).get (F.HLN_LP_PENDING k) = 3 ∧
    (((d.lpQueued k 1).set (F.HLN_LP_PENDING k) 3).toQuiet k).get (F.HLN_LP_LP_STATE k) = d.get (F.HLN_LP_LP_STATE k) := by
  unfold Device.toQuiet Device.lpQueued
  refine ⟨?_, ?_, ?_, ?_⟩
  · rw [Device.get_modHost, Device.get_set_beside _ _ _ _ rfl, Device.get_set_beside _ _ _ _ rfl, Device.get_set_beside _ _ _ _ rfl, Device.get_modHost]
  · rw [Device.get_modHost, Device.get_set_fits _ _ _ rfl]
  · rw [Device.get_modHost, Device.get_set_beside _ _ _ _ rfl, Device.get_set_fits _ _ _ rfl]
  · rw [Device.get_modHost, Device.get_set_beside _ _ _ _ rfl, Device.get_set_beside _ _ _ _ rfl, Device.get_set_beside _ _ _ _ rfl, Device.get_modHost]

theorem lpRequest_begins (s : State) (k : HLane) (hw : s.dev.mft.waiting = []) (hold : s.dev.laneHold = false)
    (hp : s.dev.get F.PWR_STATUS_STATE ≤ 1) (hreq : s.dev.get (F.HLN_LP_LP_REQ k) ≠ 1) (hA : s.dev.get (F.HLN_STATUS_ADAPTING k) = 0)
    (ht : s.dev.get (F.HLN_LP_TRANS k) = 3) (hst : s.dev.get (F.HLN_LP_LP_STATE k) = 0) (hb : s.dev.lpBlocked k = false)
    (htx : s.dev.lget (F.HLN_CTRL_TX_EN k) = 1) :
    Gives (.lpRequest k 1) s fun e => e.get (F.HLN_LP_LP_REQ k) = 1 ∧ e.get (F.HLN_LP_TRANS k) = 1 ∧ e.get (F.HLN_LP_PENDING k) = 3 ∧
      e.get (F.HLN_LP_LP_STATE k) = 0 := by
  refine .of_exec (exec_lpRequest k 1 s) ?_
  obtain ⟨aA, at', ast, ab⟩ := s.dev.lpAsked_keeps k 1
  obtain ⟨qreq, qtrans, qpend, qstate⟩ := (s.dev.lpAsked k 1).toQuiet_shows k
  rw [show (1 : BitVec 2).toNat = 1 from rfl, s.dev.lpWrite_asks (by decide) hreq hold hp,
    (s.dev.lpAsked k 1).lpRequest_quiet hw (aA.trans hA) (ab.trans hb) (at'.trans ht) (ast.trans hst) htx]
  exact ⟨qreq.trans (s.dev.get_set_fits _ 1 rfl), qtrans, qpend, (qstate.trans ast).trans hst⟩

/-- The refused request stands in LP_REQ. -/
theorem Device.lpWrite_refused (d : Device) {k : HLane} (hold : d.laneHold = false) (hp : d.get F.PWR_STATUS_STATE ≤ 1)
    (hreq : d.get (F.HLN_LP_LP_REQ k) ≠ 1) (hA : d.get (F.HLN_STATUS_ADAPTING k) = 0) (hb : d.lpBlocked k = true) :
    d.lpWrite k 1 = (d.lpAsked k 1).raise (F.HLN_INT_STATUS_LP_REFUSED k) := by
  obtain ⟨aA, -, -, ab⟩ := d.lpAsked_keeps k 1
  rw [d.lpWrite_asks (by decide) hreq hold hp, (d.lpAsked k 1).lpRequest_refused (aA.trans hA) (ab.trans hb) (by decide)]

/-! ### A transition completes -/

/-- Both halves have completed. -/
def Device.halvesDone (d : Device) (k : HLane) : Device := d.modHost k fun h => { h with txDone := true, rxDone := true }

/-- The lane is in QUIET, its TX half no longer in RUN (R227). -/
def Device.inQuiet (d : Device) (k : HLane) : Device :=
  ((d.set (F.HLN_LP_LP_STATE k) 1).set (F.HLN_LP_TRANS k) 3).modHost k fun h => { h with txRun := false }

/-- The state reached is reported (R228). -/
theorem Device.lpComplete_quiet (d : Device) {k : HLane} (hw : d.mft.waiting = []) (ht : d.get (F.HLN_LP_TRANS k) = 1) :
    d.lpComplete k = (d.inQuiet k).raise (F.HLN_INT_STATUS_LP_DONE k) := by
  have hnone : ((d.inQuiet k).raise (F.HLN_INT_STATUS_LP_DONE k)).mft.waiting = [] := (Device.waiting_raise _ _ _).trans hw
  unfold Device.lpComplete
  simp only [ht]
  exact Device.advanceHostLp_none _ hnone k

theorem Device.inQuiet_shows (d : Device) (k : HLane) :
    (d.inQuiet k).get (F.HLN_LP_LP_STATE k) = 1 ∧ (d.inQuiet k).get (F.HLN_LP_TRANS k) = 3 ∧
    (d.inQuiet k).get (F.HLN_LP_PENDING k) = d.get (F.HLN_LP_PENDING k) ∧ ((d.inQuiet k).host.get k).txRun = false := by
  unfold Device.inQuiet
  refine ⟨?_, ?_, ?_, ?_⟩
  · rw [Device.get_modHost, Device.get_set_beside _ _ _ _ rfl, Device.get_set_fits _ _ _ rfl]
  · rw [Device.get_modHost, Device.get_set_fits _ _ _ rfl]
  · rw [Device.get_modHost, Device.get_set_beside _ _ _ _ rfl, Device.get_set_beside _ _ _ _ rfl]
  · rw [Device.hostLane_modHost]

/-- A transition out of RUN waits for nothing else. -/
theorem Device.lpDone_fromRun (d : Device) {k : HLane} (ht : d.get (F.HLN_LP_TRANS k) ≠ 3) (hst : d.get (F.HLN_LP_LP_STATE k) = 0) :
    d.lpDone k = ((d.halvesDone k).lpComplete k).lpRun k 4 := by
  simp [Device.lpDone, Device.halvesDone, ht, hst]

theorem lpTransitionDone_quiet (s : State) (k : HLane) (hw : s.dev.mft.waiting = []) (ht : s.dev.get (F.HLN_LP_TRANS k) = 1)
    (hst : s.dev.get (F.HLN_LP_LP_STATE k) = 0) (hp : s.dev.get (F.HLN_LP_PENDING k) = 3) :
    Gives (.lpTransitionDone k) s fun e => e.get (F.HLN_LP_LP_STATE k) = 1 ∧ e.get (F.HLN_LP_TRANS k) = 3 ∧
      e.get (F.HLN_INT_STATUS_LP_DONE k) = 1 ∧ (e.host.get k).txRun = false := by
  refine .of_exec (exec_lpTransitionDone k s) ?_
  obtain ⟨qstate, qtrans, qpend, qtx⟩ := (s.dev.halvesDone k).inQuiet_shows k
  obtain ⟨hraised, -, hreg⟩ := ((s.dev.halvesDone k).inQuiet k).raise_hostFlag k (f := F.HLN_INT_STATUS_LP_DONE k) rfl (of_decide_eq_true rfl) rfl
  have hlp := hreg 0x40008 (by decide) (by decide)
  rw [s.dev.lpDone_fromRun (by rw [ht]; decide) hst, (s.dev.halvesDone k).lpComplete_quiet hw ht,
    Device.lpRun_rests _ 4 ((Device.get_congr hlp).trans qtrans) (((Device.get_congr hlp).trans qpend).trans hp)]
  exact ⟨(Device.get_congr hlp).trans qstate, (Device.get_congr hlp).trans qtrans, hraised, by rw [Device.host_raise]; exact qtx⟩

/-! ### Test sessions -/

/-- A test request that is not refused starts its session on a lane with CDR lock (R218, R222). -/
theorem Device.adaptRun_starts (d : Device) {k : HLane} (h : d.testRefused k = false) (hcdr : d.get (F.HLN_STATUS_CDR_LOCK k) = 1)
    (hs : 4 ≤ d.get (F.HLN_STATUS_ACQ_STEP k)) : d.adaptRun k = (d.modHost k fun h => { h with due := [2] }).startSession k := by
  have hcdr' : (d.modHost k fun h => { h with due := [2] }).flag (F.HLN_STATUS_CDR_LOCK k) = true := Device.flag_eq_true hcdr
  simp [Device.adaptRun, h, hcdr', hs]

theorem Device.adaptRun_refused (d : Device) {k : HLane} (h : d.testRefused k = true) : d.adaptRun k = d.raise (F.HLN_INT_STATUS_ADAPT_REFUSED k) :=
  if_pos h

theorem adaptRun_starts (s : State) (k : HLane) (h : s.dev.testRefused k = false) (hcdr : s.dev.get (F.HLN_STATUS_CDR_LOCK k) = 1)
    (hs : 4 ≤ s.dev.get (F.HLN_STATUS_ACQ_STEP k)) :
    Gives (.adaptRun k) s fun e => e.get (F.HLN_STATUS_ADAPTING k) = 1 ∧ (e.host.get k).session = 2 := by
  refine .of_exec (exec_adaptRun k s) ?_
  obtain ⟨hadapt, -, hses, -, -⟩ := (s.dev.modHost k fun h => { h with due := [2] }).startSession_shows (k := k) (c := 2) (rest := [])
    (by rw [Device.hostLane_modHost])
  rw [s.dev.adaptRun_starts h hcdr hs]
  exact ⟨hadapt, hses⟩

/-- A command that raises a flag on the device `e` sets it there, up to its event. -/
theorem Does.of_raise {c : Instr} {s : State} {e : Device} {f : Fld} (h : exec c s = .next { s with dev := e.raise f }) (hok : f.ok)
    (h1 : f.hi = f.lo) : Does c s (e.set f 1) := ⟨_, h, rfl, raise_posted e f 0 hok h1⟩

end Sys2Proof.Machine

open Sys2Proof Sys2Proof.Machine

/-- Settles O29, command by command: a request is ignored, refused or begun, a transition and a test session each have an equation. -/
theorem hostLowPower : Obligations.HostLowPower := by
  intro s k hw hold hp
  refine ⟨fun hreq hA ht hst => ⟨lpRequest_begins s k hw hold hp hreq hA ht hst, fun hb => .of_raise ?_ (of_decide_eq_true rfl) rfl⟩,
    fun v hv => .of_exec ?_, lpTransitionDone_quiet s k hw, fun ht => .of_exec ?_, fun ht => .of_exec ?_, adaptRun_starts s k,
    fun h => .of_raise ?_ (of_decide_eq_true rfl) rfl⟩
  · rw [exec_lpRequest, show (1 : BitVec 2).toNat = 1 from rfl, s.dev.lpWrite_refused hold hp hreq hA hb]
    rfl
  · rw [exec_lpRequest, s.dev.lpWrite_none hv]
  · rw [exec_hostTxHalfRun, Device.hostTxHalf, if_pos ht]
  · rw [exec_hostTxHalfRun, Device.hostTxHalf, if_neg ht]
  · rw [exec_adaptRun, s.dev.adaptRun_refused h]

end

section
/-! Pilot lanes: the registers of a lane, and what the shared operations keep of a lane's state and of its registers. -/

namespace Sys2Proof.Machine

/-! ### The registers and the state of a lane -/

theorem pltReg_ne (n : Nat) {a b : Nat} (h : a ≠ b) : a + 0x800 * n ≠ b + 0x800 * n := by omega

theorem pltReg_le (n : Nat) {a : Nat} (h : 0x28000 ≤ a) : 0x28000 ≤ a + 0x800 * n := Nat.le_add_right_of_le h

/-- The registers that posting an event writes lie below those of the pilot lanes. -/
theorem pltReg_not_event {a : Nat} (h : 0x28000 ≤ a) : a ∉ eventRegs := not_mem_eventRegs_of_le (Nat.le_trans (by decide) h)

@[simp] theorem Device.pltLane_modPlt (d : Device) (n : Lane) (g : PltLane → PltLane) : (d.modPlt n g).plt.get n = g (d.plt.get n) :=
  Vector.getElem_set_self n.isLt

/-! ### Flags, counters and the end of a commit keep the lanes -/

@[simp] theorem Device.plt_raise (d : Device) (f : Fld) (data : Word) : (d.raise f data).plt = d.plt :=
  Device.raise_keeps Device.plt (fun _ _ _ => rfl) (fun ⟨⟨_, _, _, _, _, _, _, he⟩, _, _, _, _⟩ => he ▸ rfl) d f data

@[simp] theorem Device.plt_count (d : Device) (f : Fld) (k : Nat) : (d.count f k).plt = d.plt := by
  unfold Device.count
  split <;> rfl

@[simp] theorem Device.plt_resultWord (d : Device) (stated : Bool) (w : Word) : (d.resultWord stated w).1.plt = d.plt := by
  unfold Device.resultWord
  split <;> rfl

@[simp] theorem Device.plt_finish (d : Device) (m : Manifest) (status : Nat) (r0 r1 : Word) : (d.finish m status r0 r1).plt = d.plt :=
  (Device.plt_resultWord _ _ _).trans (d.plt_resultWord _ _)

@[simp] theorem Device.plt_settle (d : Device) (p : Goal → Bool) (status : Nat) (r0 r1 : Word) : (d.settle p status r0 r1).plt = d.plt :=
  foldl_keeps Device.plt _ _ _ fun s w _ => s.plt_finish w.man status r0 r1

theorem Device.makeLive_keeps (d : Device) (ws : List (Nat × Word)) :
    (d.makeLive ws).plt = d.plt ∧ ∀ a, (d.makeLive ws).reg a = d.reg a :=
  ⟨foldl_keeps Device.plt _ _ d fun _ _ _ => rfl, fun a => foldl_keeps (fun s => s.reg a) _ _ d fun _ _ _ => rfl⟩

/-- The end of a commit shows in the manifest block's registers alone. -/
theorem Device.endCommit_keeps (d : Device) (c : PendCommit) (status : Nat) (fail : Word) :
    (d.endCommit c status fail).plt = d.plt ∧ ∀ a, 0x28000 ≤ a → (d.endCommit c status fail).reg a = d.reg a := by
  unfold Device.endCommit
  extract_lets d1
  split
  · refine ⟨Device.plt_raise _ _ _, fun a ha => ?_⟩
    have hne : a ≠ F.MFT_INT_STATUS_COMMIT_DONE.addr ∧ a ≠ F.MFT_COMMIT_STATUS.addr ∧ a ≠ F.MFT_COMMIT.addr := by
      simp only [F.MFT_INT_STATUS_COMMIT_DONE, F.MFT_COMMIT_STATUS, F.MFT_COMMIT]
      omega
    obtain ⟨hint, hstatus, hcommit⟩ := hne
    rw [Device.reg_raise _ _ (by decide) rfl (pltReg_not_event ha) hint, Device.reg_set_of_ne _ F.MFT_COMMIT_STATUS_FAIL_ADDR _ hstatus,
      Device.reg_set_of_ne _ F.MFT_COMMIT_STATUS_STATUS _ hstatus, Device.reg_set_of_ne _ F.MFT_COMMIT_GO _ hcommit]
    rfl
  · exact ⟨Device.plt_settle _ _ _ _ _, fun a _ => Device.reg_settle _ _ _ _ _ a⟩

theorem Device.firCommit_keeps (d : Device) (n : Lane) :
    (d.firCommit n).plt = d.plt ∧ ∀ a, 0x28000 ≤ a → (d.firCommit n).reg a = d.reg a := by
  unfold Device.firCommit
  split
  next c _ =>
    split
    · exact ⟨rfl, fun _ _ => rfl⟩
    · obtain ⟨hplt, hreg⟩ := d.makeLive_keeps c.words
      obtain ⟨hplt', hreg'⟩ := (d.makeLive c.words).endCommit_keeps c stOk 0
      exact ⟨hplt'.trans hplt, fun a ha => (hreg' a ha).trans (hreg a)⟩
  · exact ⟨rfl, fun _ _ => rfl⟩

/-! ### 48-bit counters -/

theorem Device.pair_congr {d e : Device} {f : Fld} (hlo : e.reg f.addr = d.reg f.addr) (hhi : e.reg (f.addr + 4) = d.reg (f.addr + 4)) :
    e.pair f = d.pair f := by
  rw [Device.pair, hlo, hhi, Device.pair]

/-- The same for a counter of a pilot lane. -/
theorem Device.pair_pltLane {d e : Device} {n a : Nat} {f : Fld} (hf : f.addr = a + 0x800 * n) (hlo : e.reg (a + 0x800 * n) = d.reg (a + 0x800 * n))
    (hhi : e.reg (a + 4 + 0x800 * n) = d.reg (a + 4 + 0x800 * n)) : e.pair f = d.pair f := by
  rw [Nat.add_right_comm] at hhi
  exact Device.pair_congr (hf ▸ hlo) (hf ▸ hhi)

theorem Device.pair_setPair (d : Device) (f : Fld) (v : Nat) : (d.setPair f v).pair f = v % 2 ^ 48 := by
  have hlo : (d.setPair f v).reg f.addr = BitVec.ofNat 32 v := by
    rw [Device.setPair, Device.reg_setReg_of_ne _ _ (by omega), Device.reg_setReg, if_pos rfl]
  have hhi : (d.setPair f v).reg (f.addr + 4) = BitVec.ofNat 32 (v / 2 ^ 32 % 2 ^ 16) := by rw [Device.setPair, Device.reg_setReg, if_pos rfl]
  rw [Device.pair, hlo, hhi, BitVec.toNat_ofNat, BitVec.toNat_ofNat]
  omega

/-- A fixed counter counts while the counters run. -/
theorem Device.pair_count (d : Device) (f : Fld) (h : d.get F.PMU_STATUS_FROZEN = 0) : (d.count f).pair f = (d.pair f + 1) % 2 ^ 48 := by
  rw [Device.count, Device.flag_eq_false h]
  exact d.pair_setPair f _

/-! ### An event that a lane counts and flags -/

section
variable (d : Device) (n : Lane) {f : Fld} (hfa : f.addr = (F.PLT_INT_STATUS n).addr) (hf : f.ok) (h1 : f.hi = f.lo)
include hfa hf h1

/-- A flag of a lane that is raised changes no other register of the lane. -/
theorem Device.reg_raise_pltFlag {a : Nat} (ha : 0x28000 ≤ a) (hai : a ≠ 0x2801C) :
    (d.raise f).reg (a + 0x800 * n.val) = d.reg (a + 0x800 * n.val) :=
  d.reg_raise _ hf h1 (pltReg_not_event (pltReg_le n ha)) (hfa ▸ pltReg_ne n hai)

/-- An event counter of a lane goes up and one of its flags is raised; of the lane's other registers none changes. -/
theorem Device.pltEvent_shows {c : Fld} {a : Nat} (hca : c.addr = a + 0x800 * n.val) (ha : 0x28000 ≤ a) (hai : a ≠ 0x2801C) (hc : c.ok) :
    ((d.bump c).raise f).get c = (d.get c + 1) % 2 ^ (c.hi - c.lo + 1) ∧
    ∀ b, 0x28000 ≤ b → b ≠ a → b ≠ 0x2801C → ((d.bump c).raise f).reg (b + 0x800 * n.val) = d.reg (b + 0x800 * n.val) := by
  have hraise := fun b => (d.bump c).reg_raise_pltFlag n hfa hf h1 (a := b)
  refine ⟨?_, fun b hb hba hbi => ?_⟩
  · rw [Device.get_congr (hca ▸ hraise a ha hai), Device.bump, d.get_set_same _ _ hc]
  · exact (hraise b hb hbi).trans (d.reg_set_of_ne c _ (hca ▸ pltReg_ne n hba))

end

end Sys2Proof.Machine
end

section
/-! The pilot transmitter: frames taken and sent, the switch's frames, and the preset in force (R252, R253, R255 to R257, R260, R261). -/

namespace Sys2Proof.Machine

theorem exec_pilotFrameStart (n : Lane) (s : State) : exec (.pilotFrameStart n) s = .next { s with dev := s.dev.pilotStart n } := rfl
theorem exec_class4Handover (n : Lane) (s : State) : exec (.class4Handover n) s = .next { s with dev := s.dev.handover n } := rfl
theorem exec_fabricFrameExpiry (n : Lane) (s : State) : exec (.fabricFrameExpiry n) s = .next { s with dev := s.dev.frameExpiry n } := rfl
theorem exec_idleGroupBoundary (n : Lane) (s : State) : exec (.idleGroupBoundary n) s = .next { s with dev := s.dev.idleGroup n } := rfl
theorem exec_loadmap (n : Lane) (ident preset pq rec : Nat) (codes : List Nat) (s : State) :
    exec (.loadmap n ident preset pq rec codes) s = .next { s with dev := s.dev.loadmap n ident preset rec codes } := rfl
theorem exec_loadreq (n : Lane) (p : Nat) (s : State) : exec (.loadreq n p) s = .next { s with dev := s.dev.loadreq n } := rfl
theorem exec_loadmapTimeout (n : Lane) (s : State) : exec (.loadmapTimeout n) s = .next { s with dev := s.dev.loadmapTimeout n } := rfl

/-! ### The control queue -/

@[simp] theorem Device.plt_txqDrop (d : Device) (n : Lane) : (d.txqDrop n).plt = d.plt := Device.plt_raise _ _ _

theorem Device.txqDrop_shows (d : Device) (n : Lane) :
    (d.txqDrop n).get (F.PLT_ERR_C_TXQ_DROP n) = (d.get (F.PLT_ERR_C_TXQ_DROP n) + 1) % 2 ^ 16 ∧
    ∀ a, 0x28000 ≤ a → a ≠ 0x28118 → a ≠ 0x2801C → (d.txqDrop n).reg (a + 0x800 * n.val) = d.reg (a + 0x800 * n.val) :=
  d.pltEvent_shows n (f := F.PLT_INT_STATUS_DROP n) (c := F.PLT_ERR_C_TXQ_DROP n) rfl (of_decide_eq_true rfl) rfl rfl (by decide) (by decide)
    (of_decide_eq_true rfl)

/-- A message either enters the lane's queue or is dropped (R252). -/
theorem Device.queueCtl_cases (d : Device) (n : Lane) (cls typ : Nat) (body : CtlBody) (front : Bool) :
    (∃ q, d.queueCtl n cls typ body front = d.modPlt n fun p => { p with ctl := q }) ∨ d.queueCtl n cls typ body front = d.txqDrop n := by
  unfold Device.queueCtl
  split
  · exact .inl ⟨_, rfl⟩
  · exact .inr rfl

/-- Queuing a message changes the lane's queue, and counts and flags at most a drop. -/
theorem Device.queueCtl_keeps (d : Device) (n : Lane) (cls typ : Nat) (body : CtlBody) (front : Bool) :
    (∃ q, (d.queueCtl n cls typ body front).plt.get n = { d.plt.get n with ctl := q }) ∧
    ∀ a, 0x28000 ≤ a → a ≠ 0x28118 → a ≠ 0x2801C →
      (d.queueCtl n cls typ body front).reg (a + 0x800 * n.val) = d.reg (a + 0x800 * n.val) := by
  obtain ⟨q, h⟩ | h := d.queueCtl_cases n cls typ body front
  · rw [h]
    exact ⟨⟨q, d.pltLane_modPlt n _⟩, fun _ _ _ _ => rfl⟩
  · rw [h]
    exact ⟨⟨_, by rw [d.plt_txqDrop]⟩, (d.txqDrop_shows n).2⟩

/-! ### The preset in force -/

theorem Device.preset_lt (d : Device) (n : Lane) : d.preset n < 4 := by
  unfold Device.preset
  split <;> omega

/-- The effective preset looks at the lane's recommendation alone. -/
theorem Device.preset_modPlt (d : Device) (n : Lane) (g : PltLane → PltLane) (hv : (g (d.plt.get n)).recValid = (d.plt.get n).recValid)
    (hp : (g (d.plt.get n)).recPreset = (d.plt.get n).recPreset) : (d.modPlt n g).preset n = d.preset n := by
  have hrec : (d.modPlt n g).recommended n = d.recommended n := by
    rw [Device.recommended, Device.pltLane_modPlt, hv, hp]
    rfl
  rw [Device.preset, hrec]
  rfl

/-- The map in force for the effective preset is shown. -/
def Device.showMap (d : Device) (n : Lane) : Device := d.set (F.PLT_STATUS_TX_MAP n) (d.mapFor n (d.preset n))

theorem Device.takePreset_inForce (d : Device) (n : Lane) (h : d.preset n = d.get (F.PLT_STATUS_TX_PRESET n)) : d.takePreset n = d.showMap n :=
  if_pos ((d.get_set_beside _ _ _ rfl).trans h.symm)

/-- A change of preset shows, and of the lane's state touches its queue alone. -/
theorem Device.takePreset_shows (d : Device) (n : Lane) :
    (d.takePreset n).get (F.PLT_STATUS_TX_PRESET n) = d.preset n ∧
    ∃ q, (d.takePreset n).plt.get n = { d.plt.get n with ctl := q } := by
  unfold Device.takePreset
  extract_lets p d1
  split
  next h => exact ⟨h, _, rfl⟩
  · have hraise := (d1.set (F.PLT_STATUS_TX_PRESET n) p).reg_raise_pltFlag n (f := F.PLT_INT_STATUS_PRESET_CHG n) rfl (of_decide_eq_true rfl) rfl
      (a := 0x28004) (by decide) (by decide)
    obtain ⟨⟨q, hq⟩, hreg⟩ := ((d1.set (F.PLT_STATUS_TX_PRESET n) p).raise (F.PLT_INT_STATUS_PRESET_CHG n)).queueCtl_keeps n 1 2 (.loadreq p) true
    refine ⟨?_, q, hq.trans (by rw [Device.plt_raise]; rfl)⟩
    rw [Device.get_congr (f := F.PLT_STATUS_TX_PRESET n) ((hreg 0x28004 (by decide) (by decide) (by decide)).trans hraise),
      Device.get_set_same _ _ _ (of_decide_eq_true rfl)]
    exact Nat.mod_eq_of_lt (d.preset_lt n)

/-! ### A frame starts -/

/-- A frame goes out behind its header (R244, R246). -/
def Device.sendFrame (d : Device) (n : Lane) (f : PltFrame) : Device :=
  (d.modPlt n fun q =>
    { q with sending := some (headerWord (frameLen f) (d.get (F.PLT_STATUS_TX_MAP n)), f), idled := false }).count (F.PLT_FRM_TX n)

theorem Device.sendFrame_shows (d : Device) (n : Lane) (f : PltFrame) :
    ∃ h, (d.sendFrame n f).plt.get n = { d.plt.get n with sending := some (h, f), idled := false } :=
  ⟨_, by rw [Device.sendFrame, Device.plt_count, Device.pltLane_modPlt]⟩

theorem Device.sendFrame_counts (d : Device) (n : Lane) (f : PltFrame) (h : d.get F.PMU_STATUS_FROZEN = 0) :
    (d.sendFrame n f).pair (F.PLT_FRM_TX n) = (d.pair (F.PLT_FRM_TX n) + 1) % 2 ^ 48 :=
  Device.pair_count _ _ h

theorem Device.pilotStart_none (d : Device) (n : Lane) (hctl : (d.plt.get n).ctl = []) (hfab : (d.plt.get n).fab = []) : d.pilotStart n = d :=
  if_pos (by simp [Device.frameWaits, hctl, hfab])

theorem Device.pilotStart_sends (d : Device) (n : Lane) (hon : (d.plt.get n).txOn = true) (hidle : (d.plt.get n).idled = true)
    (hw : d.frameWaits n = true) {e : Device} {f : PltFrame} (ht : (d.takePreset n).takeFrame n = (e, some f)) :
    d.pilotStart n = e.sendFrame n f := by
  simp [Device.pilotStart, hon, hidle, hw, ht, Device.sendFrame]

/-- The oldest message leaves the queue under a number of class 0x02 (R251). -/
def Device.takeClass2 (d : Device) (n : Lane) : Device :=
  (d.modPlt n fun q => { q with ctl := q.ctl.eraseIdx 0 }).modPlt n fun q => { q with seq2 := q.seq2 + 1 }

theorem Device.takeClass2_last (d : Device) (n : Lane) {m : CtlMsg} (hctl : (d.plt.get n).ctl = [m]) :
    (d.takeClass2 n).plt.get n = { d.plt.get n with ctl := [], seq2 := (d.plt.get n).seq2 + 1 } := by
  simp [Device.takeClass2, hctl]

theorem Device.takeFrame_class2 (d : Device) (n : Lane) {m : CtlMsg} (hctl : (d.plt.get n).ctl = [m]) (hm : m.cls = 2) :
    d.takeFrame n = (d.takeClass2 n, some (.ctl { m with seq := (d.plt.get n).seq2 })) := by
  simp [Device.takeFrame, hctl, hm, Device.takeClass2]

theorem Device.bufferRead_sound (d : Device) (unit place : Nat) (he : d.errs = []) (hp : d.poisoned = []) :
    d.bufferRead unit place = (d, true) := by
  simp [Device.bufferRead, Device.touchWhere, he, hp]

/-- With no message waiting the oldest fabric frame is taken (R252). -/
theorem Device.takeFrame_fabric (d : Device) (n : Lane) {m : FabMsg} {rest : List FabMsg} (hctl : (d.plt.get n).ctl = [])
    (hfab : (d.plt.get n).fab = m :: rest) (he : d.errs = []) (hp : d.poisoned = []) :
    d.takeFrame n = (d.modPlt n fun q => { q with fab := rest }, some (.fab m)) := by
  simp [Device.takeFrame, hctl, hfab, d.bufferRead_sound n.val 0 he hp]

section
variable (d : Device) (n : Lane) (hon : (d.plt.get n).txOn = true) (hidle : (d.plt.get n).idled = true)
  (hpre : d.preset n = d.get (F.PLT_STATUS_TX_PRESET n))
include hon hidle hpre

/-- With the preset in force the frame taken goes out under the map in force. -/
theorem Device.pilotStart_inForce (hw : d.frameWaits n = true) {e : Device} {f : PltFrame} (ht : (d.showMap n).takeFrame n = (e, some f)) :
    d.pilotStart n = e.sendFrame n f :=
  d.pilotStart_sends n hon hidle hw (by rwa [d.takePreset_inForce n hpre])

theorem Device.pilotStart_class2 {m : CtlMsg} (hctl : (d.plt.get n).ctl = [m]) (hm : m.cls = 2) (hfz : d.get F.PMU_STATUS_FROZEN = 0) :
    (∃ h, ((d.pilotStart n).plt.get n).sending = some (h, .ctl { m with seq := (d.plt.get n).seq2 })) ∧
    ((d.pilotStart n).plt.get n).ctl = [] ∧ ((d.pilotStart n).plt.get n).seq2 = (d.plt.get n).seq2 + 1 ∧
    ((d.pilotStart n).plt.get n).idled = false ∧ (d.pilotStart n).pair (F.PLT_FRM_TX n) = (d.pair (F.PLT_FRM_TX n) + 1) % 2 ^ 48 := by
  have heq : d.pilotStart n = ((d.showMap n).takeClass2 n).sendFrame n (.ctl { m with seq := (d.plt.get n).seq2 }) :=
    d.pilotStart_inForce n hon hidle hpre (by simp [Device.frameWaits, hctl]) ((d.showMap n).takeFrame_class2 n hctl hm)
  have hreg : ∀ a, a ≠ (F.PLT_STATUS n).addr → ((d.showMap n).takeClass2 n).reg a = d.reg a := fun a ha => d.reg_set_of_ne _ _ ha
  have hfz' : ((d.showMap n).takeClass2 n).get F.PMU_STATUS_FROZEN = 0 :=
    (Device.get_congr (hreg _ (by simp only [F.PMU_STATUS_FROZEN, F.PLT_STATUS]; omega))).trans hfz
  obtain ⟨h, hsent⟩ := ((d.showMap n).takeClass2 n).sendFrame_shows n (.ctl { m with seq := (d.plt.get n).seq2 })
  rw [(d.showMap n).takeClass2_last n hctl, ← heq] at hsent
  refine ⟨⟨h, congrArg PltLane.sending hsent⟩, congrArg PltLane.ctl hsent, congrArg PltLane.seq2 hsent, congrArg PltLane.idled hsent, ?_⟩
  rw [heq, Device.sendFrame_counts _ n _ hfz',
    Device.pair_congr (hreg _ (pltReg_ne n (by decide))) (hreg _ (by simp only [F.PLT_FRM_TX, F.PLT_STATUS]; omega))]

theorem Device.pilotStart_fabric {m : FabMsg} {rest : List FabMsg} (hctl : (d.plt.get n).ctl = []) (hfab : (d.plt.get n).fab = m :: rest)
    (he : d.errs = []) (hp : d.poisoned = []) :
    (∃ h, ((d.pilotStart n).plt.get n).sending = some (h, .fab m)) ∧ ((d.pilotStart n).plt.get n).fab = rest := by
  rw [d.pilotStart_inForce n hon hidle hpre (by simp [Device.frameWaits, hfab]) ((d.showMap n).takeFrame_fabric n hctl hfab he hp)]
  obtain ⟨h, hsent⟩ := ((d.showMap n).modPlt n fun q => { q with fab := rest }).sendFrame_shows n (.fab m)
  rw [hsent, Device.pltLane_modPlt]
  exact ⟨⟨h, rfl⟩, rfl⟩

end

/-! ### The switch's frames -/

theorem Device.handover_moves (d : Device) (n : Lane) {m : FabMsg} {rest : List FabMsg} (hw : (d.plt.get n).wait = m :: rest)
    (hfree : (d.plt.get n).fab.length < 2) (he : d.errs = []) (hp : d.poisoned = []) :
    d.handover n = d.modPlt n fun q => { q with wait := rest, fab := q.fab ++ [m] } := by
  simp [Device.handover, hw, hfree, d.bufferRead_sound n.val 64 he hp]

theorem Device.handover_full (d : Device) (n : Lane) (hfull : 2 ≤ (d.plt.get n).fab.length) : d.handover n = d := by
  unfold Device.handover
  split
  · exact if_neg (by omega)
  · rfl

theorem Device.frameExpiry_drops (d : Device) (n : Lane) {m : FabMsg} {rest : List FabMsg} (hw : (d.plt.get n).wait = m :: rest) :
    d.frameExpiry n = (d.modPlt n fun q => { q with wait := rest }).txqDrop n := by
  simp [Device.frameExpiry, hw]

/-! ### An idle-group boundary -/

theorem Device.idleGroup_takes (d : Device) (n : Lane) (hon : (d.plt.get n).txOn = true) (hctl : (d.plt.get n).ctl = [])
    (hfab : (d.plt.get n).fab = []) : d.idleGroup n = (d.modPlt n fun q => { q with idled := true, sending := none }).takePreset n := by
  simp [Device.idleGroup, hon, Device.frameWaits, hctl, hfab]

theorem Device.idleGroup_shows (d : Device) (n : Lane) (hon : (d.plt.get n).txOn = true) (hctl : (d.plt.get n).ctl = [])
    (hfab : (d.plt.get n).fab = []) :
    ((d.idleGroup n).plt.get n).idled = true ∧ (d.idleGroup n).get (F.PLT_STATUS_TX_PRESET n) = d.preset n := by
  obtain ⟨hpre, q, hlane⟩ := (d.modPlt n fun q => { q with idled := true, sending := none }).takePreset_shows n
  rw [d.idleGroup_takes n hon hctl hfab, hlane, hpre, d.preset_modPlt n _ rfl rfl, Device.pltLane_modPlt]
  exact ⟨rfl, rfl⟩

/-! ### Maps and recommendations -/

/-- What R261 asks of the codes of a map, as the model tests it. -/
theorem codesAllowed_iff (preset : Nat) (codes : List Nat) :
    (codes.all fun c => (c == 0 || c == 1 || c == 2 || c == 4 || c == 6) && decide (c ≤ topBits preset)) = true ↔
      ∀ c ∈ codes, (c = 0 ∨ c = 1 ∨ c = 2 ∨ c = 4 ∨ c = 6) ∧ c ≤ topBits preset := by
  simp [or_assoc]

theorem Device.loadmap_refused (d : Device) (n : Lane) (ident rec : Nat) {preset : Nat} {codes : List Nat} (h0 : preset ≠ 0)
    (h : ¬ ∀ c ∈ codes, (c = 0 ∨ c = 1 ∨ c = 2 ∨ c = 4 ∨ c = 6) ∧ c ≤ topBits preset) : d.loadmap n ident preset rec codes = d :=
  if_neg (by rw [Bool.or_eq_true, codesAllowed_iff]; simp [h0, h])

theorem Device.loadmap_kept (d : Device) (n : Lane) (ident rec : Nat) {preset : Nat} {codes : List Nat} (h0 : preset ≠ 0)
    (h : ∀ c ∈ codes, (c = 0 ∨ c = 1 ∨ c = 2 ∨ c = 4 ∨ c = 6) ∧ c ≤ topBits preset) :
    ((d.loadmap n ident preset rec codes).plt.get n).recPreset = rec ∧ ((d.loadmap n ident preset rec codes).plt.get n).recValid = true ∧
    (d.loadmap n ident preset rec codes).mapFor n preset = ident := by
  have hok : d.loadmap n ident preset rec codes = d.modPlt n fun q =>
      { q with recPreset := rec, recValid := true, maps := LoadMap.mk ident preset codes :: q.maps.filter fun m => m.preset != preset } :=
    if_pos (by rw [Bool.or_eq_true, codesAllowed_iff]; exact .inr h)
  rw [hok, Device.mapFor, Device.pltLane_modPlt]
  simp [h0]

/-- Without a LOADMAP the recommendation is Anchor (R256). -/
theorem Device.loadmapTimeout_anchor (d : Device) (n : Lane) (h : d.get (F.PLT_CTRL_PRESET_AUTO n) = 1) :
    (d.loadmapTimeout n).recommended n = 0 := by
  have hauto : (d.loadmapTimeout n).flag (F.PLT_CTRL_PRESET_AUTO n) = true := Device.flag_eq_true h
  rw [Device.recommended, hauto, Device.loadmapTimeout, Device.pltLane_modPlt]
  simp

end Sys2Proof.Machine

open Sys2Proof Sys2Proof.Machine

/-- Settles O31, command by command: each has an equation for the device it leaves, or a lemma for what it shows. -/
theorem pilotTransmit : Obligations.PilotTransmit := by
  intro s n
  refine ⟨fun m hon hidle hctl hm hpre hfz => ?_, fun m rest hon hidle hctl hfab hpre he hp => ?_, fun hctl hfab => ?_,
    fun m rest hw => ⟨fun hfree he hp => ?_, fun hfull => ?_, ?_⟩, fun hon hctl hfab => ?_,
    fun ident preset pq rec codes h0 => ⟨fun h => ?_, fun h => ?_⟩, fun p => Does.of_exec (exec_loadreq n p s), fun hauto => ?_⟩
  · exact Gives.of_exec (exec_pilotFrameStart n s) (s.dev.pilotStart_class2 n hon hidle hpre hctl hm hfz)
  · exact Gives.of_exec (exec_pilotFrameStart n s) (s.dev.pilotStart_fabric n hon hidle hpre hctl hfab he hp)
  · exact Does.of_exec (by rw [exec_pilotFrameStart, s.dev.pilotStart_none n hctl hfab])
  · exact Does.of_exec (by rw [exec_class4Handover, s.dev.handover_moves n hw hfree he hp])
  · exact Does.of_exec (by rw [exec_class4Handover, s.dev.handover_full n hfull])
  · refine Gives.of_exec (exec_fabricFrameExpiry n s) ?_
    rw [s.dev.frameExpiry_drops n hw, Device.plt_txqDrop, Device.pltLane_modPlt]
    exact ⟨rfl, rfl, (Device.txqDrop_shows _ n).1⟩
  · exact Gives.of_exec (exec_idleGroupBoundary n s) (s.dev.idleGroup_shows n hon hctl hfab)
  · exact Gives.of_exec (exec_loadmap n ident preset pq rec codes s) (s.dev.loadmap_kept n ident rec h0 h)
  · exact Does.of_exec (by rw [exec_loadmap, s.dev.loadmap_refused n ident rec h0 h])
  · refine Gives.of_exec (exec_loadmapTimeout n s) ⟨s.dev.loadmapTimeout_anchor n hauto, ?_⟩
    rw [Device.loadmapTimeout, Device.pltLane_modPlt]

end

section
/-! The pilot receiver: receptions, sync, and the quality measured over an EVM period (R273 to R280). -/

namespace Sys2Proof.Machine

theorem exec_syncDetection (n : Lane) (ms : List Nat) (near : Nat) (s : State) :
    exec (.syncDetection n ms near) s = .next { s with dev := s.dev.syncDetect n ms near } := rfl
theorem exec_headerReceived (n : Lane) (h : Word) (s : State) :
    exec (.headerReceived n h) s = .next { s with dev := s.dev.headerReceived n h } := rfl
theorem exec_frameReceived (n : Lane) (bytes : List Byte) (crc : Word) (buffered : Bool) (s : State) :
    exec (.frameReceived n bytes crc buffered) s = .next { s with dev := s.dev.frameReceived n bytes crc buffered } := rfl
theorem exec_syncLoss (n : Lane) (s : State) : exec (.syncLoss n) s = .next { s with dev := s.dev.syncLoss n } := rfl
theorem exec_resync (n : Lane) (s : State) : exec (.resync n) s = .next { s with dev := s.dev.resync n } := rfl
theorem exec_evmUpdate (n : Lane) (errs : List (List (PilotSym × Nat))) (powers : List CarrierPower) (c : PilotChain) (s : State) :
    exec (.evmUpdate n errs powers c) s = .next { s with dev := s.dev.evmUpdate n (carriersOf errs powers) c } := rfl

/-! ### The largest metric -/

theorem foldl_max_le_iff (ms : List Nat) (i b : Nat) : ms.foldl max i ≤ b ↔ i ≤ b ∧ ∀ m ∈ ms, m ≤ b := by
  induction ms generalizing i with
  | nil => simp
  | cons m ms ih => rw [List.foldl_cons, ih, List.forall_mem_cons, Nat.max_le, and_assoc]

theorem metric_eq {ms : List Nat} {p : Nat} (hp : p < ms.length) : ms.getD p 0 = ms[p] := by
  rw [List.getD_eq_getElem?_getD, List.getElem?_eq_getElem hp, Option.getD_some]

/-- A metric that none exceeds is the largest. -/
theorem foldl_max_eq {ms : List Nat} {p : Nat} (hp : p < ms.length) (hmax : ∀ m ∈ ms, m ≤ ms.getD p 0) : ms.foldl max 0 = ms.getD p 0 := by
  have hmem : ms.getD p 0 ∈ ms := by
    rw [metric_eq hp]
    exact List.getElem_mem hp
  obtain ⟨-, hall⟩ := (foldl_max_le_iff ms 0 _).1 (Nat.le_refl _)
  exact Nat.le_antisymm ((foldl_max_le_iff ms 0 _).2 ⟨Nat.zero_le _, hmax⟩) (hall _ hmem)

/-- The preset detected is the first of the largest metrics. -/
theorem detectedPreset_eq {ms : List Nat} {p : Nat} (hp : p < ms.length) (hmax : ∀ m ∈ ms, m ≤ ms.getD p 0)
    (hfirst : ∀ i, i < p → ms.getD i 0 < ms.getD p 0) : detectedPreset ms = p := by
  rw [detectedPreset, foldl_max_eq hp hmax, List.findIdx_eq hp]
  refine ⟨beq_iff_eq.2 (metric_eq hp).symm, fun i hi => ?_⟩
  have hlt := hfirst i hi
  rw [metric_eq (Nat.lt_trans hi hp)] at hlt
  exact beq_eq_false_iff_ne.2 (Nat.ne_of_lt hlt)

/-! ### A detection -/

/-- What is no detection leaves the lane as it is. -/
theorem Device.syncDetect_none (d : Device) (n : Lane) {ms : List Nat} {near : Nat}
    (h : ms.foldl max 0 ≤ d.get (F.PLT_RX_CFG_SYNC_TH n) ∨ ms.foldl max 0 < near) : d.syncDetect n ms near = d :=
  if_pos (by obtain h | h := h <;> simp [h])

theorem Device.syncDetect_committed (d : Device) (n : Lane) (ms : List Nat) (near : Nat) {r : Reception}
    (hr : (d.plt.get n).reception = some r) (hc : r.committed = true) : d.syncDetect n ms near = d := by
  unfold Device.syncDetect
  simp [hr, hc]

theorem Device.syncDetect_starts (d : Device) (n : Lane) {ms : List Nat} {near : Nat} (hrun : d.pilotRxRuns n = true)
    (hth : d.get (F.PLT_RX_CFG_SYNC_TH n) < ms.foldl max 0) (hnear : near ≤ ms.foldl max 0) (hnone : (d.plt.get n).reception = none) :
    d.syncDetect n ms near = d.startReception n (detectedPreset ms) (ms.foldl max 0) := by
  simp [Device.syncDetect, hrun, Nat.not_le.2 hth, Nat.not_lt.2 hnear, hnone]

theorem Device.startReception_shows (d : Device) (n : Lane) (preset metric : Nat) :
    (∃ r, ((d.startReception n preset metric).plt.get n).reception = some r ∧ r.preset = preset ∧ r.metric = metric ∧ r.committed = false) ∧
    (d.startReception n preset metric).get (F.PLT_STATUS_RX_BUSY n) = 1 ∧
    (d.startReception n preset metric).get (F.PLT_STATUS_AGC_FROZEN n) = 1 := by
  unfold Device.startReception
  extract_lets track old
  refine ⟨⟨_, by rw [Device.pltLane_modPlt], rfl, rfl, rfl⟩, ?_, ?_⟩
  · rw [Device.get_modPlt, Device.get_set_elsewhere _ _ _ _ (pltReg_ne n (by decide)), Device.get_set_beside _ _ _ _ rfl,
      Device.get_set_fits _ _ _ rfl]
  · rw [Device.get_modPlt, Device.get_set_elsewhere _ _ _ _ (pltReg_ne n (by decide)), Device.get_set_fits _ _ _ rfl]

/-! ### The end of a reception and of sync -/

theorem Device.endReception_shows (d : Device) (n : Lane) :
    ((d.endReception n).plt.get n).reception = none ∧ (d.endReception n).get (F.PLT_STATUS_RX_BUSY n) = 0 ∧
    (d.endReception n).get (F.PLT_STATUS_COMMITTED n) = 0 ∧ (d.endReception n).get (F.PLT_STATUS_SYNC n) = d.get (F.PLT_STATUS_SYNC n) ∧
    ∀ a, a ≠ 0x28004 → a ≠ 0x28010 → (d.endReception n).reg (a + 0x800 * n.val) = d.reg (a + 0x800 * n.val) := by
  unfold Device.endReception
  refine ⟨by rw [Device.pltLane_modPlt], ?_, ?_, ?_, fun a hs hg => ?_⟩
  · rw [Device.get_modPlt, Device.get_set_elsewhere _ _ _ _ (pltReg_ne n (by decide)), Device.get_set_beside _ _ _ _ rfl,
      Device.get_set_beside _ _ _ _ rfl, Device.get_set_fits _ _ _ rfl]
  · rw [Device.get_modPlt, Device.get_set_elsewhere _ _ _ _ (pltReg_ne n (by decide)), Device.get_set_beside _ _ _ _ rfl,
      Device.get_set_fits _ _ _ rfl]
  · rw [Device.get_modPlt, Device.get_set_elsewhere _ _ _ _ (pltReg_ne n (by decide)), Device.get_set_beside _ _ _ _ rfl,
      Device.get_set_beside _ _ _ _ rfl, Device.get_set_beside _ _ _ _ rfl]
  · rw [Device.reg_modPlt, Device.reg_set_of_ne _ (F.PLT_AGC_AGC_GAIN n) _ (pltReg_ne n hg),
      Device.reg_set_of_ne _ (F.PLT_STATUS_AGC_FROZEN n) _ (pltReg_ne n hs), Device.reg_set_of_ne _ (F.PLT_STATUS_COMMITTED n) _ (pltReg_ne n hs),
      Device.reg_set_of_ne _ (F.PLT_STATUS_RX_BUSY n) _ (pltReg_ne n hs)]

/-- A drop of sync touches no reception, and of the lane's status SYNC and RES_LOCK alone. -/
theorem Device.dropSync_shows (d : Device) (n : Lane) :
    (d.dropSync n).get (F.PLT_STATUS_SYNC n) = 0 ∧ ((d.dropSync n).plt.get n).reception = (d.plt.get n).reception ∧
    (d.dropSync n).get (F.PLT_STATUS_RX_BUSY n) = d.get (F.PLT_STATUS_RX_BUSY n) ∧
    ∀ a, 0x28000 ≤ a → a ≠ 0x28004 → (d.dropSync n).reg (a + 0x800 * n.val) = d.reg (a + 0x800 * n.val) := by
  unfold Device.dropSync
  generalize he : ((((d.set (F.PLT_STATUS_SYNC n) 0).set (F.PLT_STATUS_RES_LOCK n) 0).modPlt n fun q => { q with inBound := 0, diffRun := 0 }).modTx n
    fun t => { t with resumeDue := true }) = e
  obtain ⟨hplt, hreg⟩ := e.firCommit_keeps n
  have hstatus := hreg (F.PLT_STATUS n).addr (pltReg_le n (by decide))
  refine ⟨?_, ?_, ?_, fun a ha hs => ?_⟩
  · rw [Device.get_congr (f := F.PLT_STATUS_SYNC n) hstatus, ← he, Device.get_modTx, Device.get_modPlt, Device.get_set_beside _ _ _ _ rfl,
      Device.get_set_fits _ _ _ rfl]
  · rw [hplt, ← he, Device.plt_modTx, Device.pltLane_modPlt]
    rfl
  · rw [Device.get_congr (f := F.PLT_STATUS_RX_BUSY n) hstatus, ← he, Device.get_modTx, Device.get_modPlt, Device.get_set_beside _ _ _ _ rfl,
      Device.get_set_beside _ _ _ _ rfl]
  · rw [hreg _ (pltReg_le n ha), ← he, Device.reg_modTx, Device.reg_modPlt, Device.reg_set_of_ne _ (F.PLT_STATUS_RES_LOCK n) _ (pltReg_ne n hs),
      Device.reg_set_of_ne _ (F.PLT_STATUS_SYNC n) _ (pltReg_ne n hs)]

theorem Device.syncLoss_none (d : Device) (n : Lane) (h : d.get (F.PLT_STATUS_SYNC n) = 0) : d.syncLoss n = d := by
  simp [Device.syncLoss, Device.pilotSync, Device.flag_eq_false h]

theorem Device.syncLoss_drops (d : Device) (n : Lane) (hr : (d.plt.get n).reception = none) (h : d.get (F.PLT_STATUS_SYNC n) = 1) :
    d.syncLoss n = ((d.bump (F.PLT_ERR_D_SYNC_LOSS n)).raise (F.PLT_INT_STATUS_SYNC_LOSS n)).dropSync n := by
  simp [Device.syncLoss, Device.pilotSync, Device.flag_eq_true h, hr]

theorem Device.syncLoss_shows (d : Device) (n : Lane) (hr : (d.plt.get n).reception = none) (h : d.get (F.PLT_STATUS_SYNC n) = 1) :
    (d.syncLoss n).get (F.PLT_STATUS_SYNC n) = 0 ∧
    (d.syncLoss n).get (F.PLT_ERR_D_SYNC_LOSS n) = (d.get (F.PLT_ERR_D_SYNC_LOSS n) + 1) % 2 ^ 16 := by
  obtain ⟨hcount, -⟩ := d.pltEvent_shows n (f := F.PLT_INT_STATUS_SYNC_LOSS n) (c := F.PLT_ERR_D_SYNC_LOSS n) rfl (of_decide_eq_true rfl) rfl
    rfl (by decide) (by decide) (of_decide_eq_true rfl)
  obtain ⟨hsync, -, -, hreg⟩ := ((d.bump (F.PLT_ERR_D_SYNC_LOSS n)).raise (F.PLT_INT_STATUS_SYNC_LOSS n)).dropSync_shows n
  rw [d.syncLoss_drops n hr h]
  exact ⟨hsync, (Device.get_congr (f := F.PLT_ERR_D_SYNC_LOSS n) (hreg 0x2811C (by decide) (by decide))).trans hcount⟩

theorem Device.resync_shows (d : Device) (n : Lane) :
    (d.resync n).get (F.PLT_STATUS_SYNC n) = 0 ∧ ((d.resync n).plt.get n).reception = none ∧ (d.resync n).get (F.PLT_STATUS_RX_BUSY n) = 0 ∧
    (d.resync n).get (F.PLT_ERR_D_SYNC_LOSS n) = d.get (F.PLT_ERR_D_SYNC_LOSS n) := by
  obtain ⟨hnone, hbusy, -, -, hended⟩ := d.endReception_shows n
  obtain ⟨hsync, hkept, hbusy', hreg⟩ := (d.endReception n).dropSync_shows n
  exact ⟨hsync, hkept.trans hnone, hbusy'.trans hbusy, Device.get_congr (f := F.PLT_ERR_D_SYNC_LOSS n)
    ((hreg 0x2811C (by decide) (by decide)).trans (hended 0x2811C (by decide) (by decide)))⟩

/-! ### A header -/

section
variable (d : Device) (n : Lane) (h : Word) {r : Reception} (hr : (d.plt.get n).reception = some r) (hc : r.committed = false)
include hr hc

theorem Device.headerReceived_fails (hcrc : headerCrc (bitsOf h 15 0) ≠ bitsOf h 31 16) :
    d.headerReceived n h = ((d.bump (F.PLT_ERR_A_HDR_ERR n)).raise (F.PLT_INT_STATUS_HDR_ERR n)).endReception n := by
  simp [Device.headerReceived, hr, hc, hcrc]

theorem Device.headerReceived_fails_shows (hcrc : headerCrc (bitsOf h 15 0) ≠ bitsOf h 31 16) :
    ((d.headerReceived n h).plt.get n).reception = none ∧ (d.headerReceived n h).get (F.PLT_STATUS_RX_BUSY n) = 0 ∧
    (d.headerReceived n h).get (F.PLT_ERR_A_HDR_ERR n) = (d.get (F.PLT_ERR_A_HDR_ERR n) + 1) % 2 ^ 16 ∧
    (d.headerReceived n h).get (F.PLT_STATUS_SYNC n) = d.get (F.PLT_STATUS_SYNC n) := by
  obtain ⟨hcount, hothers⟩ := d.pltEvent_shows n (f := F.PLT_INT_STATUS_HDR_ERR n) (c := F.PLT_ERR_A_HDR_ERR n) rfl (of_decide_eq_true rfl) rfl
    rfl (by decide) (by decide) (of_decide_eq_true rfl)
  obtain ⟨hnone, hbusy, -, hsync, hreg⟩ := ((d.bump (F.PLT_ERR_A_HDR_ERR n)).raise (F.PLT_INT_STATUS_HDR_ERR n)).endReception_shows n
  rw [d.headerReceived_fails n h hr hc hcrc]
  exact ⟨hnone, hbusy, (Device.get_congr (f := F.PLT_ERR_A_HDR_ERR n) (hreg 0x28110 (by decide) (by decide))).trans hcount,
    hsync.trans (Device.get_congr (f := F.PLT_STATUS_SYNC n) (hothers 0x28004 (by decide) (by decide) (by decide)))⟩

/-- A good header under map 0 commits the reception; a lane in sync has no sync to enter. -/
theorem Device.headerReceived_commits (hcrc : headerCrc (bitsOf h 15 0) = bitsOf h 31 16) (hsync : d.get (F.PLT_STATUS_SYNC n) = 1)
    (hlo : 1 ≤ bitsOf h 10 0) (hhi : bitsOf h 10 0 ≤ 1152) (hmap : bitsOf h 14 11 = 0) :
    d.headerReceived n h = (((d.set (F.PLT_STATUS_COMMITTED n) 1).set (F.PLT_STATUS_RX_PRESET n) r.preset).set (F.PLT_STATUS_RX_MAP n) 0).modPlt n
      fun q => { q with reception := some { r with committed := true, map := 0, len := bitsOf h 10 0 } } := by
  have hflag : ((((d.set (F.PLT_STATUS_COMMITTED n) 1).set (F.PLT_STATUS_RX_PRESET n) r.preset).set (F.PLT_STATUS_RX_MAP n) 0).modPlt n
      fun q => { q with reception := some { r with committed := true, map := 0, len := bitsOf h 10 0 } }).pilotSync n = true := by
    refine Device.flag_eq_true ?_
    rw [Device.get_modPlt, Device.get_set_beside _ _ _ _ rfl, Device.get_set_beside _ _ _ _ rfl, Device.get_set_beside _ _ _ _ rfl, hsync]
  simp [Device.headerReceived, hr, hc, hcrc, hmap, hflag, Device.mapKnown, Nat.ne_of_gt hlo, Nat.not_lt.2 hhi]

theorem Device.headerReceived_commits_shows (hcrc : headerCrc (bitsOf h 15 0) = bitsOf h 31 16) (hsync : d.get (F.PLT_STATUS_SYNC n) = 1)
    (hlo : 1 ≤ bitsOf h 10 0) (hhi : bitsOf h 10 0 ≤ 1152) (hmap : bitsOf h 14 11 = 0) :
    (d.headerReceived n h).get (F.PLT_STATUS_COMMITTED n) = 1 ∧
    ∃ q, ((d.headerReceived n h).plt.get n).reception = some q ∧ q.committed = true ∧ q.len = bitsOf h 10 0 ∧ q.map = 0 := by
  rw [d.headerReceived_commits n h hr hc hcrc hsync hlo hhi hmap, Device.pltLane_modPlt]
  refine ⟨?_, _, rfl, rfl, rfl, rfl⟩
  rw [Device.get_modPlt, Device.get_set_beside _ _ _ _ rfl, Device.get_set_beside _ _ _ _ rfl, Device.get_set_fits _ _ _ rfl]

end

/-! ### A frame -/

section
variable (d : Device) (n : Lane) {bytes : List Byte} {crc : Word} (buffered : Bool) {r : Reception}
  (hr : (d.plt.get n).reception = some r) (hc : r.committed = true)
include hr hc

theorem Device.frameReceived_counts (hlen : bytes.length = r.len) (hcrc : crc32 bytes = crc) (hlo : 1 ≤ (bytes.headD 0).toNat)
    (hhi : (bytes.headD 0).toNat ≤ 3) : d.frameReceived n bytes crc buffered = ((d.count (F.PLT_FRM_RX n)).pmu 0x0500 n).endReception n := by
  rw [List.headD_eq_head?_getD] at hlo hhi
  generalize hcls : (bytes.head?.getD 0).toNat = cls at hlo hhi
  have hunk : ¬ (cls = 0 ∨ 4 < cls) := by omega
  have h4 : ¬ cls = 4 := by omega
  simp only [Device.frameReceived, hr, hc, hlen, hcrc, hcls]
  simp [hunk, h4]

theorem Device.frameReceived_fails (hcrc : crc32 bytes ≠ crc) :
    d.frameReceived n bytes crc buffered = ((d.bump (F.PLT_ERR_A_CRC_ERR n)).raise (F.PLT_INT_STATUS_CRC_ERR n)).endReception n := by
  simp [Device.frameReceived, hr, hc, hcrc]

theorem Device.frameReceived_counts_shows (hfz : d.get F.PMU_STATUS_FROZEN = 0) (hlen : bytes.length = r.len) (hcrc : crc32 bytes = crc)
    (hlo : 1 ≤ (bytes.headD 0).toNat) (hhi : (bytes.headD 0).toNat ≤ 3) :
    (d.frameReceived n bytes crc buffered).pair (F.PLT_FRM_RX n) = (d.pair (F.PLT_FRM_RX n) + 1) % 2 ^ 48 ∧
    ((d.frameReceived n bytes crc buffered).plt.get n).reception = none ∧
    (d.frameReceived n bytes crc buffered).get (F.PLT_STATUS_COMMITTED n) = 0 := by
  obtain ⟨hnone, -, hcom, -, hreg⟩ := ((d.count (F.PLT_FRM_RX n)).pmu 0x0500 n).endReception_shows n
  have hkept : ∀ a, 0x28000 ≤ a → a ≠ 0x28004 → a ≠ 0x28010 →
      (((d.count (F.PLT_FRM_RX n)).pmu 0x0500 n).endReception n).reg (a + 0x800 * n.val) = (d.count (F.PLT_FRM_RX n)).reg (a + 0x800 * n.val) :=
    fun a ha hs hg => (hreg a hs hg).trans (Device.reg_pmu _ _ _ _ (Nat.le_trans (by decide) (pltReg_le n ha)))
  rw [d.frameReceived_counts n buffered hr hc hlen hcrc hlo hhi, ← d.pair_count _ hfz]
  exact ⟨Device.pair_pltLane rfl (hkept 0x28100 (by decide) (by decide) (by decide)) (hkept 0x28104 (by decide) (by decide) (by decide)), hnone, hcom⟩

theorem Device.frameReceived_fails_shows (hcrc : crc32 bytes ≠ crc) :
    (d.frameReceived n bytes crc buffered).pair (F.PLT_FRM_RX n) = d.pair (F.PLT_FRM_RX n) ∧
    (d.frameReceived n bytes crc buffered).get (F.PLT_ERR_A_CRC_ERR n) = (d.get (F.PLT_ERR_A_CRC_ERR n) + 1) % 2 ^ 16 ∧
    ((d.frameReceived n bytes crc buffered).plt.get n).reception = none := by
  obtain ⟨hcount, hothers⟩ := d.pltEvent_shows n (f := F.PLT_INT_STATUS_CRC_ERR n) (c := F.PLT_ERR_A_CRC_ERR n) rfl (of_decide_eq_true rfl) rfl
    rfl (by decide) (by decide) (of_decide_eq_true rfl)
  obtain ⟨hnone, -, -, -, hreg⟩ := ((d.bump (F.PLT_ERR_A_CRC_ERR n)).raise (F.PLT_INT_STATUS_CRC_ERR n)).endReception_shows n
  rw [d.frameReceived_fails n buffered hr hc hcrc]
  refine ⟨?_, (Device.get_congr (f := F.PLT_ERR_A_CRC_ERR n) (hreg 0x28110 (by decide) (by decide))).trans hcount, hnone⟩
  exact Device.pair_pltLane rfl ((hreg 0x28100 (by decide) (by decide)).trans (hothers 0x28100 (by decide) (by decide) (by decide)))
    ((hreg 0x28104 (by decide) (by decide)).trans (hothers 0x28104 (by decide) (by decide) (by decide)))

end

/-! ### The quality over an EVM period -/

theorem pilotQuality_lt (pilot noise opened : Nat) : pilotQuality pilot noise opened < 2 ^ 8 := by
  unfold pilotQuality
  split
  · exact Nat.mod_lt _ (by decide)
  · split
    · decide
    · exact Nat.lt_of_le_of_lt (List.length_filter_le _ _) (by rw [List.length_range]; decide)

theorem Device.measuredPq_lt (d : Device) (n : Lane) (ms : List CarrierMeas) : d.measuredPq n ms < 2 ^ 8 := by
  rw [Device.measuredPq]
  exact pilotQuality_lt _ _ _

theorem recommend_lt {cur : Nat} (h : cur < 4) (pq : Nat) : recommend cur pq < 4 := by
  unfold recommend
  extract_lets best
  have hbest : best < 4 := by
    simp only [best]
    split
    · decide
    · split
      · decide
      · split <;> decide
  split
  · exact hbest
  · split
    · exact h
    · exact hbest

/-- The EVM bytes of the carriers lie apart from the quality. -/
theorem Device.qual_setEvm (d : Device) (n : Lane) (j v : Nat) (hj : j < 64) :
    (d.setEvm n j v).reg (F.PLT_QUAL n).addr = d.reg (F.PLT_QUAL n).addr :=
  have hword : j / 4 < 16 := Nat.div_lt_of_lt_mul hj
  d.reg_setReg_of_ne _ (by simp only [F.PLT_QUAL, F.PLT_EVM]; omega)

theorem Device.qual_takeEvm (d : Device) (n : Lane) {ms : List CarrierMeas} (h : ms.length ≤ 64) :
    (d.takeEvm n ms).reg (F.PLT_QUAL n).addr = d.reg (F.PLT_QUAL n).addr := by
  refine foldl_keeps (fun s => s.reg (F.PLT_QUAL n).addr) _ _ d fun s x hx => ?_
  have hj : x.2 < 64 := Nat.lt_of_lt_of_le (List.snd_lt_of_mem_zipIdx hx) (by omega)
  split
  · exact s.qual_setEvm n x.2 _ hj
  · split
    · rfl
    · exact s.qual_setEvm n x.2 _ hj

theorem Device.qual_set (d : Device) (n : Lane) (f : Fld) (v : Nat) {a : Nat} (hf : f.addr = a + 0x800 * n.val) (ha : a ≠ 0x28018) :
    (d.set f v).reg (F.PLT_QUAL n).addr = d.reg (F.PLT_QUAL n).addr :=
  d.reg_set_of_ne f v (hf ▸ pltReg_ne n ha.symm)

theorem Device.qual_raiseIf (d : Device) (n : Lane) (b : Bool) (f : Fld) (hfa : f.addr = (F.PLT_INT_STATUS n).addr) (hf : f.ok) (h1 : f.hi = f.lo) :
    (d.raiseIf b f).reg (F.PLT_QUAL n).addr = d.reg (F.PLT_QUAL n).addr := by
  unfold Device.raiseIf
  split
  · exact d.reg_raise_pltFlag n hfa hf h1 (by decide) (by decide)
  · rfl

theorem Device.qual_takeChain (d : Device) (n : Lane) (c : PilotChain) :
    (d.takeChain n c).reg (F.PLT_QUAL n).addr = d.reg (F.PLT_QUAL n).addr := by
  unfold Device.takeChain
  extract_lets lim ovr d1 d2 track d3 d4 d5
  have h1 : d1.reg (F.PLT_QUAL n).addr = d.reg (F.PLT_QUAL n).addr :=
    ((Device.qual_set _ n (F.PLT_FIR_SAT n) _ rfl (by decide)).trans (Device.qual_set _ n (F.PLT_SAT_SD_OVL n) _ rfl (by decide))).trans
      (d.qual_set n (F.PLT_SAT_TX_CLIP n) _ rfl (by decide))
  have h3 : d3.reg (F.PLT_QUAL n).addr = d.reg (F.PLT_QUAL n).addr :=
    (d1.qual_raiseIf n _ (F.PLT_INT_STATUS_SD_OVL n) rfl (of_decide_eq_true rfl) rfl).trans h1
  have h4 : d4.reg (F.PLT_QUAL n).addr = d.reg (F.PLT_QUAL n).addr := by
    simp only [d4]
    split
    · exact h3
    · exact (d3.qual_set n (F.PLT_AGC_AGC_GAIN n) _ rfl (by decide)).trans h3
  have h5 : d5.reg (F.PLT_QUAL n).addr = d.reg (F.PLT_QUAL n).addr :=
    (((Device.qual_raiseIf _ n _ (F.PLT_INT_STATUS_RES_LIMIT n) rfl (of_decide_eq_true rfl) rfl).trans
      (Device.qual_set _ n (F.PLT_STATUS_RES_LIMIT n) _ rfl (by decide))).trans (d4.qual_set n (F.PLT_RES_FREQ n) _ rfl (by decide))).trans h4
  split
  next run lock _ =>
    extract_lets d6
    split
    · exact (d6.qual_set n (F.PLT_STATUS_RES_LOCK n) _ rfl (by decide)).trans h5
    · exact h5

/-- A LOADMAP that is sent shows its map beside PQ and the recommendation. -/
theorem Device.issueMap_keeps (d : Device) (n : Lane) (preset rec : Nat) (codes : List Nat) :
    (d.issueMap n preset rec codes).get (F.PLT_QUAL_PQ n) = d.get (F.PLT_QUAL_PQ n) ∧
    (d.issueMap n preset rec codes).get (F.PLT_QUAL_REC_PRESET n) = d.get (F.PLT_QUAL_REC_PRESET n) := by
  unfold Device.issueMap
  extract_lets p again ident wait d1
  obtain ⟨-, hreg⟩ := (d1.set (F.PLT_QUAL_LAST_MAP n) ident).queueCtl_keeps n 1 1 (.loadmap ident preset (d1.get (F.PLT_QUAL_PQ n)) rec codes) false
  have hqual := hreg 0x28018 (by decide) (by decide) (by decide)
  rw [Device.get_congr (f := F.PLT_QUAL_PQ n) hqual, Device.get_congr (f := F.PLT_QUAL_REC_PRESET n) hqual, Device.get_set_beside _ _ _ _ rfl,
    Device.get_set_beside _ _ _ _ rfl]
  exact ⟨rfl, rfl⟩

/-- PQ is what the powers say, and the recommendation follows from it and the one before (R280). -/
theorem Device.evmUpdate_shows (d : Device) (n : Lane) {ms : List CarrierMeas} (c : PilotChain) (hrun : d.pilotRxRuns n = true)
    (hlen : ms.length ≤ 64) :
    (d.evmUpdate n ms c).get (F.PLT_QUAL_PQ n) = d.measuredPq n ms ∧
    (d.evmUpdate n ms c).get (F.PLT_QUAL_REC_PRESET n) = recommend (d.get (F.PLT_QUAL_REC_PRESET n)) (d.measuredPq n ms) := by
  have hlt := d.measuredPq_lt n ms
  unfold Device.evmUpdate
  rw [if_neg (by simp [hrun])]
  generalize d.measuredPq n ms = pq at hlt ⊢
  extract_lets _ d1 rec' d2
  have hqual : d1.reg (F.PLT_QUAL n).addr = d.reg (F.PLT_QUAL n).addr := (Device.qual_takeChain _ n c).trans (d.qual_takeEvm n hlen)
  have hrec : rec' = recommend (d.get (F.PLT_QUAL_REC_PRESET n)) pq :=
    congrArg (recommend · pq) (Device.get_congr (f := F.PLT_QUAL_REC_PRESET n) hqual)
  have hshown : d2.get (F.PLT_QUAL_PQ n) = pq ∧ d2.get (F.PLT_QUAL_REC_PRESET n) = recommend (d.get (F.PLT_QUAL_REC_PRESET n)) pq := by
    refine ⟨?_, ?_⟩
    · rw [Device.get_set_beside _ _ _ _ rfl, Device.get_set_same _ _ _ (of_decide_eq_true rfl)]
      exact Nat.mod_eq_of_lt hlt
    · rw [Device.get_set_same _ _ _ (of_decide_eq_true rfl), hrec]
      exact Nat.mod_eq_of_lt (recommend_lt (bitsOf_lt _ _ _) pq)
  obtain ⟨hpq, hpre⟩ := hshown
  split
  · rw [Device.get_modPlt, Device.get_modPlt]
    exact ⟨hpq, hpre⟩
  next preset margin codes bits p run d3 free due _ =>
    have hpq' : d3.get (F.PLT_QUAL_PQ n) = pq := (d2.get_modPlt n _ _).trans hpq
    have hpre' : d3.get (F.PLT_QUAL_REC_PRESET n) = recommend (d.get (F.PLT_QUAL_REC_PRESET n)) pq := (d2.get_modPlt n _ _).trans hpre
    split
    · obtain ⟨hpqKept, hpreKept⟩ := d3.issueMap_keeps n preset rec' codes
      exact ⟨hpqKept.trans hpq', hpreKept.trans hpre'⟩
    · exact ⟨hpq', hpre'⟩

end Sys2Proof.Machine

open Sys2Proof Sys2Proof.Machine

/-- Settles O32, command by command: a detection is ignored or starts a reception, a header and a frame each pass or fail, sync is lost or
dropped, and an EVM update leaves its quality. -/
theorem pilotReceive : Obligations.PilotReceive := by
  intro s n
  refine ⟨fun ms near => ⟨fun p hp hmax hfirst => ⟨fun hrun hth hnear hnone => ?_, fun hnear => ?_⟩, fun hth => ?_, fun r hr hc => ?_⟩,
    fun h r hr hc => ⟨fun hcrc => ?_, fun hcrc hsync hlo hhi hmap => ?_⟩,
    fun bytes crc buffered r hr hc hfz => ⟨fun hlen hcrc hlo hhi => ?_, fun hcrc => ?_⟩, fun hnone hsync => ?_, fun hsync => ?_, ?_,
    fun errs powers ms c hrun he hp hms => ?_⟩
  · refine Gives.of_exec (exec_syncDetection n ms near s) ?_
    rw [← foldl_max_eq hp hmax] at hth hnear ⊢
    rw [s.dev.syncDetect_starts n hrun hth hnear hnone, detectedPreset_eq hp hmax hfirst]
    exact s.dev.startReception_shows n p _
  · rw [← foldl_max_eq hp hmax] at hnear
    exact Does.of_exec (by rw [exec_syncDetection, s.dev.syncDetect_none n (.inr hnear)])
  · have hle : ms.foldl max 0 ≤ s.dev.get (F.PLT_RX_CFG_SYNC_TH n) := (foldl_max_le_iff ms 0 _).2 ⟨Nat.zero_le _, hth⟩
    exact Does.of_exec (by rw [exec_syncDetection, s.dev.syncDetect_none n (.inl hle)])
  · exact Does.of_exec (by rw [exec_syncDetection, s.dev.syncDetect_committed n ms near hr hc])
  · exact Gives.of_exec (exec_headerReceived n h s) (s.dev.headerReceived_fails_shows n h hr hc hcrc)
  · exact Gives.of_exec (exec_headerReceived n h s) (s.dev.headerReceived_commits_shows n h hr hc hcrc hsync hlo hhi hmap)
  · exact Gives.of_exec (exec_frameReceived n bytes crc buffered s) (s.dev.frameReceived_counts_shows n buffered hr hc hfz hlen hcrc hlo hhi)
  · exact Gives.of_exec (exec_frameReceived n bytes crc buffered s) (s.dev.frameReceived_fails_shows n buffered hr hc hcrc)
  · exact Gives.of_exec (exec_syncLoss n s) (s.dev.syncLoss_shows n hnone hsync)
  · exact Does.of_exec (by rw [exec_syncLoss, s.dev.syncLoss_none n hsync])
  · exact Gives.of_exec (exec_resync n s) (s.dev.resync_shows n)
  · refine Gives.of_exec (exec_evmUpdate n errs powers c s) ?_
    rw [hms]
    exact s.dev.evmUpdate_shows n c hrun (by rw [← hms, carriersOf, List.length_zipWith]; omega)

end

section
/-! The fabric's messages: what sending and receiving them keeps, and the queue that a message for a hawser joins (R328, R330, R350, R352 to R355). -/

namespace Sys2Proof.Machine

/-! ### What sending keeps -/

/-- `e` is `d` with messages on their way: of the fabric's state only the message numbers and the floods seen have moved on, and neither supervision
nor a completed or queued manifest is touched. -/
structure Sends (d e : Device) : Prop where
  sup : e.sup = d.sup
  done : e.mft.done = d.mft.done
  fab : ∃ seq floods, e.fab = { d.fab with seq := seq, floods := floods }

theorem Sends.refl (d : Device) : Sends d d := ⟨rfl, rfl, d.fab.seq, d.fab.floods, rfl⟩

theorem Sends.trans {d e f : Device} (h : Sends d e) (k : Sends e f) : Sends d f := by
  obtain ⟨hsup, hdone, _, _, hfab⟩ := h
  obtain ⟨ksup, kdone, seq, floods, kfab⟩ := k
  exact ⟨ksup.trans hsup, kdone.trans hdone, seq, floods, by rw [kfab, hfab]⟩

theorem Sends.nonceOf {d e : Device} (h : Sends d e) (dst : Nat) : e.nonceOf dst = d.nonceOf dst := by
  obtain ⟨_, _, hfab⟩ := h.fab
  rw [Device.nonceOf, hfab, Device.nonceOf]

theorem Posted.sends {d e : Device} (h : Posted d e) : Sends d e := by
  obtain ⟨_, _, _, _, _, _, _, rfl⟩ := h.rest
  exact ⟨rfl, rfl, d.fab.seq, d.fab.floods, rfl⟩

theorem Device.set_sends (d : Device) (f : Fld) (v : Nat) : Sends d (d.set f v) := ⟨rfl, rfl, d.fab.seq, d.fab.floods, rfl⟩

theorem Device.raise_sends (d : Device) (f : Fld) (data : Word) : Sends d (d.raise f data) := by
  suffices h : ∀ unit, Sends d (d.raiseAt f unit data) from h _
  intro unit
  unfold Device.raiseAt
  split
  · exact Sends.refl d
  · exact (d.set_sends f 1).trans (post_posted _ _ _ _ _).sends

theorem Device.count_sends (d : Device) (f : Fld) (n : Nat) : Sends d (d.count f n) := by
  unfold Device.count
  split
  · exact Sends.refl d
  · exact ⟨rfl, rfl, d.fab.seq, d.fab.floods, rfl⟩

theorem Device.modPlt_sends (d : Device) (n : Lane) (g : PltLane → PltLane) : Sends d (d.modPlt n g) :=
  ⟨rfl, rfl, d.fab.seq, d.fab.floods, rfl⟩

theorem Device.txqDrop_sends (d : Device) (n : Lane) : Sends d (d.txqDrop n) := (d.set_sends _ _).trans (Device.raise_sends _ _ _)

theorem Device.pilotSend_sends (d : Device) (n : Lane) (m : FabMsg) : Sends d (d.pilotSend n m) := by
  unfold Device.pilotSend
  split
  · exact d.modPlt_sends n _
  · split
    · exact d.modPlt_sends n _
    · extract_lets d1
      split
      · exact d.txqDrop_sends n
      · exact (d.txqDrop_sends n).trans (d1.modPlt_sends n _)

theorem Device.putLink_sends (d : Device) (i : Link) (m : FabMsg) : Sends d (d.putLink i m) := by
  unfold Device.putLink
  split
  · exact d.pilotSend_sends _ m
  · exact ⟨rfl, rfl, d.fab.seq, d.fab.floods, rfl⟩

theorem Device.nextSeq_sends (d : Device) : Sends d d.nextSeq.1 := by
  unfold Device.nextSeq
  extract_lets s full
  split
  · exact ⟨rfl, rfl, 0, d.fab.floods, rfl⟩
  · exact ⟨rfl, rfl, s + 1, d.fab.floods, rfl⟩

/-- A message is formed under the next SEQ and counted. -/
theorem Device.mkMsg_device (d : Device) (link flood : Bool) (dst : Nat) (dnonce : Word) (rid : Nat) (key : BitVec 256) (body : FabBody) :
    (d.mkMsg link flood dst dnonce rid key body).1 = d.nextSeq.1.count F.FAB_TX := rfl

theorem Device.mkMsg_sends (d : Device) (link flood : Bool) (dst : Nat) (dnonce : Word) (rid : Nat) (key : BitVec 256) (body : FabBody) :
    Sends d (d.mkMsg link flood dst dnonce rid key body).1 := d.nextSeq_sends.trans (Device.count_sends _ _ _)

theorem Device.routeOut_sends (d : Device) (m : FabMsg) : Sends d (d.routeOut m) := by
  unfold Device.routeOut
  split
  · exact d.putLink_sends _ m
  · exact d.set_sends _ _

/-- A unicast message, under the nonce held for its destination or 0, and the device that has formed it. -/
def Device.uniMsg (d : Device) (dst rid : Nat) (body : FabBody) : Device × FabMsg :=
  d.mkMsg false false dst ((d.nonceOf dst).getD 0) rid d.tagKey body

theorem Device.sendTo_eq (d : Device) (dst rid : Nat) (body : FabBody) :
    d.sendTo dst rid body =
      ((d.uniMsg dst rid body).1.routeOut (d.uniMsg dst rid body).2, (d.uniMsg dst rid body).2.seq, (d.nonceOf dst).isSome) := rfl

theorem Device.uniMsg_sends (d : Device) (dst rid : Nat) (body : FabBody) : Sends d (d.uniMsg dst rid body).1 :=
  d.mkMsg_sends _ _ _ _ _ _ _

theorem Device.sendTo_sends (d : Device) (dst rid : Nat) (body : FabBody) : Sends d (d.sendTo dst rid body).1 :=
  (d.uniMsg_sends dst rid body).trans (Device.routeOut_sends _ _)

theorem Device.noteFlood_sends (d : Device) (id : BitVec 64) (seq : Nat) : Sends d (d.noteFlood id seq) := ⟨rfl, rfl, d.fab.seq, _, rfl⟩

theorem Device.floodOut_sends (d : Device) (m : FabMsg) (but : Option Link) : Sends d (d.floodOut m but) := by
  refine List.foldlRecOn (motive := Sends d) fabLinks _ (Sends.refl d) fun s hs i _ => ?_
  split
  · exact hs.trans (s.putLink_sends i m)
  · exact hs

theorem Device.dropMsg_sends (d : Device) (m : FabMsg) (hopLimit : Bool) : Sends d (d.dropMsg m hopLimit) := by
  unfold Device.dropMsg
  extract_lets d1
  have h1 : Sends d d1 := by
    simp only [d1]
    split
    · exact d.set_sends _ _
    · exact d.set_sends _ _
  split
  · exact h1
  · exact h1.trans (d1.sendTo_sends _ _ _)

theorem Device.forward_sends (d : Device) (i : Link) (m : FabMsg) : Sends d (d.forward i m) := by
  unfold Device.forward
  split
  · exact Sends.refl d
  · split
    · split
      · exact Sends.refl d
      · extract_lets d1
        have h1 : Sends d d1 := d.noteFlood_sends _ _
        split
        · exact h1.trans (d1.dropMsg_sends m true)
        · exact (h1.trans (d1.floodOut_sends _ _)).trans (Device.count_sends _ _ _)
    · split
      · exact Sends.refl d
      · split
        · exact d.dropMsg_sends m true
        · split
          · exact (d.putLink_sends _ _).trans (Device.count_sends _ _ _)
          · exact d.dropMsg_sends m false

/-! ### Receiving -/

theorem Device.tagCheck_passes {d e : Device} {m : FabMsg} {keys : List (BitVec 256)} (h : d.tagCheck m keys = (e, true)) : e = d := by
  unfold Device.tagCheck at h
  split at h
  · split at h
    · exact (Prod.mk.inj h).1.symm
    · simp at h
  · simp at h

/-- A message inside the replay window is noted there. -/
theorem Device.replayCheck_passes {d e : Device} {m : FabMsg} (h : d.replayCheck m = (e, true)) :
    ∃ w, e = d.modFab fun b => { b with replay := w } := by
  unfold Device.replayCheck at h
  extract_lets put d1 at h
  split at h
  · split at h
    · exact ⟨_, (Prod.mk.inj h).1.symm⟩
    · split at h
      · exact ⟨_, (Prod.mk.inj h).1.symm⟩
      · simp at h
  · split at h
    · exact ⟨_, (Prod.mk.inj h).1.symm⟩
    · simp at h

theorem Device.trustUni_passes {d e : Device} {m : FabMsg} (h : d.trustUni m = (e, true)) : d.replayCheck m = (e, true) := by
  unfold Device.trustUni at h
  split at h
  next d1 ok htag =>
  split at h
  · simp at h
  · next hok =>
    obtain rfl : ok = true := by simpa using hok
    obtain rfl := Device.tagCheck_passes htag
    split at h
    · simp at h
    · exact h

theorem Device.trustLink_passes {d e : Device} {i : Link} {m : FabMsg} (h : d.trustLink i m = (e, true)) : ∃ f, e = d.modLink i f := by
  unfold Device.trustLink at h
  extract_lets far zero at h
  split at h
  next d1 ok htag =>
  split at h
  · simp at h
  · next hok =>
    obtain rfl : ok = true := by simpa using hok
    obtain rfl := Device.tagCheck_passes htag
    extract_lets l at h
    split at h
    · split at h
      · exact ⟨_, (Prod.mk.inj h).1.symm⟩
      · simp at h
    · exact ⟨_, (Prod.mk.inj h).1.symm⟩

/-- The checks of a message that is accepted leave supervision alone. -/
theorem Device.Received.sup {d e : Device} {i : Link} {m : FabMsg} (h : d.Received i m e) : e.sup = d.sup := by
  obtain ⟨_, _, ⟨_, ht⟩ | ⟨_, _, _, ht⟩ | ⟨_, _, _, _, d1, htag, hrep⟩⟩ := h
  · obtain ⟨f, rfl⟩ := Device.trustLink_passes ht
    rfl
  · obtain ⟨w, rfl⟩ := Device.replayCheck_passes (Device.trustUni_passes ht)
    rfl
  · obtain rfl := Device.tagCheck_passes htag
    obtain ⟨w, rfl⟩ := Device.replayCheck_passes hrep
    exact (d.forward_sends i m).sup

/-- What an accepted message asks for is done to the device after its checks. -/
theorem Device.Received.acts {d e : Device} {i : Link} {m : FabMsg} (h : d.Received i m e) (act : Device → Device) :
    d.fabReceive i m act = act e := by
  obtain ⟨hup, hlink, ⟨hl, ht⟩ | ⟨hl, hf, ha, ht⟩ | ⟨hl, hf, hid, hb, d1, htag, hrep⟩⟩ := h
  · simp [Device.fabReceive, hup, hlink, hl, ht]
  · simp [Device.fabReceive, hup, hlink, hl, hf, ha, ht]
  · simp [Device.fabReceive, hup, hlink, hl, hf, hid, hb, htag, hrep]

/-! ### Messages over a hawser -/

theorem Device.ownAddr_congr {d e : Device} (h : ∀ a, a < F.FAB_TX.addr → e.reg a = d.reg a) : e.ownAddr = d.ownAddr := by
  unfold Device.ownAddr Device.flag
  rw [Device.get_congr (f := F.FAB_STATUS_ADDR_VALID) (h _ (by decide)), Device.get_congr (f := F.FAB_ADDR_ADDR) (h _ (by decide))]

/-- A message that is formed changes no route. -/
theorem Device.hop_uniMsg (d : Device) (dst rid : Nat) (body : FabBody) (a : Nat) : (d.uniMsg dst rid body).1.hop a = d.hop a := by
  have hreg : ∀ c, d.nextSeq.1.reg c = d.reg c := fun c => by
    unfold Device.nextSeq
    extract_lets s full
    split <;> rfl
  have haddr : (d.uniMsg dst rid body).1.ownAddr = d.ownAddr := Device.ownAddr_congr fun c hc => by
    rw [Device.uniMsg, d.mkMsg_device, Device.reg_count _ _ (by omega) (by omega), hreg]
  obtain ⟨_, _, hfab⟩ := (d.uniMsg_sends dst rid body).fab
  rw [Device.hop, haddr, hfab, Device.hop]

@[simp] theorem Device.hwsPort_modHws (d : Device) (p : Port) (g : HwsPort → HwsPort) : (d.modHws p g).hws.get p = g (d.hws.get p) :=
  Vector.getElem_set_self p.isLt

@[simp] theorem Device.hws_count (d : Device) (f : Fld) (n : Nat) : (d.count f n).hws = d.hws := by
  unfold Device.count
  split <;> rfl

@[simp] theorem Device.hws_nextSeq (d : Device) : d.nextSeq.1.hws = d.hws := by
  unfold Device.nextSeq
  extract_lets s full
  split <;> rfl

section
variable (d : Device) {h : RouteIn} (hlo : 8 ≤ h.link) (hhi : h.link < 16)
include hlo hhi

/-- A message for a hawser link joins its port's queue. -/
theorem Device.putLink_hawser (m : FabMsg) :
    d.putLink (Fin.ofNat 16 h.link) m = d.modHws (Fin.ofNat 8 (h.link - 8)) fun q => { q with txq := q.txq ++ [m] } := by
  have hval : (Fin.ofNat 16 h.link).val = h.link := Nat.mod_eq_of_lt hhi
  rw [Device.putLink, isPilot, linkPort, hval, if_neg (by simpa using hlo)]

/-- A message whose route leads over a hawser joins that port's queue. -/
theorem Device.sendTo_hawser {dst : Nat} (hop : d.hop dst = some h) (rid : Nat) (body : FabBody) :
    ∃ x : FabMsg, ((d.sendTo dst rid body).1.hws.get (Fin.ofNat 8 (h.link - 8))).txq = (d.hws.get (Fin.ofNat 8 (h.link - 8))).txq ++ [x] ∧
      x.dst = dst ∧ x.rid = rid ∧ x.body = body := by
  refine ⟨(d.uniMsg dst rid body).2, ?_, rfl, rfl, rfl⟩
  have hroute : (d.uniMsg dst rid body).1.hop (d.uniMsg dst rid body).2.dst = some h := (d.hop_uniMsg dst rid body dst).trans hop
  rw [d.sendTo_eq, Device.routeOut, hroute]
  dsimp only
  rw [Device.putLink_hawser _ hlo hhi, Device.hwsPort_modHws, Device.uniMsg, d.mkMsg_device, Device.hws_count, Device.hws_nextSeq]

end

end Sys2Proof.Machine
end

section
/-! Manifests from the fabric at their destination: the stored pairs, and what their messages do (R302 to R304, R308, R356, R361 to R363). -/

namespace Sys2Proof.Machine

theorem exec_outputReleaseTimeout (s : State) : exec .outputReleaseTimeout s = .next { s with dev := s.dev.outputRelease } := rfl
theorem exec_ridExpiry (src rid : Nat) (s : State) : exec (.ridExpiry src rid) s = .next { s with dev := s.dev.ridExpiry src rid } := rfl

section
variable {s : State} {i : Link} {m : FabMsg} {d : Device} (hr : s.dev.Received i m d)
include hr

/-- The outcome of a command that a message brings, once the message is accepted. -/
theorem Device.Received.next (act : Device → Device) :
    (Host.Outcome.next { s with dev := s.dev.fabReceive i m act } : Host.Outcome State Fault Refusal) = .next { s with dev := act d } := by
  rw [hr.acts act]

theorem exec_manifestMessage {c : Desc} {len : Nat} {crc : Word} (hb : m.body = .manifest c len crc) :
    exec (.manifestMessage i m) s = .next { s with dev := d.manifestIn i m c len crc } := by
  change execManifestMessage i m s = _
  rw [execManifestMessage, hb]
  exact hr.next _

theorem exec_dataMessage {output : Bool} {off : Nat} {bs : List Byte} (hb : m.body = .data output off bs) :
    exec (.dataMessage i m) s = .next { s with dev := d.dataIn i m output off bs } := by
  change execDataMessage i m s = _
  rw [execDataMessage, hb]
  exact hr.next _

theorem exec_resend {output : Bool} {off : Nat} (hb : m.body = .resend output off) :
    exec (.resend i m) s = .next { s with dev := d.resendIn m output off } := by
  change execResend i m s = _
  rw [execResend, hb]
  exact hr.next _

theorem exec_ack {n : Nat} (hb : m.body = .ack n) : exec (.ack i m) s = .next { s with dev := d.freeOutput m.srcId m.rid } := by
  change execAck i m s = _
  rw [execAck, hb]
  exact hr.next _

end

/-! ### A manifest that completes -/

theorem Device.resultWord_draws (d : Device) (stated : Bool) (w : Word) : ∃ n v, d.resultWord stated w = (d.draw n, v) := by
  unfold Device.resultWord
  split
  · exact ⟨0, w, rfl⟩
  · exact ⟨1, _, rfl⟩

/-- A manifest that completes joins those that wait for their entry; open result words are drawn, and nothing else changes. -/
theorem Device.finish_eq (d : Device) (m : Manifest) (status : Nat) (r0 r1 : Word) :
    ∃ n a b, d.finish m status r0 r1 =
      (d.draw n).modMft fun q => { q with done := d.mft.done ++ [{ man := m, status := status, r0 := a, r1 := b }] } := by
  obtain ⟨n, a, ha⟩ := d.resultWord_draws (statedR0 m.desc.opcode m.desc.index status) r0
  obtain ⟨k, b, hb⟩ := (d.draw n).resultWord_draws (statedR1 m.desc.opcode (m.desc.w4 != BitVec.allOnes 32) status) r1
  refine ⟨n + k, a, b, ?_⟩
  simp only [Device.finish, ha, hb]
  simp [Device.draw, Device.modMft, Nat.add_assoc]

theorem Device.finish_ends (d : Device) (m : Manifest) (status : Nat) (r0 r1 : Word) : d.ends (d.finish m status r0 r1) m status := by
  obtain ⟨_, a, b, h⟩ := d.finish_eq m status r0 r1
  exact ⟨a, b, by rw [h]; rfl⟩

theorem Device.finish_keeps (d : Device) (m : Manifest) (status : Nat) (r0 r1 : Word) :
    (d.finish m status r0 r1).fab = d.fab ∧ (d.finish m status r0 r1).mft.fabricQueue = d.mft.fabricQueue := by
  obtain ⟨_, _, _, h⟩ := d.finish_eq m status r0 r1
  rw [h]
  exact ⟨rfl, rfl⟩

/-! ### The stored pairs (R361) -/

/-- A search that a change of some members cannot mislead finds its member changed. -/
theorem find?_map_changed {α : Type} {q c : α → Bool} {f : α → α} (hq : ∀ x, q (if c x then f x else x) = q x) {l : List α} {x : α}
    (h : l.find? q = some x) (hc : c x = true) : (l.map fun y => if c y then f y else y).find? q = some (f x) := by
  have hsame : (q ∘ fun y => if c y then f y else y) = q := funext hq
  rw [List.find?_map, hsame, h, Option.map_some, if_pos hc]

/-- The pair that a change names is found changed, where the change keeps what names it. -/
theorem Device.pairOf_modPair (d : Device) {id : BitVec 64} {rid : Nat} {p : Served} (h : d.pairOf id rid = some p) {f : Served → Served}
    (hid : ∀ x, (f x).srcId = x.srcId) (hrid : ∀ x, (f x).rid = x.rid) : (d.modPair id rid f).pairOf id rid = some (f p) := by
  refine find?_map_changed (fun x => ?_) h (List.find?_some (p := fun x : Served => x.srcId == id && x.rid == rid) h)
  split
  · rw [hid, hrid]
  · rfl

theorem Device.openPair_stored (d : Device) {i : Link} {m : FabMsg} {p : Served} (h : d.pairOf m.srcId m.rid = some p) : d.openPair i m = d := by
  rw [Device.openPair, h]
  rfl

@[simp] theorem Device.mft_openPair (d : Device) (i : Link) (m : FabMsg) : (d.openPair i m).mft = d.mft := by
  unfold Device.openPair
  split <;> rfl

section
variable (d : Device) (i : Link) {m : FabMsg} (h : d.pairOf m.srcId m.rid = none)
include h

/-- A new pair is stored behind those that are kept. -/
theorem Device.openPair_new :
    d.openPair i m = d.modFab fun b => { b with served := d.fab.served.drop (d.fab.served.length - 63) ++ [newPair i m] } := by
  rw [Device.openPair, h, Option.isSome_none, if_neg Bool.false_ne_true, Device.modFab, Device.modFab,
    List.drop_append_of_le_length (Nat.sub_le _ _)]

theorem Device.pairOf_openPair : (d.openPair i m).pairOf m.srcId m.rid = some (newPair i m) := by
  have hnone : (d.fab.served.drop (d.fab.served.length - 63)).find? (fun s => s.srcId == m.srcId && s.rid == m.rid) = none :=
    List.find?_eq_none.2 fun x hx => List.find?_eq_none.1 h x (List.mem_of_mem_drop hx)
  have hnew : ((newPair i m).srcId == m.srcId && (newPair i m).rid == m.rid) = true := by simp [newPair]
  rw [d.openPair_new i h]
  exact List.find?_append.trans (by rw [hnone, Option.none_or, List.find?_singleton, if_pos hnew])

/-! ### The MANIFEST message (R302 to R304, R356) -/

/-- A manifest that has come with a message. -/
def manifestOf (i : Link) (m : FabMsg) (c : Desc) : Manifest := { desc := c, origin := .fabric m.src m.srcId m.rid i.val, buf := 0 }

theorem Device.authorised_openPair (c : Desc) : (d.openPair i m).authorised m c = d.authorised m c := by
  rw [d.openPair_new i h]
  rfl

theorem Device.manifestIn_new (c : Desc) (len : Nat) (crc : Word) : d.manifestIn i m c len crc = d.newManifest i m c len crc := by
  rw [Device.manifestIn, h]

variable {c : Desc} (hc : c.check none = none)
include hc

/-- The fabric agent answers IDENTIFY without the queue (R303). -/
theorem Device.newManifest_identify (hop : c.opcode = 3) (ha : d.authorised m c = true) (len : Nat) (crc : Word) :
    d.newManifest i m c len crc =
      ((d.openPair i m).modPair m.srcId m.rid fun s => { s with taken := true }).runIdentify (manifestOf i m c) := by
  simp [Device.newManifest, hop, hc, d.authorised_openPair i h, ha, Device.agentRun, manifestOf]

variable (hop : 3 < c.opcode) (hrun : d.sup.procRun = true)
include hop hrun

/-- A manifest without input that the processor runs is admitted or refused at once. -/
theorem Device.newManifest_runs : d.newManifest i m c 0 (crc32 []) =
    if d.authorised m c then (d.openPair i m).enqueue (manifestOf i m c) m.srcId m.rid []
    else (d.openPair i m).notAuthorised.answer (manifestOf i m c) m.srcId m.rid stNotAuthorised := by
  have hagent : ¬ c.opcode ≤ 3 := Nat.not_le_of_lt hop
  have hsup : (d.openPair i m).sup.procRun = true := by rw [d.openPair_new i h]; exact hrun
  cases ha : d.authorised m c <;>
    simp [Device.newManifest, hagent, hsup, d.pairOf_openPair i h, newPair, hc, d.authorised_openPair i h, ha, manifestOf]

end

/-- With no buffer in use a manifest without buffer bytes joins the queue at the start of the fabric buffer area. -/
theorem Device.enqueue_bare (d : Device) {x : Manifest} (hb : x.desc.buffer = none) (hq : d.mft.fabricQueue.length < 16)
    (hfree : ∀ p ∈ d.fab.served, p.area.2 = 0) (id : BitVec 64) (rid : Nat) :
    (d.enqueue x id rid []).mft.fabricQueue = d.mft.fabricQueue ++ [{ x with buf := 0x30000 }] := by
  have hneed : bufferNeed x.desc [] = 0 := by rw [bufferNeed, hb]; rfl
  have hused : d.usedAreas = [] := by
    rw [Device.usedAreas, List.map_eq_nil_iff, List.filter_eq_nil_iff]
    exact fun p hp => by simp [hfree p hp]
  have harea : d.freeArea 0 = some 0x30000 := by rw [Device.freeArea, hused]; rfl
  rw [Device.enqueue, hneed, if_neg (Nat.not_le_of_lt hq), harea]
  rfl

theorem Posted.fabricQueue {d e : Device} (h : Posted d e) : e.mft.fabricQueue = d.mft.fabricQueue := by
  obtain ⟨_, _, _, _, _, _, _, rfl⟩ := h.rest
  rfl

/-- A refusal is counted and flagged; no manifest is touched. -/
theorem Device.notAuthorised_shows (d : Device) :
    d.notAuthorised.get F.FAB_ERR_D_NOT_AUTH = (d.get F.FAB_ERR_D_NOT_AUTH + 1) % 2 ^ 16 ∧ d.notAuthorised.get F.FAB_INT_STATUS_NOT_AUTH = 1 ∧
    d.notAuthorised.mft.done = d.mft.done ∧ d.notAuthorised.mft.fabricQueue = d.mft.fabricQueue := by
  refine ⟨?_, Device.get_raise_same _ _ (by decide) rfl (by decide), (d.set_sends _ _).trans (Device.raise_sends _ _ _) |>.done, ?_⟩
  · rw [Device.notAuthorised, Device.get_congr (Device.reg_raise _ _ (by decide) rfl (by decide) (by decide)), Device.bump,
      Device.get_set_same _ _ _ (by decide)]
    rfl
  · exact Device.raise_keeps (fun d => d.mft.fabricQueue) (fun _ _ _ => rfl) Posted.fabricQueue _ _ _

/-- A manifest that ends before it runs completes; the fabric's queue and the registers stay. -/
theorem Device.answer_shows (d : Device) (m : Manifest) (id : BitVec 64) (rid status : Nat) :
    d.ends (d.answer m id rid status) m status ∧ (d.answer m id rid status).mft.fabricQueue = d.mft.fabricQueue ∧
    ∀ f, (d.answer m id rid status).get f = d.get f :=
  ⟨Device.finish_ends _ m status _ _, (Device.finish_keeps _ m status _ _).2, fun f => Device.get_congr (Device.reg_finish _ m status _ _ f.addr)⟩

section
variable (d : Device) (i : Link) {m : FabMsg} (h : d.pairOf m.srcId m.rid = none) {c : Desc} (hc : c.check none = none)
include h hc

theorem Device.identify_answers (hop : c.opcode = 3) (ha : d.authorised m c = true) (len : Nat) (crc : Word) :
    d.ends (d.manifestIn i m c len crc) (manifestOf i m c) stOk ∧
      ∃ p : Served, (d.manifestIn i m c len crc).pairOf m.srcId m.rid = some p ∧ p.taken = true := by
  rw [d.manifestIn_new i h, d.newManifest_identify i h hc hop ha, Device.runIdentify]
  refine ⟨?_, { newPair i m with taken := true }, ?_, rfl⟩
  · rw [Device.ends, ← d.mft_openPair i m]
    exact Device.finish_ends _ (manifestOf i m c) stOk _ _
  · rw [Device.pairOf, (Device.finish_keeps _ _ _ _ _).1]
    exact (d.openPair i m).pairOf_modPair (d.pairOf_openPair i h) (fun _ => rfl) fun _ => rfl

variable (hop : 3 < c.opcode) (hrun : d.sup.procRun = true)
include hop hrun

theorem Device.manifestIn_queues (ha : d.authorised m c = true) (hb : c.buffer = none) (hq : d.mft.fabricQueue.length < 16)
    (hfree : ∀ p ∈ d.fab.served, p.area.2 = 0) :
    (d.manifestIn i m c 0 (crc32 [])).mft.fabricQueue = d.mft.fabricQueue ++ [{ manifestOf i m c with buf := 0x30000 }] := by
  have hq' : (d.openPair i m).mft.fabricQueue.length < 16 := by rwa [d.mft_openPair i m]
  have hfree' : ∀ p ∈ (d.openPair i m).fab.served, p.area.2 = 0 := by
    rw [d.openPair_new i h]
    intro p hp
    obtain hp | hp := List.mem_append.1 hp
    · exact hfree p (List.mem_of_mem_drop hp)
    · rw [List.mem_singleton.1 hp]
      rfl
  rw [d.manifestIn_new i h, d.newManifest_runs i h hc hop hrun, if_pos ha, ← d.mft_openPair i m]
  exact (d.openPair i m).enqueue_bare (x := manifestOf i m c) hb hq' hfree' m.srcId m.rid

theorem Device.manifestIn_refuses (ha : d.authorised m c = false) :
    d.ends (d.manifestIn i m c 0 (crc32 [])) (manifestOf i m c) stNotAuthorised ∧
      (d.manifestIn i m c 0 (crc32 [])).get F.FAB_ERR_D_NOT_AUTH = (d.get F.FAB_ERR_D_NOT_AUTH + 1) % 2 ^ 16 ∧
      (d.manifestIn i m c 0 (crc32 [])).get F.FAB_INT_STATUS_NOT_AUTH = 1 ∧
      (d.manifestIn i m c 0 (crc32 [])).mft.fabricQueue = d.mft.fabricQueue := by
  rw [d.manifestIn_new i h, d.newManifest_runs i h hc hop hrun, ha, if_neg Bool.false_ne_true]
  obtain ⟨hcount, hflag, hdone, hqueue⟩ := (d.openPair i m).notAuthorised_shows
  obtain ⟨⟨r0, r1, hends⟩, hkeep, hget⟩ := (d.openPair i m).notAuthorised.answer_shows (manifestOf i m c) m.srcId m.rid stNotAuthorised
  rw [hdone, d.mft_openPair i m] at hends
  rw [hget, hcount, hget, hflag, hkeep, hqueue, d.mft_openPair i m]
  exact ⟨⟨r0, r1, hends⟩, by rw [d.openPair_new i h]; rfl, rfl, rfl⟩

end

/-! ### Input and output of a pair (R302, R308, R363) -/

section
variable (d : Device) (i : Link) {m : FabMsg}

/-- Input for a pair that is new is kept where it starts at offset 0. -/
theorem Device.dataIn_new (h : d.pairOf m.srcId m.rid = none) (off : Nat) (bs : List Byte) :
    (d.dataIn i m false off bs).pairOf m.srcId m.rid = some { newPair i m with input := if off = 0 then bs else [] } := by
  refine ((d.openPair i m).pairOf_modPair (d.pairOf_openPair i h) (fun _ => ?_) fun _ => ?_).trans rfl
  · split <;> rfl
  · split <;> rfl

/-- Input that continues what a pair has is added to it. -/
theorem Device.dataIn_continues {p : Served} (h : d.pairOf m.srcId m.rid = some p) (ht : p.taken = false) (bs : List Byte) :
    (d.dataIn i m false p.input.length bs).pairOf m.srcId m.rid = some { p with input := p.input ++ bs } := by
  rw [Device.dataIn, if_neg Bool.false_ne_true, d.openPair_stored h, d.pairOf_modPair h]
  · rw [ht, if_neg Bool.false_ne_true, append, if_pos rfl]
  · intro _
    split <;> rfl
  · intro _
    split <;> rfl

end

theorem dataParts_nil (fuel off : Nat) : dataParts fuel off [] = [] := by cases fuel <;> rfl

/-- Bytes that one DATA message can carry make one part. -/
theorem dataParts_single {bs : List Byte} (h : bs ≠ []) (hl : bs.length ≤ 1016) (off : Nat) : dataParts (bs.length + 1) off bs = [(off, bs)] := by
  cases bs with
  | nil => exact absurd rfl h
  | cons b t => rw [dataParts, List.take_of_length_le hl, List.drop_of_length_le hl, dataParts_nil]; exact h

theorem Device.sendData_single (d : Device) (dst rid : Nat) (output : Bool) {bs : List Byte} (h : bs ≠ []) (hl : bs.length ≤ 1016) :
    d.sendData dst rid output 0 bs = (d.sendTo dst rid (.data output 0 bs)).1 := by
  rw [Device.sendData, List.drop_zero, dataParts_single h hl]
  rfl

/-- Held output is sent again over the route of its source (R363). -/
theorem Device.resendIn_output (d : Device) {m : FabMsg} {p : Served} {bs : List Byte} {h : RouteIn}
    (hp : d.fab.served.find? (fun x => x.src == m.src && x.out.isSome && x.rid == m.rid) = some p) (hout : p.out = some bs) (hne : bs ≠ [])
    (hl : bs.length ≤ 1016) (hop : d.hop m.src = some h) (hlo : 8 ≤ h.link) (hhi : h.link < 16) :
    ∃ x : FabMsg, ((d.resendIn m true 0).hws.get (Fin.ofNat 8 (h.link - 8))).txq = (d.hws.get (Fin.ofNat 8 (h.link - 8))).txq ++ [x] ∧
      x.dst = m.src ∧ x.rid = m.rid ∧ x.body = .data true 0 bs := by
  have hkey := List.find?_some hp
  simp only [Bool.and_eq_true, beq_iff_eq] at hkey
  obtain ⟨⟨hsrc, _⟩, hrid⟩ := hkey
  rw [Device.resendIn, if_pos rfl, hp]
  dsimp only
  rw [hsrc, hrid, hout, Option.getD_some, d.sendData_single _ _ _ hne hl]
  exact d.sendTo_hawser hlo hhi hop m.rid _

theorem Device.outputRelease_none (d : Device) (h : ∀ p ∈ d.fab.served, p.out = none) : d.outputRelease = d := by
  have hnone : d.fab.served.find? (fun s => s.out.isSome) = none := List.find?_eq_none.2 fun p hp => by simp [h p hp]
  rw [Device.outputRelease, hnone]

theorem Device.outputRelease_only (d : Device) {p : Served} (h : d.fab.served = [p]) (ho : p.out ≠ none) :
    d.outputRelease = d.modFab fun b => { b with served := [{ p with out := none, area := (0, 0) }] } := by
  have hfind : [p].find? (fun s => s.out.isSome) = some p := by rw [List.find?_singleton, if_pos (Option.isSome_iff_ne_none.2 ho)]
  rw [Device.outputRelease, h, hfind]
  simp [Device.freeOutput, Device.modPair, Device.modFab, h]

/-- A completed pair is forgotten, and no other (R361). -/
theorem Device.mem_served_ridExpiry (d : Device) (src rid : Nat) (p : Served) :
    p ∈ (d.ridExpiry src rid).fab.served ↔ p ∈ d.fab.served ∧ ¬ (p.srcId.toNat = src ∧ p.rid = rid ∧ p.entry ≠ none) := by
  refine List.mem_filter.trans (and_congr_right fun _ => ?_)
  rw [Bool.not_eq_true', ← Bool.not_eq_true, Bool.and_eq_true, Bool.and_eq_true, beq_iff_eq, beq_iff_eq, Option.isSome_iff_ne_none, and_assoc]

end Sys2Proof.Machine

open Sys2Proof Sys2Proof.Machine

/-- Settles O54, message by message: MANIFEST of a pair that is taken or new, DATA of a pair that is new or open, RESEND and ACK, and the two
time limits. -/
theorem manifestsOfTheFabric : Obligations.ManifestsOfTheFabric := by
  intro s
  refine ⟨fun i m d c len crc hr hb => ⟨fun p hp he ht => ?_, fun hnone hc => ⟨fun hop ha => ?_, fun hop hrun hlen hcrc hbuf =>
    ⟨fun ha hq hfree => ?_, fun ha => ?_⟩⟩⟩, fun i m d off bs hr hb => ⟨fun hnone => ?_, fun p hp ht hoff => ?_⟩,
    fun i m d p bs h hr hb hp hout hne hl hop hlo hhi => ?_, fun i m d n p hr hb hp => ?_, fun hnone => ?_, fun p hp ho => ?_, fun src rid => ?_⟩
  · exact Does.of_exec (by rw [exec_manifestMessage hr hb, Device.manifestIn, hp]; simp [he, ht])
  · exact Gives.of_exec (exec_manifestMessage hr hb) (d.identify_answers i hnone hc hop ha len crc)
  · subst hlen hcrc
    exact Gives.of_exec (exec_manifestMessage hr hb) (d.manifestIn_queues i hnone hc hop (hr.sup ▸ hrun) ha hbuf hq hfree)
  · subst hlen hcrc
    exact Gives.of_exec (exec_manifestMessage hr hb) (d.manifestIn_refuses i hnone hc hop (hr.sup ▸ hrun) ha)
  · exact Gives.of_exec (exec_dataMessage hr hb) ⟨_, d.dataIn_new i hnone off bs, rfl, rfl, rfl⟩
  · subst hoff
    exact Gives.of_exec (exec_dataMessage hr hb) (d.dataIn_continues i hp ht bs)
  · exact Gives.of_exec (exec_resend hr hb) (d.resendIn_output hp hout hne hl hop hlo hhi)
  · exact Gives.of_exec (exec_ack hr hb) (d.pairOf_modPair hp (fun _ => rfl) fun _ => rfl)
  · exact Does.of_exec (by rw [exec_outputReleaseTimeout, s.dev.outputRelease_none hnone])
  · exact Does.of_exec (by rw [exec_outputReleaseTimeout, s.dev.outputRelease_only hp ho])
  · exact Gives.of_exec (exec_ridExpiry src rid s) ⟨fun p => s.dev.mem_served_ridExpiry src rid p, rfl⟩

end

section
/-! Remote manifests at their originator: the pending set, the nonces learned, and what ends a manifest (R305, R307, R359, R360, R363). -/

namespace Sys2Proof.Machine

theorem exec_manifestResend (rid : Nat) (s : State) : exec (.manifestResend rid) s = .next { s with dev := s.dev.manifestResend rid } := rfl
theorem exec_remoteTimeout (rid : Nat) (s : State) : exec (.remoteTimeout rid) s = .next { s with dev := s.dev.remoteTimeout rid } := rfl

section
variable {s : State} {i : Link} {m : FabMsg} {d : Device} (hr : s.dev.Received i m d)
include hr

theorem exec_completionMessage {a b c f : Word} (hb : m.body = .completion a b c f) :
    exec (.completionMessage i m) s = .next { s with dev := d.completionIn m (a, b, c, f) } := by
  change execCompletionMessage i m s = _
  rw [execCompletionMessage, hb]
  exact hr.next _

theorem exec_nonce {cur : Word} {ans : Nat} (hb : m.body = .nonce cur ans) :
    exec (.nonce i m) s = .next { s with dev := d.nonceIn m cur ans } := by
  change execNonce i m s = _
  rw [execNonce, hb]
  exact hr.next _

end

/-! ### The pending set -/

/-- A pending manifest that a change names is found changed, where the change keeps what names it. -/
theorem Device.remoteOf_modRemote (d : Device) {rid src : Nat} {r : Remote} (h : d.remoteOf rid src = some r) {f : Remote → Remote}
    (hrid : ∀ x, (f x).rid = x.rid) (hman : ∀ x, (f x).man = x.man) : (d.modRemote rid f).remoteOf rid src = some (f r) := by
  have hkey := List.find?_some (p := fun x : Remote => x.rid == rid && x.man.desc.target == src) h
  refine find?_map_changed (fun x => ?_) h (Bool.and_eq_true_iff.1 hkey).1
  split
  · rw [hrid, hman]
  · rfl

theorem Device.rid_of_remoteOf {d : Device} {rid src : Nat} {r : Remote} (h : d.remoteOf rid src = some r) : r.rid = rid := by
  have hkey := List.find?_some (p := fun x : Remote => x.rid == rid && x.man.desc.target == src) h
  exact beq_iff_eq.1 (Bool.and_eq_true_iff.1 hkey).1

/-- A manifest that leaves the pending set is gone from it. -/
theorem Device.rid_dropRemote (d : Device) (rid : Nat) : ∀ x ∈ (d.dropRemote rid).fab.remotes, x.rid ≠ rid :=
  fun _ hx => bne_iff_ne.1 (List.mem_filter.1 hx).2

/-- A pending manifest ends with a status of this device's: it completes and leaves the set, and no nonce is touched. -/
theorem Device.endRemote_shows (d : Device) (r : Remote) (status : Nat) :
    d.ends (d.endRemote r status) r.man status ∧ (∀ x ∈ (d.endRemote r status).fab.remotes, x.rid ≠ r.rid) ∧
    (d.endRemote r status).fab.nonces = d.fab.nonces := by
  have hfab : (d.endRemote r status).fab = (d.dropRemote r.rid).fab := (Device.finish_keeps _ _ _ _ _).1
  refine ⟨Device.finish_ends _ r.man status _ _, ?_, ?_⟩
  · rw [hfab]
    exact d.rid_dropRemote r.rid
  · rw [hfab]
    rfl

/-! ### Completion and output (R305, R307, R363) -/

/-- A completion without output ends its manifest at once. -/
theorem Device.tryRemote_bare (d : Device) {r : Remote} {a b c f : Word} (he : r.entry = some (a, b, c, f))
    (hn : outputLen r.man.desc.opcode (bitsOf a 31 24) b.toNat = 0) :
    d.tryRemote r = (d.dropRemote r.rid).modMft fun q =>
      { q with done := q.done ++ [{ man := r.man, status := bitsOf a 31 24, r0 := b, r1 := c, far := true }] } := by
  rw [Device.tryRemote, he]
  dsimp only
  rw [hn, if_neg (Nat.not_lt_zero _), if_pos rfl]
  rfl

section
variable (d : Device) {m : FabMsg} {r : Remote} (h : d.remoteOf m.rid m.src = some r)
include h

theorem Device.completionIn_bare {a b c f : Word} (hn : outputLen r.man.desc.opcode (bitsOf a 31 24) b.toNat = 0) :
    (d.completionIn m (a, b, c, f)).mft.done = d.mft.done ++ [{ man := r.man, status := bitsOf a 31 24, r0 := b, r1 := c, far := true }] ∧
      ∀ x ∈ (d.completionIn m (a, b, c, f)).fab.remotes, x.rid ≠ m.rid := by
  rw [Device.completionIn, h, ← Device.rid_of_remoteOf h]
  dsimp only
  rw [Device.tryRemote_bare _ (r := { r with entry := some (a, b, c, f) }) rfl hn]
  exact ⟨rfl, Device.rid_dropRemote _ r.rid⟩

/-- Output that continues what has come is kept until the completion comes. -/
theorem Device.dataIn_output (he : r.entry = none) (i : Link) (off : Nat) (bs : List Byte) :
    (d.dataIn i m true off bs).remoteOf m.rid m.src = some { r with out := if off = r.out.length then r.out ++ bs else r.out } := by
  have hkept : d.dataIn i m true off bs = d.modRemote m.rid fun x => { x with out := append r.out off bs } := by
    rw [Device.dataIn, if_pos rfl, h]
    dsimp only
    rw [he, Device.rid_of_remoteOf h]
  rw [hkept]
  exact d.remoteOf_modRemote h (f := fun x => { x with out := append r.out off bs }) (fun _ => rfl) fun _ => rfl

end

/-! ### A manifest sent again (R359) -/

/-- A manifest whose operands name no buffer is sent again alone, under a new SEQ. -/
theorem Device.resendRemote_bare (d : Device) {r : Remote} (hb : r.man.desc.buffer = none) (whole : Bool) :
    ∃ f, d.resendRemote r whole =
      (d.sendTo r.man.desc.target r.rid (.manifest r.man.desc 0 (crc32 []))).1.modRemote r.rid f := by
  have hinput : d.inputOf r.man = (d, some []) := by rw [Device.inputOf, hb]
  rw [Device.resendRemote, hinput]
  cases whole <;> exact ⟨_, rfl⟩

/-- A search with one more condition, which the member found meets, finds that member. -/
theorem find?_and_of_find? {α : Type} {q t : α → Bool} {l : List α} {x : α} (h : l.find? q = some x) (ht : t x = true) :
    l.find? (fun y => q y && t y) = some x := by
  obtain ⟨hx, as, bs, hl, has⟩ := List.find?_eq_some_iff_append.1 h
  exact List.find?_eq_some_iff_append.2 ⟨by rw [hx, ht]; rfl, as, bs, hl, fun a ha => by simpa using .inl (by simpa using has a ha)⟩

section
variable (d : Device) {rid : Nat}

theorem Device.find?_rid_none (h : ∀ r ∈ d.fab.remotes, r.rid ≠ rid) (t : Remote → Bool) :
    d.fab.remotes.find? (fun r => r.rid == rid && t r) = none :=
  List.find?_eq_none.2 fun r hr => by simp [h r hr]

theorem Device.manifestResend_none (h : ∀ r ∈ d.fab.remotes, r.rid ≠ rid) : d.manifestResend rid = d := by
  rw [Device.manifestResend, d.find?_rid_none h]

theorem Device.remoteTimeout_none (h : ∀ r ∈ d.fab.remotes, r.rid ≠ rid) : d.remoteTimeout rid = d := by
  have hnone : d.fab.remotes.find? (fun r => r.rid == rid) = none := List.find?_eq_none.2 fun r hr => by simp [h r hr]
  rw [Device.remoteTimeout, hnone]

variable {r : Remote} (hr : d.fab.remotes.find? (fun x => x.rid == rid) = some r)
include hr

theorem Device.remoteTimeout_ends :
    d.ends (d.remoteTimeout rid) r.man stRemoteTimeout ∧ ∀ x ∈ (d.remoteTimeout rid).fab.remotes, x.rid ≠ rid := by
  have hrid : r.rid = rid := beq_iff_eq.1 (List.find?_some (p := fun x : Remote => x.rid == rid) hr)
  obtain ⟨hends, hgone, _⟩ := d.endRemote_shows r stRemoteTimeout
  rw [Device.remoteTimeout, hr]
  exact ⟨hends, hrid ▸ hgone⟩

theorem Device.manifestResend_sends {h : RouteIn} (he : r.entry = none) (hb : r.man.desc.buffer = none) (hop : d.hop r.man.desc.target = some h)
    (hlo : 8 ≤ h.link) (hhi : h.link < 16) :
    ∃ x : FabMsg, ((d.manifestResend rid).hws.get (Fin.ofNat 8 (h.link - 8))).txq = (d.hws.get (Fin.ofNat 8 (h.link - 8))).txq ++ [x] ∧
      x.dst = r.man.desc.target ∧ x.rid = rid ∧ x.body = .manifest r.man.desc 0 (crc32 []) := by
  have hrid : r.rid = rid := beq_iff_eq.1 (List.find?_some (p := fun x : Remote => x.rid == rid) hr)
  have hfind : d.fab.remotes.find? (fun x => x.rid == rid && x.entry.isNone) = some r := find?_and_of_find? hr (by rw [he]; rfl)
  obtain ⟨f, hsend⟩ := d.resendRemote_bare hb false
  rw [Device.manifestResend, hfind]
  dsimp only
  rw [hsend, hrid]
  exact d.sendTo_hawser hlo hhi hop rid _

end

/-! ### Nonces (R360) -/

/-- A nonce that is learned is held. -/
theorem Device.nonceOf_holdNonce (d : Device) (dst : Nat) (n : Word) : (d.holdNonce dst n).nonceOf dst = some n := by
  have hnone : ∀ k, ((d.fab.nonces.filter fun p => p.1 != dst).drop k).find? (fun p => p.1 == dst) = none := fun k =>
    List.find?_eq_none.2 fun p hp => by simpa using (List.mem_filter.1 (List.mem_of_mem_drop hp)).2
  rw [Device.nonceOf, Device.holdNonce, Device.modFab, List.drop_append_of_le_length (Nat.sub_le _ _), List.find?_append, hnone,
    Option.none_or, List.find?_singleton, if_pos (beq_self_eq_true dst)]
  rfl

theorem Device.nonceOf_dropNonce (d : Device) (dst : Nat) : (d.dropNonce dst).nonceOf dst = none := by
  have hnone : (d.fab.nonces.filter fun p => p.1 != dst).find? (fun p => p.1 == dst) = none :=
    List.find?_eq_none.2 fun p hp => by simpa using (List.mem_filter.1 hp).2
  rw [Device.nonceOf, Device.dropNonce, Device.modFab, hnone]
  rfl

section
variable (d : Device) {m : FabMsg} (cur : Word) {ans : Nat}

/-- A NONCE that answers nothing that is pending is learned unless one is held. -/
theorem Device.nonceIn_unasked (hr : ∀ r ∈ d.fab.remotes, ¬ (r.man.desc.target = m.src ∧ r.seq = ans))
    (hs : ∀ p ∈ d.fab.served, ¬ (p.src = m.src ∧ p.seq = ans)) :
    d.nonceIn m cur ans = if (d.nonceOf m.src).isSome then d else d.holdNonce m.src cur := by
  have hremote : d.fab.remotes.find? (fun r => r.man.desc.target == m.src && r.seq == ans) = none :=
    List.find?_eq_none.2 fun r h => by simpa using hr r h
  have hserved : d.fab.served.find? (fun s => s.src == m.src && s.seq == ans && s.entry.isSome) = none :=
    List.find?_eq_none.2 fun p h => by simpa using fun h1 h2 => absurd ⟨h1, h2⟩ (hs p h)
  rw [Device.nonceIn, hremote]
  dsimp only
  rw [hserved]

variable {r : Remote} (hr : d.fab.remotes.find? (fun x => x.man.desc.target == m.src && x.seq == ans) = some r)
include hr

/-- A device that rejects the nonce it was sent ends the manifest. -/
theorem Device.nonceIn_held (hh : r.held = true) :
    d.ends (d.nonceIn m cur ans) r.man stRemoteTimeout ∧ (d.nonceIn m cur ans).nonceOf m.src = none := by
  obtain ⟨hends, _, hnonces⟩ := (d.dropNonce m.src).endRemote_shows r stRemoteTimeout
  rw [Device.nonceIn, hr]
  dsimp only
  rw [if_pos hh]
  refine ⟨hends, ?_⟩
  rw [Device.nonceOf, hnonces]
  exact d.nonceOf_dropNonce m.src

/-- The nonce that a manifest sent without one brings back is learned, and the manifest goes out again. -/
theorem Device.nonceIn_learns (hh : r.held = false) (hb : r.man.desc.buffer = none) :
    (d.nonceIn m cur ans).nonceOf m.src = some cur ∧ (d.nonceIn m cur ans).mft.done = d.mft.done := by
  obtain ⟨f, hsend⟩ := (d.holdNonce m.src cur).resendRemote_bare hb true
  have hkeeps := (d.holdNonce m.src cur).sendTo_sends r.man.desc.target r.rid (.manifest r.man.desc 0 (crc32 []))
  rw [Device.nonceIn, hr]
  dsimp only
  rw [hh, if_neg Bool.false_ne_true, hsend]
  exact ⟨(hkeeps.nonceOf m.src).trans (d.nonceOf_holdNonce m.src cur), hkeeps.done⟩

end

end Sys2Proof.Machine

open Sys2Proof Sys2Proof.Machine

/-- Settles O55, message by message: COMPLETION that is awaited or late, DATA, NONCE that is unasked, rejects or teaches, and the two time
limits of a pending manifest. -/
theorem remoteManifests : Obligations.RemoteManifests := by
  intro s
  refine ⟨fun i m d a b c f hr hb => ⟨fun hnone => ?_, fun r hrem hn => ?_⟩, fun i m d off bs r hr hb hrem he => ?_,
    fun i m d cur ans hr hb => ⟨fun hrem hserved => ⟨fun hn => ?_, fun hn => ?_⟩, fun r hrem => ⟨fun hh => ?_, fun hh hbuf => ?_⟩⟩,
    fun rid => ⟨fun hnone => ⟨?_, ?_⟩, fun r hrem => ⟨?_, fun h he hbuf hop hlo hhi => ?_⟩⟩⟩
  · exact Does.of_exec (by rw [exec_completionMessage hr hb, Device.completionIn, hnone])
  · exact Gives.of_exec (exec_completionMessage hr hb) (d.completionIn_bare hrem hn)
  · exact Gives.of_exec (exec_dataMessage hr hb) (d.dataIn_output hrem he i off bs)
  · refine Gives.of_exec (exec_nonce hr hb) ?_
    rw [d.nonceIn_unasked cur hrem hserved, hn]
    exact d.nonceOf_holdNonce m.src cur
  · exact Does.of_exec (by rw [exec_nonce hr hb, d.nonceIn_unasked cur hrem hserved, if_pos (Option.isSome_iff_ne_none.2 hn)])
  · exact Gives.of_exec (exec_nonce hr hb) (d.nonceIn_held cur hrem hh)
  · exact Gives.of_exec (exec_nonce hr hb) (d.nonceIn_learns cur hrem hh hbuf)
  · exact Does.of_exec (by rw [exec_manifestResend, s.dev.manifestResend_none hnone])
  · exact Does.of_exec (by rw [exec_remoteTimeout, s.dev.remoteTimeout_none hnone])
  · exact Gives.of_exec (exec_remoteTimeout rid s) (s.dev.remoteTimeout_ends hrem)
  · exact Gives.of_exec (exec_manifestResend rid s) (s.dev.manifestResend_sends hrem he hbuf hop hlo hhi)

end

section
/-! Staged groups: a commit that is answered, pending, live or withdrawn (R311 to R314, R603, R608). -/

namespace Sys2Proof.Machine

theorem exec_mftCommit (g : BitVec 16) (s : State) : exec (.mftCommit g) s = .next { s with dev := s.dev.commitRegister g.toNat } := rfl
theorem exec_commitTimeout (g : BitVec 16) (s : State) : exec (.commitTimeout g) s = .next { s with dev := s.dev.commitTimeout g.toNat } := rfl
theorem exec_stagedGroupLive (g : BitVec 16) (s : State) :
    exec (.stagedGroupLive g) s = .next { s with dev := s.dev.groupBoundary g.toNat } := rfl

/-! ### Words bit by bit -/

theorem bitsOf_congr {w v : Word} {hi lo : Nat} (h : ∀ i ≤ hi - lo, w.getLsbD (lo + i) = v.getLsbD (lo + i)) :
    bitsOf w hi lo = bitsOf v hi lo := by
  refine Nat.eq_of_testBit_eq fun i => ?_
  rw [bitsOf_testBit, bitsOf_testBit]
  by_cases hi' : i < hi - lo + 1
  · rw [h i (Nat.lt_succ_iff.1 hi')]
  · simp [hi']

/-- A field of a word that a field mask lets through. -/
theorem bitsOf_masked (x w : Word) {hi lo : Nat} (h : hi < 32) (hl : lo ≤ hi) :
    bitsOf ((x &&& ~~~ fieldMask hi lo) ||| (w &&& fieldMask hi lo)) hi lo = bitsOf w hi lo :=
  bitsOf_congr fun i hi' => by simp [fieldMask_getLsbD _ _ _ h hl, show lo + i ≤ hi by omega]

/-! ### A commit by register and its answer (R313, R603) -/

/-- MFT_COMMIT shows the commit of a group as running. -/
def Device.committing (d : Device) (g : Nat) : Device := (d.set F.MFT_COMMIT_GROUP g).set F.MFT_COMMIT_GO 1

theorem Device.reg_committing (d : Device) (g : Nat) {a : Nat} (h : a ≠ F.MFT_COMMIT.addr) : (d.committing g).reg a = d.reg a :=
  (Device.reg_set_of_ne _ F.MFT_COMMIT_GO 1 h).trans (d.reg_set_of_ne F.MFT_COMMIT_GROUP g h)

theorem Device.committing_shows (d : Device) (g : Nat) :
    (d.committing g).get F.MFT_COMMIT_GO = 1 ∧ (d.committing g).get F.MFT_COMMIT_GROUP = g % 2 ^ 16 := by
  refine ⟨Device.get_set_fits _ F.MFT_COMMIT_GO 1 rfl, ?_⟩
  rw [Device.committing, Device.get_set_beside _ _ _ _ rfl, Device.get_set_same _ _ _ (by decide)]
  rfl

/-- The registers of the staged groups lie above those of the manifest block. -/
theorem mftRegs_lt_of_mem_groupRegs {g a : Nat} (h : a ∈ groupRegs g) : F.MFT_INT_STATUS.addr < a := by
  unfold groupRegs at h
  extract_lets i at h
  split at h
  case h_12 => cases h
  all_goals
    split at h
    · simp only [addrs, List.mem_cons, List.mem_append, List.mem_flatMap, List.mem_map, List.mem_range, List.not_mem_nil, or_false,
        F.LRX_CTRL, F.LRX_TIA, F.LRX_DCB, F.LRX_FFE_CFG, F.LRX_SYN_CTRL, F.LTX_FFE_TAP, F.LTX_CFG, F.PLT_RX_CFG, F.PLT_FIR_COEF, F.HLN_CTRL,
        F.CHT_RX, F.CHT_DFE, F.CHT_TX, F.HLN_MODE, F.POOL_CTRL, F.BWK_PORT_MAP, F.FAB_ACL_DEF, F.FAB_ACL_CFG, F.FAB_ACL_LO, F.FAB_ACL_HI,
        F.LKO_SRC, F.LKO_RED, F.LKO_POST, F.LKO_REGION, F.LKO_TU_CFG] at h
      simp only [F.MFT_INT_STATUS]
      omega
    · cases h

theorem Posted.commits {d e : Device} (h : Posted d e) : e.mft.commits = d.mft.commits := by
  obtain ⟨_, _, _, _, _, _, _, rfl⟩ := h.rest
  rfl

/-- An answer shows in MFT_COMMIT_STATUS and COMMIT_DONE and takes GO away; the live copies and the pending commits stay. -/
theorem Device.answerCommit_shows (d : Device) (status fail : Nat) :
    (d.answerCommit status fail).live = d.live ∧ (d.answerCommit status fail).mft.commits = d.mft.commits ∧
    (d.answerCommit status fail).get F.MFT_COMMIT_STATUS_STATUS = status % 2 ^ 8 ∧
    (d.answerCommit status fail).get F.MFT_COMMIT_STATUS_FAIL_ADDR = fail % 2 ^ 20 ∧
    (d.answerCommit status fail).get F.MFT_COMMIT_GO = 0 ∧ (d.answerCommit status fail).get F.MFT_COMMIT_GROUP = d.get F.MFT_COMMIT_GROUP ∧
    (d.answerCommit status fail).get F.MFT_INT_STATUS_COMMIT_DONE = 1 := by
  unfold Device.answerCommit
  generalize he : ((d.set F.MFT_COMMIT_GO 0).set F.MFT_COMMIT_STATUS_STATUS status).set F.MFT_COMMIT_STATUS_FAIL_ADDR fail = e
  have hkeep : ∀ f : Fld, f.addr ∉ eventRegs → f.addr ≠ F.MFT_INT_STATUS.addr → (e.raise F.MFT_INT_STATUS_COMMIT_DONE).get f = e.get f :=
    fun f hev hne => Device.get_congr (e.reg_raise _ (by decide) rfl hev hne)
  refine ⟨?_, ?_, ?_, ?_, ?_, ?_, ?_⟩
  · rw [Device.live_raise, ← he]
    rfl
  · rw [Device.raise_keeps (fun d => d.mft.commits) (fun _ _ _ => rfl) Posted.commits, ← he]
    rfl
  · rw [hkeep _ (by decide) (by decide), ← he, Device.get_set_beside _ _ _ _ rfl, Device.get_set_same _ _ _ (by decide)]
    rfl
  · rw [hkeep _ (by decide) (by decide), ← he, Device.get_set_same _ _ _ (by decide)]
    rfl
  · rw [hkeep _ (by decide) (by decide), ← he, Device.get_set_elsewhere _ _ _ _ (by decide), Device.get_set_elsewhere _ _ _ _ (by decide),
      Device.get_set_fits _ _ _ rfl]
  · rw [hkeep _ (by decide) (by decide), ← he, Device.get_set_elsewhere _ _ _ _ (by decide), Device.get_set_elsewhere _ _ _ _ (by decide),
      Device.get_set_beside _ _ _ _ rfl]
  · have hbit := (raise_posted e F.MFT_INT_STATUS_COMMIT_DONE 0 (by decide) rfl).flags 0 (by decide) (by decide)
    refine (bitsOf_congr fun i hi => ?_).trans (e.get_set_fits F.MFT_INT_STATUS_COMMIT_DONE 1 rfl)
    obtain rfl : i = 0 := Nat.le_zero.1 hi
    exact hbit

section
variable (d : Device) {g : Nat} (hgo : d.get F.MFT_COMMIT_GO = 0)

theorem Device.commitRegister_busy (h : d.get F.MFT_COMMIT_GO = 1) : d.commitRegister g = d := by
  rw [Device.commitRegister, Device.flag_eq_true h, if_pos rfl]

include hgo

theorem Device.commitRegister_absent (h : groupExists g = false) : d.commitRegister g = (d.committing g).answerCommit stBadOperand 0 := by
  rw [Device.commitRegister, Device.flag_eq_false hgo, if_neg Bool.false_ne_true, h]
  rfl

end

theorem Device.shadowOf_congr {d e : Device} (h : ∀ a, F.MFT_INT_STATUS.addr < a → e.reg a = d.reg a) (g : Nat) : e.shadowOf g = d.shadowOf g :=
  List.map_congr_left fun a ha => by rw [h a (mftRegs_lt_of_mem_groupRegs ha)]

theorem Device.shadowOf_committing (d : Device) (k g : Nat) : (d.committing k).shadowOf g = d.shadowOf g :=
  Device.shadowOf_congr (fun a ha => d.reg_committing k (Nat.ne_of_gt (Nat.lt_trans (by decide) ha))) g

section
variable (d : Device) {g : Nat} (hgo : d.get F.MFT_COMMIT_GO = 0) (hg : groupExists g = true)
include hgo hg

theorem Device.commitRegister_rejected {a : Nat} (h : (d.committing g).commitReject g (d.shadowOf g) = some a) :
    d.commitRegister g = (d.committing g).answerCommit stStageReject a := by
  rw [← d.shadowOf_committing g g, Device.committing] at h
  rw [Device.commitRegister, Device.flag_eq_false hgo, if_neg Bool.false_ne_true, hg]
  dsimp only
  rw [h]
  rfl

theorem Device.commitRegister_accepted (h : (d.committing g).commitReject g (d.shadowOf g) = none) :
    d.commitRegister g = (d.committing g).acceptCommit g (d.shadowOf g) .register none := by
  rw [← d.shadowOf_committing g g, Device.committing] at h ⊢
  rw [Device.commitRegister, Device.flag_eq_false hgo, if_neg Bool.false_ne_true, hg]
  dsimp only
  rw [h]
  rfl

end

/-! ### Pending commits -/

/-- The commit of a group is pending. -/
def Device.addCommit (d : Device) (c : PendCommit) : Device := d.modMft fun q => { q with commits := d.mft.commits ++ [c] }

/-- No commit of a group is pending any more. -/
def Device.dropCommit (d : Device) (g : Nat) : Device := d.modMft fun q => { q with commits := d.mft.commits.filter fun x => x.group != g }

theorem Device.pendingCommit_congr {d e : Device} (h : e.mft.commits = d.mft.commits) (g : Nat) : e.pendingCommit g = d.pendingCommit g := by
  rw [Device.pendingCommit, h, Device.pendingCommit]

theorem Device.pendingCommit_addCommit (d : Device) {c : PendCommit} (h : d.pendingCommit c.group = none) :
    (d.addCommit c).pendingCommit c.group = some c := by
  refine List.find?_append.trans ?_
  rw [show d.mft.commits.find? _ = none from h, Option.none_or, List.find?_singleton, if_pos (beq_self_eq_true c.group)]

theorem Device.pendingCommit_dropCommit (d : Device) (g : Nat) : (d.dropCommit g).pendingCommit g = none :=
  List.find?_eq_none.2 fun c hc => by simpa using (List.mem_filter.1 hc).2

/-- A register commit that ends is answered. -/
theorem Device.endCommit_register (d : Device) {c : PendCommit} (h : c.origin = .register) (status : Nat) (fail : Word) :
    d.endCommit c status fail = (d.dropCommit c.group).answerCommit status fail.toNat := by
  rw [Device.endCommit, h]
  rfl

theorem Device.endCommit_shows (d : Device) {c : PendCommit} (h : c.origin = .register) (status : Nat) :
    (d.endCommit c status).live = d.live ∧ (d.endCommit c status).pendingCommit c.group = none ∧
    (d.endCommit c status).get F.MFT_COMMIT_STATUS_STATUS = status % 2 ^ 8 ∧ (d.endCommit c status).get F.MFT_COMMIT_GO = 0 := by
  rw [d.endCommit_register h]
  obtain ⟨hlive, hcommits, hstatus, _, hgo, _, _⟩ := (d.dropCommit c.group).answerCommit_shows status (0 : Word).toNat
  exact ⟨hlive, (Device.pendingCommit_congr hcommits _).trans (d.pendingCommit_dropCommit c.group), hstatus, hgo⟩

theorem Device.commitTimeout_ends (d : Device) {g : Nat} {c : PendCommit} (h : d.pendingCommit g = some c) :
    d.commitTimeout g = d.endCommit c stTimeout := by
  rw [Device.commitTimeout, h]

theorem Device.commitTimeout_none (d : Device) {g : Nat} (h : d.pendingCommit g = none) : d.commitTimeout g = d := by
  rw [Device.commitTimeout, h]

theorem Device.goLiveGroup_none (d : Device) {g : Nat} (h : d.pendingCommit g = none) : d.goLiveGroup g = d := by
  rw [Device.goLiveGroup, h]

theorem Device.groupBoundary_none (d : Device) {g : Nat} (h : d.pendingCommit g = none) : d.groupBoundary g = d := by
  unfold Device.groupBoundary
  extract_lets lane
  split
  · split
    · exact d.goLiveGroup_none h
    · rfl
  · exact d.goLiveGroup_none h

/-- The pool's group and the port map's go live as they stand where the operating point allows. -/
theorem Device.goLiveGroup_whole (d : Device) {g : Nat} (hg : g = 0x0800 ∨ g = 0x0900) {c : PendCommit} (hc : d.pendingCommit g = some c)
    (hop : ((d.makeLive c.words).opShort && decide (d.opMin < (d.makeLive c.words).opMin)) = false) :
    d.goLiveGroup g = (d.makeLive c.words).endCommit c stOk := by
  rw [Device.goLiveGroup, hc]
  dsimp only
  rw [hop, if_neg Bool.false_ne_true]
  obtain rfl | rfl := hg <;> rfl

theorem Device.mft_makeLive (d : Device) (ws : List (Nat × Word)) : (d.makeLive ws).mft = d.mft := foldl_keeps Device.mft _ _ d fun _ _ _ => rfl

theorem Device.groupBoundary_whole (d : Device) {g : Nat} (hg : g = 0x0800 ∨ g = 0x0900) {c : PendCommit} (hc : d.pendingCommit g = some c)
    (hop : (d.makeLive c.words).opShort = false) : d.groupBoundary g = (d.makeLive c.words).endCommit c stOk := by
  refine Eq.trans ?_ (d.goLiveGroup_whole hg hc (by rw [hop]; rfl))
  obtain rfl | rfl := hg <;> rfl

/-- A commit of a group of which none is pending becomes pending, and goes live where nothing makes it wait (R311). -/
theorem Device.acceptCommit_first (d : Device) (c : PendCommit) (h : d.pendingCommit c.group = none) :
    d.acceptCommit c.group c.words c.origin none =
      if (d.addCommit c).boundaryNow c.group then (d.addCommit c).goLiveGroup c.group else d.addCommit c := by
  rw [Device.acceptCommit, h]
  rfl

/-! ### The port map (R163) -/

theorem maskSet_getLsbD (m : BitVec 8) {k : Nat} (hk : k < 8) (b : Bool) (i : Nat) :
    (maskSet m k b).getLsbD i = if i = k then b else m.getLsbD i := by
  unfold maskSet
  split
  · simp only [BitVec.getLsbD_or, BitVec.getLsbD_ofNat, Nat.testBit_two_pow]
    grind
  · simp only [BitVec.getLsbD_and, BitVec.getLsbD_not, BitVec.getLsbD_ofNat, Nat.testBit_two_pow]
    grind

/-- A mask made lane by lane holds what each lane named has. -/
theorem foldl_maskSet_getLsbD (f : Lane → Bool) (n : Lane) (l : List Lane) (m : BitVec 8) :
    (l.foldl (fun (m : BitVec 8) (k : Lane) => maskSet m k (f k)) m).getLsbD n = if n ∈ l then f n else m.getLsbD n := by
  induction l generalizing m with
  | nil => rfl
  | cons k ks ih =>
    rw [List.foldl_cons, ih, maskSet_getLsbD m k.isLt]
    by_cases h : n = k
    · simp [h]
    · simp [h, Fin.val_ne_of_ne h]

/-- A lane runs native exactly where its bit of the native-live mask is set. -/
theorem Device.nativeMask_getLsbD (d : Device) (n : Lane) : d.nativeMask.getLsbD n = d.native n := by
  rw [Device.nativeMask, foldl_maskSet_getLsbD d.native n, if_pos (show n ∈ lanes from List.mem_finRange n)]

/-- The port map's word, live. -/
def Device.mapLive (d : Device) (w : Word) : Device :=
  d.setLiveReg F.BWK_PORT_MAP.addr ((d.liveReg F.BWK_PORT_MAP.addr &&& ~~~ fieldMask 7 0) ||| (w &&& fieldMask 7 0))

theorem stMask_portMap : stMask F.BWK_PORT_MAP.addr = fieldMask 7 0 := by decide +kernel

theorem Device.makeLive_portMap (d : Device) (w : Word) : d.makeLive [(F.BWK_PORT_MAP.addr, w)] = d.mapLive w := by
  rw [Device.makeLive, List.foldl_cons, List.foldl_nil, stMask_portMap]
  rfl

theorem Device.lget_mapLive (d : Device) (w : Word) {f : Fld} (h : f.addr ≠ F.BWK_PORT_MAP.addr) : (d.mapLive w).lget f = d.lget f := by
  rw [Device.lget, Device.mapLive, Device.liveReg_setLiveReg, if_neg h]
  rfl

/-- The port map asks for no operating point. -/
theorem Device.opMin_mapLive (d : Device) (w : Word) : (d.mapLive w).opMin = d.opMin := by
  have hnative : ∀ n : Lane, (d.mapLive w).native n = d.native n := fun n => by
    rw [Device.native, Device.rate, d.lget_mapLive w (by simp only [F.LRX_CTRL_RATE, F.BWK_PORT_MAP]; omega)]
    rfl
  have hawake : ∀ k : HLane, (d.mapLive w).hostAwake k = d.hostAwake k := fun k => by
    have hne : ∀ f : Fld, f.addr = 0x40000 + 0x400 * k.val → f.addr ≠ F.BWK_PORT_MAP.addr := fun f hf => by
      simp only [F.BWK_PORT_MAP]
      omega
    rw [Device.hostAwake, Device.hostLive, d.lget_mapLive w (hne _ rfl), d.lget_mapLive w (hne _ rfl)]
    rfl
  unfold Device.opMin
  rw [d.lget_mapLive w (by decide)]
  simp only [hnative, funext hawake]
  rfl

/-- With no negotiation under way and no native lane, nothing rejects the port map. -/
theorem Device.commitReject_portMap (d : Device) (hneg : d.negRuns = false) (hmask : d.nativeMask = 0) (ws : List (Nat × Word)) :
    (d.committing 0x0900).commitReject 0x0900 ws = none := by
  have hnative : ∀ n : Lane, (d.committing 0x0900).native n = false := fun n => by
    rw [← Device.nativeMask_getLsbD, show (d.committing 0x0900).nativeMask = 0 from hmask]
    exact BitVec.getLsbD_zero
  have hneg' : (d.committing 0x0900).negRuns = false := by
    rw [Device.negRuns, Device.get_congr (d.reg_committing 0x0900 (a := F.BWK_NEG_STATUS_STATE.addr) (by decide))]
    exact hneg
  change (d.committing 0x0900).bwkReject ws = none
  simp [Device.bwkReject, firstFail, hnative, hneg']

theorem Device.boundaryNow_channelTable (d : Device) : d.boundaryNow 0x0600 = false := rfl

theorem Device.boundaryNow_portMap (d : Device) : d.boundaryNow 0x0900 = true := rfl

section
variable (d : Device) (hgo : d.get F.MFT_COMMIT_GO = 0)
include hgo

/-- A register commit that passes its check, of a group of which none is pending. -/
theorem Device.commitRegister_first {g : Nat} (hg : groupExists g = true) (hok : (d.committing g).commitReject g (d.shadowOf g) = none)
    (hnone : d.pendingCommit g = none) {c : PendCommit} (hc : c = { group := g, words := d.shadowOf g, origin := .register }) :
    d.commitRegister g = if ((d.committing g).addCommit c).boundaryNow g then ((d.committing g).addCommit c).goLiveGroup g
      else (d.committing g).addCommit c := by
  subst hc
  rw [d.commitRegister_accepted hgo hg hok]
  exact (d.committing g).acceptCommit_first { group := g, words := d.shadowOf g, origin := .register } hnone

/-- The channel table waits for its boundary. -/
theorem Device.commitRegister_channelTable (hok : (d.committing 0x0600).commitReject 0x0600 (d.shadowOf 0x0600) = none)
    (hnone : d.pendingCommit 0x0600 = none) :
    (d.commitRegister 0x0600).live = d.live ∧ (d.commitRegister 0x0600).get F.MFT_COMMIT_GO = 1 ∧
    (d.commitRegister 0x0600).pendingCommit 0x0600 = some { group := 0x0600, words := d.shadowOf 0x0600, origin := .register } := by
  rw [d.commitRegister_first hgo (by decide) hok hnone rfl, Device.boundaryNow_channelTable, if_neg Bool.false_ne_true]
  exact ⟨rfl, (d.committing_shows 0x0600).1, Device.pendingCommit_addCommit _ hnone⟩

/-- The port map goes live as it stands. -/
theorem Device.commitRegister_portMap (hneg : d.negRuns = false) (hmask : d.nativeMask = 0) (hnone : d.pendingCommit 0x0900 = none) :
    ∃ c : PendCommit, c.origin = .register ∧
      d.commitRegister 0x0900 = (((d.committing 0x0900).addCommit c).mapLive (d.reg F.BWK_PORT_MAP.addr)).endCommit c stOk := by
  obtain ⟨c, hc⟩ : ∃ c : PendCommit, c = { group := 0x0900, words := d.shadowOf 0x0900, origin := .register } := ⟨_, rfl⟩
  have hlive : ∀ e : Device, e.makeLive c.words = e.mapLive (d.reg F.BWK_PORT_MAP.addr) := fun e => by
    rw [hc]
    exact e.makeLive_portMap _
  have hpend : ((d.committing 0x0900).addCommit c).pendingCommit 0x0900 = some c := by
    have h := (d.committing 0x0900).pendingCommit_addCommit (c := c)
    rw [show c.group = 0x0900 by rw [hc]] at h
    exact h hnone
  refine ⟨c, by rw [hc], ?_⟩
  rw [d.commitRegister_first hgo (by decide) (d.commitReject_portMap hneg hmask _) hnone hc, Device.boundaryNow_portMap, if_pos rfl, ← hlive]
  exact Device.goLiveGroup_whole _ (.inr rfl) hpend
    (by rw [hlive, Device.opMin_mapLive, decide_eq_false (Nat.lt_irrefl _), Bool.and_false])

theorem Device.commitRegister_portMap_shows (hneg : d.negRuns = false) (hmask : d.nativeMask = 0) (hnone : d.pendingCommit 0x0900 = none) :
    bitsOf ((d.commitRegister 0x0900).liveReg F.BWK_PORT_MAP.addr) 7 0 = d.get F.BWK_PORT_MAP ∧
    (d.commitRegister 0x0900).get F.MFT_COMMIT_STATUS_STATUS = 0 ∧ (d.commitRegister 0x0900).get F.MFT_COMMIT_GO = 0 ∧
    ∀ a, a ≠ F.BWK_PORT_MAP.addr → (d.commitRegister 0x0900).liveReg a = d.liveReg a := by
  obtain ⟨c, hc, h⟩ := d.commitRegister_portMap hgo hneg hmask hnone
  obtain ⟨hlive, _, hstatus, hgo'⟩ := (((d.committing 0x0900).addCommit c).mapLive (d.reg F.BWK_PORT_MAP.addr)).endCommit_shows hc stOk
  have hread : ∀ a, (d.commitRegister 0x0900).liveReg a = (d.mapLive (d.reg F.BWK_PORT_MAP.addr)).liveReg a := fun a => by
    rw [h, Device.liveReg, hlive]
    rfl
  refine ⟨?_, h ▸ hstatus, h ▸ hgo', fun a ha => ?_⟩
  · rw [hread, Device.mapLive, Device.liveReg_setLiveReg, if_pos rfl]
    exact bitsOf_masked _ _ (by decide) (by decide)
  · rw [hread, Device.mapLive, Device.liveReg_setLiveReg, if_neg ha]

end

end Sys2Proof.Machine

end

section
/-! A lane's trim boundary: the gain that waits is taken up, and nothing else that is due there moves it (R82, R83, R500, R501). -/

namespace Sys2Proof.Machine

theorem exec_trimBoundary (n : Lane) (start : Bool) (s : State) :
    exec (.trimBoundary ⟨n, start⟩) s = .next { s with dev := s.dev.rxTrimBoundary n start } := rfl

/-! ### General counters -/

/-- What neither a register nor the posting of an event holds, counting an event keeps. -/
theorem Device.pmu_keeps {β : Type} (φ : Device → β) (hreg : ∀ (d : Device) (a : Nat) (w : Word), φ (d.setReg a w) = φ d)
    (hpost : ∀ {d e : Device}, Posted d e → φ e = φ d) (d : Device) (ev unit n : Nat) : φ (d.pmu ev unit n) = φ d := by
  have hadd : ∀ l, φ (d.pmuAdd ev unit n l).1 = φ d := fun l => by
    induction l with
    | nil => rfl
    | cons i is ih =>
      unfold Device.pmuAdd
      split
      next e ws he =>
      rw [he] at ih
      split
      · exact ((hreg _ _ _).trans (hreg _ _ _)).trans ih
      · exact ih
  have hoverflow : ∀ (s : Device) (i : Nat), φ (s.pmuOverflow i) = φ s := fun s i => by
    unfold Device.pmuOverflow
    extract_lets s1
    split
    · exact (Device.raise_keeps φ (fun d f v => hreg d _ _) hpost s1 _ _).trans (hreg s _ _)
    · exact hreg s _ _
  rw [d.pmu_eq]
  split
  · rfl
  · exact (foldl_keeps φ _ _ _ fun s i _ => hoverflow s i).trans (hadd _)

/-! ### What leaves a lane's gain alone -/

theorem Posted.rx {d e : Device} (h : Posted d e) : e.rx = d.rx := by
  obtain ⟨_, _, _, _, _, _, _, rfl⟩ := h.rest
  rfl

@[simp] theorem Device.rxLane_modRx (d : Device) (n : Lane) (f : RxLane → RxLane) : (d.modRx n f).rx.get n = f (d.rx.get n) :=
  Vector.getElem_set_self n.isLt

/-- `e` has the gain code of `d` on a lane, its count of steps up, the gain changes that wait there, and the pending commits. -/
structure KeepsGain (n : Lane) (d e : Device) : Prop where
  gain : e.get (F.LRX_STATUS_GAIN_CUR n) = d.get (F.LRX_STATUS_GAIN_CUR n)
  steps : e.get (F.LRX_GAIN_STEPS_UP n) = d.get (F.LRX_GAIN_STEPS_UP n)
  gainSet : (e.rx.get n).gainSet = (d.rx.get n).gainSet
  step : (e.rx.get n).step = (d.rx.get n).step
  commits : e.mft.commits = d.mft.commits

theorem KeepsGain.refl (n : Lane) (d : Device) : KeepsGain n d d := ⟨rfl, rfl, rfl, rfl, rfl⟩

theorem KeepsGain.trans {n : Lane} {d e f : Device} (h : KeepsGain n d e) (k : KeepsGain n e f) : KeepsGain n d f :=
  ⟨k.gain.trans h.gain, k.steps.trans h.steps, k.gainSet.trans h.gainSet, k.step.trans h.step, k.commits.trans h.commits⟩

theorem KeepsGain.foldl {α : Type} {n : Lane} {f : Device → α → Device} {l : List α} (h : ∀ s, ∀ x ∈ l, KeepsGain n s (f s x))
    (d : Device) : KeepsGain n d (l.foldl f d) :=
  List.foldlRecOn (motive := KeepsGain n d) l f (KeepsGain.refl n d) fun s hs x hx => hs.trans (h s x hx)

/-- A register that shows neither a lane's gain nor its count of steps. -/
def offGain (n : Lane) (a : Nat) : Prop := a ≠ (F.LRX_STATUS n).addr ∧ a ≠ (F.LRX_GAIN_STEPS n).addr

/-- The lane's other registers, by their places. -/
theorem offGain_lane (n : Lane) {b : Nat} (hs : b ≠ 0x10004) (hg : b ≠ 0x10228) : offGain n (b + 0x2000 * n.val) := by
  simp only [offGain, F.LRX_STATUS, F.LRX_GAIN_STEPS]
  omega

section
variable (d : Device) (n : Lane)

theorem Device.setReg_keepsGain {a : Nat} (h : offGain n a) (w : Word) : KeepsGain n d (d.setReg a w) :=
  ⟨Device.get_congr (d.reg_setReg_of_ne w h.1.symm), Device.get_congr (d.reg_setReg_of_ne w h.2.symm), rfl, rfl, rfl⟩

theorem Device.set_keepsGain {f : Fld} (h : offGain n f.addr) (v : Nat) : KeepsGain n d (d.set f v) := d.setReg_keepsGain n h _

/-- Another field of the lane's status. -/
theorem Device.setStatus_keepsGain {f : Fld} (ha : f.addr = (F.LRX_STATUS n).addr) (hf : f.beside (F.LRX_STATUS_GAIN_CUR n) = true) (v : Nat) :
    KeepsGain n d (d.set f v) := by
  refine ⟨d.get_set_beside _ _ v hf, d.get_set_elsewhere _ _ v ?_, rfl, rfl, rfl⟩
  rw [ha]
  simp only [F.LRX_GAIN_STEPS_UP, F.LRX_STATUS]
  omega

theorem Device.modRx_keepsGain (f : RxLane → RxLane) (hg : ∀ r, (f r).gainSet = r.gainSet) (hs : ∀ r, (f r).step = r.step) :
    KeepsGain n d (d.modRx n f) :=
  ⟨rfl, rfl, (congrArg _ (d.rxLane_modRx n f)).trans (hg _), (congrArg _ (d.rxLane_modRx n f)).trans (hs _), rfl⟩

/-- What posting an event and counting one leave of a lane and of the commits. -/
theorem Device.raise_keepsGain {f : Fld} (hf : offGain n f.addr) (hok : f.ok) (h1 : f.hi = f.lo) : KeepsGain n d (d.raise f) := by
  have hrx : (d.raise f).rx = d.rx :=
    Device.raise_keeps Device.rx (fun _ _ _ => rfl) Posted.rx d f 0
  have hreg : ∀ b, 0x10000 ≤ b → b + 0x2000 * n.val ∉ eventRegs := fun b hb =>
    not_mem_eventRegs_of_le (Nat.le_trans (by decide) (Nat.le_trans hb (Nat.le_add_right b _)))
  exact ⟨Device.get_congr (d.reg_raise 0 hok h1 (hreg 0x10004 (by decide)) hf.1.symm),
    Device.get_congr (d.reg_raise 0 hok h1 (hreg 0x10228 (by decide)) hf.2.symm), by rw [hrx], by rw [hrx],
    Device.raise_keeps (fun d => d.mft.commits) (fun _ _ _ => rfl) Posted.commits d f 0⟩

theorem Device.pmu_keepsGain (ev unit k : Nat) : KeepsGain n d (d.pmu ev unit k) := by
  have hrx : (d.pmu ev unit k).rx = d.rx :=
    Device.pmu_keeps Device.rx (fun _ _ _ => rfl) Posted.rx d ev unit k
  have hreg : ∀ b, 0x10000 ≤ b → (d.pmu ev unit k).reg (b + 0x2000 * n.val) = d.reg (b + 0x2000 * n.val) := fun b hb =>
    d.reg_pmu ev unit k (Nat.le_trans (by decide) (Nat.le_trans hb (Nat.le_add_right b _)))
  exact ⟨Device.get_congr (hreg 0x10004 (by decide)), Device.get_congr (hreg 0x10228 (by decide)), by rw [hrx], by rw [hrx],
    Device.pmu_keeps (fun d => d.mft.commits) (fun _ _ _ => rfl) Posted.commits d ev unit k⟩

/-! ### Coefficients, trims and the DC estimates (R49, R50, R494) -/

theorem Device.showCoefs_keepsGain : KeepsGain n d (d.showCoefs n) := by
  refine ((KeepsGain.foldl (fun s k hk => ?_) _).trans (KeepsGain.foldl (fun s k hk => ?_) _)).trans (KeepsGain.foldl (fun s k hk => ?_) _)
  all_goals
    have hk := List.mem_range.1 hk
    refine s.setReg_keepsGain n ?_ _
    simp only [offGain, F.LRX_STATUS, F.LRX_GAIN_STEPS, F.LRX_FFE_TAP, F.LRX_MLSE_G, F.LRX_LEVEL]
    omega

theorem Device.setCoefs_keepsGain (c : Coefs) : KeepsGain n d (d.setCoefs n c) :=
  (d.modRx_keepsGain n (fun r => { r with coef := c }) (fun _ => rfl) fun _ => rfl).trans (Device.showCoefs_keepsGain _ n)

theorem Device.setDc_keepsGain (m1 m2 : Int) : KeepsGain n d (d.setDc n m1 m2) :=
  (d.set_keepsGain n (f := F.LRX_DCB_EST n) (offGain_lane n (by decide) (by decide)) _).trans
    (Device.modRx_keepsGain _ n (fun r => { r with dcb2 := m2 }) (fun _ => rfl) fun _ => rfl)

theorem Device.dcNote_keepsGain (c : DcChange) : KeepsGain n d (d.dcNote n c) := by
  unfold Device.dcNote
  split
  · exact KeepsGain.refl n d
  · exact d.modRx_keepsGain n (fun r => { r with dcLog := r.dcLog ++ [c] }) (fun _ => rfl) fun _ => rfl

theorem Device.spoil_keepsGain : KeepsGain n d (d.spoil n) :=
  d.modRx_keepsGain n (fun r => { r with estSpoiled := true }) (fun _ => rfl) fun _ => rfl

theorem Device.setTrim_keepsGain (j : Fin 64) (w : Word) : KeepsGain n d (d.setTrim n j w) := by
  refine (d.setReg_keepsGain n ?_ w).trans
    (Device.modRx_keepsGain _ n (fun r => { r with trimLive := r.trimLive.set j w }) (fun _ => rfl) fun _ => rfl)
  simp only [offGain, F.LRX_STATUS, F.LRX_GAIN_STEPS, F.LRX_ADC_TRIM]
  omega

theorem Device.setTia_keepsGain (v : Int) : KeepsGain n d (d.setTia n v) :=
  (((d.set_keepsGain n (f := F.LRX_TIA_TRIM n) (offGain_lane n (by decide) (by decide)) _).trans (Device.setDc_keepsGain _ n _ _)).trans
    (Device.modRx_keepsGain _ n (fun r => { r with tiaLive := ofSigned 8 v }) (fun _ => rfl) fun _ => rfl)).trans (Device.dcNote_keepsGain _ n _)

theorem Device.applyTrims_keepsGain : KeepsGain n d (d.applyTrims n) := by
  unfold Device.applyTrims
  extract_lets r d1 d2 d3
  have h1 : KeepsGain n d d1 := KeepsGain.foldl (fun s set _ => KeepsGain.foldl (fun t j _ => t.setTrim_keepsGain n j _) s) d
  have h2 : KeepsGain n d1 d2 := by
    simp only [d2]
    split
    · exact d1.setTia_keepsGain n _
    · exact KeepsGain.refl n d1
  have h3 : KeepsGain n d2 d3 := KeepsGain.foldl (fun s w _ => by
    split
    · exact s.setTrim_keepsGain n _ _
    · exact s.setTia_keepsGain n _) d2
  split
  · exact KeepsGain.refl n d
  · have h4 := d3.modRx_keepsGain n (fun r => { r with trimSets := [], tiaDue := none, trimWrites := [] }) (fun _ => rfl) fun _ => rfl
    exact ((((h1.trans h2).trans h3).trans h4).trans
      (Device.set_keepsGain _ n (f := F.LRX_CAL_STATUS_SET_PENDING n) (offGain_lane n (by decide) (by decide)) _)).trans (Device.spoil_keepsGain _ n)

/-! ### What else is due at a boundary (R31, R192, R311) -/

theorem Device.laneEnforce_keepsGain : KeepsGain n d (d.laneEnforce n) := by
  unfold Device.laneEnforce
  extract_lets e d1 t d2
  have h1 : KeepsGain n d d1 := ⟨rfl, rfl, rfl, rfl, rfl⟩
  split
  · exact h1
  · exact ((h1.trans (d1.set_keepsGain n (f := F.LRX_FFE_CFG_TAPS24 n) (offGain_lane n (by decide) (by decide)) _)).trans
      (Device.setStatus_keepsGain _ n (f := F.LRX_STATUS_TAPS24 n) rfl rfl _)).trans (d2.setCoefs_keepsGain n _)

theorem Device.rxPllTrack_keepsGain : KeepsGain n d (d.rxPllTrack n) := by
  unfold Device.rxPllTrack Device.pllTrack
  extract_lets d1 up c
  have h1 : KeepsGain n d d1 := ⟨rfl, rfl, rfl, rfl, rfl⟩
  split
  · exact h1
  · split
    · exact (h1.trans (d1.set_keepsGain n (f := F.LRX_CAL_STATUS_PLL_BAND_LIMIT n) (offGain_lane n (by decide) (by decide)) _)).trans
        (Device.raise_keepsGain _ n (f := F.LRX_CAL_INT_STATUS_PLL_BAND_LIMIT n) (offGain_lane n (by decide) (by decide))
          (of_decide_eq_true rfl) rfl)
    · exact h1.trans (d1.set_keepsGain n (f := F.LRX_PLL_CAL_FINE n) (offGain_lane n (by decide) (by decide)) _)

theorem Device.rxCommits_none (h : d.mft.commits = []) : d.rxCommits n = d := by
  have hnone : ∀ g, d.pendingCommit g = none := fun g => by rw [Device.pendingCommit, h]; rfl
  rw [Device.rxCommits, hnone]
  dsimp only
  rw [hnone]

theorem Device.rxBoundaryAll_keepsGain (h : d.mft.commits = []) : KeepsGain n d (d.rxBoundaryAll n) := by
  have hk := (d.laneEnforce_keepsGain n).trans (Device.applyTrims_keepsGain _ n)
  rw [Device.rxBoundaryAll, Device.rxCommits_none _ n (hk.commits.trans h)]
  exact hk

/-! ### The boundary (R82, R83) -/

/-- The boundary once the lane has its gain: no change of gain waits any more, and what else is due takes effect. -/
def Device.afterGain (before : Nat) (start : Bool) : Device :=
  let d2 := d.modRx n fun r =>
    { r with step := none, gainSet := none, stepInWindow := r.stepInWindow || (!start && d.get (F.LRX_STATUS_GAIN_CUR n) != before) }
  let d3 := (d2.rxBoundaryAll n).rxPllTrack n
  d3.modRx n fun r => if d3.rate n = 0 then { r with saved := r.coef } else { r with savedNext := some r.coef }

theorem Device.afterGain_shows (h : d.mft.commits = []) (before : Nat) (start : Bool) :
    (d.afterGain n before start).get (F.LRX_STATUS_GAIN_CUR n) = d.get (F.LRX_STATUS_GAIN_CUR n) ∧
    (d.afterGain n before start).get (F.LRX_GAIN_STEPS_UP n) = d.get (F.LRX_GAIN_STEPS_UP n) ∧
    ((d.afterGain n before start).rx.get n).gainSet = none ∧ ((d.afterGain n before start).rx.get n).step = none := by
  unfold Device.afterGain
  extract_lets d2 d3
  have h3 : KeepsGain n d2 d3 := (d2.rxBoundaryAll_keepsGain n h).trans (Device.rxPllTrack_keepsGain _ n)
  obtain ⟨hgain, hsteps, hset, hstep, _⟩ := h3.trans
    (d3.modRx_keepsGain n (fun r => if d3.rate n = 0 then { r with saved := r.coef } else { r with savedNext := some r.coef })
      (fun _ => by split <;> rfl) fun _ => by split <;> rfl)
  exact ⟨hgain, hsteps, hset.trans (by rw [d.rxLane_modRx]), hstep.trans (by rw [d.rxLane_modRx])⟩

/-- The gain change that waits is made: an automatic step, or without AUTO a GAIN_SET write. -/
def Device.takeGain : Device :=
  if d.flag (F.LRX_TIA_AUTO n) then
    match (d.rx.get n).step with
    | some up => d.gainStep n up
    | none => d
  else match (d.rx.get n).gainSet with
    | some g => d.setGain n g
    | none => d

theorem Device.rxTrimBoundary_eq (h : d.tracking n = true) (start : Bool) :
    d.rxTrimBoundary n start = (d.takeGain n).afterGain n (d.get (F.LRX_STATUS_GAIN_CUR n)) start := by
  rw [Device.rxTrimBoundary, h]
  rfl

theorem Device.rxTrimBoundary_none (h : d.tracking n = false) (start : Bool) : d.rxTrimBoundary n start = d := by
  rw [Device.rxTrimBoundary, h]
  rfl

/-- A new gain code scales what the old one had measured; nothing else of the gain is touched. -/
theorem Device.setGain_shows {g : Nat} (hg : g < 16) :
    (d.setGain n g).get (F.LRX_STATUS_GAIN_CUR n) = g ∧ (d.setGain n g).get (F.LRX_GAIN_STEPS_UP n) = d.get (F.LRX_GAIN_STEPS_UP n) ∧
    (d.setGain n g).mft.commits = d.mft.commits := by
  unfold Device.setGain
  extract_lets old q r d1
  split
  · next h => exact ⟨h.symm, rfl, rfl⟩
  · obtain ⟨hgain, hsteps, _, _, hcommits⟩ := (((Device.setDc_keepsGain (d.set (F.LRX_STATUS_GAIN_CUR n) g) n _ _).trans
      (d1.dcNote_keepsGain n _)).trans (Device.setCoefs_keepsGain _ n _)).trans (Device.spoil_keepsGain _ n)
    refine ⟨hgain.trans ?_, hsteps.trans (d.get_set_elsewhere _ _ _ ?_), hcommits⟩
    · rw [d.get_set_same _ _ (of_decide_eq_true rfl)]
      exact Nat.mod_eq_of_lt hg
    · simp only [F.LRX_GAIN_STEPS_UP, F.LRX_STATUS_GAIN_CUR]
      omega

/-- A step up: the new code, TIA_FLOOR cleared, and the step counted. -/
def Device.stepUp : Device :=
  ((d.setGain n (d.get (F.LRX_STATUS_GAIN_CUR n) + 1)).set (F.LRX_STATUS_TIA_FLOOR n) 0).bump (F.LRX_GAIN_STEPS_UP n)

theorem Device.stepUp_shows (hlt : d.get (F.LRX_STATUS_GAIN_CUR n) < 15) :
    (d.stepUp n).get (F.LRX_STATUS_GAIN_CUR n) = d.get (F.LRX_STATUS_GAIN_CUR n) + 1 ∧
    (d.stepUp n).get (F.LRX_GAIN_STEPS_UP n) = (d.get (F.LRX_GAIN_STEPS_UP n) + 1) % 2 ^ 16 ∧ (d.stepUp n).mft.commits = d.mft.commits := by
  obtain ⟨hgain, hsteps, hcommits⟩ := d.setGain_shows n (g := d.get (F.LRX_STATUS_GAIN_CUR n) + 1) (by omega)
  unfold Device.stepUp
  generalize d.setGain n (d.get (F.LRX_STATUS_GAIN_CUR n) + 1) = e at hgain hsteps hcommits ⊢
  have hfloor : KeepsGain n e (e.set (F.LRX_STATUS_TIA_FLOOR n) 0) :=
    e.setStatus_keepsGain n (f := F.LRX_STATUS_TIA_FLOOR n) rfl rfl 0
  have hne : (F.LRX_STATUS_GAIN_CUR n).addr ≠ (F.LRX_GAIN_STEPS_UP n).addr := by
    simp only [F.LRX_GAIN_STEPS_UP, F.LRX_STATUS_GAIN_CUR]
    omega
  refine ⟨?_, ?_, hcommits⟩
  · rw [Device.bump, Device.get_set_elsewhere _ _ _ _ hne, hfloor.gain, hgain]
  · rw [Device.bump, Device.get_set_same _ _ _ (of_decide_eq_true rfl), hfloor.steps, hsteps]
    rfl

/-- A step up below the top of the range is applied and counted. -/
theorem Device.gainStep_up (hlt : d.get (F.LRX_STATUS_GAIN_CUR n) < 15) :
    (d.gainStep n true).get (F.LRX_STATUS_GAIN_CUR n) = d.get (F.LRX_STATUS_GAIN_CUR n) + 1 ∧
    (d.gainStep n true).get (F.LRX_GAIN_STEPS_UP n) = (d.get (F.LRX_GAIN_STEPS_UP n) + 1) % 2 ^ 16 ∧
    (d.gainStep n true).mft.commits = d.mft.commits := by
  have hbelow : ¬ ((true && d.get (F.LRX_STATUS_GAIN_CUR n) == 15) || (!true && d.get (F.LRX_STATUS_GAIN_CUR n) == 0)) = true := by
    simp [Nat.ne_of_lt hlt]
  have heq : d.gainStep n true =
      (((d.stepUp n).modRx n fun r => { r with upRun := 0 }).raise (F.LRX_INT_STATUS_GAIN_STEP n)).pmu 0x0102 n := by
    rw [Device.gainStep, if_neg hbelow]
    simp only [↓reduceIte]
    rfl
  have hkeep := (((d.stepUp n).modRx_keepsGain n (fun r => { r with upRun := 0 }) (fun _ => rfl) fun _ => rfl).trans
    (Device.raise_keepsGain _ n (f := F.LRX_INT_STATUS_GAIN_STEP n) (offGain_lane n (by decide) (by decide)) (of_decide_eq_true rfl) rfl)).trans
    (Device.pmu_keepsGain _ n 0x0102 n 1)
  obtain ⟨hgain, hsteps, hcommits⟩ := d.stepUp_shows n hlt
  rw [heq]
  exact ⟨hkeep.gain.trans hgain, hkeep.steps.trans hsteps, hkeep.commits.trans hcommits⟩

section
variable (ht : d.tracking n = true) (hc : d.mft.commits = []) (start : Bool)
include ht hc

/-- A GAIN_SET write that waits is taken up (R82). -/
theorem Device.rxTrimBoundary_manual {g : Nat} (hg : g < 16) (ha : d.get (F.LRX_TIA_AUTO n) = 0) (hs : (d.rx.get n).gainSet = some g) :
    (d.rxTrimBoundary n start).get (F.LRX_STATUS_GAIN_CUR n) = g ∧ ((d.rxTrimBoundary n start).rx.get n).gainSet = none := by
  have htake : d.takeGain n = d.setGain n g := by rw [Device.takeGain, Device.flag_eq_false ha, if_neg Bool.false_ne_true, hs]
  obtain ⟨hgain, _, hcommits⟩ := d.setGain_shows n hg
  obtain ⟨hgain', _, hset, _⟩ := (d.setGain n g).afterGain_shows n (hcommits.trans hc) (d.get (F.LRX_STATUS_GAIN_CUR n)) start
  rw [d.rxTrimBoundary_eq n ht, htake]
  exact ⟨hgain'.trans hgain, hset⟩

/-- A step up that waits is applied (R83). -/
theorem Device.rxTrimBoundary_step (ha : d.get (F.LRX_TIA_AUTO n) = 1) (hs : (d.rx.get n).step = some true)
    (hlt : d.get (F.LRX_STATUS_GAIN_CUR n) < 15) :
    (d.rxTrimBoundary n start).get (F.LRX_STATUS_GAIN_CUR n) = d.get (F.LRX_STATUS_GAIN_CUR n) + 1 ∧
    (d.rxTrimBoundary n start).get (F.LRX_GAIN_STEPS_UP n) = (d.get (F.LRX_GAIN_STEPS_UP n) + 1) % 2 ^ 16 ∧
    ((d.rxTrimBoundary n start).rx.get n).step = none := by
  have htake : d.takeGain n = d.gainStep n true := by rw [Device.takeGain, Device.flag_eq_true ha, if_pos rfl, hs]
  obtain ⟨hgain, hsteps, hcommits⟩ := d.gainStep_up n hlt
  obtain ⟨hgain', hsteps', _, hstep⟩ := (d.gainStep n true).afterGain_shows n (hcommits.trans hc) (d.get (F.LRX_STATUS_GAIN_CUR n)) start
  rw [d.rxTrimBoundary_eq n ht, htake]
  exact ⟨hgain'.trans hgain, hsteps'.trans hsteps, hstep⟩

end

end

end Sys2Proof.Machine

open Sys2Proof Sys2Proof.Machine

/-- Settles O33: a commit by register case by case, its boundary and its time limit, and the trim boundary of a lane. -/
theorem stagedGroups : Obligations.StagedGroups := by
  intro s
  refine ⟨fun g => ⟨fun hgo => ?_, fun hgo hg => ?_, fun a hgo hg hrej => ?_, fun c hc hgroup horigin => ?_, fun hnone => ⟨?_, ?_⟩⟩,
    fun hgo hneg hmask hnone => ?_, fun hgo hnone hok => ?_, fun g c hg hc hgroup horigin hop => ?_,
    fun n start => ⟨fun ht => ?_, fun g hg ht hc ha hset => ?_, fun ht hc ha hstep hlt => ?_⟩⟩
  · exact Does.of_exec (by rw [exec_mftCommit, s.dev.commitRegister_busy hgo])
  · refine Gives.of_exec (exec_mftCommit g s) ?_
    rw [s.dev.commitRegister_absent hgo hg]
    obtain ⟨hlive, _, hstatus, _, hgo', hshown, hdone⟩ := (s.dev.committing g.toNat).answerCommit_shows stBadOperand 0
    exact ⟨hlive, hstatus, hgo', hshown.trans ((s.dev.committing_shows g.toNat).2.trans (Nat.mod_eq_of_lt g.isLt)), hdone⟩
  · refine Gives.of_exec (exec_mftCommit g s) ?_
    rw [s.dev.commitRegister_rejected hgo hg hrej]
    obtain ⟨hlive, _, hstatus, hfail, hgo', _, _⟩ := (s.dev.committing g.toNat).answerCommit_shows stStageReject a
    exact ⟨hlive, hstatus, hfail, hgo'⟩
  · refine Gives.of_exec (exec_commitTimeout g s) ?_
    rw [s.dev.commitTimeout_ends hc, ← hgroup]
    exact s.dev.endCommit_shows horigin stTimeout
  · exact Does.of_exec (by rw [exec_commitTimeout, s.dev.commitTimeout_none hnone])
  · exact Does.of_exec (by rw [exec_stagedGroupLive, s.dev.groupBoundary_none hnone])
  · exact Gives.of_exec (exec_mftCommit 0x0900 s) (s.dev.commitRegister_portMap_shows hgo hneg hmask hnone)
  · exact Gives.of_exec (exec_mftCommit 0x0600 s) (s.dev.commitRegister_channelTable hgo hok hnone)
  · refine Gives.of_exec (exec_stagedGroupLive g s) ?_
    have hg' : g.toNat = 0x0800 ∨ g.toNat = 0x0900 := hg.imp (congrArg BitVec.toNat) (congrArg BitVec.toNat)
    obtain ⟨hlive, hpend, hstatus, _⟩ := (s.dev.makeLive c.words).endCommit_shows horigin stOk
    rw [s.dev.groupBoundary_whole hg' hc hop, ← hgroup]
    exact ⟨hlive, hpend, hstatus⟩
  · exact Does.of_exec (by rw [exec_trimBoundary, s.dev.rxTrimBoundary_none n ht])
  · exact Gives.of_exec (exec_trimBoundary n start s) (s.dev.rxTrimBoundary_manual n ht hc start hg ha hset)
  · exact Gives.of_exec (exec_trimBoundary n start s) (s.dev.rxTrimBoundary_step n ht hc start ha hstep hlt)

end

section
/-! The watchdog: its kick, its half period, its expiry and its lock (R383 to R386). -/

namespace Sys2Proof.Machine

theorem exec_wdtKick (w : Word) (s : State) : exec (.wdtKick w) s = .next { s with dev := s.dev.wdtKick w } := rfl
theorem exec_watchdogExpiry (pc : Word) (s : State) : exec (.watchdogExpiry pc) s = .next { s with dev := s.dev.watchdogExpiry pc } := rfl
theorem exec_wdtHalf (s : State) : exec .wdtHalf s = .next { s with dev := s.dev.wdtHalf } := rfl
theorem exec_wdtLock (s : State) : exec .wdtLock s = .next { s with dev := s.dev.set F.SYS_WDT_CTRL_LOCK 1 } := rfl

/-- The processor stands, its program counter is captured, and a full reset with cause 3 is due. -/
def Device.wdtStopped (d : Device) (pc : Word) : Device :=
  (d.setReg F.SYS_WDT_CAPTURE.addr pc).modSup fun q => { q with procRun := false, due := some 3 }

/-- A watchdog that runs is on. -/
theorem Device.wdtOn_of_runs {d : Device} (h : d.wdtRuns = true) : d.wdtOn = true := (Bool.and_eq_true_iff.1 h).1

theorem Device.wdtExpire_runs (d : Device) (pc : Word) (h : d.wdtRuns = true) (hdue : d.sup.due = none) : d.wdtExpire pc = d.wdtStopped pc := by
  rw [Device.wdtExpire, Device.wdtOn_of_runs h, hdue]
  rfl

theorem Device.wdtKick_key (d : Device) : d.wdtKick 0x0000C35A = d := if_pos rfl

/-- Another value than the key captures a program counter that the command does not bring. -/
theorem Device.wdtKick_other (d : Device) {w : Word} (hw : w ≠ 0x0000C35A) (h : d.wdtRuns = true) (hdue : d.sup.due = none) :
    d.wdtKick w = d.draw.wdtStopped (Config.freeWord d.draws) :=
  (if_neg hw).trans (d.draw.wdtExpire_runs _ h hdue)

theorem Device.watchdogExpiry_runs (d : Device) (pc : Word) (h : d.wdtRuns = true) (hdue : d.sup.due = none) :
    d.watchdogExpiry pc = d.wdtStopped pc := (if_pos h).trans (d.wdtExpire_runs pc h hdue)

theorem Device.watchdogExpiry_stopped (d : Device) (pc : Word) (h : d.wdtRuns = false) : d.watchdogExpiry pc = d :=
  if_neg (Bool.eq_false_iff.1 h)

theorem Device.wdtHalf_runs (d : Device) (h : d.wdtRuns = true) : d.wdtHalf = d.raise F.SYS_INT_STATUS_WDT_HALF := if_pos h

theorem Device.wdtHalf_stopped (d : Device) (h : d.wdtRuns = false) : d.wdtHalf = d := if_neg (Bool.eq_false_iff.1 h)

end Sys2Proof.Machine

open Sys2Proof Sys2Proof.Machine

/-- Settles O42, command by command: a kick that is not the key and an expiry both end in `wdtStopped`. -/
theorem watchdog : Obligations.Watchdog := by
  intro s
  refine ⟨.of_exec ?_, fun w hw h hdue => .of_exec (exec_wdtKick w s) ?_, fun pc h hdue => .of_exec (exec_watchdogExpiry pc s) ?_,
    fun pc h => .of_exec ?_, fun h => .of_raise ?_ (of_decide_eq_true rfl) rfl, fun h => .of_exec ?_, .of_exec (exec_wdtLock s)⟩
  · rw [exec_wdtKick, s.dev.wdtKick_key]
  · rw [s.dev.wdtKick_other hw h hdue]
    exact ⟨rfl, rfl⟩
  · rw [s.dev.watchdogExpiry_runs pc h hdue]
    exact ⟨rfl, rfl, (s.dev.reg_setReg _ _ pc).trans (if_pos rfl), fun a ha => s.dev.reg_setReg_of_ne pc ha⟩
  · rw [exec_watchdogExpiry, s.dev.watchdogExpiry_stopped pc h]
  · rw [exec_wdtHalf, s.dev.wdtHalf_runs h]
  · rw [exec_wdtHalf, s.dev.wdtHalf_stopped h]

end

section
/-! Supervision and the running image: what the operations of a start-up and the entry into the safe state leave of them (R372, R374, R390). -/

namespace Sys2Proof.Machine

/-! ### Supervision, the image, and SYS_BOOT_STATUS -/

/-- The state of supervision, and the slot and the SVN of the image that runs. -/
def Device.bootedAs (d : Device) : Sup × Nat × Nat := (d.sup, d.sec.slot, d.sec.svnRun)

/-- The same, with what SYS_BOOT_STATUS shows. -/
def Device.bootShown (d : Device) : (Sup × Nat × Nat) × Word := (d.bootedAs, d.reg F.SYS_BOOT_STATUS.addr)

@[simp] theorem Device.bootedAs_set (d : Device) (f : Fld) (v : Nat) : (d.set f v).bootedAs = d.bootedAs := rfl
@[simp] theorem Device.bootShown_modTx (d : Device) (n : Lane) (f : TxLane → TxLane) : (d.modTx n f).bootShown = d.bootShown := rfl
@[simp] theorem Device.bootShown_modRx (d : Device) (n : Lane) (f : RxLane → RxLane) : (d.modRx n f).bootShown = d.bootShown := rfl
@[simp] theorem Device.bootShown_modMon (d : Device) (f : Mon → Mon) : (d.modMon f).bootShown = d.bootShown := rfl
@[simp] theorem Device.bootShown_draw (d : Device) (n : Nat) : (d.draw n).bootShown = d.bootShown := rfl

@[simp] theorem Device.bootedAs_raise (d : Device) (f : Fld) (data : Word) : (d.raise f data).bootedAs = d.bootedAs :=
  Device.raise_keeps Device.bootedAs (fun _ _ _ => rfl) (fun ⟨⟨_, _, _, _, _, _, _, he⟩, _, _, _, _⟩ => he ▸ rfl) d f data

/-- A write above SYS_BOOT_STATUS, where all but two registers lie. -/
theorem Device.bootShown_set (d : Device) {f : Fld} (h : F.SYS_BOOT_STATUS.addr < f.addr) (v : Nat) : (d.set f v).bootShown = d.bootShown :=
  Prod.ext rfl (d.reg_set_of_ne f v (Nat.ne_of_lt h))

theorem Device.bootShown_raise (d : Device) {f : Fld} (h : F.SYS_BOOT_STATUS.addr < f.addr) (hok : f.ok) (h1 : f.hi = f.lo) (data : Word) :
    (d.raise f data).bootShown = d.bootShown :=
  Prod.ext (d.bootedAs_raise f data) (d.reg_raise data hok h1 (by decide) (Nat.ne_of_lt h))

theorem Device.sup_of_bootShown {d e : Device} (h : e.bootShown = d.bootShown) : e.sup = d.sup := congrArg (fun x => x.1.1) h

theorem Device.get_of_bootShown {d e : Device} (h : e.bootShown = d.bootShown) {f : Fld} (hf : f.addr = F.SYS_BOOT_STATUS.addr) :
    e.get f = d.get f := by
  have hreg : e.reg F.SYS_BOOT_STATUS.addr = d.reg F.SYS_BOOT_STATUS.addr := congrArg Prod.snd h
  exact Device.get_congr (hf ▸ hreg)

/-! ### Manifests -/

@[simp] theorem Device.bootShown_resultWord (d : Device) (stated : Bool) (w : Word) : (d.resultWord stated w).1.bootShown = d.bootShown := by
  unfold Device.resultWord
  split <;> rfl

@[simp] theorem Device.bootShown_finish (d : Device) (m : Manifest) (status : Nat) (r0 r1 : Word) :
    (d.finish m status r0 r1).bootShown = d.bootShown :=
  (Device.bootShown_resultWord _ _ _).trans (d.bootShown_resultWord _ _)

@[simp] theorem Device.bootShown_settle (d : Device) (p : Goal → Bool) (status : Nat) (r0 r1 : Word) :
    (d.settle p status r0 r1).bootShown = d.bootShown :=
  foldl_keeps Device.bootShown _ _ _ fun s w _ => s.bootShown_finish w.man status r0 r1

/-! ### A lane's transmitter -/

@[simp] theorem Device.bootShown_pilotTx (d : Device) (n : Lane) : (d.pilotTx n).bootShown = d.bootShown := by
  unfold Device.pilotTx
  extract_lets on
  split <;> rfl

@[simp] theorem Device.bootShown_setInject (d : Device) (n : Lane) (v : Nat) : (d.setInject n v).bootShown = d.bootShown := by
  rw [Device.setInject, Device.bootShown_pilotTx, Device.bootShown_modTx]
  exact (Device.bootShown_set _ (f := F.LTX_STATUS_PILOT_LVL n) (Nat.lt_add_right _ (by decide)) _).trans
    (d.bootShown_set (f := F.LTX_STATUS_PILOT_LF n) (Nat.lt_add_right _ (by decide)) _)

@[simp] theorem Device.bootShown_aimInject (d : Device) (n : Lane) : (d.aimInject n).bootShown = d.bootShown := by
  unfold Device.aimInject
  extract_lets a
  split
  · rfl
  · split
    · rfl
    · exact d.bootShown_setInject n a

@[simp] theorem Device.bootShown_injectMove (d : Device) (n : Lane) : (d.injectMove n).bootShown = d.bootShown := by
  unfold Device.injectMove
  split
  · exact d.bootShown_setInject n _
  · rfl

@[simp] theorem Device.bootShown_dataEnd (d : Device) (n : Lane) : (d.dataEnd n).bootShown = d.bootShown := by
  rw [Device.dataEnd, Device.bootShown_aimInject, Device.bootShown_modTx,
    Device.bootShown_set _ (f := F.LTX_STATUS_RAMP n) (Nat.lt_add_right _ (by decide)),
    Device.bootShown_set _ (f := F.LTX_STATUS_LIVE n) (Nat.lt_add_right _ (by decide))]

/-- A cause of squelch is shown and flagged. -/
theorem Device.bootShown_squelch (d : Device) (n : Lane) {f : Fld} (h : F.SYS_BOOT_STATUS.addr < f.addr) :
    ((d.set f 1).raise (F.LTX_INT_STATUS_SQUELCH n)).bootShown = d.bootShown :=
  (Device.bootShown_raise _ (f := F.LTX_INT_STATUS_SQUELCH n) (Nat.lt_add_right _ (by decide)) ⟨Nat.le_refl 0, Nat.zero_lt_succ 31⟩ rfl 0).trans
    (d.bootShown_set h 1)

@[simp] theorem Device.bootShown_disUpdate (d : Device) (n : Lane) : (d.disUpdate n).bootShown = d.bootShown := by
  have hlt : F.SYS_BOOT_STATUS.addr < (F.LTX_STATUS_SQ_DIS n).addr := Nat.lt_add_right _ (by decide)
  unfold Device.disUpdate
  extract_lets act d1 d2
  have h1 : d1.bootShown = d.bootShown := d.bootShown_squelch n hlt
  split
  · rfl
  · split
    · split
      · exact h1
      · exact (d1.bootShown_aimInject n).trans h1
    · exact (d2.bootShown_aimInject n).trans (d.bootShown_set hlt 0)

@[simp] theorem Device.bootShown_startLane (d : Device) (n : Lane) : (d.startLane n).bootShown = d.bootShown := by
  have hpin : (d.pinDeliver n).bootShown = d.bootShown := Device.bootShown_disUpdate _ n
  unfold Device.startLane
  extract_lets e d1
  split
  · rw [Device.bootShown_injectMove, Device.bootShown_aimInject, Device.bootShown_modRx,
      Device.bootShown_set _ (f := F.LRX_STATE_RX_STATE n) (Nat.lt_add_right _ (by decide)),
      Device.bootShown_set _ (f := F.LTX_STATUS_STATE n) (Nat.lt_add_right _ (by decide))]
    exact hpin
  · exact hpin

/-! ### The safe state -/

@[simp] theorem Device.bootShown_squelchSafe (d : Device) (n : Lane) : (d.squelchSafe n).bootShown = d.bootShown := by
  unfold Device.squelchSafe
  extract_lets e
  have he : e.bootShown = d.bootShown := d.bootShown_squelch n (Nat.lt_add_right _ (by decide))
  split
  · exact (e.bootShown_dataEnd n).trans he
  · exact (e.bootShown_aimInject n).trans he

@[simp] theorem Device.bootShown_dropPower (d : Device) : d.dropPower.bootShown = d.bootShown := by
  unfold Device.dropPower
  extract_lets p
  split
  · rfl
  · rw [Device.bootShown_settle, d.bootShown_set (f := F.PWR_STATUS_PENDING) (by decide)]

@[simp] theorem Device.bootShown_showSafe (d : Device) (cause : Nat) : (d.showSafe cause).bootShown = d.bootShown := by
  simp (disch := decide) only [Device.showSafe, Device.bootShown_raise, Device.bootShown_set]

/-- Entry into the safe state leaves supervision and the image as they are. -/
@[simp] theorem Device.bootShown_enterSafe (d : Device) (cause : Nat) : (d.enterSafe cause).bootShown = d.bootShown := by
  rw [d.enterSafe_eq]
  split
  · rfl
  · rw [Device.bootShown_dropPower, foldl_keeps Device.bootShown _ _ _ fun s n _ => s.bootShown_squelchSafe n, Device.bootShown_showSafe]

@[simp] theorem Device.bootShown_quarantineJudge (d : Device) : d.quarantineJudge.bootShown = d.bootShown := by
  unfold Device.quarantineJudge
  split
  · exact d.bootShown_enterSafe 1
  · rfl

/-! ### The monitor converter -/

theorem Device.bootShown_setWork (d : Device) (v w : Nat) :
    ((d.set F.MON_STATUS_WORK v).set F.MON_STATUS_RECOVER w).bootShown = d.bootShown := by
  simp (disch := decide) only [Device.bootShown_set]

@[simp] theorem Device.bootShown_monShow (d : Device) : d.monShow.bootShown = d.bootShown := by
  unfold Device.monShow
  extract_lets d1
  have h1 : d1.bootShown = d.bootShown := by
    simp (disch := decide) only [d1, Device.setB, Device.bootShown_set]
  clear_value d1
  split
  case h_6 => exact (Device.bootShown_setWork _ _ _).trans ((d1.bootShown_draw 1).trans h1)
  all_goals exact (d1.bootShown_setWork _ _).trans h1

@[simp] theorem Device.bootShown_monStart (d : Device) : d.monStart.bootShown = d.bootShown := by
  unfold Device.monStart
  extract_lets d1
  rw [Device.bootShown_monShow]
  simp only [d1]
  split
  · exact d.bootShown_modMon _
  · split
    · exact d.bootShown_modMon _
    · split
      · exact d.bootShown_modMon _
      · exact d.bootShown_modMon _

@[simp] theorem Device.bootShown_monKick (d : Device) : d.monKick.bootShown = d.bootShown := by
  unfold Device.monKick
  split
  · exact d.bootShown_monStart
  · exact d.bootShown_monShow

/-! ### Calibration, keys and the fabric (R340, R354, R377, R507, R586) -/

@[simp] theorem Device.bootedAs_applyCal (d : Device) (c : CalRec) (p : Nat → Bool) : (d.applyCal c p).bootedAs = d.bootedAs := by
  refine (foldl_keeps Device.bootedAs _ _ _ fun s n _ => ?_).trans (foldl_keeps Device.bootedAs _ _ _ fun s w _ => ?_)
  · extract_lets e
    have he : e.bootedAs = s.bootedAs := by
      simp only [e]
      split <;> rfl
    split
    · exact he
    · exact he
  · split
    · extract_lets m
      split <;> rfl
    · rfl

@[simp] theorem Device.bootedAs_loadCal (d : Device) : d.loadCal.bootedAs = d.bootedAs := by
  unfold Device.loadCal
  split
  · exact d.bootedAs_raise _ _
  next c _ =>
    have hcal := d.bootedAs_applyCal c fun _ => true
    generalize d.applyCal c (fun _ => true) = e at hcal ⊢
    extract_lets d1 pool mon sec d2 d3
    have h3 : d3.bootedAs = d.bootedAs := by
      rw [Device.bootedAs_set, Device.bootedAs_set, Device.bootedAs_set, Device.bootedAs_set, ← hcal]
      rfl
    split
    · exact h3
    · rw [Device.bootedAs_raise, Device.bootedAs_set, h3]

@[simp] theorem Device.bootedAs_loadAcl (d : Device) : d.loadAcl.bootedAs = d.bootedAs :=
  foldl_keeps Device.bootedAs _ _ _ fun _ _ _ => rfl

@[simp] theorem Device.bootedAs_drawNonce (d : Device) : d.drawNonce.bootedAs = d.bootedAs := by
  unfold Device.drawNonce
  split <;> rfl

@[simp] theorem Device.bootShown_secShow (d : Device) : d.secShow.bootShown = d.bootShown := by
  simp (disch := decide) only [Device.secShow, Device.setB, Device.bootShown_set]

@[simp] theorem Device.bootedAs_secShow (d : Device) : d.secShow.bootedAs = d.bootedAs := congrArg Prod.fst d.bootShown_secShow

@[simp] theorem Device.bootedAs_keySwitch (d : Device) : d.keySwitch.bootedAs = d.bootedAs := by
  unfold Device.keySwitch
  split
  · rfl
  · extract_lets due old keys
    split
    · rfl
    · exact (Device.bootedAs_secShow _).trans (Device.bootedAs_raise _ _ _)

@[simp] theorem Device.bootedAs_recShow (d : Device) : d.recShow.bootedAs = d.bootedAs := by
  unfold Device.recShow
  split <;> rfl

@[simp] theorem Device.bootedAs_setAddr (d : Device) (a : Option Nat) : (d.setAddr a).bootedAs = d.bootedAs := by
  unfold Device.setAddr
  extract_lets old d1
  split
  · rfl
  · refine (Device.bootedAs_raise _ _ _).trans ?_
    cases a <;> rfl

@[simp] theorem Device.bootedAs_fabricStart (d : Device) : d.fabricStart.bootedAs = d.bootedAs := by
  have hshow : ∀ e : Device, e.drawNonce.secShow.keySwitch.recShow.bootedAs = e.bootedAs := fun e => by simp
  unfold Device.fabricStart
  extract_lets
  split
  · split
    · exact (Device.bootedAs_setAddr _ _).trans (hshow _)
    · exact hshow _
  · exact hshow _

end Sys2Proof.Machine
end

section
/-! The start-up sequence: what holds the device, and what it shows where it waits, fails, recovers or boots (Table 10-1, R372 to R378). -/

namespace Sys2Proof.Machine

theorem exec_resetnRise (run : BootRun) (s : State) : exec (.resetnRise run) s = .next { s with dev := s.dev.resetnRise run } := rfl
theorem exec_railGood (r : Rail) (run : BootRun) (s : State) : exec (.railGood r run) s = .next { s with dev := s.dev.railGood r run } := rfl

/-! ### The start instant (R372) -/

/-- The pins, the rails and the shutdown latch let the device start. -/
structure Device.Startable (d : Device) : Prop where
  boot : d.sup.boot = .held
  reset : d.sup.resetnLow = false
  rails : d.sup.railsBad = []
  aon : d.sup.aonGood = true
  shutdown : d.get F.THM_STATUS_SHUTDOWN = 0

theorem Device.tryStart_starts {d : Device} (h : d.Startable) (run : BootRun) : d.tryStart run = d.startUp run := by
  obtain ⟨hboot, hreset, hrails, haon, hshut⟩ := h
  have hcan : d.canStart = true := by
    simp only [Device.canStart, hboot, hreset, hrails, haon, Device.flag_eq_false hshut]
    rfl
  exact if_pos hcan

/-- RESETn low holds start-up. -/
theorem Device.tryStart_resetnLow (d : Device) (run : BootRun) (h : d.sup.resetnLow = true) : d.tryStart run = d := by
  simp [Device.tryStart, Device.canStart, h]

/-- A rail that was good already only lets the device start. -/
theorem Device.railGood_of_none (d : Device) (r : Rail) (run : BootRun) (h : d.sup.railsBad = []) : d.railGood r run = d.tryStart run := by
  have hsame : (d.modSup fun q => { q with railsBad := [] }) = d := by
    rw [← h]
    rfl
  rw [Device.railGood, h, List.filter_nil, hsame]

/-- RESETn is high. -/
def Device.released (d : Device) : Device := d.modSup fun q => { q with resetnLow := false }

@[simp] theorem Device.sup_setBoot (d : Device) (b : Boot) : (d.setBoot b).sup = { d.sup with boot := b } := rfl
@[simp] theorem Device.get_setBoot (d : Device) (b : Boot) (f : Fld) : (d.setBoot b).get f = d.get f := rfl

/-! ### Step 4: REFCLK (R378) -/

/-- Start-up goes past step 4: REFCLK is present, the PLLs are locked and the generator is ready. -/
def Device.clocked (d : Device) : Device :=
  ((((d.set F.SYS_BOOT_STATUS_FAIL_CODE 0).set F.CLK_STATUS_REF_PRESENT 1).set F.CLK_STATUS_CPLLA_LOCK 1).set F.CLK_STATUS_CPLLB_LOCK 1).set
    F.SEC_STATUS_TRNG_OK 1

/-- A failure code and the step it names. -/
def Device.failedAt (d : Device) (code step : Nat) : Device := (d.set F.SYS_BOOT_STATUS_FAIL_CODE code).set F.SYS_BOOT_STATUS_STEP step

@[simp] theorem Device.sup_failedAt (d : Device) (code step : Nat) : (d.failedAt code step).sup = d.sup := rfl

theorem Device.failedAt_shows (d : Device) {code step : Nat} (hc : code < 256) (hs : step < 16) (b : Boot) :
    ((d.failedAt code step).setBoot b).get F.SYS_BOOT_STATUS_FAIL_CODE = code ∧
    ((d.failedAt code step).setBoot b).get F.SYS_BOOT_STATUS_STEP = step := by
  rw [Device.get_setBoot, Device.get_setBoot, Device.failedAt, Device.get_set_beside _ _ F.SYS_BOOT_STATUS_FAIL_CODE _ rfl]
  exact ⟨d.get_set_fits _ _ (decide_eq_true ⟨by decide, hc⟩), Device.get_set_fits _ _ _ (decide_eq_true ⟨by decide, hs⟩)⟩

theorem Device.startUp_noRef (d : Device) (run : BootRun) (h : d.sup.refOk = false) :
    d.startUp run = (d.failedAt 6 4).setBoot .waitRef := by
  rw [Device.startUp, h]
  rfl

theorem Device.startUp_waits (d : Device) (run : BootRun) (h : d.sup.refOk = false) :
    (d.startUp run).sup.boot = .waitRef ∧ (d.startUp run).get F.SYS_BOOT_STATUS_FAIL_CODE = 6 ∧ (d.startUp run).get F.SYS_BOOT_STATUS_STEP = 4 := by
  rw [d.startUp_noRef run h]
  exact ⟨rfl, d.failedAt_shows (by decide) (by decide) _⟩

/-! ### Steps 5 to 7: the self-tests (R376, R532, R534, R535) -/

/-- Logic BIST and memory BIST find nothing that holds the device. -/
def cleanRun (run : BootRun) : Prop := run.logic = [] ∧ ∀ m < 49, run.spares.getD m 0 ≤ 8

/-- The spares that the macros use are shown. -/
def Device.showSpares (d : Device) (run : BootRun) : Device :=
  (List.range 49).foldl (fun s m => s.set (F.MEM_SPARE m) (run.spares.getD m 0)) d

/-- Memory BIST leaves every block of every memory zero. -/
def Device.memWiped (d : Device) : Device :=
  (((((d.modMem fun _ => []).modErrs fun _ => []).modPoisoned fun _ => []).modMemHist fun _ => []).modWriteBack fun _ => []).modSparesOut fun _ => []

/-- The device whose self-tests have passed. -/
def Device.tested (d : Device) (run : BootRun) : Device := (d.clocked.showSpares run).memWiped

@[simp] theorem Device.sup_clocked (d : Device) : d.clocked.sup = d.sup := rfl
@[simp] theorem Device.flash_clocked (d : Device) : d.clocked.flash = d.flash := rfl
@[simp] theorem Device.sup_memWiped (d : Device) : d.memWiped.sup = d.sup := rfl
@[simp] theorem Device.flash_memWiped (d : Device) : d.memWiped.flash = d.flash := rfl

@[simp] theorem Device.sup_showSpares (d : Device) (run : BootRun) : (d.showSpares run).sup = d.sup :=
  foldl_keeps Device.sup _ _ d fun _ _ _ => rfl

@[simp] theorem Device.flash_showSpares (d : Device) (run : BootRun) : (d.showSpares run).flash = d.flash :=
  foldl_keeps Device.flash _ _ d fun _ _ _ => rfl

@[simp] theorem Device.sup_tested (d : Device) (run : BootRun) : (d.tested run).sup = d.sup := by
  rw [Device.tested, Device.sup_memWiped, Device.sup_showSpares, Device.sup_clocked]

@[simp] theorem Device.flash_tested (d : Device) (run : BootRun) : (d.tested run).flash = d.flash := by
  rw [Device.tested, Device.flash_memWiped, Device.flash_showSpares, Device.flash_clocked]

theorem Device.selfTests_clean (d : Device) {run : BootRun} (h : cleanRun run) :
    d.selfTests run = if run.checkerOk then (d.showSpares run).memWiped else (d.showSpares run).memWiped.holdBoot 3 7 := by
  obtain ⟨hlogic, hspares⟩ := h
  have hmacro : (List.range 49).find? (fun m => 8 < run.spares.getD m 0) = none :=
    List.find?_eq_none.2 fun m hm => by simpa using hspares m (List.mem_range.1 hm)
  simp only [Device.selfTests, hlogic, List.filter_nil, List.foldl_nil, List.find?_nil, hmacro]
  rfl

/-! ### Steps 8 to 12 -/

/-- Steps 11 and 12, up to READY. -/
def Device.readied (d : Device) : Device :=
  ((d.loadCal.loadAcl.fabricStart.modSup fun q => { q with boot := .running, procRun := true }).set F.SYS_BOOT_STATUS_STEP 0xC).set
    F.SYS_BOOT_STATUS_READY 1

/-- An image that boots takes the device into operation. -/
def Device.launched (d : Device) : Device := (lanes.foldl (fun s n => s.startLane n) d.readied.monKick).quarantineJudge

/-- What follows the self-tests. -/
def Device.afterTests (d : Device) : Device :=
  if d.sup.boot == .failed then d
  else
    let (e, ok) := d.drawChallenge.bootSlots
    if !ok then e else e.launched

theorem Device.startUp_ref (d : Device) (run : BootRun) (h : d.sup.refOk = true) : d.startUp run = (d.clocked.selfTests run).afterTests := by
  rw [Device.startUp, h]
  rfl

/-- A checker that fails holds the device (R376, R532). -/
theorem Device.startUp_checkerBad (d : Device) {run : BootRun} (h : cleanRun run) (href : d.sup.refOk = true) (hck : run.checkerOk = false) :
    d.startUp run = ((d.tested run).failedAt 3 7).setBoot .failed := by
  rw [d.startUp_ref run href, d.clocked.selfTests_clean h, hck, Device.afterTests]
  exact if_pos rfl

theorem Device.startUp_fails (d : Device) {run : BootRun} (h : cleanRun run) (href : d.sup.refOk = true) (hck : run.checkerOk = false) :
    (d.startUp run).sup = { d.sup with boot := .failed } ∧ (d.startUp run).get F.SYS_BOOT_STATUS_FAIL_CODE = 3 ∧
    (d.startUp run).get F.SYS_BOOT_STATUS_STEP = 7 := by
  rw [d.startUp_checkerBad h href hck]
  refine ⟨?_, Device.failedAt_shows _ (by decide) (by decide) _⟩
  rw [Device.sup_setBoot, Device.sup_failedAt, Device.sup_tested]

/-- Self-tests that pass lead to the firmware slots. -/
theorem Device.startUp_passed (d : Device) {run : BootRun} (h : cleanRun run) (href : d.sup.refOk = true) (hck : run.checkerOk = true)
    (hb : d.sup.boot = .held) {e : Device} {ok : Bool} (hslots : (d.tested run).drawChallenge.bootSlots = (e, ok)) :
    d.startUp run = if ok then e.launched else e := by
  have hnot : ¬ ((d.tested run).sup.boot == Boot.failed) = true := by rw [Device.sup_tested, hb]; decide
  rw [d.startUp_ref run href, d.clocked.selfTests_clean h, hck, Device.afterTests]
  refine (if_neg hnot).trans ?_
  rw [if_pos rfl, ← Device.tested, hslots]
  cases ok <;> rfl


/-! ### Steps 8 to 10: the firmware slots (R375, R570, R576) -/

theorem Device.drawChallenge_keeps {β : Type} (φ : Device → β) (hreg : ∀ (d : Device) (a : Nat) (w : Word), φ (d.setReg a w) = φ d)
    (hdraw : ∀ d : Device, φ d.draw = φ d) (hsec : ∀ (d : Device) (f : Sec → Sec), φ (d.modSec f) = φ d) (d : Device) :
    φ d.drawChallenge = φ d := by
  unfold Device.drawChallenge
  split
  · extract_lets e
    exact (hsec _ _).trans (foldl_keeps φ _ _ d fun s c _ => (hreg _ _ _).trans (hdraw s))
  · exact hsec _ _

@[simp] theorem Device.flash_drawChallenge (d : Device) : d.drawChallenge.flash = d.flash :=
  Device.drawChallenge_keeps Device.flash (fun _ _ _ => rfl) (fun _ => rfl) (fun _ _ => rfl) d

theorem Device.firstSlot_congr {d e : Device} (h : e.flash = d.flash) : e.firstSlot = d.firstSlot := by
  rw [Device.firstSlot, h, Device.firstSlot]

theorem Device.slotReason_congr {d e : Device} (h : e.flash = d.flash) (i : Fin 2) : e.slotReason i = d.slotReason i := by
  rw [Device.slotReason, Device.cosignNeeded, h, Device.slotReason, Device.cosignNeeded]

/-- The slot that step 8 tries first is noted. -/
def Device.noteTried (d : Device) : Device := d.modSec fun q => { q with tried := d.firstSlot.map fun i => i.val }

theorem Device.bootSlots_none (d : Device) (h : d.firstSlot = none) : d.bootSlots = (d.noteTried.enterRecovery, false) := by
  have hfirst : d.noteTried.firstSlot = none := h
  rw [Device.bootSlots, ← Device.noteTried, hfirst]

theorem Device.bootSlots_good (d : Device) {i : Fin 2} (h : d.firstSlot = some i) (hr : d.slotReason i = 0) :
    d.bootSlots = ((d.noteTried.setReason i 0).bootImage i, true) := by
  have hfirst : d.noteTried.firstSlot = some i := h
  have hreason : d.noteTried.slotReason i = 0 := hr
  rw [Device.bootSlots, ← Device.noteTried, hfirst]
  simp only [hreason, if_true]

/-- What SYS_BOOT_STATUS shows of boot recovery (R375). -/
def Device.recoveryShown (d : Device) : Device :=
  ((d.set F.SYS_BOOT_STATUS_FAIL_CODE 4).set F.SYS_BOOT_STATUS_RECOVERY 1).set F.SYS_BOOT_STATUS_STEP 0xA

theorem Device.enterRecovery_eq (d : Device) :
    d.enterRecovery = d.recoveryShown.secShow.modSup fun q => { q with boot := .recovery, procRun := true } := rfl

/-- Boot recovery shows itself and its code, and FAULTn is low (R375, R388). -/
theorem Device.enterRecovery_shows (d : Device) :
    d.enterRecovery.sup.boot = .recovery ∧ d.enterRecovery.get F.SYS_BOOT_STATUS_RECOVERY = 1 ∧
    d.enterRecovery.get F.SYS_BOOT_STATUS_FAIL_CODE = 4 ∧ d.enterRecovery.faultLow = true := by
  have hget : ∀ f : Fld, f.addr = F.SYS_BOOT_STATUS.addr → d.enterRecovery.get f = d.recoveryShown.get f := fun f hf => by
    rw [d.enterRecovery_eq, Device.get_modSup, Device.get_of_bootShown (Device.bootShown_secShow _) hf]
  have hboot : d.enterRecovery.sup.boot = .recovery := by rw [d.enterRecovery_eq, Device.modSup]
  refine ⟨hboot, ?_, ?_, ?_⟩
  · rw [hget F.SYS_BOOT_STATUS_RECOVERY rfl, Device.recoveryShown, Device.get_set_beside _ _ _ _ rfl, Device.get_set_fits _ _ _ rfl]
  · rw [hget F.SYS_BOOT_STATUS_FAIL_CODE rfl, Device.recoveryShown, Device.get_set_beside _ _ _ _ rfl, Device.get_set_beside _ _ _ _ rfl,
      Device.get_set_fits _ _ _ rfl]
  · rw [Device.faultLow, hboot]
    rfl

/-- The image that boots is the slot's (R570). -/
theorem Device.sec_bootImage (d : Device) (i : Fin 2) :
    (d.bootImage i).sec = { d.sec with svnRun := (d.flash.fw.get i).svn, vk1 := (d.flash.fw.get i).vk1, slot := i.val } := rfl

/-! ### Steps 11 and 12 (R374, R377) -/

theorem Device.launched_bootShown (d : Device) : d.launched.bootShown = d.readied.bootShown := by
  rw [Device.launched, Device.bootShown_quarantineJudge, foldl_keeps Device.bootShown _ _ _ fun s n _ => s.bootShown_startLane n,
    Device.bootShown_monKick]

theorem Device.bootedAs_modSup (d : Device) (f : Sup → Sup) : (d.modSup f).bootedAs = (f d.bootedAs.1, d.bootedAs.2) := rfl

theorem Device.readied_bootedAs (d : Device) :
    d.readied.bootedAs = ({ d.sup with boot := .running, procRun := true }, d.sec.slot, d.sec.svnRun) := by
  rw [Device.readied, Device.bootedAs_set, Device.bootedAs_set, Device.bootedAs_modSup, Device.bootedAs_fabricStart, Device.bootedAs_loadAcl,
    Device.bootedAs_loadCal]
  rfl

/-- An image in operation: the processor runs, and READY is shown at step 12. -/
theorem Device.launched_shows (d : Device) :
    d.launched.bootedAs = ({ d.sup with boot := .running, procRun := true }, d.sec.slot, d.sec.svnRun) ∧
    d.launched.get F.SYS_BOOT_STATUS_READY = 1 ∧ d.launched.get F.SYS_BOOT_STATUS_STEP = 0xC := by
  have hget : ∀ f : Fld, f.addr = F.SYS_BOOT_STATUS.addr → d.launched.get f = d.readied.get f :=
    fun f hf => Device.get_of_bootShown d.launched_bootShown hf
  refine ⟨(congrArg Prod.fst d.launched_bootShown).trans d.readied_bootedAs, ?_, ?_⟩
  · rw [hget F.SYS_BOOT_STATUS_READY rfl, Device.readied, Device.get_set_fits _ _ _ rfl]
  · rw [hget F.SYS_BOOT_STATUS_STEP rfl, Device.readied, Device.get_set_beside _ _ _ _ rfl, Device.get_set_fits _ _ _ rfl]

/-! ### How a start-up whose self-tests pass ends -/

/-- Nothing before step 8 writes flash. -/
theorem Device.flash_beforeSlots (d : Device) (run : BootRun) : (d.tested run).drawChallenge.flash = d.flash := by
  rw [Device.flash_drawChallenge, Device.flash_tested]

section
variable (d : Device) {run : BootRun} (h : cleanRun run) (href : d.sup.refOk = true) (hck : run.checkerOk = true) (hb : d.sup.boot = .held)
include h href hck hb

theorem Device.startUp_recovers (hslot : d.firstSlot = none) :
    (d.startUp run).sup.boot = .recovery ∧ (d.startUp run).get F.SYS_BOOT_STATUS_RECOVERY = 1 ∧
    (d.startUp run).get F.SYS_BOOT_STATUS_FAIL_CODE = 4 ∧ (d.startUp run).faultLow = true := by
  have hfirst := (Device.firstSlot_congr (d.flash_beforeSlots run)).trans hslot
  rw [d.startUp_passed h href hck hb (Device.bootSlots_none _ hfirst)]
  exact Device.enterRecovery_shows _

theorem Device.startUp_boots {i : Fin 2} (hslot : d.firstSlot = some i) (hr : d.slotReason i = 0) :
    (d.startUp run).sup.boot = .running ∧ (d.startUp run).sup.procRun = true ∧ (d.startUp run).get F.SYS_BOOT_STATUS_READY = 1 ∧
    (d.startUp run).get F.SYS_BOOT_STATUS_STEP = 0xC ∧ (d.startUp run).sec.slot = i.val ∧
    (d.startUp run).sec.svnRun = (d.flash.fw.get i).svn := by
  have hflash := d.flash_beforeSlots run
  have hslots := Device.bootSlots_good _ ((Device.firstSlot_congr hflash).trans hslot) ((Device.slotReason_congr hflash i).trans hr)
  rw [d.startUp_passed h href hck hb hslots, if_pos rfl]
  obtain ⟨hbooted, hready, hstep⟩ := (((d.tested run).drawChallenge.noteTried.setReason i 0).bootImage i).launched_shows
  obtain ⟨hsup, hrest⟩ := Prod.ext_iff.1 hbooted
  obtain ⟨hsec, hsvn⟩ := Prod.ext_iff.1 hrest
  refine ⟨congrArg Sup.boot hsup, congrArg Sup.procRun hsup, hready, hstep, hsec, hsvn.trans ?_⟩
  rw [Device.sec_bootImage, ← hflash]
  rfl

end

end Sys2Proof.Machine

open Sys2Proof Sys2Proof.Machine

/-- Settles O40, by where the start-up ends: at step 4, at step 7, in boot recovery, or with an image in operation. -/
theorem startUpSequence : Obligations.StartUpSequence := by
  intro s run hboot hrails haon hshut
  have hrise : s.dev.resetnRise run = s.dev.released.startUp run :=
    Device.tryStart_starts (d := s.dev.released) ⟨hboot, rfl, hrails, haon, hshut⟩ run
  refine ⟨fun href => .of_exec (exec_resetnRise run s) ?_, fun hlogic hspares href => ⟨fun hck => .of_exec (exec_resetnRise run s) ?_,
    fun hck hslot => .of_exec (exec_resetnRise run s) ?_, fun i hck hslot hr => .of_exec (exec_resetnRise run s) ?_⟩,
    fun r hlow => .of_exec ?_, fun r hhigh href => .of_exec (exec_railGood r run s) ?_⟩
  · rw [hrise]
    exact s.dev.released.startUp_waits run href
  · rw [hrise]
    obtain ⟨hsup, hcode, hstep⟩ := s.dev.released.startUp_fails ⟨hlogic, hspares⟩ href hck
    exact ⟨congrArg Sup.boot hsup, hcode, hstep⟩
  · rw [hrise]
    exact s.dev.released.startUp_recovers ⟨hlogic, hspares⟩ href hck hboot hslot
  · rw [hrise]
    exact s.dev.released.startUp_boots ⟨hlogic, hspares⟩ href hck hboot hslot hr
  · rw [exec_railGood, s.dev.railGood_of_none r run hrails, s.dev.tryStart_resetnLow run hlow]
  · rw [s.dev.railGood_of_none r run hrails, Device.tryStart_starts ⟨hboot, hhigh, hrails, haon, hshut⟩ run]
    obtain ⟨hwait, hcode, _⟩ := s.dev.startUp_waits run href
    exact ⟨hwait, hcode⟩

end

section
/-! REFCLK, the pool's supply and the safe state that their loss causes (R378, R389, R390, R400). -/

namespace Sys2Proof.Machine

theorem exec_refclkAppear (run : BootRun) (s : State) : exec (.refclkAppear run) s = .next { s with dev := s.dev.refclkAppear run } := rfl
theorem exec_refclkLoss (s : State) : exec .refclkLoss s = .next { s with dev := s.dev.refclkLoss } := rfl
theorem exec_vddPoolFault (s : State) : exec .vddPoolFault s = .next { s with dev := s.dev.vddPoolFault } := rfl

/-! ### The squelch of every lane (R390) -/

/-- What the step of one element makes true and no other step undoes holds after the fold. -/
theorem foldl_reaches {α : Type} {P : Device → Prop} {f : Device → α → Device} {x : α} (hat : ∀ s, P (f s x))
    (hkeep : ∀ s y, y ≠ x → P s → P (f s y)) {l : List α} (hx : x ∈ l) (d : Device) : P (l.foldl f d) := by
  have hstep : ∀ (l : List α) (s : Device), P s → P (l.foldl f s) := fun l s hs =>
    List.foldlRecOn (motive := P) l f hs fun t ht y _ => by
      by_cases hy : y = x
      · exact hy ▸ hat t
      · exact hkeep t y hy ht
  induction l generalizing d with
  | nil => exact absurd hx List.not_mem_nil
  | cons y l ih =>
    obtain rfl | hmem := List.mem_cons.1 hx
    · exact hstep l _ (hat d)
    · exact ih hmem _

/-- The injection point shows in two fields of its own. -/
theorem Device.get_aimInject (d : Device) (n : Lane) {f : Fld} (hlf : (F.LTX_STATUS_PILOT_LF n).beside f = true)
    (hlvl : (F.LTX_STATUS_PILOT_LVL n).beside f = true) : (d.aimInject n).get f = d.get f := by
  unfold Device.aimInject
  extract_lets a
  split
  · rfl
  · split
    · rfl
    · rw [Device.setInject, Device.get_congr (f := f) (Device.reg_pilotTx _ n f.addr), Device.get_modTx, Device.setB, Device.setB,
        Device.get_set_beside _ _ _ _ hlvl, Device.get_set_beside _ _ _ _ hlf]

/-- A lane that is squelched by the safe state, and not live. -/
def Device.squelched (d : Device) (n : Lane) : Prop := d.get (F.LTX_STATUS_SQ_SAFE n) = 1 ∧ d.get (F.LTX_STATUS_LIVE n) = 0

theorem Device.squelched_congr {d e : Device} {n : Lane} (h : e.reg (F.LTX_STATUS n).addr = d.reg (F.LTX_STATUS n).addr) (hd : d.squelched n) :
    e.squelched n := by
  obtain ⟨hsq, hlive⟩ := hd
  exact ⟨(Device.get_congr (f := F.LTX_STATUS_SQ_SAFE n) h).trans hsq, (Device.get_congr (f := F.LTX_STATUS_LIVE n) h).trans hlive⟩

/-- The flag of a squelch leaves a lane's status as it is. -/
theorem Device.reg_squelchFlag (d : Device) (m n : Lane) :
    (d.raise (F.LTX_INT_STATUS_SQUELCH m)).reg (F.LTX_STATUS n).addr = d.reg (F.LTX_STATUS n).addr := by
  refine d.reg_raise 0 ⟨Nat.le_refl 0, Nat.zero_lt_succ 31⟩ rfl (not_mem_eventRegs_of_le (Nat.le_add_right_of_le (by decide))) ?_
  simp only [F.LTX_STATUS, F.LTX_INT_STATUS_SQUELCH]
  omega

/-- The squelch of a lane leaves every other lane's status as it is. -/
theorem Device.reg_squelchSafe_other (d : Device) {m n : Lane} (h : m ≠ n) :
    (d.squelchSafe m).reg (F.LTX_STATUS n).addr = d.reg (F.LTX_STATUS n).addr := by
  have hne : (F.LTX_STATUS n).addr ≠ (F.LTX_STATUS m).addr := by
    have hval := Fin.val_ne_of_ne h
    simp only [F.LTX_STATUS]
    omega
  unfold Device.squelchSafe
  extract_lets e
  have he : e.reg (F.LTX_STATUS n).addr = d.reg (F.LTX_STATUS n).addr :=
    (Device.reg_squelchFlag _ m n).trans (d.reg_set_of_ne (F.LTX_STATUS_SQ_SAFE m) 1 hne)
  split
  · exact (e.reg_dataEnd m hne).trans he
  · exact (e.reg_aimInject m hne).trans he

theorem Device.squelchSafe_squelched (d : Device) (n : Lane) : (d.squelchSafe n).squelched n := by
  unfold Device.squelchSafe
  extract_lets e
  have hsq : e.get (F.LTX_STATUS_SQ_SAFE n) = 1 :=
    (Device.get_congr (f := F.LTX_STATUS_SQ_SAFE n) (Device.reg_squelchFlag _ n n)).trans (d.get_set_fits _ _ rfl)
  split
  · refine ⟨?_, ?_⟩
    · rw [Device.dataEnd, Device.get_aimInject _ n rfl rfl, Device.get_modTx, Device.get_set_beside _ _ _ _ rfl, Device.get_set_beside _ _ _ _ rfl, hsq]
    · rw [Device.dataEnd, Device.get_aimInject _ n rfl rfl, Device.get_modTx, Device.get_set_beside _ _ _ _ rfl, Device.get_set_fits _ _ _ rfl]
  next hoff =>
    refine ⟨(e.get_aimInject n rfl rfl).trans hsq, (e.get_aimInject n rfl rfl).trans ?_⟩
    simpa [Device.flag] using hoff

/-- Entry into the safe state squelches every lane. -/
theorem Device.enterSafe_squelches (d : Device) (cause : Nat) (h : d.get F.SYS_SAFE_SAFE = 0) (n : Lane) : (d.enterSafe cause).squelched n := by
  have hpwr : (F.LTX_STATUS n).addr ≠ F.PWR_STATUS.addr := Nat.ne_of_gt (Nat.lt_add_right _ (by decide))
  rw [d.enterSafe_eq, Device.flag_eq_false h, if_neg Bool.false_ne_true]
  exact Device.squelched_congr (Device.reg_dropPower _ hpwr) (foldl_reaches (P := fun s => s.squelched n) (fun s => s.squelchSafe_squelched n)
    (fun s m hm => Device.squelched_congr (s.reg_squelchSafe_other hm)) (List.mem_finRange n) _)

/-- What the entry shows: the safe state, its cause, and every lane squelched. -/
theorem Device.enterSafe_leaves (d : Device) {cause : Nat} (hc : cause < 256) (h : d.get F.SYS_SAFE_SAFE = 0) :
    (d.enterSafe cause).get F.SYS_SAFE_SAFE = 1 ∧ (d.enterSafe cause).get F.SYS_SAFE_SAFE_CAUSE = cause ∧
    ∀ n : Lane, (d.enterSafe cause).get (F.LTX_STATUS_SQ_SAFE n) = 1 ∧ (d.enterSafe cause).get (F.LTX_STATUS_LIVE n) = 0 := by
  obtain ⟨hsafe, hcause⟩ := d.enterSafe_shows cause h
  exact ⟨hsafe, hcause.trans (Nat.mod_eq_of_lt hc), d.enterSafe_squelches cause h⟩

/-! ### REFCLK (R378, R400) -/

/-- REFCLK is present, and what its loss showed is cleared. -/
def Device.refShown (d : Device) : Device :=
  (((d.modSup fun q => { q with refOk := true }).set F.CLK_STATUS_REF_PRESENT 1).set F.CLK_STATUS_REF_LOSS 0).set F.CLK_STATUS_HOLDOVER 0

theorem Device.refclkAppear_eq (d : Device) (run : BootRun) :
    d.refclkAppear run = if d.sup.boot == .waitRef then d.refShown.startUp run else d.refShown := rfl

/-- REFCLK is lost: the PLLs hold, and the loss is flagged. -/
def Device.refLost (d : Device) : Device :=
  ((((d.modSup fun q => { q with refOk := false }).set F.CLK_STATUS_REF_PRESENT 0).set F.CLK_STATUS_REF_LOSS 1).set F.CLK_STATUS_HOLDOVER 1).raise
    F.CLK_INT_STATUS_REF_LOSS

theorem Device.sup_refLost (d : Device) : d.refLost.sup = { d.sup with refOk := false } :=
  congrArg Prod.fst (Device.bootedAs_raise _ F.CLK_INT_STATUS_REF_LOSS 0)

theorem Device.refclkLoss_eq (d : Device) (h : d.sup.refOk = true) :
    d.refclkLoss = if d.sup.boot = .running then d.refLost.enterSafe 3 else d.refLost := by
  have hloss : d.refclkLoss = if d.refLost.sup.boot == .running then d.refLost.enterSafe 3 else d.refLost := by
    rw [Device.refclkLoss, h]
    rfl
  simp only [hloss, Device.sup_refLost, beq_iff_eq]

/-- CLK_STATUS and the flag show the loss; SYS_SAFE stands. -/
theorem Device.refLost_shows (d : Device) :
    d.refLost.get F.CLK_STATUS_REF_LOSS = 1 ∧ d.refLost.get F.CLK_STATUS_HOLDOVER = 1 ∧ d.refLost.get F.CLK_INT_STATUS_REF_LOSS = 1 ∧
    d.refLost.get F.SYS_SAFE_SAFE = d.get F.SYS_SAFE_SAFE := by
  have hget : ∀ (e : Device) (f : Fld), f.addr ∉ eventRegs → f.addr ≠ F.CLK_INT_STATUS_REF_LOSS.addr →
      (e.raise F.CLK_INT_STATUS_REF_LOSS).get f = e.get f :=
    fun e f hev hne => Device.get_congr (e.reg_raise 0 (by decide) rfl hev hne)
  refine ⟨?_, ?_, Device.get_raise_same _ _ (by decide) rfl (by decide), ?_⟩
  · rw [Device.refLost, hget _ F.CLK_STATUS_REF_LOSS (by decide) (by decide), Device.get_set_beside _ _ _ _ rfl, Device.get_set_fits _ _ _ rfl]
  · rw [Device.refLost, hget _ F.CLK_STATUS_HOLDOVER (by decide) (by decide), Device.get_set_fits _ _ _ rfl]
  · rw [Device.refLost, hget _ F.SYS_SAFE_SAFE (by decide) (by decide)]
    simp (disch := decide) only [Device.get_set_elsewhere, Device.get_modSup]

/-- Entry into the safe state leaves the clock block's registers. -/
theorem Device.get_enterSafe_clk (d : Device) (cause : Nat) {f : Fld} (h : f.addr = F.CLK_STATUS.addr ∨ f.addr = F.CLK_INT_STATUS_REF_LOSS.addr) :
    (d.enterSafe cause).get f = d.get f := by
  have hoff : f.addr ∉ eventRegs ∧ f.addr < (F.LTX_STATUS 0).addr ∧ f.addr ≠ F.SYS_SAFE.addr ∧ f.addr ≠ F.SYS_INT_STATUS.addr ∧
      f.addr ≠ F.PWR_STATUS.addr := by
    obtain h | h := h <;> rw [h] <;> decide
  obtain ⟨hev, hlow, hsafe, hint, hpwr⟩ := hoff
  exact Device.get_congr (d.reg_enterSafe cause (apartFromSquelch_of_low hev hlow) hsafe hint hpwr)

theorem refclkLoss_leaves (s : State) (href : s.dev.sup.refOk = true) (hsafe : s.dev.get F.SYS_SAFE_SAFE = 0) :
    Gives .refclkLoss s fun e => e.sup.refOk = false ∧ e.get F.CLK_STATUS_REF_LOSS = 1 ∧ e.get F.CLK_STATUS_HOLDOVER = 1 ∧
      e.get F.CLK_INT_STATUS_REF_LOSS = 1 ∧ e.get F.SYS_SAFE_SAFE = (if s.dev.sup.boot = .running then 1 else 0) ∧
      (s.dev.sup.boot = .running → e.get F.SYS_SAFE_SAFE_CAUSE = 3 ∧
        ∀ n : Lane, e.get (F.LTX_STATUS_SQ_SAFE n) = 1 ∧ e.get (F.LTX_STATUS_LIVE n) = 0) := by
  refine .of_exec (exec_refclkLoss s) ?_
  obtain ⟨hloss, hhold, hflag, hsame⟩ := s.dev.refLost_shows
  have href' : s.dev.refLost.sup.refOk = false := congrArg Sup.refOk s.dev.sup_refLost
  have hsafe' := hsame.trans hsafe
  rw [s.dev.refclkLoss_eq href]
  by_cases hrun : s.dev.sup.boot = .running
  · obtain ⟨hset, hcause, hlanes⟩ := s.dev.refLost.enterSafe_leaves (cause := 3) (by decide) hsafe'
    have hclk := fun f hf => s.dev.refLost.get_enterSafe_clk 3 (f := f) hf
    have hsup := Device.sup_of_bootShown (s.dev.refLost.bootShown_enterSafe 3)
    rw [if_pos hrun, if_pos hrun]
    exact ⟨(congrArg Sup.refOk hsup).trans href', (hclk F.CLK_STATUS_REF_LOSS (.inl rfl)).trans hloss,
      (hclk F.CLK_STATUS_HOLDOVER (.inl rfl)).trans hhold, (hclk F.CLK_INT_STATUS_REF_LOSS (.inr rfl)).trans hflag, hset,
      fun _ => ⟨hcause, hlanes⟩⟩
  · rw [if_neg hrun, if_neg hrun]
    exact ⟨href', hloss, hhold, hflag, hsafe', fun h => absurd h hrun⟩

/-! ### The pool's supply (R389) -/

theorem Device.vddPoolFault_serving (d : Device) (hrun : d.sup.boot = .running) (hgood : d.get F.POOL_STATUS_VGOOD = 0) (hserves : d.poolServes = true) :
    d.vddPoolFault = d.enterSafe 4 := by
  rw [Device.vddPoolFault, hrun, Device.flag_eq_false hgood, hserves]
  rfl

theorem Device.vddPoolFault_idle (d : Device) (h : d.poolServes = false) : d.vddPoolFault = d := by
  rw [Device.vddPoolFault, h, Bool.and_false]
  rfl

end Sys2Proof.Machine

open Sys2Proof Sys2Proof.Machine

/-- Settles O41, command by command: a loss that acts ends in the entry into the safe state, whose squelch of the lanes is a fold over them. -/
theorem safeStateCauses : Obligations.SafeStateCauses := by
  intro s
  refine ⟨fun run => ⟨fun hboot => .of_exec ?_, fun hboot hlogic hspares hck => .of_exec (exec_refclkAppear run s) ?_⟩, refclkLoss_leaves s,
    fun hrun hgood hserves hsafe => .of_exec (exec_vddPoolFault s) ?_, fun h => .of_exec ?_⟩
  · rw [exec_refclkAppear, s.dev.refclkAppear_eq, if_neg (by simpa using hboot)]
    rfl
  · rw [s.dev.refclkAppear_eq, if_pos (by simpa using hboot)]
    obtain ⟨hsup, hcode, _⟩ := s.dev.refShown.startUp_fails ⟨hlogic, hspares⟩ rfl hck
    exact ⟨congrArg Sup.refOk hsup, congrArg Sup.boot hsup, hcode⟩
  · rw [s.dev.vddPoolFault_serving hrun hgood hserves]
    exact s.dev.enterSafe_leaves (by decide) hsafe
  · rw [exec_vddPoolFault, s.dev.vddPoolFault_idle h]

end
